-- ==== Sys2Proof/Word.lean ====
section
/-!
DEFINITION. The word types of the VLR-5384 and their plainest arithmetic.
Registers are 32 bits wide and accessed as aligned words (R10); memories are held byte by byte.
-/
namespace Sys2Proof

/-- A register or table word (R10). -/
abbrev Word := BitVec 32

/-- One byte of a memory or of an image. -/
abbrev Byte := BitVec 8

/-- The word that holds a natural number modulo 2^32. -/
def w32 (n : Nat) : Word := BitVec.ofNat 32 n

/-- The word that holds an integer in two's complement modulo 2^32. -/
def i32 (z : Int) : Word := BitVec.ofInt 32 z

/-- The byte that holds a natural number modulo 256. -/
def b8 (n : Nat) : Byte := BitVec.ofNat 8 n

end Sys2Proof
end

