-- ==== Sys2Proof/Syntax.lean ====
section
/-!
DEFINITION. The commands the block takes: one constructor for each row of spec/opcode_table.json, with the
operands the event or access carries, and the small types those operands are written in.
-/
namespace Sys2Proof

/-- Who makes a BAR0 access: the codes of R288, and the Gauntlet sequencer itself (R262). -/
inductive Initiator where
  | pcie | qspi | service | dma | remote | other | gauntlet
deriving DecidableEq, Repr

/-- The PLLs of R474. -/
inductive Pll where
  | root | gpll | dpll | spllE | spllF
deriving DecidableEq, Repr

/-- The clock monitors of R477. -/
inductive Monitor where
  | xa | xb | root | mclk0 | mclk1
deriving DecidableEq, Repr

/-- The sources of a Gauntlet command (R271) and of an alarm-state change (R288). -/
inductive CmdSource where
  | contact | network | host | console | firmware
deriving DecidableEq, Repr

/-- A command: a write or read of a register, an event on a pin, a bus, a clock or a frame, or the end
of a piece of work one of the engines does. The rows with operands come first, in the order of the table, then those without, then
the requests and injections that a REGISTER_WRITE can also make: compiled code can build only the first 245 constructors
that hold operands. -/
inductive Instr where
  /-- R520 PWR_GOOD_FALL. `vbat`: VBAT is present. -/
  | pwrGoodFall (vbat : Bool)
  /-- R516 VDD_GNT_BROWN_OUT. `vbat`: VBAT is present. -/
  | vddGntBrownOut (vbat : Bool)
  /-- R517 SUPPLY_OUT_OF_WINDOW. `rail`: false VDD_CORE, true VDD_SRAM. -/
  | supplyOutOfWindow (rail : Bool) (high : Bool) (mv : BitVec 16)
  /-- R517 SUPPLY_BACK_IN_WINDOW. -/
  | supplyBackInWindow (rail : Bool)
  /-- R518 TEMP_READ. The four readings in Q8.8 °C. -/
  | tempRead (t0 t1 t2 t3 : BitVec 16)
  /-- R524 ISLAND_REGISTER_WRITE. `addr`: BAR0 address. -/
  | islandRegisterWrite (ini : Initiator) (addr : Nat) (v : Word)
  /-- R524 WAKE_IN_ASSERT. `n`: WAKE_IN[0] or WAKE_IN[1]. -/
  | wakeInAssert (n : Bool)
  /-- R275 ALM_IN_WAKE. -/
  | almInWake (i : BitVec 3)
  /-- R523 ISLAND_COLD_START. `vbat`: VBAT is at or above 1.8 V. -/
  | islandColdStart (vbat : Bool)
  /-- R474 PLL_LOCK. -/
  | pllLock (p : Pll)
  /-- R474 PLL_UNLOCK. -/
  | pllUnlock (p : Pll)
  /-- R484 MCLK_MONITOR_TRIP. -/
  | mclkMonitorTrip (n : Bool)
  /-- R484 MCLK_RETURN. -/
  | mclkReturn (n : Bool)
  /-- R477 MONITOR_ARM. -/
  | monitorArm (m : Monitor)
  /-- R476 MUX_HUNG. `mux`: bit index of R489 byte 1. -/
  | muxHung (mux : BitVec 3)
  /-- R483 SDS_RETURN. -/
  | sdsReturn (ini : Initiator)
  /-- R485 CLK_EN_WRITE. -/
  | clkEnWrite (ini : Initiator) (v : Word)
  /-- R488 FOSC_TRIM_CODE_WRITE. -/
  | foscTrimCodeWrite (ini : Initiator) (v : Word)
  /-- R487 TRIM_WINDOW. `count`: FOSC periods in the window; `lost`: the reference stopped, lost lock or is LOST. -/
  | trimWindow (count : Nat) (lost : Bool)
  /-- R24 BLOCK_START. `now`: the time counter at Sn in nanoseconds (R24). -/
  | blockStart (now : Nat)
  /-- R320 CAPTURE_COMPLETE. `trail`: the crossed samples of the Trail sources for the block. -/
  | captureComplete (trail : List (Nat × List Int))
  /-- R27 OUTPUT_DEADLINE. `src`: the crossed samples of the Trail sources for the Trail part of the block. -/
  | outputDeadline (src : List (Nat × List Int))
  /-- R42 RND_MARGIN_RST. -/
  | rndMarginRst (ini : Initiator) (v : Word)
  /-- R61 GEO_C_WRITE. -/
  | geoCWrite (ini : Initiator) (v : Word)
  /-- R64 GEO_FREEZE_WRITE. -/
  | geoFreezeWrite (ini : Initiator) (v : Word)
  /-- R89 GEOMETRY_DONE. `margin`: CLK_SVC cycles left to Sn+1, signed. -/
  | geometryDone (margin : Word)
  /-- R99 RENDER_TILE_DONE. `f`: the feed; `margin`: CLK_SVC cycles left to Sn+2, signed. -/
  | renderTileDone (f : BitVec 9) (margin : Word)
  /-- R123 RND_IPT_DATA_READ. -/
  | rndIptDataRead (ini : Initiator)
  /-- R135 FIR_TASK_DONE. `f`: the feed; `bank`: A or B; `margin`: CLK_SVC cycles left to Dn, signed. -/
  | firTaskDone (f : BitVec 9) (bank : Bool) (margin : Word)
  /-- R137 FIR_FADE_REQ. -/
  | firFadeReq (ini : Initiator) (f : BitVec 9)
  /-- R137 FIR_FADE_REQ_ALL. -/
  | firFadeReqAll (ini : Initiator)
  /-- R129 FIR_DESCRIPTOR_WRITE. -/
  | firDescriptorWrite (ini : Initiator) (addr : Nat) (v : Word)
  /-- R141 FIR_GD_DONE. -/
  | firGdDone (f : BitVec 9)
  /-- R181 COMMIT_WORD_WRITE. -/
  | commitWordWrite (ini : Initiator) (addr : Nat) (v : Word)
  /-- R163 METER_CLEAR_WRITE. -/
  | meterClearWrite (ini : Initiator) (m : BitVec 11) (v : Word)
  /-- R163 MIX_MTR_CLR. -/
  | mixMtrClr (ini : Initiator) (v : Word)
  /-- R169 BRIDGE_LOCK. `ratio`: the measured ratio, UQ2.30. -/
  | bridgeLock (ch : BitVec 7) (ratio : Word)
  /-- R168 GNT_TSLOT_EN_WRITE. -/
  | gntTslotEnWrite (ini : Initiator) (v : Word)
  /-- R173 ZONE_BUS_COMMIT. -/
  | zoneBusCommit (ini : Initiator) (z : BitVec 8) (v : Word)
  /-- R173 FEED_ENTRY_COMMIT. -/
  | feedEntryCommit (ini : Initiator) (f : BitVec 9) (v : Word)
  /-- R173 TRAIL_SWITCH. `isFeed`: a feed entry, otherwise a zone bus. -/
  | trailSwitch (isFeed : Bool) (i : BitVec 9)
  /-- R178 OVR_APPLY. -/
  | ovrApply (f : BitVec 9)
  /-- R189 CORE_TASK_START. `old`: the segment of the old program that starts in a route fade (R165); otherwise the dispatched item starts. -/
  | coreTaskStart (c : BitVec 5) (old : Option (BitVec 12))
  /-- R191 CORE_TASK_TIMEOUT. -/
  | coreTaskTimeout (c : BitVec 5)
  /-- R209 ILLEGAL_INSTRUCTION. `w`: the instruction word. -/
  | illegalInstruction (c : BitVec 5) (w : BitVec 64)
  /-- R197 MAC_NOP. -/
  | macNop (c : BitVec 5)
  /-- R197 MAC. -/
  | macAcc (c : BitVec 5) (f s : Bool) (xa : BitVec 4) (q : BitVec 2) (mask : BitVec 4)
  /-- R197 MSU. -/
  | msu (c : BitVec 5) (f s : Bool) (xa : BitVec 4) (q : BitVec 2) (mask : BitVec 4)
  /-- R197 MPY. -/
  | mpy (c : BitVec 5) (f s : Bool) (xa : BitVec 4) (q : BitVec 2) (mask : BitVec 4)
  /-- R197 ADDX. -/
  | addx (c : BitVec 5) (f s : Bool) (xa : BitVec 4) (q : BitVec 2) (mask : BitVec 4)
  /-- R197 SUBX. -/
  | subx (c : BitVec 5) (f s : Bool) (xa : BitVec 4) (q : BitVec 2) (mask : BitVec 4)
  /-- R197 LDX. -/
  | ldx (c : BitVec 5) (f s : Bool) (xa : BitVec 4) (q : BitVec 2) (mask : BitVec 4)
  /-- R197 ACLR. -/
  | aclr (c : BitVec 5) (f s : Bool) (xa : BitVec 4) (q : BitVec 2) (mask : BitVec 4)
  /-- R199 EXT. -/
  | extract (c : BitVec 5) (s : Bool) (sh : BitVec 5) (rnd q : BitVec 2) (mask : BitVec 4)
  /-- R200 ALU_NOP. -/
  | aluNop (c : BitVec 5)
  /-- R200 ADD. -/
  | addW (c : BitVec 5) (s : Bool) (d sa sb : BitVec 4)
  /-- R200 SUB. -/
  | subW (c : BitVec 5) (s : Bool) (d sa sb : BitVec 4)
  /-- R200 ADDI. -/
  | addi (c : BitVec 5) (s : Bool) (d sa sb : BitVec 4)
  /-- R200 AND. -/
  | andW (c : BitVec 5) (s : Bool) (d sa sb : BitVec 4)
  /-- R200 OR. -/
  | orW (c : BitVec 5) (s : Bool) (d sa sb : BitVec 4)
  /-- R200 XOR. -/
  | xorW (c : BitVec 5) (s : Bool) (d sa sb : BitVec 4)
  /-- R200 SHL. -/
  | shl (c : BitVec 5) (s : Bool) (d sa sb : BitVec 4)
  /-- R200 SHRA. -/
  | shra (c : BitVec 5) (s : Bool) (d sa sb : BitVec 4)
  /-- R200 SHRL. -/
  | shrl (c : BitVec 5) (s : Bool) (d sa sb : BitVec 4)
  /-- R200 MIN. -/
  | minW (c : BitVec 5) (s : Bool) (d sa sb : BitVec 4)
  /-- R200 MAX. -/
  | maxW (c : BitVec 5) (s : Bool) (d sa sb : BitVec 4)
  /-- R200 ABS. -/
  | absW (c : BitVec 5) (s : Bool) (d sa sb : BitVec 4)
  /-- R200 NEG. -/
  | negW (c : BitVec 5) (s : Bool) (d sa sb : BitVec 4)
  /-- R200 CMP. -/
  | cmpW (c : BitVec 5) (s : Bool) (d sa sb : BitVec 4)
  /-- R200 MOV. -/
  | movW (c : BitVec 5) (s : Bool) (d sa sb : BitVec 4)
  /-- R201 LOOPB. -/
  | loopb (c : BitVec 5) (t : BitVec 11)
  /-- R201 LOOPR. -/
  | loopr (c : BitVec 5) (t : BitVec 11)
  /-- R200 BR. -/
  | br (c : BitVec 5) (t : BitVec 11)
  /-- R200 BRZ. -/
  | brz (c : BitVec 5) (t : BitVec 11)
  /-- R200 BRNZ. -/
  | brnz (c : BitVec 5) (t : BitVec 11)
  /-- R200 BRN. -/
  | brn (c : BitVec 5) (t : BitVec 11)
  /-- R202 NODE. -/
  | nodeMark (c : BitVec 5) (t : BitVec 11)
  /-- R191 END. -/
  | endTask (c : BitVec 5) (t : BitVec 11)
  /-- R203 AM_NOP. `am`: slot AM0 or AM1. -/
  | amNop (c : BitVec 5) (am : Bool)
  /-- R203 LDW. -/
  | ldw (c : BitVec 5) (am : Bool) (x : BitVec 4) (j : BitVec 3) (m : Bool)
  /-- R203 LDH. -/
  | ldh (c : BitVec 5) (am : Bool) (x : BitVec 4) (j : BitVec 3) (m : Bool)
  /-- R203 STW. -/
  | stw (c : BitVec 5) (am : Bool) (x : BitVec 4) (j : BitVec 3) (m : Bool)
  /-- R203 STH. -/
  | sth (c : BitVec 5) (am : Bool) (x : BitVec 4) (j : BitVec 3) (m : Bool)
  /-- R203 MVR. -/
  | mvr (c : BitVec 5) (am : Bool) (x : BitVec 4) (j sel : BitVec 3)
  /-- R203 LIM. -/
  | lim (c : BitVec 5) (am : Bool) (x : BitVec 4) (imm : BitVec 6)
  /-- R218 SCH_SUBMIT. -/
  | schSubmit (ini : Initiator) (v : Word)
  /-- R230 SCH_CANCEL. -/
  | schCancel (ini : Initiator) (v : Word)
  /-- R227 ITEM_COMPLETE. `slot`: the engine slot of R214. -/
  | itemComplete (slot : BitVec 7)
  /-- R229 ITEM_TIMEOUT. `slot`: the engine slot of R214. -/
  | itemTimeout (slot : BitVec 7)
  /-- R221 DMA_JOB_DONE. `slot`: the engine slot of R214. -/
  | dmaJobDone (slot : BitVec 7)
  /-- R249 CFG_LOAD_GO. -/
  | cfgLoadGo (ini : Initiator)
  /-- R251 LOAD_FAIL. `readErr`: the image byte at which the source could not be read, if any. -/
  | loadFail (readErr : Option Nat)
  /-- R253 CFG_SWAP_ARM. `force`: FORCE is written with SWAP. -/
  | cfgSwapArm (ini : Initiator) (force : Bool)
  /-- R255 CFG_SWAP_FORCE. -/
  | cfgSwapForce (ini : Initiator)
  /-- R256 PERIODIC_CHECK_DONE. `bad`: section type, offset in it, and whether the DRAM word was unreadable rather than different. -/
  | periodicCheckDone (bad : Option (BitVec 8 × Nat × Bool))
  /-- R257 CFG_FUSE_PROGRAM. -/
  | cfgFuseProgram (ini : Initiator) (slot : BitVec 2) (confirm : BitVec 8)
  /-- R257 CFG_FUSE_REVOKE. -/
  | cfgFuseRevoke (ini : Initiator) (slot : BitVec 2) (confirm : BitVec 8)
  /-- R269 ALERT. `w0`, `w1`: the command words of a contact or console command; host and network commands come from their inbox. -/
  | alert (src : CmdSource) (w0 w1 : Word)
  /-- R269 EVAC. `w0`, `w1`: the command words of a contact or console command; host and network commands come from their inbox. -/
  | evac (src : CmdSource) (w0 w1 : Word)
  /-- R269 RESET. `w0`, `w1`: the command words of a contact or console command; host and network commands come from their inbox. -/
  | gntReset (src : CmdSource) (w0 w1 : Word)
  /-- R274 PAGE. `w0`, `w1`: the command words of a contact or console command; host and network commands come from their inbox. -/
  | page (src : CmdSource) (w0 w1 : Word)
  /-- R274 PAGE_END. `w0`, `w1`: the command words of a contact or console command; host and network commands come from their inbox. -/
  | pageEnd (src : CmdSource) (w0 w1 : Word)
  /-- R269 TEST_START. `w0`, `w1`: the command words of a contact or console command; host and network commands come from their inbox. -/
  | testStart (src : CmdSource) (w0 w1 : Word)
  /-- R269 TEST_END. `w0`, `w1`: the command words of a contact or console command; host and network commands come from their inbox. -/
  | testEnd (src : CmdSource) (w0 w1 : Word)
  /-- R269 FAULT_ACK. `w0`, `w1`: the command words of a contact or console command; host and network commands come from their inbox. -/
  | faultAck (src : CmdSource) (w0 w1 : Word)
  /-- R266 IMG_ACTIVATE. `w0`, `w1`: the command words of a contact or console command; host and network commands come from their inbox. -/
  | imgActivate (src : CmdSource) (w0 w1 : Word)
  /-- R275 CONTACT_EDGE. `raw`: the levels of ALM_IN[7:0]; `deb`: the debounced inputs, after INV, as the sample leaves them. -/
  | contactEdge (raw deb : BitVec 8)
  /-- R551 CONSOLE_LINE. -/
  | consoleLine (line : List Byte)
  /-- R286 KEY_PROGRAM. -/
  | keyProgram (slot : Bool) (hash : BitVec 256)
  /-- R286 KEY_REVOKE. -/
  | keyRevoke (slot : Bool)
  /-- R467 REC_WINDOW. Seconds. -/
  | recWindow (sec : BitVec 16)
  /-- R340 CLAIM. -/
  | claim (m : BitVec 2)
  /-- R340 SNS. -/
  | sns (off : BitVec 16) (v : Word)
  /-- R333 SAI_MS. `g`: G22 or G23. -/
  | saiMs (g : Bool) (v : Bool)
  /-- R266 GNT_WDT_KICK. -/
  | gntWdtKick (ini : Initiator) (v : Word)
  /-- R267 DOMAIN_RESET_RELEASE. `ok`: the boot ROM verified the Gauntlet firmware. -/
  | domainResetRelease (ok : Bool)
  /-- R267 TRAIL_LIVE. `us`: microseconds from the reset cause. -/
  | trailLive (us : Word)
  /-- R277 PLAY_START. -/
  | playStart (ini : Initiator) (p : BitVec 4) (v : Word)
  /-- R277 PLAY_STOP. -/
  | playStop (ini : Initiator) (p : BitVec 4)
  /-- R277 PLAY_END. -/
  | playEnd (p : BitVec 4)
  /-- R277 GAP_END. -/
  | gapEnd (p : BitVec 4)
  /-- R277 MSG_CHECK_PASS. `uncorr`: an uncorrectable word was read. -/
  | msgCheckPass (m : BitVec 10) (uncorr : Bool)
  /-- R278 TONE_RUN. -/
  | toneRun (ini : Initiator) (g : BitVec 2) (v : Word)
  /-- R278 TONE_STOP_REQUEST. -/
  | toneStopRequest (ini : Initiator) (g : BitVec 2)
  /-- R278 TONE_STOPPED. -/
  | toneStopped (g : BitVec 2)
  /-- R278 TONE_CADENCE. -/
  | toneCadence (g : BitVec 2)
  /-- R281 PILOT_WINDOW_END. `e`: the supervision entry; `valid`: its channel's window ended in time; `level`: the level in Q8.8 dBFS, which firmware reads in SNS_PIL_LEVEL. -/
  | pilotWindowEnd (e : BitVec 7) (valid : Bool) (level : BitVec 16)
  /-- R304 HEARTBEAT_RECEIVE. `path`: 0 link, 1 pin, 2 and 3 the MAC ports; `frame`: the heartbeat frame, nothing on the pin. -/
  | heartbeatReceive (path : BitVec 2) (frame : List Byte)
  /-- R304 PATH_LOST. -/
  | pathLost (path : BitVec 2)
  /-- R298 CONTROL_FRAME_RECEIVE. `measure`: with RESTART, the duty unit enters MEASURE, for which the frame has no field. -/
  | controlFrameReceive (frame : List Byte) (measure : Bool)
  /-- R298 AUDIO_FRAME_RECEIVE. -/
  | audioFrameReceive (frame : List Byte)
  /-- R302 BULK_FRAME_RECEIVE. `words`: the BAR0 addresses and values that the frame carries; `last`: the last frame. -/
  | bulkFrameReceive (last : Bool) (words : List (Nat × Word))
  /-- R305 YIELD_RECEIVE. -/
  | yieldReceive (path : BitVec 2) (frame : List Byte)
  /-- R298 STANDBY_RECORD_TIMEOUT. `audio`: A(n) rather than C(n) is missing at its start deadline. -/
  | standbyRecordTimeout (audio : Bool)
  /-- R306 TWN_CMD_YIELD. -/
  | twnCmdYield (ini : Initiator)
  /-- R303 TWN_CMD_RESYNC. -/
  | twnCmdResync (ini : Initiator)
  /-- R320 SAI_FRAME. A frame of pair CKA or CKB of group `k` ends: its length in bit clocks, P, what the elastic buffer did (0 nothing, 1 dropped a frame, 2 repeated one), the slots of lanes 4k to 4k + 3, and the 64 Trail sources that this frame takes. -/
  | saiFrame (k : BitVec 5) (pair : Bool) (bclks : Nat) (period : Word) (slip : BitVec 2) (slots : List (List Word)) (src : List Int)
  /-- R328 NONAUDIO_RELEASE. `l`: lane, or 96 plus the receiver; `i`: pair of slots. -/
  | nonaudioRelease (l : BitVec 7) (i : BitVec 3)
  /-- R330 SAI_CLOCK_STOP. `k`: group or receiver; `rate`: P departed by more than 0.5 % rather than no edge or preamble. -/
  | saiClockStop (aes : Bool) (k : BitVec 5) (pair : Bool) (rate : Bool)
  /-- R330 SAI_CLOCK_RECOVER. -/
  | saiClockRecover (aes : Bool) (k : BitVec 5) (pair : Bool)
  /-- R329 AES3_FRAME. The audio bits of sub-frames A and B, which of them failed parity, channel-status bytes 0 to 3 where the frame ends a 192-frame block, and P. -/
  | aes3Frame (r : BitVec 2) (a b : BitVec 24) (perr : BitVec 2) (cs : Option Word) (period : Word)
  /-- R324 SLOT_ZERO_CROSS_SWITCH. -/
  | slotZeroCrossSwitch (l : BitVec 7) (slot : BitVec 4)
  /-- R323 SAI_MASK_WRITE. `late`: the write retires less than 2 BCLKs before an FS edge. -/
  | saiMaskWrite (ini : Initiator) (l : BitVec 7) (v : Word) (late : Bool)
  /-- R346 SNS_CTL_SYNC. -/
  | snsCtlSync (ini : Initiator) (v : Word)
  /-- R346 SNS_GRP_CTL_SYNC. -/
  | snsGrpCtlSync (ini : Initiator) (g : BitVec 3) (v : Word)
  /-- R346 GROUP_RESET. The groups whose sensing tick this is. -/
  | groupReset (groups : BitVec 8)
  /-- R347 CHANNEL_STUCK. -/
  | channelStuck (c : BitVec 7)
  /-- R349 RING_ENTRY_DONE. `late`: not complete within Tb; `tns`: the full time of the tick of sample 0; `x`: for each sensing tick, what the group's eight pins SNS_D carry up to it, each as a number whose bit 2i is sampled at the i-th rising edge of SNS_CK and bit 2i + 1 at the i-th falling edge. -/
  | ringEntryDone (g : BitVec 3) (late : Bool) (tns : Nat) (x : List (List Int))
  /-- R351 SNS_PILOT_WINDOW. `valid`: no sample of the window was lost to a stopped clock; `x`: what the channel's pin carried over the sensing ticks that no ring entry has given, each as in RING_ENTRY_DONE. -/
  | snsPilotWindow (c : BitVec 7) (valid : Bool) (x : List Int)
  /-- R342 SNS_COEF_DATA_READ. -/
  | snsCoefDataRead (ini : Initiator)
  /-- R355 MEAS_START. -/
  | measStart (c : BitVec 2)
  /-- R549 MEAS_STATUS. -/
  | measStatus (c : BitVec 2)
  /-- R357 MEAS_RESPONSES_DONE. The capture channels CHi whose samples were all valid, not STUCK and below full scale. -/
  | measResponsesDone (clean : BitVec 8)
  /-- R367 MAC_FRAME_RECEIVE. A frame from destination address to FCS, and the time counter as its SFD crosses the balls. -/
  | macFrameReceive (p : Bool) (frame : List Byte) (sfd : BitVec 36)
  /-- R365 LINK_UP. -/
  | linkUp (p : Bool)
  /-- R365 LINK_DOWN. `st`: LOS, SYNC, REMOTE_FAULT and LOCAL_FAULT now. -/
  | linkDown (p : Bool) (st : BitVec 4)
  /-- R368 MAC_RING_TAIL_WRITE. -/
  | macRingTailWrite (ini : Initiator) (p : Bool) (q : BitVec 2) (v : Word)
  /-- R369 TX_DESCRIPTOR. `sfd`: the time counter as the first frame's SFD leaves; `held`: it waited behind stream packets. -/
  | txDescriptor (p : Bool) (sfd : BitVec 36) (held : Bool)
  /-- R373 MAC_SNAP. A write of SNAP alone. -/
  | macSnap (ini : Initiator) (p : Bool)
  /-- R373 MAC_SNAP_CLR. A write of SNAP with CLR. -/
  | macSnapClr (ini : Initiator) (p : Bool)
  /-- R376 TSQ_READ. -/
  | tsqRead (ini : Initiator) (p : Bool) (tx : Bool)
  /-- R379 STREAM_PACKET_SEND. Packet `j` of stream `t`. -/
  | streamPacketSend (t : BitVec 7) (j : Nat)
  /-- R384 EPOCH_TIMEOUT. -/
  | epochTimeout (t : BitVec 7)
  /-- R386 FCS_WINDOW. -/
  | fcsWindow (p : Bool)
  /-- R396 TIM_SET. -/
  | timSet (ini : Initiator)
  /-- R397 TIM_INC_WRITE. -/
  | timIncWrite (ini : Initiator) (v : Word)
  /-- R398 ROOT_FRAC_WRITE. -/
  | rootFracWrite (ini : Initiator) (v : Word)
  /-- R393 TIM_NS_READ. -/
  | timNsRead (ini : Initiator)
  /-- R404 TIM_CMP_MATCH. `off`: the serial pairs 2g + pair that are not yet on the grid of the match (R407). -/
  | timCmpMatch (i : BitVec 4) (off : BitVec 44)
  /-- R405 CMP_ARM. `v`: the word written to TIM_CMP_CFG(i). -/
  | cmpArm (ini : Initiator) (i : BitVec 4) (v : Word)
  /-- R408 PULSE_END. -/
  | pulseEnd (k : BitVec 2)
  /-- R402 SERVO_INTERVAL. The measured offset in ns, the mean path delay, and the MAC port they come from. -/
  | servoInterval (offset : Int) (mpd : Word) (port : Bool)
  /-- R549 PTP_START. -/
  | ptpStart (c : BitVec 2)
  /-- R549 PTP_STOP. -/
  | ptpStop (c : BitVec 2)
  /-- R549 PTP_STATUS. `gm`: the identity of the grandmaster. -/
  | ptpStatus (c : BitVec 2) (gm : BitVec 64)
  /-- R413 FLIT_RECEIVE. The 76 bytes that arrive on port `p`. -/
  | flitReceive (p : BitVec 3) (flit : List Byte)
  /-- R413 RETRY_TIMEOUT. -/
  | retryTimeout (p : BitVec 3)
  /-- R414 PORT_SIGNAL_DETECT. -/
  | portSignalDetect (p : BitVec 3)
  /-- R414 BLOCK_LOCK_HELD. -/
  | blockLockHeld (p : BitVec 3)
  /-- R414 PORT_TRAIN_TIMEOUT. -/
  | portTrainTimeout (p : BitVec 3)
  /-- R414 LOCK_LOST. -/
  | lockLost (p : BitVec 3)
  /-- R418 BEACON_SEND. -/
  | beaconSend (p : BitVec 3)
  /-- R419 BEACON_RECEIVE. -/
  | beaconReceive (p : BitVec 3)
  /-- R414 BEACON_TIMEOUT. -/
  | beaconTimeout (p : BitVec 3)
  /-- R415 LATENCY_MEASURE. The latencies and the medium delay in 1/16 ns. -/
  | latencyMeasure (p : BitVec 3) (tx rx : BitVec 16) (dly : Word)
  /-- R425 OBJECT_FLIT. The oldest OBJECT flit taken in on port `p` is delivered. -/
  | objectFlit (p : BitVec 3)
  /-- R425 OBJECT_LATE. -/
  | objectLate (o : BitVec 9)
  /-- R424 OBJECT_PUBLISH. -/
  | objectPublish (o : BitVec 9)
  /-- R428 CHANNEL_FLIT. The oldest CHANNEL flit taken in on port `p` is delivered. -/
  | channelFlit (p : BitVec 3)
  /-- R423 PROBE. `dep`: departure rather than arrival; `t`: the time counter with the latency of R415 removed; `id`: the probe sequence. -/
  | probe (p : BitVec 3) (dep : Bool) (t : BitVec 36) (id : BitVec 16)
  /-- R429 RRA_READ. `k`: the request slot. -/
  | rraRead (ini : Initiator) (k : BitVec 2) (node : BitVec 6) (seat : Bool)
  /-- R429 RRA_WRITE. `k`: the request slot. -/
  | rraWrite (ini : Initiator) (k : BitVec 2) (node : BitVec 6) (seat : Bool)
  /-- R430 RRA_REQUEST. The oldest request taken in on port `p` is executed. -/
  | rraRequest (p : BitVec 3)
  /-- R429 RRA_RESPONSE. The oldest response taken in on port `p` is used. -/
  | rraResponse (p : BitVec 3)
  /-- R429 RRA_TIMEOUT. -/
  | rraTimeout (k : BitVec 2)
  /-- R423 PORT_TSQ_READ. -/
  | portTsqRead (ini : Initiator) (p : BitVec 3)
  /-- R450 INT_TM_CTL_WRITE. -/
  | intTmCtlWrite (ini : Initiator) (v : Word)
  /-- R452 INT_DBG_LOCK. -/
  | intDbgLock (ini : Initiator) (v : Word)
  /-- R468 REC_SUBMIT. -/
  | recSubmit (ini : Initiator) (v : Word)
  /-- R466 REC_PROGRAM_DONE. The 32 bytes the slot reads back as. -/
  | recProgramDone (readBack : List Byte)
  /-- R469 REC_FETCH. -/
  | recFetch (ini : Initiator) (v : Word)
  /-- R500 REFRESH_DUE. `c`: the channel; `rt`: a real-time unit is queued on it; `paid`: the postponed refreshes it could issue since the last one fell due. -/
  | refreshDue (c : BitVec 2) (rt : Bool) (paid : Nat)
  /-- R502 MR4_POLL. MR4 OP[2:0] of the four channels. -/
  | mr4Poll (c0 c1 c2 c3 : BitVec 3)
  /-- R507 DRC_RETRAIN. -/
  | drcRetrain (ini : Initiator)
  /-- R508 DRC_TRN_GO. -/
  | drcTrnGo (ini : Initiator)
  /-- R508 TEST_POINT_DONE. `errs`: mismatches of bit entries 0 to 26; `found`: WL or GATE_OK of the two bytes. -/
  | testPointDone (errs : List Nat) (found : BitVec 2)
  /-- R539 PCIE_LINK_CHANGE. `msix`: with the link up, the host has MSI-X enabled and its function unmasked. -/
  | pcieLinkChange (up : Bool) (width : BitVec 2) (speed : BitVec 2) (msix : Bool)
  /-- R536 REGISTER_WRITE. `be`: byte enables. -/
  | registerWrite (ini : Initiator) (addr : Nat) (v : Word) (be : BitVec 4)
  /-- R38 SRAM_WINDOW_WRITE. -/
  | sramWindowWrite (ini : Initiator) (addr : Nat) (v : Word)
  /-- R10 RC_READ. -/
  | rcRead (ini : Initiator) (addr : Nat)
  /-- R542 HST_IRQ_EOI. -/
  | hstIrqEoi (ini : Initiator) (v : Word)
  /-- R541 HST_IRQ_LATCH_WRITE. -/
  | hstIrqLatchWrite (ini : Initiator) (v : Word)
  /-- R547 HST_MBX_DB. -/
  | hstMbxDb (ini : Initiator) (v : Word)
  /-- R547 HST_MBX_ACK. -/
  | hstMbxAck (ini : Initiator) (v : Word)
  /-- R547 MAILBOX_RESPONSE. Service firmware answers channel `c`. -/
  | mailboxResponse (c : BitVec 2) (status : BitVec 8) (res : List Word)
  /-- R547 SERVICE_FIRMWARE_RESTART. `reset`: caused by RESET_N rather than by a memory error. -/
  | serviceFirmwareRestart (reset : Bool)
  /-- R549 ANNOUNCE. -/
  | announce (c : BitVec 2)
  /-- R549 WITHDRAW. -/
  | withdraw (c : BitVec 2)
  /-- R549 LIST. `texts`: the SDP texts received by SAP. -/
  | sapList (c : BitVec 2) (texts : List (List Byte))
  /-- R549 SAP_ANNOUNCE_TIMER. -/
  | sapAnnounceTimer (t : BitVec 7)
  /-- R549 TOPOLOGY. -/
  | topology (c : BitVec 2)
  /-- R549 TWIN_STATUS. -/
  | twinStatus (c : BitVec 2)
  /-- R549 VERSION. -/
  | version (c : BitVec 2)
  /-- R549 AUTOSTART. -/
  | autostart (c : BitVec 2)
  /-- R545 READ. A burst of `n` words; `cut`: CS_N rises within the last. -/
  | qspiRead (addr : BitVec 32) (n : Nat) (cut : Bool)
  /-- R545 QREAD. A burst of `n` words; `cut`: CS_N rises within the last. -/
  | qspiQread (addr : BitVec 32) (n : Nat) (cut : Bool)
  /-- R546 WRITE. `full`: the words that find the write buffer full; `cut`: an incomplete word follows. -/
  | qspiWrite (addr : BitVec 32) (ws : List Word) (full : List Nat) (cut : Bool)
  /-- R546 QWRITE. `full`: the words that find the write buffer full; `cut`: an incomplete word follows. -/
  | qspiQwrite (addr : BitVec 32) (ws : List Word) (full : List Nat) (cut : Bool)
  /-- R546 STATUS. `busy`: writes are buffered. -/
  | qspiStatus (busy : Bool)
  /-- R550 HST_OSPI_CMD. -/
  | hstOspiCmd (ini : Initiator) (v : Word)
  /-- R550 OSPI_DONE. `ok`: the flash responded; `data`: what it sent; `at_`, `cells`: what a WRITE command changed in the flash. -/
  | ospiDone (ok : Bool) (data : List Byte) (at_ : Nat) (cells : List Byte)
  /-- R552 I2C_WRITE. `k`: the controller; `arb`: arbitration is lost. -/
  | i2cWrite (k nack arb : Bool)
  /-- R552 I2C_READ. -/
  | i2cRead (k : Bool) (b : Byte) (arb : Bool)
  /-- R552 I2C_START. -/
  | i2cStart (k arb : Bool)
  /-- R552 I2C_STOP. -/
  | i2cStop (k : Bool)
  /-- R552 I2C_TIMEOUT. -/
  | i2cTimeout (k : Bool)
  /-- R552 HST_I2C_RX_READ. -/
  | hstI2cRxRead (ini : Initiator) (k : Bool)
  /-- R553 GPIO_EDGE. -/
  | gpioEdge (pin : BitVec 5) (level : Bool)
  /-- R51 TRAINING_COMPLETE. `density`: 1 4 Gbit, 2 8 Gbit, 3 16 Gbit, 0 another one or a mismatch. -/
  | trainingComplete (density : BitVec 2)
  /-- R414 PORT_NEW_ATTEMPT. -/
  | portNewAttempt (p : BitVec 3)
  /-- R347 STUCK_INPUT_CHANGE. -/
  | stuckInputChange (c : BitVec 7)
  /-- R527 PWR_GOOD_RISE. -/
  | pwrGoodRise
  /-- R521 RESET_N_ASSERT. -/
  | resetNAssert
  /-- R521 RESET_N_RELEASE. -/
  | resetNRelease
  /-- R519 PFW_FALL. -/
  | pfwFall
  /-- R519 PFW_RISE. -/
  | pfwRise
  /-- R524 ISLAND_WRITE_DONE. -/
  | islandWriteDone
  /-- R524 SEC_MATCH. -/
  | secMatch
  /-- R525 THERMOS_QUEUE_DRAINED. -/
  | thermosQueueDrained
  /-- R525 SLEEP_TIMEOUT. -/
  | sleepTimeout
  /-- R525 LATCHED_WAKE_RAISE. -/
  | latchedWakeRaise
  /-- R527 FOSC_READY. -/
  | foscReady
  /-- R478 FOSC_NOT_READY. -/
  | foscNotReady
  /-- R475 XA_MONITOR_TRIP. -/
  | xaMonitorTrip
  /-- R483 XB_MONITOR_TRIP. -/
  | xbMonitorTrip
  /-- R475 ROOT_MONITOR_TRIP. -/
  | rootMonitorTrip
  /-- R57 ROOT_RELOCK_TIMEOUT. -/
  | rootRelockTimeout
  /-- R482 APP_RETURN. -/
  | appReturn
  /-- R265 GPLL_RETURN. -/
  | gpllReturn
  /-- R483 DPLL_RETURN. -/
  | dpllReturn
  /-- R52 MS_BOUNDARY. -/
  | msBoundary
  /-- R54 RESTART_PREP_DONE. -/
  | restartPrepDone
  /-- R225 DISPATCH_CYCLE. -/
  | dispatchCycle
  /-- R222 BANK_INSTANTIATE_DEFERRED. -/
  | bankInstantiateDeferred
  /-- R251 LOAD_SUCCESS. -/
  | loadSuccess
  /-- R142 COEF_PEND_SET. -/
  | coefPendSet
  /-- R256 PERIODIC_CHECK_START. -/
  | periodicCheckStart
  /-- R257 FUSE_DONE. -/
  | fuseDone
  /-- R528 START_CMP_LOCK_TIMEOUT. -/
  | startCmpLockTimeout
  /-- R269 TEST_TIMEOUT. -/
  | testTimeout
  /-- R551 CONSOLE_STATUS. -/
  | consoleStatus
  /-- R467 REC_ERASE. -/
  | recErase
  /-- R266 WATCHDOG_EXPIRY. -/
  | watchdogExpiry
  /-- R266 LOCKSTEP_MISMATCH. -/
  | lockstepMismatch
  /-- R266 GNT_MEMORY_ERROR. -/
  | gntMemoryError
  /-- R268 UNUSABLE_CLEAR. -/
  | unusableClear
  /-- R276 EXT_COPY_START. -/
  | extCopyStart
  /-- R276 EXT_COPY_DONE. -/
  | extCopyDone
  /-- R304 HEARTBEAT_SEND. -/
  | heartbeatSend
  /-- R310 SEAT_B_TAKEOVER. -/
  | seatBTakeover
  /-- R306 YIELD_TIMEOUT. -/
  | yieldTimeout
  /-- R346 SNS_SYNC_PIN. -/
  | snsSyncPin
  /-- R357 MEAS_CAPTURE_DONE. -/
  | measCaptureDone
  /-- R358 MEAS_SYNTH_DONE. -/
  | measSynthDone
  /-- R394 TIM_WRAP. -/
  | timWrap
  /-- R402 SYNC_TIMEOUT. -/
  | syncTimeout
  /-- R416 NODE_DISCOVERY. -/
  | nodeDiscovery
  /-- R417 CONFLICT_BACKOFF. -/
  | conflictBackoff
  /-- R417 CONFLICT_CLEAR. -/
  | conflictClear
  /-- R452 DBG_FUSE_DONE. -/
  | dbgFuseDone
  /-- R460 REC_WINDOW_EXPIRY. -/
  | recWindowExpiry
  /-- R465 REC_SEARCH_DONE. -/
  | recSearchDone
  /-- R467 REC_ERASE_DONE. -/
  | recEraseDone
  /-- R469 REC_FETCH_DONE. -/
  | recFetchDone
  /-- R468 REC_TOKEN_REFILL. -/
  | recTokenRefill
  /-- R503 SELF_REFRESH_IDLE. -/
  | selfRefreshIdle
  /-- R505 DRAM_INIT_DONE. -/
  | dramInitDone
  /-- R508 TRAINING_FAIL. -/
  | trainingFail
  /-- R539 PERST_N_FALL. -/
  | perstNFall
  /-- R293 TWIN_LANE_LOSS. -/
  | twinLaneLoss
  /-- R293 TWIN_LANE_RETURN. -/
  | twinLaneReturn
  /-- R506 SELF_REFRESH_HOLD_END. -/
  | selfRefreshHoldEnd
  /-- R525 REQUEST_THERMOS. -/
  | requestThermos (ini : Initiator)
  /-- R59 REQUEST_WAKE. -/
  | requestWake (ini : Initiator)
  /-- R51 REQUEST_TRAIL. -/
  | requestTrail (ini : Initiator)
  /-- R51 REQUEST_LOAD. -/
  | requestLoad (ini : Initiator)
  /-- R51 REQUEST_BALANCED. -/
  | requestBalanced (ini : Initiator)
  /-- R51 REQUEST_SWIFT. -/
  | requestSwift (ini : Initiator)
  /-- R51 REQUEST_WIDE. -/
  | requestWide (ini : Initiator)
  /-- R51 REQUEST_DEEP. -/
  | requestDeep (ini : Initiator)
  /-- R51 REQUEST_MEASURE. -/
  | requestMeasure (ini : Initiator)
  /-- R292 REQUEST_STANDBY. -/
  | requestStandby (ini : Initiator)
  /-- R51 REQUEST_MAINTAIN. -/
  | requestMaintain (ini : Initiator)
  /-- R57 REQUEST_SAFE_HOLD. -/
  | requestSafeHold (ini : Initiator)
  /-- R59 REQUEST_RESERVED. `code`: the code is 0xC plus this. -/
  | requestReserved (ini : Initiator) (code : BitVec 2)
  /-- R447 INT_INJ_SRAM_CE. -/
  | intInjSramCe (ini : Initiator)
  /-- R447 INT_INJ_SRAM_UE. -/
  | intInjSramUe (ini : Initiator)
  /-- R510 INT_INJ_DRAM_CE. -/
  | intInjDramCe (ini : Initiator)
  /-- R510 INT_INJ_DRAM_UE. -/
  | intInjDramUe (ini : Initiator)
  /-- R489 INT_INJ_XA_LOSS. -/
  | intInjXaLoss (ini : Initiator)
  /-- R489 INT_INJ_XB_LOSS. -/
  | intInjXbLoss (ini : Initiator)
  /-- R489 INT_INJ_ROOT_UNLOCK. -/
  | intInjRootUnlock (ini : Initiator)
  /-- R489 INT_INJ_FOSC_RANGE. -/
  | intInjFoscRange (ini : Initiator)
  /-- R334 INT_INJ_SAI_CLK_LOSS. -/
  | intInjSaiClkLoss (ini : Initiator)
  /-- R334 INT_INJ_SAI_FRAME. -/
  | intInjSaiFrame (ini : Initiator)
  /-- R334 INT_INJ_NON_AUDIO. -/
  | intInjNonAudio (ini : Initiator)
  /-- R446 INT_INJ_RND_LATE. -/
  | intInjRndLate (ini : Initiator)
  /-- R207 INT_INJ_CORE_GOV. -/
  | intInjCoreGov (ini : Initiator)
  /-- R145 INT_INJ_FIR_GOV. -/
  | intInjFirGov (ini : Initiator)
  /-- R208 INT_INJ_CIRC_ADDR. -/
  | intInjCircAddr (ini : Initiator)
  /-- R234 INT_INJ_SCH_QFULL. -/
  | intInjSchQfull (ini : Initiator)
  /-- R234 INT_INJ_TASK_TIMEOUT. -/
  | intInjTaskTimeout (ini : Initiator)
  /-- R386 INT_INJ_MAC_FCS. -/
  | intInjMacFcs (ini : Initiator)
  /-- R386 INT_INJ_TS_OVF. -/
  | intInjTsOvf (ini : Initiator)
  /-- R431 INT_INJ_BVL_RETRY. -/
  | intInjBvlRetry (ini : Initiator)
  /-- R431 INT_INJ_BVL_DOWN. -/
  | intInjBvlDown (ini : Initiator)
  /-- R311 INT_INJ_TWIN_HB. -/
  | intInjTwinHb (ini : Initiator)
  /-- R311 INT_INJ_TWIN_REC. -/
  | intInjTwinRec (ini : Initiator)
  /-- R258 INT_INJ_IMAGE_CHECK. -/
  | intInjImageCheck (ini : Initiator)
  /-- R287 INT_INJ_GNT_WDT. -/
  | intInjGntWdt (ini : Initiator)
  /-- R287 INT_INJ_GNT_LOCKSTEP. -/
  | intInjGntLockstep (ini : Initiator)
  /-- R287 INT_INJ_MSG_CHECK. -/
  | intInjMsgCheck (ini : Initiator)
  /-- R471 INT_INJ_REC_WRITE. -/
  | intInjRecWrite (ini : Initiator)
  /-- R287 INT_INJ_PILOT. -/
  | intInjPilot (ini : Initiator)
  /-- R354 INT_INJ_LINE_Z. -/
  | intInjLineZ (ini : Initiator)
  /-- R530 INT_INJ_OVER_TEMP. -/
  | intInjOverTemp (ini : Initiator)
  /-- R530 INT_INJ_SUPPLY. -/
  | intInjSupply (ini : Initiator)
  /-- R510 INT_INJ_REFRESH_DEBT. -/
  | intInjRefreshDebt (ini : Initiator)
  /-- R121 INT_INJ_FAR_CLAMP. -/
  | intInjFarClamp (ini : Initiator)
deriving DecidableEq, Repr

end Sys2Proof
end

