-- ==== Sys2Proof/WellFormed.lean ====
section
/-!
DEFINITION. When a command is well formed: its operands name something the spec gives the device, and a slot of a
sample-core instruction holds a legal encoding (R195). A command that is not well formed is still taken: its
meaning says what the spec says of it (nothing, a refusal that is counted, or an illegal instruction).
-/
namespace Sys2Proof

/-- A MAC, MSU or MPY slot is legal: XA is even in pair form (R197). -/
def macLegal (f : Bool) (xa : BitVec 4) : Bool := !f || !(xa.getLsbD 0)

/-- An EXT slot is legal: SH from −8 to +8 and RND below 3 (R199). -/
def extLegal (sh : BitVec 5) (rnd : BitVec 2) : Bool :=
  decide (-8 ≤ sh.toInt) && decide (sh.toInt ≤ 8) && decide (rnd.toNat < 3)

/-- A feed number (R17). -/
def feedOk (f : BitVec 9) : Bool := decide (f.toNat < 384)

/-- An aligned register or window address of BAR0 (R533, R536). -/
def addrOk (a : Nat) : Bool := decide (a % 4 = 0) && decide (a < 0x8000000)

/-- A fabric port (R414). -/
def portOk (p : BitVec 3) : Bool := decide (p.toNat < 6)

/-- An engine slot number (R214). -/
def slotOk (n : BitVec 7) : Bool := decide (n.toNat < 99)

/-- A serial lane, or 96 plus an AES3 receiver (R17, R329). -/
def laneOk (l : BitVec 7) : Bool := decide (l.toNat < 100)

/-- A clock group (R17), or an AES3 receiver. -/
def clkOk (aes : Bool) (k : BitVec 5) : Bool := if aes then decide (k.toNat < 4) else decide (k.toNat < 24)

/-- An address of the SRAM windows (R38). -/
def sramOk (a : Nat) : Bool := addrOk a && decide (0x4000000 ≤ a) && decide (a < 0x7000000)

/-- A register of the Thermos island (R524, R532). -/
def islandOk (a : Nat) : Bool := addrOk a && decide (0x100300 ≤ a) && decide (a < 0x100380)

/-- A word of the correction-filter block (R129). -/
def firOk (a : Nat) : Bool := addrOk a && decide (0x500000 ≤ a) && decide (a < 0x600000)

/-- A word of the mixer parameter tables (R181). -/
def commitOk (a : Nat) : Bool := addrOk a && decide (0x6E80000 ≤ a) && decide (a < 0x6EF0400)

/-- The command is well formed. -/
def Instr.wf (i : Instr) : Bool :=
  match i with
  | .pwrGoodFall _ => true
  | .vddGntBrownOut _ => true
  | .supplyOutOfWindow _ _ _ => true
  | .supplyBackInWindow _ => true
  | .tempRead _ _ _ _ => true
  | .islandRegisterWrite _ addr _ => islandOk addr
  | .wakeInAssert _ => true
  | .almInWake _ => true
  | .islandColdStart _ => true
  | .pllLock _ => true
  | .pllUnlock _ => true
  | .mclkMonitorTrip _ => true
  | .mclkReturn _ => true
  | .monitorArm _ => true
  | .muxHung mux => decide (mux.toNat < 6)
  | .sdsReturn _ => true
  | .clkEnWrite _ _ => true
  | .foscTrimCodeWrite _ _ => true
  | .trimWindow _ _ => true
  | .blockStart _ => true
  | .captureComplete _ => true
  | .outputDeadline _ => true
  | .rndMarginRst _ _ => true
  | .geoCWrite _ _ => true
  | .geoFreezeWrite _ _ => true
  | .geometryDone _ => true
  | .renderTileDone f _ => feedOk f
  | .rndIptDataRead _ => true
  | .firTaskDone f _ _ => feedOk f
  | .firFadeReq _ f => feedOk f
  | .firFadeReqAll _ => true
  | .firDescriptorWrite _ addr _ => firOk addr
  | .firGdDone f => feedOk f
  | .commitWordWrite _ addr _ => commitOk addr
  | .meterClearWrite _ _ _ => true
  | .mixMtrClr _ _ => true
  | .bridgeLock _ _ => true
  | .gntTslotEnWrite _ _ => true
  | .zoneBusCommit _ _ _ => true
  | .feedEntryCommit _ f _ => feedOk f
  | .trailSwitch isFeed i => if isFeed then feedOk i else decide (i.toNat < 256)
  | .ovrApply f => feedOk f
  | .coreTaskStart _ _ => true
  | .coreTaskTimeout _ => true
  | .illegalInstruction _ _ => true
  | .macNop _ => true
  | .macAcc _ f _ xa _ _ => macLegal f xa
  | .msu _ f _ xa _ _ => macLegal f xa
  | .mpy _ f _ xa _ _ => macLegal f xa
  | .addx _ _ _ _ _ _ => true
  | .subx _ _ _ _ _ _ => true
  | .ldx _ _ _ _ _ _ => true
  | .aclr _ _ _ _ _ _ => true
  | .extract _ _ sh rnd _ _ => extLegal sh rnd
  | .aluNop _ => true
  | .addW _ _ _ _ _ => true
  | .subW _ _ _ _ _ => true
  | .addi _ _ _ _ _ => true
  | .andW _ _ _ _ _ => true
  | .orW _ _ _ _ _ => true
  | .xorW _ _ _ _ _ => true
  | .shl _ _ _ _ _ => true
  | .shra _ _ _ _ _ => true
  | .shrl _ _ _ _ _ => true
  | .minW _ _ _ _ _ => true
  | .maxW _ _ _ _ _ => true
  | .absW _ _ _ _ _ => true
  | .negW _ _ _ _ _ => true
  | .cmpW _ _ _ _ _ => true
  | .movW _ _ _ _ _ => true
  | .loopb _ _ => true
  | .loopr _ _ => true
  | .br _ _ => true
  | .brz _ _ => true
  | .brnz _ _ => true
  | .brn _ _ => true
  | .nodeMark _ _ => true
  | .endTask _ _ => true
  | .amNop _ _ => true
  | .ldw _ _ _ _ _ => true
  | .ldh _ _ _ _ _ => true
  | .stw _ _ _ _ _ => true
  | .sth _ _ _ _ _ => true
  | .mvr _ _ _ _ _ => true
  | .lim _ _ _ _ => true
  | .schSubmit _ _ => true
  | .schCancel _ _ => true
  | .itemComplete slot => slotOk slot
  | .itemTimeout slot => slotOk slot
  | .dmaJobDone slot => slotOk slot
  | .cfgLoadGo _ => true
  | .loadFail _ => true
  | .cfgSwapArm _ _ => true
  | .cfgSwapForce _ => true
  | .periodicCheckDone _ => true
  | .cfgFuseProgram _ _ _ => true
  | .cfgFuseRevoke _ _ _ => true
  | .alert _ _ _ => true
  | .evac _ _ _ => true
  | .gntReset _ _ _ => true
  | .page _ _ _ => true
  | .pageEnd _ _ _ => true
  | .testStart _ _ _ => true
  | .testEnd _ _ _ => true
  | .faultAck _ _ _ => true
  | .imgActivate _ _ _ => true
  | .contactEdge _ _ => true
  | .consoleLine line => decide (line.length ≤ 80)
  | .keyProgram _ _ => true
  | .keyRevoke _ => true
  | .recWindow _ => true
  | .claim _ => true
  | .sns _ _ => true
  | .saiMs _ _ => true
  | .gntWdtKick _ _ => true
  | .domainResetRelease _ => true
  | .trailLive _ => true
  | .playStart _ _ _ => true
  | .playStop _ _ => true
  | .playEnd _ => true
  | .gapEnd _ => true
  | .msgCheckPass _ _ => true
  | .toneRun _ _ _ => true
  | .toneStopRequest _ _ => true
  | .toneStopped _ => true
  | .toneCadence _ => true
  | .pilotWindowEnd _ _ _ => true
  | .heartbeatReceive _ _ => true
  | .pathLost _ => true
  | .controlFrameReceive _ _ => true
  | .audioFrameReceive _ => true
  | .bulkFrameReceive _ _ => true
  | .yieldReceive _ _ => true
  | .standbyRecordTimeout _ => true
  | .twnCmdYield _ => true
  | .twnCmdResync _ => true
  | .saiFrame k _ _ _ slip slots src => decide (k.toNat < 24) && decide (slots.length = 4) && decide (src.length = 64) && decide (slip.toNat < 3)
  | .nonaudioRelease l _ => laneOk l
  | .saiClockStop aes k _ _ => clkOk aes k
  | .saiClockRecover aes k _ => clkOk aes k
  | .aes3Frame _ _ _ _ _ _ => true
  | .slotZeroCrossSwitch l _ => decide (l.toNat < 96)
  | .saiMaskWrite _ l _ _ => decide (l.toNat < 96)
  | .snsCtlSync _ _ => true
  | .snsGrpCtlSync _ _ _ => true
  | .groupReset _ => true
  | .channelStuck _ => true
  | .ringEntryDone _ _ _ x => decide (x.all fun l => decide (l.length = 8))
  | .snsPilotWindow _ _ _ => true
  | .snsCoefDataRead _ => true
  | .measStart _ => true
  | .measStatus _ => true
  | .measResponsesDone _ => true
  | .macFrameReceive _ frame _ => decide (0 < frame.length)
  | .linkUp _ => true
  | .linkDown _ _ => true
  | .macRingTailWrite _ _ _ _ => true
  | .txDescriptor _ _ _ => true
  | .macSnap _ _ => true
  | .macSnapClr _ _ => true
  | .tsqRead _ _ _ => true
  | .streamPacketSend _ _ => true
  | .epochTimeout _ => true
  | .fcsWindow _ => true
  | .timSet _ => true
  | .timIncWrite _ _ => true
  | .rootFracWrite _ _ => true
  | .timNsRead _ => true
  | .timCmpMatch _ _ => true
  | .cmpArm _ _ _ => true
  | .pulseEnd _ => true
  | .servoInterval _ _ _ => true
  | .ptpStart _ => true
  | .ptpStop _ => true
  | .ptpStatus _ _ => true
  | .flitReceive p flit => portOk p && decide (flit.length = 76)
  | .retryTimeout p => portOk p
  | .portSignalDetect p => portOk p
  | .blockLockHeld p => portOk p
  | .portTrainTimeout p => portOk p
  | .lockLost p => portOk p
  | .beaconSend p => portOk p
  | .beaconReceive p => portOk p
  | .beaconTimeout p => portOk p
  | .latencyMeasure p _ _ _ => portOk p
  | .objectFlit p => portOk p
  | .objectLate _ => true
  | .objectPublish _ => true
  | .channelFlit p => portOk p
  | .probe p _ _ _ => portOk p
  | .rraRead _ _ _ _ => true
  | .rraWrite _ _ _ _ => true
  | .rraRequest p => portOk p
  | .rraResponse p => portOk p
  | .rraTimeout _ => true
  | .portTsqRead _ p => portOk p
  | .intTmCtlWrite _ _ => true
  | .intDbgLock _ _ => true
  | .recSubmit _ _ => true
  | .recProgramDone readBack => decide (readBack.length = 32)
  | .recFetch _ _ => true
  | .refreshDue _ _ _ => true
  | .mr4Poll _ _ _ _ => true
  | .drcRetrain _ => true
  | .drcTrnGo _ => true
  | .testPointDone errs _ => decide (errs.length = 27)
  | .pcieLinkChange _ _ _ _ => true
  | .registerWrite _ addr _ _ => addrOk addr
  | .sramWindowWrite _ addr _ => sramOk addr
  | .rcRead _ addr => addrOk addr
  | .hstIrqEoi _ _ => true
  | .hstIrqLatchWrite _ _ => true
  | .hstMbxDb _ _ => true
  | .hstMbxAck _ _ => true
  | .mailboxResponse _ _ _ => true
  | .serviceFirmwareRestart _ => true
  | .announce _ => true
  | .withdraw _ => true
  | .sapList _ _ => true
  | .sapAnnounceTimer _ => true
  | .topology _ => true
  | .twinStatus _ => true
  | .version _ => true
  | .autostart _ => true
  | .qspiRead addr _ _ => decide (addr.toNat % 4 = 0)
  | .qspiQread addr _ _ => decide (addr.toNat % 4 = 0)
  | .qspiWrite addr _ _ _ => decide (addr.toNat % 4 = 0)
  | .qspiQwrite addr _ _ _ => decide (addr.toNat % 4 = 0)
  | .qspiStatus _ => true
  | .hstOspiCmd _ _ => true
  | .ospiDone _ _ _ _ => true
  | .i2cWrite _ _ _ => true
  | .i2cRead _ _ _ => true
  | .i2cStart _ _ => true
  | .i2cStop _ => true
  | .i2cTimeout _ => true
  | .hstI2cRxRead _ _ => true
  | .gpioEdge _ _ => true
  | .trainingComplete _ => true
  | .portNewAttempt p => portOk p
  | .stuckInputChange _ => true
  | .pwrGoodRise => true
  | .resetNAssert => true
  | .resetNRelease => true
  | .pfwFall => true
  | .pfwRise => true
  | .islandWriteDone => true
  | .secMatch => true
  | .thermosQueueDrained => true
  | .sleepTimeout => true
  | .latchedWakeRaise => true
  | .foscReady => true
  | .foscNotReady => true
  | .xaMonitorTrip => true
  | .xbMonitorTrip => true
  | .rootMonitorTrip => true
  | .rootRelockTimeout => true
  | .appReturn => true
  | .gpllReturn => true
  | .dpllReturn => true
  | .msBoundary => true
  | .restartPrepDone => true
  | .dispatchCycle => true
  | .bankInstantiateDeferred => true
  | .loadSuccess => true
  | .coefPendSet => true
  | .periodicCheckStart => true
  | .fuseDone => true
  | .startCmpLockTimeout => true
  | .testTimeout => true
  | .consoleStatus => true
  | .recErase => true
  | .watchdogExpiry => true
  | .lockstepMismatch => true
  | .gntMemoryError => true
  | .unusableClear => true
  | .extCopyStart => true
  | .extCopyDone => true
  | .heartbeatSend => true
  | .seatBTakeover => true
  | .yieldTimeout => true
  | .snsSyncPin => true
  | .measCaptureDone => true
  | .measSynthDone => true
  | .timWrap => true
  | .syncTimeout => true
  | .nodeDiscovery => true
  | .conflictBackoff => true
  | .conflictClear => true
  | .dbgFuseDone => true
  | .recWindowExpiry => true
  | .recSearchDone => true
  | .recEraseDone => true
  | .recFetchDone => true
  | .recTokenRefill => true
  | .selfRefreshIdle => true
  | .dramInitDone => true
  | .trainingFail => true
  | .perstNFall => true
  | .twinLaneLoss => true
  | .twinLaneReturn => true
  | .selfRefreshHoldEnd => true
  | .requestThermos _ => true
  | .requestWake _ => true
  | .requestTrail _ => true
  | .requestLoad _ => true
  | .requestBalanced _ => true
  | .requestSwift _ => true
  | .requestWide _ => true
  | .requestDeep _ => true
  | .requestMeasure _ => true
  | .requestStandby _ => true
  | .requestMaintain _ => true
  | .requestSafeHold _ => true
  | .requestReserved _ _ => true
  | .intInjSramCe _ => true
  | .intInjSramUe _ => true
  | .intInjDramCe _ => true
  | .intInjDramUe _ => true
  | .intInjXaLoss _ => true
  | .intInjXbLoss _ => true
  | .intInjRootUnlock _ => true
  | .intInjFoscRange _ => true
  | .intInjSaiClkLoss _ => true
  | .intInjSaiFrame _ => true
  | .intInjNonAudio _ => true
  | .intInjRndLate _ => true
  | .intInjCoreGov _ => true
  | .intInjFirGov _ => true
  | .intInjCircAddr _ => true
  | .intInjSchQfull _ => true
  | .intInjTaskTimeout _ => true
  | .intInjMacFcs _ => true
  | .intInjTsOvf _ => true
  | .intInjBvlRetry _ => true
  | .intInjBvlDown _ => true
  | .intInjTwinHb _ => true
  | .intInjTwinRec _ => true
  | .intInjImageCheck _ => true
  | .intInjGntWdt _ => true
  | .intInjGntLockstep _ => true
  | .intInjMsgCheck _ => true
  | .intInjRecWrite _ => true
  | .intInjPilot _ => true
  | .intInjLineZ _ => true
  | .intInjOverTemp _ => true
  | .intInjSupply _ => true
  | .intInjRefreshDebt _ => true
  | .intInjFarClamp _ => true

end Sys2Proof
end

