-- ==== Sys2Proof/Decode.lean ====
section
/-!
DEFINITION. Words and the commands they spell. The opcode table gives no row any bits, so no table word spells a
command. The one encoding the spec gives commands is that of the four slots of a sample-core instruction (R193,
R196, R200, R203): a decoder and an encoder for each slot.
-/
namespace Sys2Proof

/-- The command a table word spells: the table gives no row bits, so none. -/
def decodeTableWord (_nbits _w : Nat) : Option Instr := none

/-- Keep a command when its slot is legal. -/
def legalIf (b : Bool) (i : Instr) : Option Instr := if b then some i else none

/-- The MAC slot, bits [63:44] of an instruction (R196, R197); `none` is an illegal encoding. -/
def decodeMac (c : BitVec 5) (w : BitVec 20) : Option Instr :=
  let f := w.getLsbD 15
  let s := w.getLsbD 14
  let xa := w.extractLsb' 10 4
  let q := w.extractLsb' 8 2
  let m := w.extractLsb' 4 4
  let ar := decide (w.extractLsb' 0 4 = 0#4)
  match w.extractLsb' 16 4 with
  | 0x0#4 => some (.macNop c)
  | 0x1#4 => legalIf (ar && macLegal f xa) (.macAcc c f s xa q m)
  | 0x2#4 => legalIf (ar && macLegal f xa) (.msu c f s xa q m)
  | 0x3#4 => legalIf (ar && macLegal f xa) (.mpy c f s xa q m)
  | 0x4#4 => legalIf ar (.addx c f s xa q m)
  | 0x5#4 => legalIf ar (.subx c f s xa q m)
  | 0x6#4 => legalIf ar (.ldx c f s xa q m)
  | 0x7#4 => legalIf ar (.aclr c f s xa q m)
  | 0x8#4 =>
    let sh := w.extractLsb' 9 5
    let rnd := w.extractLsb' 7 2
    legalIf (!w.getLsbD 15 && !w.getLsbD 0 && extLegal sh rnd) (.extract c s sh rnd (w.extractLsb' 5 2) (w.extractLsb' 1 4))
  | _ => none

/-- The ALU slot, bits [43:26] (R200). -/
def decodeAlu (c : BitVec 5) (w : BitVec 18) : Option Instr :=
  let s := w.getLsbD 12
  let d := w.extractLsb' 8 4
  let sa := w.extractLsb' 4 4
  let sb := w.extractLsb' 0 4
  let t := w.extractLsb' 0 11
  let ctl := decide (w.extractLsb' 11 2 = 0#2)
  match w.extractLsb' 13 5 with
  | 0x00#5 => some (.aluNop c)
  | 0x01#5 => some (.addW c s d sa sb)
  | 0x02#5 => some (.subW c s d sa sb)
  | 0x03#5 => some (.addi c s d sa sb)
  | 0x04#5 => some (.andW c s d sa sb)
  | 0x05#5 => some (.orW c s d sa sb)
  | 0x06#5 => some (.xorW c s d sa sb)
  | 0x07#5 => some (.shl c s d sa sb)
  | 0x08#5 => some (.shra c s d sa sb)
  | 0x09#5 => some (.shrl c s d sa sb)
  | 0x0A#5 => some (.minW c s d sa sb)
  | 0x0B#5 => some (.maxW c s d sa sb)
  | 0x0C#5 => some (.absW c s d sa sb)
  | 0x0D#5 => some (.negW c s d sa sb)
  | 0x0E#5 => some (.cmpW c s d sa sb)
  | 0x0F#5 => some (.movW c s d sa sb)
  | 0x10#5 => legalIf ctl (.loopb c t)
  | 0x11#5 => legalIf ctl (.loopr c t)
  | 0x12#5 => legalIf ctl (.br c t)
  | 0x13#5 => legalIf ctl (.brz c t)
  | 0x14#5 => legalIf ctl (.brnz c t)
  | 0x15#5 => legalIf ctl (.brn c t)
  | 0x16#5 => legalIf ctl (.nodeMark c t)
  | 0x17#5 => legalIf ctl (.endTask c t)
  | _ => none

/-- An address or move slot, bits [12:0] (AM0) or [25:13] (AM1) (R203). -/
def decodeAm (c : BitVec 5) (am : Bool) (w : BitVec 13) : Option Instr :=
  let x := w.extractLsb' 6 4
  let j := w.extractLsb' 3 3
  let m := w.getLsbD 2
  let mem := decide (w.extractLsb' 0 2 = 0#2)
  match w.extractLsb' 10 3 with
  | 0#3 => some (.amNop c am)
  | 1#3 => legalIf mem (.ldw c am x j m)
  | 2#3 => legalIf mem (.ldh c am x j m)
  | 3#3 => legalIf mem (.stw c am x j m)
  | 4#3 => legalIf mem (.sth c am x j m)
  | 5#3 => some (.mvr c am x j (w.extractLsb' 0 3))
  | 6#3 => some (.lim c am x (w.extractLsb' 0 6))
  | _ => none

/-- The four slots of an instruction word in the order AM0, AM1, ALU, MAC (R193, R206). -/
def decodeWord (c : BitVec 5) (w : BitVec 64) : List (Option Instr) :=
  [decodeAm c false (w.extractLsb' 0 13), decodeAm c true (w.extractLsb' 13 13),
    decodeAlu c (w.extractLsb' 26 18), decodeMac c (w.extractLsb' 44 20)]

/-- A bit as a vector. -/
def bitV (b : Bool) : BitVec 1 := BitVec.ofBool b

/-- The arithmetic layout of the MAC slot (R196). -/
def macBits (mop : BitVec 4) (f s : Bool) (xa : BitVec 4) (q : BitVec 2) (m : BitVec 4) : BitVec 20 :=
  mop ++ bitV f ++ bitV s ++ xa ++ q ++ m ++ 0#4

/-- The data layout of the ALU slot (R200). -/
def aluBits (aop : BitVec 5) (s : Bool) (d sa sb : BitVec 4) : BitVec 18 := aop ++ bitV s ++ d ++ sa ++ sb

/-- The control layout of the ALU slot (R200). -/
def ctlBits (aop : BitVec 5) (t : BitVec 11) : BitVec 18 := aop ++ 0#2 ++ t

/-- A memory operation of an AM slot (R203). -/
def memBits (mv : BitVec 3) (x : BitVec 4) (j : BitVec 3) (m : Bool) : BitVec 13 := mv ++ x ++ j ++ bitV m ++ 0#2

/-- The bits of a MAC-slot command; zero for any other. -/
def encodeMac (i : Instr) : BitVec 20 :=
  match i with
  | .macAcc _ f s xa q m => macBits 1 f s xa q m
  | .msu _ f s xa q m => macBits 2 f s xa q m
  | .mpy _ f s xa q m => macBits 3 f s xa q m
  | .addx _ f s xa q m => macBits 4 f s xa q m
  | .subx _ f s xa q m => macBits 5 f s xa q m
  | .ldx _ f s xa q m => macBits 6 f s xa q m
  | .aclr _ f s xa q m => macBits 7 f s xa q m
  | .extract _ s sh rnd q m => 8#4 ++ 0#1 ++ bitV s ++ sh ++ rnd ++ q ++ m ++ 0#1
  | _ => 0

/-- The bits of an ALU-slot command; zero for any other. -/
def encodeAlu (i : Instr) : BitVec 18 :=
  match i with
  | .addW _ s d sa sb => aluBits 1 s d sa sb
  | .subW _ s d sa sb => aluBits 2 s d sa sb
  | .addi _ s d sa sb => aluBits 3 s d sa sb
  | .andW _ s d sa sb => aluBits 4 s d sa sb
  | .orW _ s d sa sb => aluBits 5 s d sa sb
  | .xorW _ s d sa sb => aluBits 6 s d sa sb
  | .shl _ s d sa sb => aluBits 7 s d sa sb
  | .shra _ s d sa sb => aluBits 8 s d sa sb
  | .shrl _ s d sa sb => aluBits 9 s d sa sb
  | .minW _ s d sa sb => aluBits 10 s d sa sb
  | .maxW _ s d sa sb => aluBits 11 s d sa sb
  | .absW _ s d sa sb => aluBits 12 s d sa sb
  | .negW _ s d sa sb => aluBits 13 s d sa sb
  | .cmpW _ s d sa sb => aluBits 14 s d sa sb
  | .movW _ s d sa sb => aluBits 15 s d sa sb
  | .loopb _ t => ctlBits 16 t
  | .loopr _ t => ctlBits 17 t
  | .br _ t => ctlBits 18 t
  | .brz _ t => ctlBits 19 t
  | .brnz _ t => ctlBits 20 t
  | .brn _ t => ctlBits 21 t
  | .nodeMark _ t => ctlBits 22 t
  | .endTask _ t => ctlBits 23 t
  | _ => 0

/-- The bits of an AM-slot command; zero for any other. -/
def encodeAm (i : Instr) : BitVec 13 :=
  match i with
  | .ldw _ _ x j m => memBits 1 x j m
  | .ldh _ _ x j m => memBits 2 x j m
  | .stw _ _ x j m => memBits 3 x j m
  | .sth _ _ x j m => memBits 4 x j m
  | .mvr _ _ x j sel => 5#3 ++ x ++ j ++ sel
  | .lim _ _ x imm => 6#3 ++ x ++ imm
  | _ => 0

end Sys2Proof
end

