-- ==== Sys2Proof/Config.lean ====
section
/-!
DEFINITION. What the spec leaves open: free values without a body, so that no proof can see what they are.
-/
namespace Sys2Proof

/-- The value of the `k`-th draw of an open value (each use says which value of the spec it stands for). -/
opaque Config.freeValue : Nat → Nat

/-- The decimation coefficients in read-only memory (R342), which the manual does not print: Q1.23 by index. -/
opaque Config.snsCoef : Nat → BitVec 24

/-- The 3:1 interpolator of the message players, whose coefficients the manual does not publish (R277): the output in Q1.31 for the
16 kHz samples it holds, newest first, at a phase of 0 to 2. -/
opaque Config.msgInterp : List Int → Nat → BitVec 32

/-- The versions that mailbox operation VERSION returns: boot ROM, service firmware, Gauntlet firmware (R549). -/
opaque Config.version : Nat → Word

/-- The level of a clock or strobe on a test multiplexer output (R450), by selector and time. -/
opaque Config.testMux : Nat → Nat → Bool

/-- An output sample of an asynchronous rate converter (R169), whose filter the manual does not print: by the ratio of its input rate to its
output rate, how long after its newest input sample it leaves, in ns, and its input samples, newest first (assumption 25). -/
opaque Config.bridge : Word → Int → List Int → BitVec 32

/-- A sample behind a crossing that converts (R36): in ASRC operation or through the half-band, by its instant after the newest sample that
the crossing holds, in ns, and those samples, newest first (assumption 16). -/
opaque Config.cross : Bool → Int → List Int → BitVec 32

/-- The body of a BULK frame (R302 names what it carries and not where it stands): the tracked registers and table words by address,
and the SEL vector (assumption 93). -/
opaque Config.bulkLayout : List (Nat × Word) → List Byte → List Byte

/-- A sample of an impulse response in binary32 (R357), whose bits are not specified: by the job block, the captured repeats of the
channel added up, and the index (assumption 29). -/
opaque Config.response : List Byte → List Int → Nat → BitVec 32

/-- A coefficient of a designed correction (R358), in units of 2^-63: by the job block, the captured repeats of the channels used, and the
index (assumption 29). -/
opaque Config.correction : List Byte → List (List Int) → Nat → Int

end Sys2Proof
end

