-- ==== Sys2Proof/Machine/Operands.lean ====
section
/-!
DEFINITION. Bit fields, sign extension, byte order, rounding and saturation: the operand forms that
every register, table and message of the spec is written in (R5, R8, R9, R10, R12).
-/
namespace Sys2Proof.Machine

/-- Field of `n` bits from bit `lo` of a word, as a number. -/
def fld (w : Word) (lo n : Nat) : Nat := (w.toNat >>> lo) % 2 ^ n

/-- Bit `i` of a word. -/
def bitOf (w : Word) (i : Nat) : Bool := w.toNat.testBit i

/-- The mask of `n` ones from bit `lo`. -/
def maskOf (lo n : Nat) : Word := w32 ((2 ^ n - 1) <<< lo)

/-- Replace the field of `n` bits from bit `lo` by `v` modulo 2^n. -/
def putFld (w : Word) (lo n v : Nat) : Word :=
  (w &&& ~~~(maskOf lo n)) ||| w32 ((v % 2 ^ n) <<< lo)

/-- Set or clear bit `i`. -/
def putBit (w : Word) (i : Nat) (b : Bool) : Word := putFld w i 1 b.toNat

/-- A number of `n` bits read as two's complement. -/
def sext (n v : Nat) : Int :=
  if v % 2 ^ n < 2 ^ (n - 1) then ((v % 2 ^ n : Nat) : Int) else ((v % 2 ^ n : Nat) : Int) - (2 ^ n : Nat)

/-- Signed field of `n` bits from bit `lo`. -/
def sfld (w : Word) (lo n : Nat) : Int := sext n (fld w lo n)

/-- An integer as `n` bits of two's complement. -/
def toBits (n : Nat) (z : Int) : Nat := (z % ((2 ^ n : Nat) : Int)).toNat

/-- Saturate to the two's-complement range of `n` bits (R9). -/
def satN (n : Nat) (z : Int) : Int :=
  if z < -((2 ^ (n - 1) : Nat) : Int) then -((2 ^ (n - 1) : Nat) : Int)
  else if z > ((2 ^ (n - 1) : Nat) : Int) - 1 then ((2 ^ (n - 1) : Nat) : Int) - 1 else z

/-- Saturate a count to `n` bits of ones (R12). -/
def satU (n v : Nat) : Nat := if v < 2 ^ n then v else 2 ^ n - 1

/-- `num ÷ den` rounded half to even (R9), for a positive denominator. -/
def rndDiv (num : Int) (den : Nat) : Int :=
  if num % (den : Int) * 2 < den then num / (den : Int)
  else if (den : Int) < num % (den : Int) * 2 then num / (den : Int) + 1
  else if num / (den : Int) % 2 = 0 then num / (den : Int) else num / (den : Int) + 1

/-- `v × 2^-k` rounded half to even (R9). -/
def rndShift (v : Int) (k : Nat) : Int := rndDiv v (2 ^ k)

/-- `rnd(a × b >> k)` saturated to 32 bits. -/
def mulSat32 (a b : Int) (k : Nat) : Int := satN 32 (rndShift (a * b) k)

/-- `n` bytes of a number, least significant first (R5). -/
def leBytes (n v : Nat) : List Byte :=
  (List.range n).map (fun i => b8 (v >>> (8 * i)))

/-- The number that bytes hold, least significant first (R5). -/
def leNat (bs : List Byte) : Nat :=
  bs.foldr (fun b acc => b.toNat + 256 * acc) 0

/-- The number of 1 bits of a mask over `n` places. -/
def popCount (n v : Nat) : Nat := ((List.range n).filter (fun i => v.testBit i)).length

/-- The places of the 1 bits of a mask over `n` places, ascending. -/
def bitsOf (n v : Nat) : List Nat := (List.range n).filter (fun i => v.testBit i)

/-- Element `i` of a list, or `d` beyond its end. -/
def nth {α : Type} (l : List α) (i : Nat) (d : α) : α := (l[i]?).getD d

/-- Byte `i` of a list of bytes, or zero beyond its end. -/
def byteAt (bs : List Byte) (i : Nat) : Nat := (nth bs i 0).toNat

/-- `n` bytes from byte `i` as a little-endian number. -/
def leAt (bs : List Byte) (i n : Nat) : Nat := leNat ((bs.drop i).take n)

/-- Replace element `i` of a list. -/
def putNth {α : Type} (l : List α) (i : Nat) (v : α) : List α := l.set i v

/-- A list of bytes cut or filled with zeros to `n` bytes. -/
def padTo (n : Nat) (bs : List Byte) : List Byte := (bs ++ List.replicate (n - bs.length) 0).take n

/-! ## CRC-32 (R243) -/

/-- One byte through the reflected CRC-32. -/
def crc32Step (c : Nat) (b : Byte) : Nat :=
  (List.range 8).foldl (fun c _ => if c % 2 = 1 then (c / 2) ^^^ 0xEDB88320 else c / 2) (c ^^^ b.toNat)

/-- The CRC register after bytes, from `c`; the split on each register value keeps evaluation shallow. -/
def crc32From : List Byte → Nat → Nat
  | [], c => c
  | b :: bs, c =>
    match crc32Step c b with
    | 0 => crc32From bs 0
    | n + 1 => crc32From bs (n + 1)

/-- CRC-32 of IEEE 802.3. -/
def crc32 (bs : List Byte) : Nat := crc32From bs 0xFFFFFFFF ^^^ 0xFFFFFFFF

end Sys2Proof.Machine
end

