-- ==== Sys2Proof/Machine/RegMap.lean ====
section
/-!
DEFINITION. The register map of BAR0 (R533): every register and register array of the owning chapters with
its address, its access code (R10), its reset value and the bits a write may reach (R13), one row each,
transcribed from the chapters' register and field tables.
-/
namespace Sys2Proof.Machine

/-- The access codes of R10; `mixed` registers hold fields of several codes. -/
inductive Access where
  | rw | ro | wo | w1c | w1s | rc | gw | sw | mixed
deriving DecidableEq, Repr

/-- One register or array: words at `base + s1 × i + s2 × j` for `i < c1` and `j < c2`. -/
structure RegRow where
  base : Nat
  s1 : Nat
  c1 : Nat
  s2 : Nat
  c2 : Nat
  code : Access
  reset : Word
  wmask : Word
deriving DecidableEq, Repr

/-- Whether the row holds the word at address `a`. -/
def RegRow.holds (r : RegRow) (a : Nat) : Bool :=
  decide (r.base ≤ a) && decide ((a - r.base) / r.s1 < r.c1) &&
    decide ((a - r.base) % r.s1 % r.s2 = 0) && decide ((a - r.base) % r.s1 / r.s2 < r.c2)

namespace Reg

-- GNT and the Trail tables (R182, R289)

/-- Trail zero-crossing timeout, domain-G samples, bits [7:0] -/
def GNT_ZXTO : Nat := 0x8000
/-- Duck ramp, ms, bits [10:0]; values above 2,000 act as 2,000 -/
def GNT_DUCK_RAMP : Nat := 0x8004
/-- Bit k: Trail input slot k routed, bits [11:0] -/
def GNT_TSLOT_EN : Nat := 0x8008
/-- Zone bus z: ACT [7:0], bit p for level p. Commit word of the bus entry. -/
def GNT_ZB_ACT (i : Nat) : Nat := 0x9000 + 0x10 * i
/-- SRC0 [5:0], SRC1 [13:8], SRC2 [21:16], SRC3 [29:24] -/
def GNT_ZB_SRCLO (i : Nat) : Nat := 0x9004 + 0x10 * i
/-- SRC4 [5:0], SRC5 [13:8], SRC6 [21:16], SRC7 [29:24] -/
def GNT_ZB_SRCHI (i : Nat) : Nat := 0x9008 + 0x10 * i
/-- LEVEL [23:0], Q2.22 -/
def GNT_ZB_LEVEL (i : Nat) : Nat := 0x900C + 0x10 * i
/-- Feed f: ZONE0 [7:0], ZONE1 [15:8], ZONE2 [23:16], ZONE3 [31:24] -/
def GNT_TF_ZONES (i : Nat) : Nat := 0xA000 + 0x8 * i
/-- Feed f control. Commit word of the feed entry. -/
def GNT_TF_CTL (i : Nat) : Nat := 0xA004 + 0x8 * i
/-- Trail direct output j, 0 to 63 -/
def GNT_TOUT (i : Nat) : Nat := 0xB000 + 0x4 * i
/-- Gauntlet lane input slot i, 0 to 31 -/
def GNT_TIN (i : Nat) : Nat := 0xB100 + 0x4 * i
/-- Alarm state and health -/
def GNT_STATUS : Nat := 0x0
/-- SRC [0]: 1 FOSC, 0 GPLL; GPLL_LOCK [1]; XA_OK [2] -/
def GNT_CLK : Nat := 0x4
/-- CAUSE [3:0] of the last reset under R266; COUNT [15:8] of domain resets, saturating -/
def GNT_RST : Nat := 0x8
/-- Denied writes, saturating; Gauntlet firmware writes 0 to clear -/
def GNT_DENY_COUNT : Nat := 0xC
/-- Address of the last denied write -/
def GNT_DENY_ADDR : Nat := 0x10
/-- PERIOD [15:0] in ms, 10 to 1,000; applies from the next kick -/
def GNT_WDT : Nat := 0x14
/-- Writing 0x0000_005A restarts the period; reads zero -/
def GNT_WDT_KICK : Nat := 0x18
/-- RAW [7:0]; debounced DEB [15:8]; PAIRF [19:16] -/
def GNT_ALM_IN : Nat := 0x1C
/-- DEB [7:0] ms; WAKE [15:8]; PAIR [19:16]; INV [31:24] -/
def GNT_ALM_CFG : Nat := 0x20
/-- Pin levels [3:0]; bit 0 RO, driven by hardware under R270 -/
def GNT_FLT_OUT : Nat := 0x24
/-- Latched: IMG [0], MSG [1], PILOT [2], LINE [3], PAIR [4], SUPV [5], GRST [6], CLK [7], APP [8] -/
def GNT_FAULTS : Nat := 0x28
/-- EN [0]; FAILS [11:8], where 0 acts as 1 -/
def GNT_PILOT_CTL : Nat := 0x2C
/-- Bit 0: S96 to S111; bit 1: S112 to S127 -/
def GNT_SNS_CLAIM : Nat := 0x30
/-- IMAGE_ID of the Gauntlet image in use -/
def GNT_IMG_ID : Nat := 0x34
/-- Last accepted network CNT -/
def GNT_NET_CNT : Nat := 0x38
/-- Pilot enables under R280 -/
def GNT_PILOT_EN (i : Nat) : Nat := 0x40 + 0x4 * i
/-- Tone g: F1 [19:0] in 1/16 Hz -/
def GNT_TONE_F1 (i : Nat) : Nat := 0x100 + 0x10 * i
/-- F2 [19:0] -/
def GNT_TONE_F2 (i : Nat) : Nat := 0x104 + 0x10 * i
/-- SHAPE [1:0]; PERIOD [15:4] ms; ON [23:16] and OFF [31:24] in 10 ms -/
def GNT_TONE_SHAPE (i : Nat) : Nat := 0x108 + 0x10 * i
/-- LEVEL [23:0] in Q2.22; RUN [31] -/
def GNT_TONE_RUN (i : Nat) : Nat := 0x10C + 0x10 * i
/-- Player p: MSG [9:0]; REPEAT [23:16]; GAP [30:24]; PLAY [31] -/
def GNT_PLY_CTL (i : Nat) : Nat := 0x200 + 0x10 * i
/-- LEVEL [23:0] in Q2.22 -/
def GNT_PLY_LEVEL (i : Nat) : Nat := 0x204 + 0x10 * i
/-- CUR [9:0]: the message playing. LEFT [23:16]: the plays still to come after the current one; 255 while REPEAT is 255; 0 in the last play and while idle. SUBST [30]: the current play was replaced under R277. BUSY [31]: a command runs. -/
def GNT_PLY_STAT (i : Nat) : Nat := 0x208 + 0x10 * i
/-- Host inbox, command words 0 to 7 -/
def GNT_HMBX (i : Nat) : Nat := 0x400 + 0x4 * i
/-- Writing 1 to bit 0 submits -/
def GNT_HMBX_GO : Nat := 0x420
/-- Host inbox status -/
def GNT_HMBX_STAT : Nat := 0x424
/-- Service inbox, command words 0 to 7 -/
def GNT_SMBX (i : Nat) : Nat := 0x440 + 0x4 * i
/-- Writing 1 to bit 0 submits -/
def GNT_SMBX_GO : Nat := 0x460
/-- Service inbox status -/
def GNT_SMBX_STAT : Nat := 0x464

-- PWR and CLK (R59, R491, R532)

/-- Requested mode; a write is a request -/
def PWR_MODE_REQ : Nat := 0x100100
/-- Current mode, target, phase and alarm -/
def PWR_MODE_STATUS : Nat := 0x100104
/-- Mode events; interrupt sources -/
def PWR_MODE_EVT : Nat := 0x100108
/-- The last transition -/
def PWR_MODE_CAUSE : Nat := 0x10010C
/-- Restarts since the last read -/
def PWR_RESTART_COUNT : Nat := 0x100110
/-- Supply, temperature and warning status -/
def PWR_STATUS : Nat := 0x100000
/-- Events; interrupt sources -/
def PWR_EVT : Nat := 0x100004
/-- CAUSE [3:0] of the last application-side start: 0 cold power-on, 1 power-on with the island running, 2 THERMOS wake, 3 RESET_N, 4 critical hold, 5 VDD_GNT brown-out -/
def PWR_RST_CAUSE : Nat := 0x100008
/-- Hottest reading [15:0], Q8.8 °C; sensor [17:16] -/
def PWR_TEMP : Nat := 0x10000C
/-- Hottest reading since the last read, as PWR_TEMP -/
def PWR_TEMP_MAX : Nat := 0x100010
/-- Warning threshold [15:0], Q8.8 °C: 105.0 -/
def PWR_TEMP_WARN : Nat := 0x100014
/-- Shutdown threshold [15:0], Q8.8 °C: 115.0 -/
def PWR_TEMP_SHUT : Nat := 0x100018
/-- Detector 0x20 raises -/
def PWR_SUPPLY_EVENTS : Nat := 0x10001C
/-- Seconds counter -/
def PWR_SEC : Nat := 0x100300
/-- Comparator value -/
def PWR_WAKE_SEC : Nat := 0x100304
/-- SEC_EN [0]; IN_EN [5:4]; IN_POL [9:8], where 1 is active high -/
def PWR_WAKE_CTL : Nat := 0x100308
/-- PWRGOOD [0], SEC [1], IN0 [2], IN1 [3], ALM [4], COLD [7] -/
def PWR_WAKE_CAUSE : Nat := 0x10030C
/-- BUSY [0] -/
def PWR_THM_STAT : Nat := 0x100310
/-- Device retention under R524 -/
def PWR_RET0 (i : Nat) : Nat := 0x100340 + 0x4 * i
/-- Retention for host firmware -/
def PWR_RET2 (i : Nat) : Nat := 0x100348 + 0x4 * i
/-- Block enables under R485 -/
def CLK_EN : Nat := 0x100200
/-- Enables in force, including R486 -/
def CLK_EN_EFF : Nat := 0x100204
/-- Sources, locks and fallbacks -/
def CLK_STATUS : Nat := 0x100208
/-- Events; interrupt sources -/
def CLK_EVT : Nat := 0x10020C
/-- XA [0] and XB [1], reading 1; ROOT [2]; MCLK0 [3]; MCLK1 [4] -/
def CLK_MON_EN : Nat := 0x100210
/-- PENDING [5:0] and HUNG [13:8], bit order as R489 byte 1 -/
def CLK_MUX_STAT : Nat := 0x100214
/-- REF [2:0]; GROUP [12:8], 0 to 21; MANUAL [15] -/
def CLK_FTRIM_CFG : Nat := 0x100218
/-- CODE [9:0], RW under R488; TRIM_LOCK [16], RO; REF_LOST [17], RO -/
def CLK_FTRIM : Nat := 0x10021C
/-- Last window error, signed ppm [15:0], saturating -/
def CLK_FTRIM_ERR : Nat := 0x100220
/-- Monitor trips -/
def CLK_FB_COUNT : Nat := 0x100224
/-- SDS_RETURN [0] -/
def CLK_CMD : Nat := 0x100228

-- TIM (R410)

/-- Nanoseconds; a read latches TIM_TAG and TIM_ERA_LAT -/
def TIM_NS : Nat := 0x200000
/-- Wrap tag [3:0], as latched -/
def TIM_TAG : Nat := 0x200004
/-- Era [27:0], live -/
def TIM_ERA : Nat := 0x200008
/-- Era [27:0], as latched -/
def TIM_ERA_LAT : Nat := 0x20000C
/-- Increment per CLK_PER tick, unsigned 8.24 ns -/
def TIM_INC : Nat := 0x200010
/-- ROOT steering, signed, units of 2^−40 -/
def ROOT_FRAC : Nat := 0x200014
/-- THIRD [0] -/
def TIM_CTL : Nat := 0x200018
/-- Staged nanoseconds -/
def TIM_SET_NS : Nat := 0x20001C
/-- Staged tag [3:0] -/
def TIM_SET_TAG : Nat := 0x200020
/-- Staged era [27:0] -/
def TIM_SET_ERA : Nat := 0x200024
/-- Writing 1 to bit 0 sets the counter under R396 -/
def TIM_CMD : Nat := 0x200028
/-- Events; interrupt sources -/
def TIM_EVT : Nat := 0x20002C
/-- Bit i: comparator i matched; interrupt sources -/
def TIM_CMP_EVT : Nat := 0x200030
/-- Periods skipped under R404 -/
def TIM_CMP_SKIPS : Nat := 0x200034
/-- Path-delay step threshold, ns -/
def TIM_STEP_THR : Nat := 0x200038
/-- Phase slew limit, ppm [7:0]; values above 200 act as 200 -/
def TIM_SLEW_MAX : Nat := 0x20003C
/-- Asymmetry of MAC port 0, signed ns -/
def TIM_ASYM0 : Nat := 0x200040
/-- Asymmetry of MAC port 1, signed ns -/
def TIM_ASYM1 : Nat := 0x200044
/-- Servo state -/
def TIM_SERVO_STAT : Nat := 0x200048
/-- Last offset, signed ns, saturating -/
def TIM_OFFSET : Nat := 0x20004C
/-- Last mean path delay, ns -/
def TIM_MPD : Nat := 0x200050
/-- VAL: nanosecond part of V -/
def TIM_CMP_VAL (i : Nat) : Nat := 0x200100 + 0x10 * i
/-- Enable and tag -/
def TIM_CMP_CFG (i : Nat) : Nat := 0x200104 + 0x10 * i
/-- Period in ns; 0 one-shot -/
def TIM_CMP_PER (i : Nat) : Nat := 0x200108 + 0x10 * i
/-- Bit g: align the domain-A master pairs of group g, bits [21:0] -/
def TIM_CMP_SAI (i : Nat) : Nat := 0x20010C + 0x10 * i
/-- Pulse output k -/
def TIM_PULSE_CFG (i : Nat) : Nat := 0x200200 + 0x4 * i

-- SCH (R235)

/-- Descriptor index [11:0] to submit -/
def SCH_SUBMIT : Nat := 0x300000
/-- Descriptor index [11:0] to cancel -/
def SCH_CANCEL : Nat := 0x300004
/-- List and engine occupancy -/
def SCH_STATUS : Nat := 0x300008
/-- Events; interrupt sources -/
def SCH_EVT : Nat := 0x30000C
/-- Items stopped at LIMIT -/
def SCH_TIMEOUT_COUNT : Nat := 0x300010
/-- Descriptors held outside full lists, and bank waits -/
def SCH_QFULL_COUNT : Nat := 0x300014
/-- Refused submits and dropped descriptor writes -/
def SCH_SUBMIT_ERR : Nat := 0x300018
/-- Cancels of DONE or FREE descriptors -/
def SCH_CANCEL_MISS : Nat := 0x30001C
/-- Next completion slot, bits [9:0] -/
def SCH_CPL_HEAD : Nat := 0x300020
/-- Host read position, bits [9:0] -/
def SCH_CPL_TAIL : Nat := 0x300024
/-- Discarded completion records -/
def SCH_CPL_LOST : Nat := 0x300028
/-- Items dispatched -/
def SCH_DISPATCHES : Nat := 0x30002C
/-- Largest list occupancy, bits [9:0] -/
def SCH_READY_PEAK : Nat := 0x300030
/-- Dispatcher cycle counter [31:0]; wraps -/
def SCH_CYCLE : Nat := 0x300034
/-- Trace control -/
def SCH_TRC_CTL : Nat := 0x300040
/-- Next trace record, bits [8:0] -/
def SCH_TRC_HEAD : Nat := 0x300044
/-- Spill buffer DRAM address ÷ 64 -/
def SCH_TRC_SPILL_BASE : Nat := 0x300048
/-- Spill buffer size in 64 KiB, bits [15:0] -/
def SCH_TRC_SPILL_SIZE : Nat := 0x30004C
/-- Next spill offset ÷ 64 -/
def SCH_TRC_SPILL_PTR : Nat := 0x300050
/-- Discarded trace records -/
def SCH_TRC_LOST : Nat := 0x300054

-- GEO, RND and the block sequencer (R42, R90, R123)

/-- Speed of sound, UQ10.22 m/s -/
def GEO_C : Nat := 0x400000
/-- VBAP origin x, Q16.16 m -/
def GEO_ORG_X : Nat := 0x400004
/-- VBAP origin y -/
def GEO_ORG_Y : Nat := 0x400008
/-- VBAP origin z -/
def GEO_ORG_Z : Nat := 0x40000C
/-- Control -/
def GEO_CTL : Nat := 0x400010
/-- Status of the last block -/
def GEO_STATUS : Nat := 0x400014
/-- Events; interrupt sources -/
def GEO_EVT : Nat := 0x400018
/-- Active cells in the last block, bits [17:0] -/
def GEO_ACTIVE_CELLS : Nat := 0x40001C
/-- Segments retired -/
def GEO_SEG_RETIRED : Nat := 0x400020
/-- Segments cleared as invalid -/
def GEO_SEG_INVALID : Nat := 0x400024
/-- Position saturations -/
def GEO_POS_SAT : Nat := 0x400028
/-- VBAP searches that found no triangle -/
def GEO_VBAP_MISS : Nat := 0x40002C
/-- Smallest geometry margin to Sn+1, signed CLK_SVC cycles -/
def GEO_MARGIN : Nat := 0x400030
/-- LIMITED hop threshold, whole samples, bits [17:0] -/
def RND_HOP_THR : Nat := 0x401000
/-- STEPPED hop minimum, bits [23:0], 16 fractional bits -/
def RND_STEP_MIN : Nat := 0x401004
/-- Events; interrupt sources -/
def RND_EVT : Nat := 0x401008
/-- Far slots of the current mode, bits [16:0] -/
def RND_FAR_BUDGET : Nat := 0x40100C
/-- Slots held in the last block, bits [16:0] -/
def RND_FAR_USED : Nat := 0x401010
/-- Largest RND_FAR_USED since the last read -/
def RND_FAR_PEAK : Nat := 0x401014
/-- Denied cell-blocks -/
def RND_FAR_DENIED : Nat := 0x401018
/-- Cells with CLAMP in the last block, bits [17:0] -/
def RND_CLAMPED : Nat := 0x40101C
/-- Clamp starts -/
def RND_CLAMP_COUNT : Nat := 0x401020
/-- Hops started -/
def RND_HOPS : Nat := 0x401024
/-- Cell-blocks waiting for a hop slot -/
def RND_HOP_WAIT : Nat := 0x401028
/-- Hop slots in use in the last block, bits [13:0] -/
def RND_HOP_ACTIVE : Nat := 0x40102C
/-- Feed-blocks with a sum saturation -/
def RND_ACC_SAT : Nat := 0x401030
/-- Feed-blocks with an output saturation -/
def RND_OUT_SAT : Nat := 0x401034
/-- Fixed interpolator delay, whole samples -/
def RND_FIXED_DLY : Nat := 0x401038
/-- Coefficient index 8 × φ + j, bits [12:0] -/
def RND_IPT_ADDR : Nat := 0x40103C
/-- h[φ][j] sign-extended to 32 bits; each read increments RND_IPT_ADDR modulo 8,192 -/
def RND_IPT_DATA : Nat := 0x401040
/-- Start comparator for the block train -/
def RND_BLK_CTL : Nat := 0x40F000
/-- T0, nanosecond part, latched at train start -/
def RND_T0_NS : Nat := 0x40F004
/-- TIM wrap tag at T0, in bits [3:0] -/
def RND_T0_TAG : Nat := 0x40F008
/-- Block number [31:0] of the latest Sn. A read latches the high part. -/
def RND_BLK_NUM_LO : Nat := 0x40F00C
/-- Block number [47:32] in bits [15:0], as latched -/
def RND_BLK_NUM_HI : Nat := 0x40F010
/-- Sn − Tn, signed ns, saturating -/
def RND_BLK_PHASE : Nat := 0x40F014
/-- Phase warning limit, ns, unsigned -/
def RND_PHASE_LIM : Nat := 0x40F018
/-- Train status, see the field table -/
def RND_BLK_STATUS : Nat := 0x40F01C
/-- Blocks with at least one late feed -/
def RND_LATE : Nat := 0x40F020
/-- Late feed-blocks -/
def RND_LATE_FEEDS : Nat := 0x40F024
/-- Smallest stage-2 margin to Sn+2, signed CLK_SVC cycles -/
def RND_MARGIN2 : Nat := 0x40F028
/-- Smallest output-chain margin to Dn, signed CLK_SVC cycles -/
def RND_MARGIN3 : Nat := 0x40F02C
/-- Writing 1 to bit 0 sets both margin registers to 0x7FFF_FFFF -/
def RND_MARGIN_RST : Nat := 0x40F030

-- FIR (R147)

/-- Cross-fade time in ms, bits [10:0]; values above 2,000 act as 2,000 -/
def FIR_FADE : Nat := 0x500000
/-- Fade request -/
def FIR_FADE_REQ : Nat := 0x500004
/-- Fade and load status -/
def FIR_STATUS : Nat := 0x500008
/-- Events; interrupt sources -/
def FIR_EVT : Nat := 0x50000C
/-- Tap limit of the current mode -/
def FIR_MAX_TAPS : Nat := 0x500010
/-- Unit-cycles of the last block ÷ (24 × cycles per block), in 1/1,024, bits [10:0] -/
def FIR_LOAD : Nat := 0x500014
/-- Feed-blocks with a guard overflow -/
def FIR_GOV_COUNT : Nat := 0x500018
/-- Feed-blocks with an output saturation -/
def FIR_OUT_SAT : Nat := 0x50001C
/-- Dropped pool and descriptor writes -/
def FIR_WR_DROP : Nat := 0x500020
/-- Refused or discarded fade requests -/
def FIR_FADE_REFUSED : Nat := 0x500024
/-- Fades that reached unity under R138 -/
def FIR_FADES_DONE : Nat := 0x500028
/-- Bit f mod 32 of FIR_GOV(floor(f ÷ 32)): guard overflow on feed f -/
def FIR_GOV (i : Nat) : Nat := 0x500080 + 0x4 * i
/-- Bank A start and exponent -/
def FIR_A (i : Nat) : Nat := 0x501000 + 0x10 * i
/-- Bank B start and exponent -/
def FIR_B (i : Nat) : Nat := 0x501004 + 0x10 * i
/-- Bank lengths -/
def FIR_LEN (i : Nat) : Nat := 0x501008 + 0x10 * i
/-- Feed state -/
def FIR_FST (i : Nat) : Nat := 0x50100C + 0x10 * i
/-- Reported group delay -/
def FIR_GD (i : Nat) : Nat := 0x503000 + 0x4 * i

-- SCR (R210)

/-- Bit c: core c halted under R188 -/
def SCR_HALTED : Nat := 0x600000
/-- Bit c: sticky guard overflow on core c -/
def SCR_GOV : Nat := 0x600004
/-- Bit c: sticky circular address error on core c -/
def SCR_ADDR_ERR : Nat := 0x600008
/-- Events; interrupt sources -/
def SCR_EVT : Nat := 0x60000C
/-- Tasks with an accumulator overflow -/
def SCR_GOV_COUNT : Nat := 0x600010
/-- Forced pointers -/
def SCR_ADDR_ERR_COUNT : Nat := 0x600014
/-- Tasks ended by an illegal instruction -/
def SCR_ILLEGAL_COUNT : Nat := 0x600018
/-- Dropped host writes to core memories -/
def SCR_WR_DROP : Nat := 0x60001C
/-- Cycles of the busiest core in the last block ÷ cycles per block, in 1/1,024, bits [10:0] -/
def SCR_LOAD : Nat := 0x600020
/-- Core c state -/
def SCR_CORE_STAT (i : Nat) : Nat := 0x600100 + 0x10 * i
/-- Core c: bit i is the sticky overflow of Ai, bits [3:0] -/
def SCR_CORE_GOV (i : Nat) : Nat := 0x600104 + 0x10 * i
/-- Core c: PC of the last fault [10:0], half [11] -/
def SCR_CORE_FPC (i : Nat) : Nat := 0x600108 + 0x10 * i
/-- Core c: cycles used in the last block, bits [19:0] -/
def SCR_CORE_CYC (i : Nat) : Nat := 0x60010C + 0x10 * i

-- MIX (R180)

/-- Gain ramp time, ms, bits [10:0]; values above 2,000 act as 2,000 -/
def MIX_RAMP : Nat := 0x700000
/-- Graph zero-crossing timeout, samples, bits [7:0] -/
def MIX_ZXTO : Nat := 0x700004
/-- AUTOSCALE ramp, ms, bits [10:0] -/
def MIX_AUTO_RAMP : Nat := 0x700008
/-- Route fade, ms, bits [10:0] -/
def MIX_ROUTE_FADE : Nat := 0x70000C
/-- Graph status -/
def MIX_STATUS : Nat := 0x700010
/-- Events; interrupt sources -/
def MIX_EVT : Nat := 0x700014
/-- Node-blocks with a saturation -/
def MIX_NODE_SAT : Nat := 0x700018
/-- Feed-blocks clamped at CEIL -/
def MIX_BRIM_CLIP : Nat := 0x70001C
/-- Bit 0 CLR: clear every meter's CLIP and hold -/
def MIX_MTR_CTL : Nat := 0x700020
/-- Bridge channel c status -/
def MIX_BRG_STAT (i : Nat) : Nat := 0x700400 + 0x8 * i
/-- Measured ratio, port rate ÷ Fr, UQ2.30 -/
def MIX_BRG_RATIO (i : Nat) : Nat := 0x700404 + 0x8 * i

-- SAI (R335)

/-- Zero-crossing timeout, frames, bits [7:0] -/
def SAI_ZXTO : Nat := 0x800000
/-- Events; interrupt sources -/
def SAI_EVT : Nat := 0x800004
/-- Loss onsets -/
def SAI_LOST_COUNT : Nat := 0x800008
/-- Frames discarded -/
def SAI_FS_ERR_COUNT : Nat := 0x80000C
/-- Rate changes -/
def SAI_RATE_CHG_COUNT : Nat := 0x800010
/-- Frames dropped or repeated -/
def SAI_SLIP_COUNT : Nat := 0x800014
/-- Non-audio mute onsets -/
def SAI_NONAUDIO_COUNT : Nat := 0x800018
/-- Parity errors -/
def SAI_AES_PERR : Nat := 0x80001C
/-- Pair A configuration -/
def SAI_CKA_CFG (i : Nat) : Nat := 0x801000 + 0x40 * i
/-- Pair B configuration -/
def SAI_CKB_CFG (i : Nat) : Nat := 0x801004 + 0x40 * i
/-- Pair A status -/
def SAI_CKA_STAT (i : Nat) : Nat := 0x801008 + 0x40 * i
/-- Pair B status -/
def SAI_CKB_STAT (i : Nat) : Nat := 0x80100C + 0x40 * i
/-- P of pair A in CLK_PER ticks, UQ16.16 -/
def SAI_CKA_PERIOD (i : Nat) : Nat := 0x801010 + 0x40 * i
/-- P of pair B -/
def SAI_CKB_PERIOD (i : Nat) : Nat := 0x801014 + 0x40 * i
/-- Lane configuration -/
def SAI_LANE_CFG (i : Nat) : Nat := 0x802000 + 0x20 * i
/-- Target mask [15:0]; loaded at a swap -/
def SAI_MASK (i : Nat) : Nat := 0x802004 + 0x20 * i
/-- EFF [15:0]; NA_MUTE [31:16] -/
def SAI_MASK_EFF (i : Nat) : Nat := 0x802008 + 0x20 * i
/-- Ring offset ÷ 64, bits [14:0] -/
def SAI_RING_BASE (i : Nat) : Nat := 0x80200C + 0x20 * i
/-- Block [31:0] of the last completed entry -/
def SAI_RING_BLK (i : Nat) : Nat := 0x802010 + 0x20 * i
/-- DRAM address ÷ 64 -/
def SAI_SPILL_BASE (i : Nat) : Nat := 0x802014 + 0x20 * i
/-- Spill entries, bits [15:0]; 0 no spill -/
def SAI_SPILL_SIZE (i : Nat) : Nat := 0x802018 + 0x20 * i
/-- EN [31], NA_EN [27] -/
def SAI_AES_CFG (i : Nat) : Nat := 0x803000 + 0x20 * i
/-- As SAI_CKx_STAT -/
def SAI_AES_STAT (i : Nat) : Nat := 0x803004 + 0x20 * i
/-- As SAI_RING_BASE -/
def SAI_AES_RING_BASE (i : Nat) : Nat := 0x803008 + 0x20 * i
/-- As SAI_RING_BLK -/
def SAI_AES_RING_BLK (i : Nat) : Nat := 0x80300C + 0x20 * i
/-- As SAI_SPILL_BASE -/
def SAI_AES_SPILL_BASE (i : Nat) : Nat := 0x803010 + 0x20 * i
/-- As SAI_SPILL_SIZE -/
def SAI_AES_SPILL_SIZE (i : Nat) : Nat := 0x803014 + 0x20 * i
/-- Channel-status bytes 0 to 3 -/
def SAI_AES_CS (i : Nat) : Nat := 0x803018 + 0x20 * i
/-- P, as SAI_CKx_PERIOD -/
def SAI_AES_PERIOD (i : Nat) : Nat := 0x80301C + 0x20 * i
/-- Feed source of transmit channel c -/
def SAI_TXMAP (i : Nat) : Nat := 0x804000 + 0x4 * i

-- SNS (R361)

/-- SYNC [0]: sync every domain-R group -/
def SNS_CTL : Nat := 0x900000
/-- PIN_EN [0], CMP_EN [1], CMP [7:4] -/
def SNS_SYNC_CFG : Nat := 0x900004
/-- CK_RUN [7:0], CLAIM [9:8] -/
def SNS_STATUS : Nat := 0x900008
/-- Events; interrupt sources -/
def SNS_EVT : Nat := 0x90000C
/-- Reset ticks -/
def SNS_SYNC_COUNT : Nat := 0x900010
/-- STUCK onsets -/
def SNS_STUCK_COUNT : Nat := 0x900014
/-- Detector 0x1E raises -/
def SNS_LINE_RAISES : Nat := 0x900018
/-- Coefficient index [8:0] -/
def SNS_COEF_ADDR : Nat := 0x90001C
/-- Coefficient, sign-extended; each read increments SNS_COEF_ADDR modulo 287 -/
def SNS_COEF_DATA : Nat := 0x900020
/-- ACTIVE [31], STATUS [23:16], FEED [8:0] -/
def SNS_MEAS_STAT : Nat := 0x900024
/-- Group configuration -/
def SNS_GRP_CFG (i : Nat) : Nat := 0x900100 + 0x20 * i
/-- SYNC [0]: sync this group -/
def SNS_GRP_CTL (i : Nat) : Nat := 0x900104 + 0x20 * i
/-- Group status -/
def SNS_GRP_STAT (i : Nat) : Nat := 0x900108 + 0x20 * i
/-- Ring DRAM address ÷ 64 -/
def SNS_RING_BASE (i : Nat) : Nat := 0x90010C + 0x20 * i
/-- Entries, bits [15:0]; 0 no ring -/
def SNS_RING_DEPTH (i : Nat) : Nat := 0x900110 + 0x20 * i
/-- Block [31:0] of the last completed entry -/
def SNS_RING_BLK (i : Nat) : Nat := 0x900114 + 0x20 * i
/-- VALID [31], WIN [30:16], LEVEL [15:0] Q8.8 -/
def SNS_PIL_LEVEL (i : Nat) : Nat := 0x900800 + 0x10 * i
/-- PHASE [15:0], signed, 1/100 degree -/
def SNS_PIL_PHASE (i : Nat) : Nat := 0x900804 + 0x10 * i
/-- VALID [0]: current output valid; STUCK [1] -/
def SNS_CH_STAT (i : Nat) : Nat := 0x900808 + 0x10 * i
/-- EN [31], FAILS [19:16], FEED [8:0] -/
def SNS_LINE_CFG (i : Nat) : Nat := 0x901000 + 0x20 * i
/-- Voltage full scale, UQ16.16 V -/
def SNS_LINE_VFS (i : Nat) : Nat := 0x901004 + 0x20 * i
/-- Current full scale, UQ16.16 A -/
def SNS_LINE_IFS (i : Nat) : Nat := 0x901008 + 0x20 * i
/-- Lower limit, UQ16.16 Ω -/
def SNS_LINE_LO (i : Nat) : Nat := 0x90100C + 0x20 * i
/-- Upper limit, UQ16.16 Ω -/
def SNS_LINE_HI (i : Nat) : Nat := 0x901010 + 0x20 * i
/-- VMIN [15:0], Q8.8 dBFS -/
def SNS_LINE_VMIN (i : Nat) : Nat := 0x901014 + 0x20 * i
/-- Z of the last supervised window -/
def SNS_LINE_Z (i : Nat) : Nat := 0x901018 + 0x20 * i
/-- PHZ [31:16], FAULT [4], STATE [1:0]: 0 OK, 1 LOW, 2 HIGH, 3 UNSUP -/
def SNS_LINE_STAT (i : Nat) : Nat := 0x90101C + 0x20 * i

-- MAC and the stream engine (R388, R389)

/-- Port control -/
def MAC_CTL (i : Nat) : Nat := 0xA00000 + 0x80000 * i
/-- Link status -/
def MAC_STATUS (i : Nat) : Nat := 0xA00004 + 0x80000 * i
/-- Events; interrupt sources -/
def MAC_EVT (i : Nat) : Nat := 0xA00008 + 0x80000 * i
/-- Station address bytes 0 to 3 -/
def MAC_ADDR_LO (i : Nat) : Nat := 0xA0000C + 0x80000 * i
/-- Bytes 4 and 5 in bits [15:0] -/
def MAC_ADDR_HI (i : Nat) : Nat := 0xA00010 + 0x80000 * i
/-- MAC_MAXLEN [13:0], 1,518 to 9,216 -/
def MAC_MAXLEN (i : Nat) : Nat := 0xA00014 + 0x80000 * i
/-- Multicast hash bits 0 to 31 -/
def MAC_MCHASH_LO (i : Nat) : Nat := 0xA00018 + 0x80000 * i
/-- Bits 32 to 63 -/
def MAC_MCHASH_HI (i : Nat) : Nat := 0xA0001C + 0x80000 * i
/-- i = 0 to 7: UDP port [15:0], EN [31] -/
def MAC_SVC_PORT (i : Nat) (j : Nat) : Nat := 0xA00020 + 0x80000 * i + 0x4 * j
/-- RX [15:0] and TX [31:16], signed ns -/
def MAC_TS_LAT (i : Nat) : Nat := 0xA00040 + 0x80000 * i
/-- NS of the oldest entry; a read removes it -/
def MAC_TSQ_RX_LO (i : Nat) : Nat := 0xA00044 + 0x80000 * i
/-- VALID [31], TAG [19:16], ID [15:0], as latched -/
def MAC_TSQ_RX_HI (i : Nat) : Nat := 0xA00048 + 0x80000 * i
/-- As MAC_TSQ_RX_LO -/
def MAC_TSQ_TX_LO (i : Nat) : Nat := 0xA0004C + 0x80000 * i
/-- As MAC_TSQ_RX_HI -/
def MAC_TSQ_TX_HI (i : Nat) : Nat := 0xA00050 + 0x80000 * i
/-- Discarded timestamps: RX [15:0], TX [31:16] -/
def MAC_TS_OVF (i : Nat) : Nat := 0xA00054 + 0x80000 * i
/-- THR [15:0], WIN [31:16] ms -/
def MAC_FCS_CFG (i : Nat) : Nat := 0xA00058 + 0x80000 * i
/-- SNAP [0], CLR [1] -/
def MAC_SNAP (i : Nat) : Nat := 0xA0005C + 0x80000 * i
/-- Source address of stream packets -/
def MAC_IPV4 (i : Nat) : Nat := 0xA00060 + 0x80000 * i
/-- Ring q address ÷ 64 -/
def MAC_RING_BASE (i : Nat) (j : Nat) : Nat := 0xA00100 + 0x80000 * i + 0x20 * j
/-- SIZE [3:0], 4 to 12 -/
def MAC_RING_SIZE (i : Nat) (j : Nat) : Nat := 0xA00104 + 0x80000 * i + 0x20 * j
/-- Device position [11:0] -/
def MAC_RING_HEAD (i : Nat) (j : Nat) : Nat := 0xA00108 + 0x80000 * i + 0x20 * j
/-- Software position [11:0] -/
def MAC_RING_TAIL (i : Nat) (j : Nat) : Nat := 0xA0010C + 0x80000 * i + 0x20 * j
/-- Receive buffer bytes [13:0] -/
def MAC_RING_BUF (i : Nat) (j : Nat) : Nat := 0xA00110 + 0x80000 * i + 0x20 * j
/-- Snapshot of counter i, bits [31:0] -/
def MAC_STAT_LO (i : Nat) (j : Nat) : Nat := 0xA01000 + 0x80000 * i + 0x8 * j
/-- Bits [63:32] -/
def MAC_STAT_HI (i : Nat) (j : Nat) : Nat := 0xA01004 + 0x80000 * i + 0x8 * j
/-- EN [0]; EPOCH_ID [11:8], 0 none -/
def STR_CTL : Nat := 0xA40000
/-- UNDERRUN [0], LATE [1], EARLY [2], FORMAT [3], EPOCH [4], LOST [5] -/
def STR_EVT : Nat := 0xA40004
/-- HOLD_MAX [15:0], samples at the stream rate -/
def STR_HOLD_MAX : Nat := 0xA40008
/-- Receive stream entry, 16 words -/
def STR_RX (i : Nat) (j : Nat) : Nat := 0xA41000 + 0x40 * i + 0x4 * j
/-- Transmit stream entry, 16 words -/
def STR_TX (i : Nat) (j : Nat) : Nat := 0xA43000 + 0x40 * i + 0x4 * j
/-- LOST [0], EPOCH [31:16] -/
def STR_RX_STAT (i : Nat) : Nat := 0xA45000 + 0x10 * i
/-- Sample instants held or ramped -/
def STR_RX_HELD (i : Nat) : Nat := 0xA45004 + 0x10 * i
/-- Packets discarded under R381, R382 or R384 -/
def STR_RX_DROP (i : Nat) : Nat := 0xA45008 + 0x10 * i
/-- As SAI_TXMAP, for port channel 3,072 + c -/
def STR_TXMAP (i : Nat) : Nat := 0xA48000 + 0x4 * i

-- BVL (R433)

/-- Fabric control -/
def BVL_CTL : Nat := 0xB00000
/-- Identity -/
def BVL_NODE : Nat := 0xB00004
/-- Events; interrupt sources -/
def BVL_EVT : Nat := 0xB00008
/-- Unique device ID [31:0] -/
def BVL_UID_LO : Nat := 0xB0000C
/-- Unique device ID [63:32] -/
def BVL_UID_HI : Nat := 0xB00010
/-- Bit d: node d may access, nodes 0 to 31 -/
def BVL_RRA_ALLOW_LO : Nat := 0xB00014
/-- Nodes 32 to 63 -/
def BVL_RRA_ALLOW_HI : Nat := 0xB00018
/-- HOLD_MAX [15:0] of fabric receive channels, samples -/
def BVL_HOLD_MAX : Nat := 0xB0001C
/-- Missing object-blocks -/
def BVL_OBJ_LATE : Nat := 0xB00020
/-- Late channel samples -/
def BVL_CH_LATE : Nat := 0xB00024
/-- Flits without a matching block -/
def BVL_MISALIGN : Nat := 0xB00028
/-- Duplicates discarded -/
def BVL_DUP : Nat := 0xB0002C
/-- Flits discarded at the hop limit -/
def BVL_TTL_DROP : Nat := 0xB00030
/-- Routing table changes -/
def BVL_ROUTE_CHG : Nat := 0xB00034
/-- Discarded probe timestamps -/
def BVL_TS_OVF : Nat := 0xB00038
/-- Bit o mod 32 of BVL_PUB(floor(o ÷ 32)): publish object o -/
def BVL_PUB (i : Nat) : Nat := 0xB00040 + 0x4 * i
/-- EN [0] -/
def PORT_CTL (i : Nat) : Nat := 0xB00100 + 0x40 * i
/-- Port state and peer -/
def PORT_STAT (i : Nat) : Nat := 0xB00104 + 0x40 * i
/-- TX [15:0] and RX [31:16] latency, 1/16 ns -/
def PORT_LAT (i : Nat) : Nat := 0xB00108 + 0x40 * i
/-- Medium delay under R415, 1/16 ns -/
def PORT_DLY (i : Nat) : Nat := 0xB0010C + 0x40 * i
/-- Resend rounds -/
def PORT_RETRY (i : Nat) : Nat := 0xB00110 + 0x40 * i
/-- Flits with a CRC error -/
def PORT_CRC (i : Nat) : Nat := 0xB00114 + 0x40 * i
/-- UP to DOWN transitions -/
def PORT_DOWN (i : Nat) : Nat := 0xB00118 + 0x40 * i
/-- As MAC_TSQ_RX_LO -/
def PORT_TSQ_LO (i : Nat) : Nat := 0xB0011C + 0x40 * i
/-- As MAC_TSQ_RX_HI; ID is the probe sequence; DIR [30]: 0 arrival, 1 departure -/
def PORT_TSQ_HI (i : Nat) : Nat := 0xB00120 + 0x40 * i
/-- Routes to node d -/
def BVL_ROUTE (i : Nat) : Nat := 0xB00400 + 0x4 * i
/-- Target BAR0 address -/
def BVL_RRA_ADDR (i : Nat) : Nat := 0xB00500 + 0x10 * i
/-- Write data, or read result -/
def BVL_RRA_DATA (i : Nat) : Nat := 0xB00504 + 0x10 * i
/-- NODE [5:0], SEAT [6], WRITE [8], GO [31] -/
def BVL_RRA_CMD (i : Nat) : Nat := 0xB00508 + 0x10 * i
/-- RESULT [3:0], TAG [15:8], BUSY [31] -/
def BVL_RRA_STAT (i : Nat) : Nat := 0xB0050C + 0x10 * i
/-- EN [31], NODE [21:16], OBJ [8:0] -/
def BVL_SUB (i : Nat) : Nat := 0xB01000 + 0x4 * i
/-- EN [31], BCAST [30], NODE [21:16], FEED [8:0] -/
def BVL_TXCH (i : Nat) : Nat := 0xB02000 + 0x4 * i
/-- EN [31], NODE [21:16], CH [8:0] -/
def BVL_RXCH (i : Nat) : Nat := 0xB02800 + 0x4 * i

-- TWN (R312)

/-- YIELD [0], RESYNC [1] -/
def TWN_CMD : Nat := 0xC00000
/-- Seat, duty and paths; SEAT from the strap -/
def TWN_STATUS : Nat := 0xC00004
/-- Events; interrupt sources -/
def TWN_EVT : Nat := 0xC00008
/-- EPOCH [15:0] -/
def TWN_EPOCH : Nat := 0xC0000C
/-- Partner FLAGS [7:0], EPOCH [31:16], from its last heartbeat -/
def TWN_PARTNER : Nat := 0xC00010
/-- Own PLAN_CRC under R292 -/
def TWN_PLAN_CRC : Nat := 0xC00014
/-- Last block sent or applied [31:0]; a read latches the high part -/
def TWN_REC_BLK_LO : Nat := 0xC00018
/-- [47:32] in bits [15:0], as latched -/
def TWN_REC_BLK_HI : Nat := 0xC0001C
/-- Path losses -/
def TWN_HB_LOST : Nat := 0xC00020
/-- Detector 0x17 raises -/
def TWN_REC_BAD : Nat := 0xC00024
/-- Tracked writes dropped on the standby -/
def TWN_LOCAL_WR : Nat := 0xC00028
/-- Takeovers by this unit -/
def TWN_TAKEOVERS : Nat := 0xC0002C
/-- Last receipt of a heartbeat to the first live sample at the last takeover, µs, bits [15:0] -/
def TWN_GAP_US : Nat := 0xC00030
/-- Largest C payload in bytes, bits [17:0] -/
def TWN_CTRL_PEAK : Nat := 0xC00034
/-- Tracked writes held to the next block -/
def TWN_LOG_HELD : Nat := 0xC00038

-- DRC (R511)

/-- Service state -/
def DRC_STATUS : Nat := 0xD00000
/-- Events; interrupt sources -/
def DRC_EVT : Nat := 0xD00004
/-- Usable capacity in MiB, bits [13:0]; 0 before training -/
def DRC_USABLE : Nat := 0xD00008
/-- AUTO idle time, controller clocks, bits [7:0] -/
def DRC_IDLE : Nat := 0xD0000C
/-- RETRAIN [0] -/
def DRC_CMD : Nat := 0xD00010
/-- Last MR4 OP[2:0] of channel c in bits [4c + 2:4c] -/
def DRC_MR4 : Nat := 0xD00014
/-- D of channel c in bits [4c + 3:4c] -/
def DRC_DEBT : Nat := 0xD00018
/-- Detector 0x03 raises -/
def DRC_CE_COUNT : Nat := 0xD0001C
/-- Detector 0x04 raises -/
def DRC_UE_COUNT : Nat := 0xD00020
/-- Usable address ÷ 64 of the last uncorrectable unit -/
def DRC_UE_ADDR : Nat := 0xD00024
/-- Excess repayments under R502 -/
def DRC_STALLS : Nat := 0xD00028
/-- Urgent refreshes -/
def DRC_URGENT : Nat := 0xD0002C
/-- Writes dropped under R512 -/
def DRC_REGION_WR : Nat := 0xD00030
/-- Injection target, usable address ÷ 64 -/
def DRC_INJ_ADDR : Nat := 0xD00034
/-- Test point set-up -/
def DRC_TRN_CTL : Nat := 0xD01000
/-- Writing 1 to bit 0 runs a test point -/
def DRC_TRN_GO : Nat := 0xD01004
/-- Test point status -/
def DRC_TRN_STAT : Nat := 0xD01008
/-- VREF_CA [6:0] and VREF_DQ [14:8], as MR12 and MR14 codes -/
def DRC_TRN_VREF : Nat := 0xD0100C
/-- User pattern beat i: DQ [15:0], DMI [17:16] -/
def DRC_TRN_PAT (i : Nat) : Nat := 0xD01100 + 0x4 * i
/-- Entries 0 to 15 DQ and 16 to 17 DMI: WR [6:0], RD [14:8]. Entries 18 to 19 DQS of bytes 0 and 1: WR [6:0], GATE [22:16]. Entries 20 to 25 CA0 to CA5, and 26 CS: DLY [6:0]. -/
def DRC_DLY (i : Nat) (j : Nat) : Nat := 0xD02000 + 0x80 * i + 0x4 * j
/-- Mismatches of bit entry b, bits [15:0], saturating -/
def DRC_TRN_ERR (i : Nat) (j : Nat) : Nat := 0xD02800 + 0x80 * i + 0x4 * j

-- REC (R472)

/-- Recorder state -/
def REC_STATUS : Nat := 0xE00000
/-- Events; interrupt sources -/
def REC_EVT : Nat := 0xE00004
/-- Region offset ÷ 64 -/
def REC_BASE : Nat := 0xE00008
/-- N, slots, bits [19:0] -/
def REC_SIZE : Nat := 0xE0000C
/-- Next slot, bits [19:0] -/
def REC_NEXT : Nat := 0xE00010
/-- Next SEQ, bits [15:0] -/
def REC_SEQ : Nat := 0xE00014
/-- Coalescing window, ms, bits [15:0]: the kept RWIN (R467), or 0x0000_03E8 (1,000 ms) without one -/
def REC_WINDOW : Nat := 0xE00018
/-- Records lost for any cause: a full queue (R461), the power-fail warning (R463), and FULL, OFF or FAILED (R464) -/
def REC_LOST : Nat := 0xE0001C
/-- DATA bytes 0–11 of a submission -/
def REC_SUB_DATA (i : Nat) : Nat := 0xE00020 + 0x4 * i
/-- CODE [7:0], GO [31] -/
def REC_SUBMIT : Nat := 0xE0002C
/-- Submissions dropped -/
def REC_SUB_DROP : Nat := 0xE00030
/-- Slot to fetch, bits [19:0] -/
def REC_RD_SLOT : Nat := 0xE00034
/-- READY [0]; ERASED [1]: the slot is all 0xFF -/
def REC_RD_STAT : Nat := 0xE00038
/-- Fetched bytes 0–31 -/
def REC_RD_DATA (i : Nat) : Nat := 0xE00040 + 0x4 * i
/-- Mirror DRAM address ÷ 64; 0 no mirror -/
def REC_MIR_BASE : Nat := 0xE00060

-- INT (R453)

/-- Events; interrupt sources -/
def INT_EVT : Nat := 0xF00000
/-- Bit d: detector d raised, for d from 0x01 to 0x1F; bit 0 reserved -/
def INT_DET0 : Nat := 0xF00004
/-- Bit d − 32, for d from 0x20 to 0x22, bits [2:0] -/
def INT_DET1 : Nat := 0xF00008
/-- Injection bits of R441; bits 25, 26, 27 and 29 are GW, the others W1S; bit 0 reserved. A write from outside the Gauntlet acts on the W1S bits only, and counts as denied only if it writes a 1 to a GW bit (R263). -/
def INT_INJ0 : Nat := 0xF0000C
/-- Injection bits for 0x20 to 0x22, bits [2:0] -/
def INT_INJ1 : Nat := 0xF00010
/-- Injection writes refused -/
def INT_INJ_REFUSED : Nat := 0xF00014
/-- ARRAY [27:24]; WORD [20:0], 64-bit word index -/
def INT_SRAM_TGT : Nat := 0xF00018
/-- BIT0 [5:0]; BIT1 [13:8] -/
def INT_SRAM_BITS : Nat := 0xF0001C
/-- Detector 0x01 raises -/
def INT_SRAM_CE_COUNT : Nat := 0xF00020
/-- Detector 0x02 raises -/
def INT_SRAM_UE_COUNT : Nat := 0xF00024
/-- ARRAY [27:24], WORD [20:0] of the last SRAM error -/
def INT_SRAM_LAST : Nat := 0xF00028
/-- SEL0 [7:0], SEL1 [15:8], SEL2 [23:16], SEL3 [31:24] -/
def INT_TM_SEL : Nat := 0xF0002C
/-- Test multiplexer control -/
def INT_TM_CTL : Nat := 0xF00030
/-- LOCK [0], KEY [15:8] -/
def INT_DBG_LOCK : Nat := 0xF00034

-- CFG (R260)

/-- Load source -/
def CFG_LOAD_CTL : Nat := 0x1000000
/-- Source address ÷ 64 -/
def CFG_LOAD_ADDR : Nat := 0x1000004
/-- Writing 1 to bit 0 starts a load -/
def CFG_LOAD_GO : Nat := 0x1000008
/-- Swap request -/
def CFG_SWAP : Nat := 0x100000C
/-- Set states and errors -/
def CFG_STATUS : Nat := 0x1000010
/-- Events; interrupt sources -/
def CFG_EVT : Nat := 0x1000014
/-- Image byte offset of the last load failure -/
def CFG_ERR_OFFSET : Nat := 0x1000018
/-- Bytes processed by the current or last load -/
def CFG_LOAD_DONE : Nat := 0x100001C
/-- IMAGE_ID of the active set -/
def CFG_ACTIVE_ID : Nat := 0x1000020
/-- IMAGE_ID of the shadow set -/
def CFG_SHADOW_ID : Nat := 0x1000024
/-- Block m of the last swap [31:0]; a read latches the high part -/
def CFG_SWAP_BLK_LO : Nat := 0x1000028
/-- Block m [47:32] in bits [15:0], as latched -/
def CFG_SWAP_BLK_HI : Nat := 0x100002C
/-- Periodic check interval in seconds, bits [15:0]; 0 disables -/
def CFG_CHECK_PERIOD : Nat := 0x1000030
/-- Failed periodic checks -/
def CFG_CHECK_FAIL : Nat := 0x1000034
/-- Failed loads -/
def CFG_LOAD_FAIL : Nat := 0x1000038
/-- Swaps that took effect -/
def CFG_SWAPS : Nat := 0x100003C
/-- Key slot states -/
def CFG_KEYSLOT : Nat := 0x1000040
/-- Fuse command -/
def CFG_FUSE_CTL : Nat := 0x1000044
/-- Key hash to program -/
def CFG_FUSE_HASH (i : Nat) : Nat := 0x1000060 + 0x4 * i
/-- CRC of active section type t, for t from 0x01 to 0x10; 0 if absent -/
def CFG_SECT_CRC (i : Nat) : Nat := 0x1000080 + 0x4 * i

-- HST (R555)

/-- DEVICE [15:0], REV [23:16] -/
def HST_ID : Nat := 0x1100000
/-- LINK [0]; WIDTH [2:1]; SPEED [5:4], 1 to 3 for Gen1 to Gen3; SVC_RUN [8] -/
def HST_STATUS : Nat := 0x1100004
/-- NARROW_WR [0], MBX_ERR [1], PCIE_LINK [2], FLASH_REFUSED [3], SVC_RESTART [4] -/
def HST_EVT : Nat := 0x1100008
/-- Narrow writes ignored -/
def HST_NARROW_WR : Nat := 0x110000C
/-- Sources of R541 -/
def HST_IRQ_SRC : Nat := 0x1100010
/-- Source enables -/
def HST_IRQ_EN : Nat := 0x1100014
/-- Sources that drive HOST_IRQ_N -/
def HST_IRQ_PIN : Nat := 0x1100018
/-- Latched sources 22 and 30 -/
def HST_IRQ_LATCH : Nat := 0x110001C
/-- Vector of source 4i + j in bits [8j + 4:8j] -/
def HST_IRQ_VEC (i : Nat) : Nat := 0x1100020 + 0x4 * i
/-- Vector [4:0] to re-arm -/
def HST_IRQ_EOI : Nat := 0x1100040
/-- Bit c: submit channel c -/
def HST_MBX_DB : Nat := 0x1100100
/-- Bit c: release the response of channel c -/
def HST_MBX_ACK : Nat := 0x1100104
/-- BUSY [3:0], RSP [11:8] -/
def HST_MBX_STAT : Nat := 0x1100108
/-- Bit 1: output -/
def HST_GPIO_DIR : Nat := 0x1100200
/-- Output levels; a 1 sets -/
def HST_GPIO_SET : Nat := 0x1100204
/-- Output levels; a 1 clears -/
def HST_GPIO_CLR : Nat := 0x1100208
/-- Pin levels -/
def HST_GPIO_IN : Nat := 0x110020C
/-- Rising-edge enables -/
def HST_GPIO_RISE : Nat := 0x1100210
/-- Falling-edge enables -/
def HST_GPIO_FALL : Nat := 0x1100214
/-- Edges seen -/
def HST_GPIO_EVT : Nat := 0x1100218
/-- EN [0]; SPEED [2:1]: 0 100 kHz, 1 400 kHz, 2 1 MHz -/
def HST_I2C_CTL (i : Nat) : Nat := 0x1100300 + 0x40 * i
/-- Queue entry of R552; ignored when the queue is full -/
def HST_I2C_CMD (i : Nat) : Nat := 0x1100304 + 0x40 * i
/-- Oldest received byte [7:0]; a read removes it -/
def HST_I2C_RX (i : Nat) : Nat := 0x1100308 + 0x40 * i
/-- DONE [0], NACK [1], ARB_LOST [2], TIMEOUT [3]: W1C. BUSY [8], RX_COUNT [20:16], CMD_FREE [28:24]: RO. -/
def HST_I2C_STAT (i : Nat) : Nat := 0x110030C + 0x40 * i
/-- OPCODE [15:0]; LEN [24:16], 0 to 256 bytes; ADDR_EN [25]; WRITE [26]; DUMMY [30:27] clocks; GO [31] -/
def HST_OSPI_CMD : Nat := 0x1100400
/-- Flash byte address -/
def HST_OSPI_ADDR : Nat := 0x1100404
/-- BUSY [0] RO; DONE [1], ERR [2] and REFUSED [3] W1C -/
def HST_OSPI_STAT : Nat := 0x1100408
/-- 256-byte data buffer -/
def HST_OSPI_BUF (i : Nat) : Nat := 0x1100500 + 0x4 * i
/-- Request words 0 to 15 -/
def HST_MBX_REQ (i : Nat) (j : Nat) : Nat := 0x1101000 + 0x80 * i + 0x4 * j
/-- Response words 0 to 15; written by service firmware -/
def HST_MBX_RSP (i : Nat) (j : Nat) : Nat := 0x1101040 + 0x80 * i + 0x4 * j
/-- 32 entries of 16 bytes -/
def HST_MSIX_ADDR_LO (i : Nat) : Nat := 0x1108000 + 0x10 * i
/-- 32 entries of 16 bytes -/
def HST_MSIX_ADDR_HI (i : Nat) : Nat := 0x1108004 + 0x10 * i
/-- 32 entries of 16 bytes -/
def HST_MSIX_DATA (i : Nat) : Nat := 0x1108008 + 0x10 * i
/-- 32 entries of 16 bytes -/
def HST_MSIX_VCTL (i : Nat) : Nat := 0x110800C + 0x10 * i
/-- Bit v: vector v pending -/
def HST_MSIX_PBA : Nat := 0x1109000

end Reg

/-- The registers of GNT and the Trail tables (R182, R289). -/
def regRows0 : List RegRow := [
  ⟨0x8000, 0x4, 1, 0x4, 1, .gw, 0x60, 0xFF⟩,
  ⟨0x8004, 0x4, 1, 0x4, 1, .gw, 0x14, 0x7FF⟩,
  ⟨0x8008, 0x4, 1, 0x4, 1, .gw, 0x0, 0xFFF⟩,
  ⟨0x9000, 0x10, 256, 0x4, 1, .gw, 0x0, 0xFF⟩,
  ⟨0x9004, 0x10, 256, 0x4, 1, .gw, 0x0, 0x3F3F3F3F⟩,
  ⟨0x9008, 0x10, 256, 0x4, 1, .gw, 0x0, 0x3F3F3F3F⟩,
  ⟨0x900C, 0x10, 256, 0x4, 1, .gw, 0x400000, 0xFFFFFF⟩,
  ⟨0xA000, 0x8, 384, 0x4, 1, .gw, 0x0, 0xFFFFFFFF⟩,
  ⟨0xA004, 0x8, 384, 0x4, 1, .gw, 0x10000000, 0xFFFFFF3F⟩,
  ⟨0xB000, 0x4, 64, 0x4, 1, .gw, 0x0, 0xC70F01FF⟩,
  ⟨0xB100, 0x4, 32, 0x4, 1, .gw, 0x0, 0x870F0000⟩,
  ⟨0x0, 0x4, 1, 0x4, 1, .gw, 0x0, 0x3F7⟩,
  ⟨0x4, 0x4, 1, 0x4, 1, .ro, 0x1, 0x0⟩,
  ⟨0x8, 0x4, 1, 0x4, 1, .ro, 0x0, 0x0⟩,
  ⟨0xC, 0x4, 1, 0x4, 1, .gw, 0x0, 0xFFFFFFFF⟩,
  ⟨0x10, 0x4, 1, 0x4, 1, .ro, 0x0, 0x0⟩,
  ⟨0x14, 0x4, 1, 0x4, 1, .gw, 0x64, 0xFFFF⟩,
  ⟨0x18, 0x4, 1, 0x4, 1, .gw, 0x0, 0xFFFFFFFF⟩,
  ⟨0x1C, 0x4, 1, 0x4, 1, .ro, 0x0, 0x0⟩,
  ⟨0x20, 0x4, 1, 0x4, 1, .gw, 0xFF14, 0xFF0FFFFF⟩,
  ⟨0x24, 0x4, 1, 0x4, 1, .gw, 0x0, 0xE⟩,
  ⟨0x28, 0x4, 1, 0x4, 1, .gw, 0x0, 0x1FF⟩,
  ⟨0x2C, 0x4, 1, 0x4, 1, .gw, 0x300, 0xF01⟩,
  ⟨0x30, 0x4, 1, 0x4, 1, .gw, 0x0, 0x3⟩,
  ⟨0x34, 0x4, 1, 0x4, 1, .gw, 0x0, 0xFFFFFFFF⟩,
  ⟨0x38, 0x4, 1, 0x4, 1, .gw, 0x0, 0xFFFFFFFF⟩,
  ⟨0x40, 0x4, 14, 0x4, 1, .gw, 0x0, 0xFFFFFFFF⟩,
  ⟨0x100, 0x10, 4, 0x4, 1, .gw, 0x0, 0xFFFFF⟩,
  ⟨0x104, 0x10, 4, 0x4, 1, .gw, 0x0, 0xFFFFF⟩,
  ⟨0x108, 0x10, 4, 0x4, 1, .gw, 0x0, 0xFFFFFFF3⟩,
  ⟨0x10C, 0x10, 4, 0x4, 1, .gw, 0x0, 0x80FFFFFF⟩,
  ⟨0x200, 0x10, 16, 0x4, 1, .gw, 0x0, 0xFFFF03FF⟩,
  ⟨0x204, 0x10, 16, 0x4, 1, .gw, 0x400000, 0xFFFFFF⟩,
  ⟨0x208, 0x10, 16, 0x4, 1, .ro, 0x0, 0x0⟩,
  ⟨0x400, 0x4, 8, 0x4, 1, .rw, 0x0, 0xFFFFFFFF⟩,
  ⟨0x420, 0x4, 1, 0x4, 1, .wo, 0x0, 0x0⟩,
  ⟨0x424, 0x4, 1, 0x4, 1, .ro, 0x0, 0x0⟩,
  ⟨0x440, 0x4, 8, 0x4, 1, .rw, 0x0, 0xFFFFFFFF⟩,
  ⟨0x460, 0x4, 1, 0x4, 1, .wo, 0x0, 0x0⟩,
  ⟨0x464, 0x4, 1, 0x4, 1, .ro, 0x0, 0x0⟩]

/-- The registers of PWR and CLK (R59, R491, R532). -/
def regRows1 : List RegRow := [
  ⟨0x100100, 0x4, 1, 0x4, 1, .rw, 0x2, 0xF⟩,
  ⟨0x100104, 0x4, 1, 0x4, 1, .ro, 0x111, 0x0⟩,
  ⟨0x100108, 0x4, 1, 0x4, 1, .w1c, 0x0, 0x1F⟩,
  ⟨0x10010C, 0x4, 1, 0x4, 1, .ro, 0x110, 0x0⟩,
  ⟨0x100110, 0x4, 1, 0x4, 1, .rc, 0x0, 0x0⟩,
  ⟨0x100000, 0x4, 1, 0x4, 1, .ro, 0x0, 0x0⟩,
  ⟨0x100004, 0x4, 1, 0x4, 1, .w1c, 0x0, 0xFF⟩,
  ⟨0x100008, 0x4, 1, 0x4, 1, .ro, 0x0, 0x0⟩,
  ⟨0x10000C, 0x4, 1, 0x4, 1, .ro, 0x0, 0x0⟩,
  ⟨0x100010, 0x4, 1, 0x4, 1, .rc, 0x8000, 0x0⟩,
  ⟨0x100014, 0x4, 1, 0x4, 1, .rw, 0x6900, 0xFFFF⟩,
  ⟨0x100018, 0x4, 1, 0x4, 1, .rw, 0x7300, 0xFFFF⟩,
  ⟨0x10001C, 0x4, 1, 0x4, 1, .rc, 0x0, 0x0⟩,
  ⟨0x100300, 0x4, 1, 0x4, 1, .rw, 0x0, 0xFFFFFFFF⟩,
  ⟨0x100304, 0x4, 1, 0x4, 1, .rw, 0x0, 0xFFFFFFFF⟩,
  ⟨0x100308, 0x4, 1, 0x4, 1, .rw, 0x0, 0x331⟩,
  ⟨0x10030C, 0x4, 1, 0x4, 1, .ro, 0x80, 0x0⟩,
  ⟨0x100310, 0x4, 1, 0x4, 1, .ro, 0x0, 0x0⟩,
  ⟨0x100340, 0x4, 2, 0x4, 1, .ro, 0x0, 0x0⟩,
  ⟨0x100348, 0x4, 14, 0x4, 1, .rw, 0x0, 0xFFFFFFFF⟩,
  ⟨0x100200, 0x4, 1, 0x4, 1, .rw, 0x3FFF, 0x3FFF⟩,
  ⟨0x100204, 0x4, 1, 0x4, 1, .ro, 0x3FFF, 0x0⟩,
  ⟨0x100208, 0x4, 1, 0x4, 1, .ro, 0x0, 0x0⟩,
  ⟨0x10020C, 0x4, 1, 0x4, 1, .w1c, 0x0, 0x7F⟩,
  ⟨0x100210, 0x4, 1, 0x4, 1, .rw, 0x7, 0x1C⟩,
  ⟨0x100214, 0x4, 1, 0x4, 1, .ro, 0x0, 0x0⟩,
  ⟨0x100218, 0x4, 1, 0x4, 1, .rw, 0x0, 0x9F07⟩,
  ⟨0x10021C, 0x4, 1, 0x4, 1, .mixed, 0x200, 0x3FF⟩,
  ⟨0x100220, 0x4, 1, 0x4, 1, .ro, 0x0, 0x0⟩,
  ⟨0x100224, 0x4, 1, 0x4, 1, .rc, 0x0, 0x0⟩,
  ⟨0x100228, 0x4, 1, 0x4, 1, .wo, 0x0, 0x0⟩]

/-- The registers of TIM (R410). -/
def regRows2 : List RegRow := [
  ⟨0x200000, 0x4, 1, 0x4, 1, .ro, 0x0, 0x0⟩,
  ⟨0x200004, 0x4, 1, 0x4, 1, .ro, 0x0, 0x0⟩,
  ⟨0x200008, 0x4, 1, 0x4, 1, .ro, 0x0, 0x0⟩,
  ⟨0x20000C, 0x4, 1, 0x4, 1, .ro, 0x0, 0x0⟩,
  ⟨0x200010, 0x4, 1, 0x4, 1, .rw, 0x5161555, 0xFFFFFFFF⟩,
  ⟨0x200014, 0x4, 1, 0x4, 1, .rw, 0x0, 0xFFFFFFFF⟩,
  ⟨0x200018, 0x4, 1, 0x4, 1, .rw, 0x1, 0x1⟩,
  ⟨0x20001C, 0x4, 1, 0x4, 1, .rw, 0x0, 0xFFFFFFFF⟩,
  ⟨0x200020, 0x4, 1, 0x4, 1, .rw, 0x0, 0xF⟩,
  ⟨0x200024, 0x4, 1, 0x4, 1, .rw, 0x0, 0xFFFFFFF⟩,
  ⟨0x200028, 0x4, 1, 0x4, 1, .wo, 0x0, 0x0⟩,
  ⟨0x20002C, 0x4, 1, 0x4, 1, .w1c, 0x0, 0xFF⟩,
  ⟨0x200030, 0x4, 1, 0x4, 1, .w1c, 0x0, 0xFFFF⟩,
  ⟨0x200034, 0x4, 1, 0x4, 1, .rc, 0x0, 0x0⟩,
  ⟨0x200038, 0x4, 1, 0x4, 1, .rw, 0x3E8, 0xFFFFFFFF⟩,
  ⟨0x20003C, 0x4, 1, 0x4, 1, .rw, 0x32, 0xFF⟩,
  ⟨0x200040, 0x4, 1, 0x4, 1, .rw, 0x0, 0xFFFFFFFF⟩,
  ⟨0x200044, 0x4, 1, 0x4, 1, .rw, 0x0, 0xFFFFFFFF⟩,
  ⟨0x200048, 0x4, 1, 0x4, 1, .ro, 0x0, 0x0⟩,
  ⟨0x20004C, 0x4, 1, 0x4, 1, .ro, 0x0, 0x0⟩,
  ⟨0x200050, 0x4, 1, 0x4, 1, .ro, 0x0, 0x0⟩,
  ⟨0x200100, 0x10, 16, 0x4, 1, .rw, 0x0, 0xFFFFFFFF⟩,
  ⟨0x200104, 0x10, 16, 0x4, 1, .rw, 0x0, 0x8000000F⟩,
  ⟨0x200108, 0x10, 16, 0x4, 1, .rw, 0x0, 0xFFFFFFFF⟩,
  ⟨0x20010C, 0x10, 16, 0x4, 1, .rw, 0x0, 0x3FFFFF⟩,
  ⟨0x200200, 0x4, 4, 0x4, 1, .rw, 0x0, 0x8FFFFF1F⟩]

/-- The registers of SCH (R235). -/
def regRows3 : List RegRow := [
  ⟨0x300000, 0x4, 1, 0x4, 1, .wo, 0x0, 0x0⟩,
  ⟨0x300004, 0x4, 1, 0x4, 1, .wo, 0x0, 0x0⟩,
  ⟨0x300008, 0x4, 1, 0x4, 1, .ro, 0x0, 0x0⟩,
  ⟨0x30000C, 0x4, 1, 0x4, 1, .w1c, 0x0, 0x3F⟩,
  ⟨0x300010, 0x4, 1, 0x4, 1, .rc, 0x0, 0x0⟩,
  ⟨0x300014, 0x4, 1, 0x4, 1, .rc, 0x0, 0x0⟩,
  ⟨0x300018, 0x4, 1, 0x4, 1, .rc, 0x0, 0x0⟩,
  ⟨0x30001C, 0x4, 1, 0x4, 1, .rc, 0x0, 0x0⟩,
  ⟨0x300020, 0x4, 1, 0x4, 1, .ro, 0x0, 0x0⟩,
  ⟨0x300024, 0x4, 1, 0x4, 1, .rw, 0x0, 0x3FF⟩,
  ⟨0x300028, 0x4, 1, 0x4, 1, .rc, 0x0, 0x0⟩,
  ⟨0x30002C, 0x4, 1, 0x4, 1, .rc, 0x0, 0x0⟩,
  ⟨0x300030, 0x4, 1, 0x4, 1, .rc, 0x0, 0x0⟩,
  ⟨0x300034, 0x4, 1, 0x4, 1, .ro, 0x0, 0x0⟩,
  ⟨0x300040, 0x4, 1, 0x4, 1, .rw, 0x0, 0x30F⟩,
  ⟨0x300044, 0x4, 1, 0x4, 1, .ro, 0x0, 0x0⟩,
  ⟨0x300048, 0x4, 1, 0x4, 1, .rw, 0x0, 0xFFFFFFFF⟩,
  ⟨0x30004C, 0x4, 1, 0x4, 1, .rw, 0x0, 0xFFFF⟩,
  ⟨0x300050, 0x4, 1, 0x4, 1, .ro, 0x0, 0x0⟩,
  ⟨0x300054, 0x4, 1, 0x4, 1, .rc, 0x0, 0x0⟩]

/-- The registers of GEO, RND and the block sequencer (R42, R90, R123). -/
def regRows4 : List RegRow := [
  ⟨0x400000, 0x4, 1, 0x4, 1, .rw, 0x55C00000, 0xFFFFFFFF⟩,
  ⟨0x400004, 0x4, 1, 0x4, 1, .rw, 0x0, 0xFFFFFFFF⟩,
  ⟨0x400008, 0x4, 1, 0x4, 1, .rw, 0x0, 0xFFFFFFFF⟩,
  ⟨0x40000C, 0x4, 1, 0x4, 1, .rw, 0x0, 0xFFFFFFFF⟩,
  ⟨0x400010, 0x4, 1, 0x4, 1, .rw, 0x0, 0x1⟩,
  ⟨0x400014, 0x4, 1, 0x4, 1, .ro, 0x0, 0x0⟩,
  ⟨0x400018, 0x4, 1, 0x4, 1, .w1c, 0x0, 0x1F⟩,
  ⟨0x40001C, 0x4, 1, 0x4, 1, .ro, 0x0, 0x0⟩,
  ⟨0x400020, 0x4, 1, 0x4, 1, .rc, 0x0, 0x0⟩,
  ⟨0x400024, 0x4, 1, 0x4, 1, .rc, 0x0, 0x0⟩,
  ⟨0x400028, 0x4, 1, 0x4, 1, .rc, 0x0, 0x0⟩,
  ⟨0x40002C, 0x4, 1, 0x4, 1, .rc, 0x0, 0x0⟩,
  ⟨0x400030, 0x4, 1, 0x4, 1, .ro, 0x7FFFFFFF, 0x0⟩,
  ⟨0x401000, 0x4, 1, 0x4, 1, .rw, 0x1E0, 0x3FFFF⟩,
  ⟨0x401004, 0x4, 1, 0x4, 1, .rw, 0x10000, 0xFFFFFF⟩,
  ⟨0x401008, 0x4, 1, 0x4, 1, .w1c, 0x0, 0x1F⟩,
  ⟨0x40100C, 0x4, 1, 0x4, 1, .ro, 0x0, 0x0⟩,
  ⟨0x401010, 0x4, 1, 0x4, 1, .ro, 0x0, 0x0⟩,
  ⟨0x401014, 0x4, 1, 0x4, 1, .rc, 0x0, 0x0⟩,
  ⟨0x401018, 0x4, 1, 0x4, 1, .rc, 0x0, 0x0⟩,
  ⟨0x40101C, 0x4, 1, 0x4, 1, .ro, 0x0, 0x0⟩,
  ⟨0x401020, 0x4, 1, 0x4, 1, .rc, 0x0, 0x0⟩,
  ⟨0x401024, 0x4, 1, 0x4, 1, .rc, 0x0, 0x0⟩,
  ⟨0x401028, 0x4, 1, 0x4, 1, .rc, 0x0, 0x0⟩,
  ⟨0x40102C, 0x4, 1, 0x4, 1, .ro, 0x0, 0x0⟩,
  ⟨0x401030, 0x4, 1, 0x4, 1, .rc, 0x0, 0x0⟩,
  ⟨0x401034, 0x4, 1, 0x4, 1, .rc, 0x0, 0x0⟩,
  ⟨0x401038, 0x4, 1, 0x4, 1, .ro, 0x3, 0x0⟩,
  ⟨0x40103C, 0x4, 1, 0x4, 1, .rw, 0x0, 0x1FFF⟩,
  ⟨0x401040, 0x4, 1, 0x4, 1, .ro, 0x0, 0x0⟩,
  ⟨0x40F000, 0x4, 1, 0x4, 1, .sw, 0x0, 0xF⟩,
  ⟨0x40F004, 0x4, 1, 0x4, 1, .ro, 0x0, 0x0⟩,
  ⟨0x40F008, 0x4, 1, 0x4, 1, .ro, 0x0, 0x0⟩,
  ⟨0x40F00C, 0x4, 1, 0x4, 1, .ro, 0x0, 0x0⟩,
  ⟨0x40F010, 0x4, 1, 0x4, 1, .ro, 0x0, 0x0⟩,
  ⟨0x40F014, 0x4, 1, 0x4, 1, .ro, 0x0, 0x0⟩,
  ⟨0x40F018, 0x4, 1, 0x4, 1, .rw, 0x7D0, 0xFFFFFFFF⟩,
  ⟨0x40F01C, 0x4, 1, 0x4, 1, .w1c, 0x0, 0xE⟩,
  ⟨0x40F020, 0x4, 1, 0x4, 1, .rc, 0x0, 0x0⟩,
  ⟨0x40F024, 0x4, 1, 0x4, 1, .rc, 0x0, 0x0⟩,
  ⟨0x40F028, 0x4, 1, 0x4, 1, .ro, 0x7FFFFFFF, 0x0⟩,
  ⟨0x40F02C, 0x4, 1, 0x4, 1, .ro, 0x7FFFFFFF, 0x0⟩,
  ⟨0x40F030, 0x4, 1, 0x4, 1, .wo, 0x0, 0x0⟩]

/-- The registers of FIR (R147). -/
def regRows5 : List RegRow := [
  ⟨0x500000, 0x4, 1, 0x4, 1, .rw, 0x1F4, 0x7FF⟩,
  ⟨0x500004, 0x4, 1, 0x4, 1, .wo, 0x0, 0x0⟩,
  ⟨0x500008, 0x4, 1, 0x4, 1, .ro, 0x0, 0x0⟩,
  ⟨0x50000C, 0x4, 1, 0x4, 1, .w1c, 0x0, 0x3F⟩,
  ⟨0x500010, 0x4, 1, 0x4, 1, .ro, 0x1000, 0x0⟩,
  ⟨0x500014, 0x4, 1, 0x4, 1, .ro, 0x0, 0x0⟩,
  ⟨0x500018, 0x4, 1, 0x4, 1, .rc, 0x0, 0x0⟩,
  ⟨0x50001C, 0x4, 1, 0x4, 1, .rc, 0x0, 0x0⟩,
  ⟨0x500020, 0x4, 1, 0x4, 1, .rc, 0x0, 0x0⟩,
  ⟨0x500024, 0x4, 1, 0x4, 1, .rc, 0x0, 0x0⟩,
  ⟨0x500028, 0x4, 1, 0x4, 1, .rc, 0x0, 0x0⟩,
  ⟨0x500080, 0x4, 12, 0x4, 1, .w1c, 0x0, 0xFFFFFFFF⟩,
  ⟨0x501000, 0x10, 384, 0x4, 1, .rw, 0x0, 0x7FFFFFF⟩,
  ⟨0x501004, 0x10, 384, 0x4, 1, .rw, 0x0, 0x7FFFFFF⟩,
  ⟨0x501008, 0x10, 384, 0x4, 1, .rw, 0x0, 0x1FFF1FFF⟩,
  ⟨0x50100C, 0x10, 384, 0x4, 1, .ro, 0x0, 0x0⟩,
  ⟨0x503000, 0x4, 384, 0x4, 1, .ro, 0x80000000, 0x0⟩]

/-- The registers of SCR (R210). -/
def regRows6 : List RegRow := [
  ⟨0x600000, 0x4, 1, 0x4, 1, .ro, 0x0, 0x0⟩,
  ⟨0x600004, 0x4, 1, 0x4, 1, .w1c, 0x0, 0xFFFFFFFF⟩,
  ⟨0x600008, 0x4, 1, 0x4, 1, .w1c, 0x0, 0xFFFFFFFF⟩,
  ⟨0x60000C, 0x4, 1, 0x4, 1, .w1c, 0x0, 0x1F⟩,
  ⟨0x600010, 0x4, 1, 0x4, 1, .rc, 0x0, 0x0⟩,
  ⟨0x600014, 0x4, 1, 0x4, 1, .rc, 0x0, 0x0⟩,
  ⟨0x600018, 0x4, 1, 0x4, 1, .rc, 0x0, 0x0⟩,
  ⟨0x60001C, 0x4, 1, 0x4, 1, .rc, 0x0, 0x0⟩,
  ⟨0x600020, 0x4, 1, 0x4, 1, .ro, 0x0, 0x0⟩,
  ⟨0x600100, 0x10, 32, 0x4, 1, .ro, 0x0, 0x0⟩,
  ⟨0x600104, 0x10, 32, 0x4, 1, .w1c, 0x0, 0xF⟩,
  ⟨0x600108, 0x10, 32, 0x4, 1, .ro, 0x0, 0x0⟩,
  ⟨0x60010C, 0x10, 32, 0x4, 1, .ro, 0x0, 0x0⟩]

/-- The registers of MIX (R180). -/
def regRows7 : List RegRow := [
  ⟨0x700000, 0x4, 1, 0x4, 1, .rw, 0x32, 0x7FF⟩,
  ⟨0x700004, 0x4, 1, 0x4, 1, .rw, 0x60, 0xFF⟩,
  ⟨0x700008, 0x4, 1, 0x4, 1, .rw, 0x32, 0x7FF⟩,
  ⟨0x70000C, 0x4, 1, 0x4, 1, .rw, 0xA, 0x7FF⟩,
  ⟨0x700010, 0x4, 1, 0x4, 1, .ro, 0x0, 0x0⟩,
  ⟨0x700014, 0x4, 1, 0x4, 1, .w1c, 0x0, 0x1F⟩,
  ⟨0x700018, 0x4, 1, 0x4, 1, .rc, 0x0, 0x0⟩,
  ⟨0x70001C, 0x4, 1, 0x4, 1, .rc, 0x0, 0x0⟩,
  ⟨0x700020, 0x4, 1, 0x4, 1, .wo, 0x0, 0x0⟩,
  ⟨0x700400, 0x8, 128, 0x4, 1, .ro, 0x0, 0x0⟩,
  ⟨0x700404, 0x8, 128, 0x4, 1, .ro, 0x0, 0x0⟩]

/-- The registers of SAI (R335). -/
def regRows8 : List RegRow := [
  ⟨0x800000, 0x4, 1, 0x4, 1, .rw, 0x30, 0xFF⟩,
  ⟨0x800004, 0x4, 1, 0x4, 1, .w1c, 0x0, 0x3F⟩,
  ⟨0x800008, 0x4, 1, 0x4, 1, .rc, 0x0, 0x0⟩,
  ⟨0x80000C, 0x4, 1, 0x4, 1, .rc, 0x0, 0x0⟩,
  ⟨0x800010, 0x4, 1, 0x4, 1, .rc, 0x0, 0x0⟩,
  ⟨0x800014, 0x4, 1, 0x4, 1, .rc, 0x0, 0x0⟩,
  ⟨0x800018, 0x4, 1, 0x4, 1, .rc, 0x0, 0x0⟩,
  ⟨0x80001C, 0x4, 1, 0x4, 1, .rc, 0x0, 0x0⟩,
  ⟨0x801000, 0x40, 24, 0x4, 1, .sw, 0x0, 0xFFFFF3FF⟩,
  ⟨0x801004, 0x40, 24, 0x4, 1, .sw, 0x0, 0xFFFFF3FF⟩,
  ⟨0x801008, 0x40, 24, 0x4, 1, .ro, 0x0, 0x0⟩,
  ⟨0x80100C, 0x40, 24, 0x4, 1, .ro, 0x0, 0x0⟩,
  ⟨0x801010, 0x40, 24, 0x4, 1, .ro, 0x0, 0x0⟩,
  ⟨0x801014, 0x40, 24, 0x4, 1, .ro, 0x0, 0x0⟩,
  ⟨0x802000, 0x20, 96, 0x4, 1, .sw, 0x0, 0xF800001F⟩,
  ⟨0x802004, 0x20, 96, 0x4, 1, .rw, 0xFFFF, 0xFFFF⟩,
  ⟨0x802008, 0x20, 96, 0x4, 1, .ro, 0x0, 0x0⟩,
  ⟨0x80200C, 0x20, 96, 0x4, 1, .sw, 0x0, 0x7FFF⟩,
  ⟨0x802010, 0x20, 96, 0x4, 1, .ro, 0x0, 0x0⟩,
  ⟨0x802014, 0x20, 96, 0x4, 1, .sw, 0x0, 0xFFFFFFFF⟩,
  ⟨0x802018, 0x20, 96, 0x4, 1, .sw, 0x0, 0xFFFF⟩,
  ⟨0x803000, 0x20, 4, 0x4, 1, .sw, 0x0, 0x88000000⟩,
  ⟨0x803004, 0x20, 4, 0x4, 1, .ro, 0x0, 0x0⟩,
  ⟨0x803008, 0x20, 4, 0x4, 1, .sw, 0x0, 0x7FFF⟩,
  ⟨0x80300C, 0x20, 4, 0x4, 1, .ro, 0x0, 0x0⟩,
  ⟨0x803010, 0x20, 4, 0x4, 1, .sw, 0x0, 0xFFFFFFFF⟩,
  ⟨0x803014, 0x20, 4, 0x4, 1, .sw, 0x0, 0xFFFF⟩,
  ⟨0x803018, 0x20, 4, 0x4, 1, .ro, 0x0, 0x0⟩,
  ⟨0x80301C, 0x20, 4, 0x4, 1, .ro, 0x0, 0x0⟩,
  ⟨0x804000, 0x4, 1408, 0x4, 1, .sw, 0x0, 0x800001FF⟩]

/-- The registers of SNS (R361). -/
def regRows9 : List RegRow := [
  ⟨0x900000, 0x4, 1, 0x4, 1, .wo, 0x0, 0x0⟩,
  ⟨0x900004, 0x4, 1, 0x4, 1, .sw, 0x1, 0xF3⟩,
  ⟨0x900008, 0x4, 1, 0x4, 1, .ro, 0x0, 0x0⟩,
  ⟨0x90000C, 0x4, 1, 0x4, 1, .w1c, 0x0, 0x1F⟩,
  ⟨0x900010, 0x4, 1, 0x4, 1, .rc, 0x0, 0x0⟩,
  ⟨0x900014, 0x4, 1, 0x4, 1, .rc, 0x0, 0x0⟩,
  ⟨0x900018, 0x4, 1, 0x4, 1, .rc, 0x0, 0x0⟩,
  ⟨0x90001C, 0x4, 1, 0x4, 1, .rw, 0x0, 0x1FF⟩,
  ⟨0x900020, 0x4, 1, 0x4, 1, .ro, 0x0, 0x0⟩,
  ⟨0x900024, 0x4, 1, 0x4, 1, .ro, 0x0, 0x0⟩,
  ⟨0x900100, 0x20, 8, 0x4, 1, .sw, 0x0, 0xF800FFFF⟩,
  ⟨0x900104, 0x20, 8, 0x4, 1, .wo, 0x0, 0x0⟩,
  ⟨0x900108, 0x20, 8, 0x4, 1, .ro, 0x0, 0x0⟩,
  ⟨0x90010C, 0x20, 8, 0x4, 1, .sw, 0x0, 0xFFFFFFFF⟩,
  ⟨0x900110, 0x20, 8, 0x4, 1, .sw, 0x0, 0xFFFF⟩,
  ⟨0x900114, 0x20, 8, 0x4, 1, .ro, 0x0, 0x0⟩,
  ⟨0x900800, 0x10, 128, 0x4, 1, .ro, 0x0, 0x0⟩,
  ⟨0x900804, 0x10, 128, 0x4, 1, .ro, 0x0, 0x0⟩,
  ⟨0x900808, 0x10, 128, 0x4, 1, .ro, 0x0, 0x0⟩,
  ⟨0x901000, 0x20, 64, 0x4, 1, .rw, 0x30000, 0x800F01FF⟩,
  ⟨0x901004, 0x20, 64, 0x4, 1, .rw, 0x0, 0xFFFFFFFF⟩,
  ⟨0x901008, 0x20, 64, 0x4, 1, .rw, 0x0, 0xFFFFFFFF⟩,
  ⟨0x90100C, 0x20, 64, 0x4, 1, .rw, 0x0, 0xFFFFFFFF⟩,
  ⟨0x901010, 0x20, 64, 0x4, 1, .rw, 0xFFFFFFFF, 0xFFFFFFFF⟩,
  ⟨0x901014, 0x20, 64, 0x4, 1, .rw, 0xE200, 0xFFFF⟩,
  ⟨0x901018, 0x20, 64, 0x4, 1, .ro, 0x0, 0x0⟩,
  ⟨0x90101C, 0x20, 64, 0x4, 1, .ro, 0x3, 0x0⟩]

/-- The registers of MAC and the stream engine (R388, R389). -/
def regRows10 : List RegRow := [
  ⟨0xA00000, 0x80000, 2, 0x4, 1, .sw, 0x40, 0xFF⟩,
  ⟨0xA00004, 0x80000, 2, 0x4, 1, .ro, 0x0, 0x0⟩,
  ⟨0xA00008, 0x80000, 2, 0x4, 1, .w1c, 0x0, 0x3F⟩,
  ⟨0xA0000C, 0x80000, 2, 0x4, 1, .sw, 0x0, 0xFFFFFFFF⟩,
  ⟨0xA00010, 0x80000, 2, 0x4, 1, .sw, 0x0, 0xFFFF⟩,
  ⟨0xA00014, 0x80000, 2, 0x4, 1, .sw, 0x5F2, 0x3FFF⟩,
  ⟨0xA00018, 0x80000, 2, 0x4, 1, .rw, 0x0, 0xFFFFFFFF⟩,
  ⟨0xA0001C, 0x80000, 2, 0x4, 1, .rw, 0x0, 0xFFFFFFFF⟩,
  ⟨0xA00020, 0x80000, 2, 0x4, 8, .sw, 0x0, 0x8000FFFF⟩,
  ⟨0xA00040, 0x80000, 2, 0x4, 1, .sw, 0x0, 0xFFFFFFFF⟩,
  ⟨0xA00044, 0x80000, 2, 0x4, 1, .ro, 0x0, 0x0⟩,
  ⟨0xA00048, 0x80000, 2, 0x4, 1, .ro, 0x0, 0x0⟩,
  ⟨0xA0004C, 0x80000, 2, 0x4, 1, .ro, 0x0, 0x0⟩,
  ⟨0xA00050, 0x80000, 2, 0x4, 1, .ro, 0x0, 0x0⟩,
  ⟨0xA00054, 0x80000, 2, 0x4, 1, .rc, 0x0, 0x0⟩,
  ⟨0xA00058, 0x80000, 2, 0x4, 1, .sw, 0x3E8000A, 0xFFFFFFFF⟩,
  ⟨0xA0005C, 0x80000, 2, 0x4, 1, .wo, 0x0, 0x0⟩,
  ⟨0xA00060, 0x80000, 2, 0x4, 1, .sw, 0x0, 0xFFFFFFFF⟩,
  ⟨0xA00100, 0x80000, 2, 0x20, 4, .rw, 0x0, 0xFFFFFFFF⟩,
  ⟨0xA00104, 0x80000, 2, 0x20, 4, .rw, 0x4, 0xF⟩,
  ⟨0xA00108, 0x80000, 2, 0x20, 4, .ro, 0x0, 0x0⟩,
  ⟨0xA0010C, 0x80000, 2, 0x20, 4, .rw, 0x0, 0xFFF⟩,
  ⟨0xA00110, 0x80000, 2, 0x20, 4, .rw, 0x2400, 0x3FFF⟩,
  ⟨0xA01000, 0x80000, 2, 0x8, 64, .ro, 0x0, 0x0⟩,
  ⟨0xA01004, 0x80000, 2, 0x8, 64, .ro, 0x0, 0x0⟩,
  ⟨0xA40000, 0x4, 1, 0x4, 1, .sw, 0x0, 0xF01⟩,
  ⟨0xA40004, 0x4, 1, 0x4, 1, .w1c, 0x0, 0x3F⟩,
  ⟨0xA40008, 0x4, 1, 0x4, 1, .sw, 0x12C0, 0xFFFF⟩,
  ⟨0xA41000, 0x40, 128, 0x4, 1, .sw, 0x0, 0xFF00007F⟩,
  ⟨0xA41004, 0x40, 128, 0x4, 1, .sw, 0x0, 0x3FF⟩,
  ⟨0xA41008, 0x40, 128, 0x4, 1, .sw, 0x0, 0xFFFFFFFF⟩,
  ⟨0xA4100C, 0x40, 128, 0x4, 1, .sw, 0x0, 0xFFFFFFFF⟩,
  ⟨0xA41010, 0x40, 128, 0x4, 1, .sw, 0x0, 0xFFFFFFFF⟩,
  ⟨0xA41014, 0x40, 128, 0x4, 1, .sw, 0x0, 0xFFFFFFFF⟩,
  ⟨0xA41018, 0x40, 128, 0x4, 1, .sw, 0x0, 0xFFFFFFFF⟩,
  ⟨0xA4101C, 0x40, 128, 0x4, 1, .sw, 0x0, 0xFFFFFFFF⟩,
  ⟨0xA41020, 0x40, 128, 0x4, 1, .sw, 0x0, 0xFFFFFFFF⟩,
  ⟨0xA41024, 0x40, 128, 0x4, 1, .sw, 0x0, 0xFF3F7F⟩,
  ⟨0xA41028, 0x40, 128, 0x4, 1, .sw, 0x0, 0xFFFF⟩,
  ⟨0xA4102C, 0x40, 128, 0x4, 1, .sw, 0x0, 0x3FFF⟩,
  ⟨0xA41030, 0x40, 128, 0x4, 1, .sw, 0x0, 0x3FFF⟩,
  ⟨0xA43000, 0x40, 128, 0x4, 1, .sw, 0x0, 0xFF00007F⟩,
  ⟨0xA43004, 0x40, 128, 0x4, 1, .sw, 0x0, 0x3FF⟩,
  ⟨0xA43008, 0x40, 128, 0x4, 1, .sw, 0x0, 0xFFFFFFFF⟩,
  ⟨0xA4300C, 0x40, 128, 0x4, 1, .sw, 0x0, 0xFFFFFFFF⟩,
  ⟨0xA43010, 0x40, 128, 0x4, 1, .sw, 0x0, 0xFFFFFFFF⟩,
  ⟨0xA43014, 0x40, 128, 0x4, 1, .sw, 0x0, 0xFFFFFFFF⟩,
  ⟨0xA43018, 0x40, 128, 0x4, 1, .sw, 0x0, 0xFFFFFFFF⟩,
  ⟨0xA4301C, 0x40, 128, 0x4, 1, .sw, 0x0, 0xFFFFFFFF⟩,
  ⟨0xA43020, 0x40, 128, 0x4, 1, .sw, 0x0, 0xFFFFFFFF⟩,
  ⟨0xA43024, 0x40, 128, 0x4, 1, .sw, 0x0, 0xFF3F7F⟩,
  ⟨0xA43028, 0x40, 128, 0x4, 1, .sw, 0x0, 0xFFFF⟩,
  ⟨0xA4302C, 0x40, 128, 0x4, 1, .sw, 0x0, 0x3FFF⟩,
  ⟨0xA43030, 0x40, 128, 0x4, 1, .sw, 0x0, 0x3FFF⟩,
  ⟨0xA45000, 0x10, 128, 0x4, 1, .ro, 0x0, 0x0⟩,
  ⟨0xA45004, 0x10, 128, 0x4, 1, .rc, 0x0, 0x0⟩,
  ⟨0xA45008, 0x10, 128, 0x4, 1, .rc, 0x0, 0x0⟩,
  ⟨0xA48000, 0x4, 1024, 0x4, 1, .sw, 0x0, 0x800001FF⟩]

/-- The registers of BVL (R433). -/
def regRows11 : List RegRow := [
  ⟨0xB00000, 0x4, 1, 0x4, 1, .sw, 0xF000, 0x3FF00F⟩,
  ⟨0xB00004, 0x4, 1, 0x4, 1, .ro, 0x0, 0x0⟩,
  ⟨0xB00008, 0x4, 1, 0x4, 1, .w1c, 0x0, 0x7F⟩,
  ⟨0xB0000C, 0x4, 1, 0x4, 1, .ro, 0x0, 0x0⟩,
  ⟨0xB00010, 0x4, 1, 0x4, 1, .ro, 0x0, 0x0⟩,
  ⟨0xB00014, 0x4, 1, 0x4, 1, .sw, 0x0, 0xFFFFFFFF⟩,
  ⟨0xB00018, 0x4, 1, 0x4, 1, .sw, 0x0, 0xFFFFFFFF⟩,
  ⟨0xB0001C, 0x4, 1, 0x4, 1, .sw, 0x12C0, 0xFFFF⟩,
  ⟨0xB00020, 0x4, 1, 0x4, 1, .rc, 0x0, 0x0⟩,
  ⟨0xB00024, 0x4, 1, 0x4, 1, .rc, 0x0, 0x0⟩,
  ⟨0xB00028, 0x4, 1, 0x4, 1, .rc, 0x0, 0x0⟩,
  ⟨0xB0002C, 0x4, 1, 0x4, 1, .rc, 0x0, 0x0⟩,
  ⟨0xB00030, 0x4, 1, 0x4, 1, .rc, 0x0, 0x0⟩,
  ⟨0xB00034, 0x4, 1, 0x4, 1, .rc, 0x0, 0x0⟩,
  ⟨0xB00038, 0x4, 1, 0x4, 1, .rc, 0x0, 0x0⟩,
  ⟨0xB00040, 0x4, 16, 0x4, 1, .sw, 0x0, 0xFFFFFFFF⟩,
  ⟨0xB00100, 0x40, 6, 0x4, 1, .sw, 0x0, 0x1⟩,
  ⟨0xB00104, 0x40, 6, 0x4, 1, .ro, 0x0, 0x0⟩,
  ⟨0xB00108, 0x40, 6, 0x4, 1, .ro, 0x0, 0x0⟩,
  ⟨0xB0010C, 0x40, 6, 0x4, 1, .ro, 0x0, 0x0⟩,
  ⟨0xB00110, 0x40, 6, 0x4, 1, .rc, 0x0, 0x0⟩,
  ⟨0xB00114, 0x40, 6, 0x4, 1, .rc, 0x0, 0x0⟩,
  ⟨0xB00118, 0x40, 6, 0x4, 1, .rc, 0x0, 0x0⟩,
  ⟨0xB0011C, 0x40, 6, 0x4, 1, .ro, 0x0, 0x0⟩,
  ⟨0xB00120, 0x40, 6, 0x4, 1, .ro, 0x0, 0x0⟩,
  ⟨0xB00400, 0x4, 64, 0x4, 1, .ro, 0xF7F7, 0x0⟩,
  ⟨0xB00500, 0x10, 4, 0x4, 1, .rw, 0x0, 0xFFFFFFFF⟩,
  ⟨0xB00504, 0x10, 4, 0x4, 1, .rw, 0x0, 0xFFFFFFFF⟩,
  ⟨0xB00508, 0x10, 4, 0x4, 1, .wo, 0x0, 0x0⟩,
  ⟨0xB0050C, 0x10, 4, 0x4, 1, .ro, 0x0, 0x0⟩,
  ⟨0xB01000, 0x4, 512, 0x4, 1, .sw, 0x0, 0x803F01FF⟩,
  ⟨0xB02000, 0x4, 512, 0x4, 1, .sw, 0x0, 0xC03F01FF⟩,
  ⟨0xB02800, 0x4, 512, 0x4, 1, .sw, 0x0, 0x803F01FF⟩]

/-- The registers of TWN (R312). -/
def regRows12 : List RegRow := [
  ⟨0xC00000, 0x4, 1, 0x4, 1, .wo, 0x0, 0x0⟩,
  ⟨0xC00004, 0x4, 1, 0x4, 1, .ro, 0x0, 0x0⟩,
  ⟨0xC00008, 0x4, 1, 0x4, 1, .w1c, 0x0, 0xFF⟩,
  ⟨0xC0000C, 0x4, 1, 0x4, 1, .ro, 0x0, 0x0⟩,
  ⟨0xC00010, 0x4, 1, 0x4, 1, .ro, 0x0, 0x0⟩,
  ⟨0xC00014, 0x4, 1, 0x4, 1, .ro, 0x0, 0x0⟩,
  ⟨0xC00018, 0x4, 1, 0x4, 1, .ro, 0x0, 0x0⟩,
  ⟨0xC0001C, 0x4, 1, 0x4, 1, .ro, 0x0, 0x0⟩,
  ⟨0xC00020, 0x4, 1, 0x4, 1, .rc, 0x0, 0x0⟩,
  ⟨0xC00024, 0x4, 1, 0x4, 1, .rc, 0x0, 0x0⟩,
  ⟨0xC00028, 0x4, 1, 0x4, 1, .rc, 0x0, 0x0⟩,
  ⟨0xC0002C, 0x4, 1, 0x4, 1, .rc, 0x0, 0x0⟩,
  ⟨0xC00030, 0x4, 1, 0x4, 1, .ro, 0x0, 0x0⟩,
  ⟨0xC00034, 0x4, 1, 0x4, 1, .rc, 0x0, 0x0⟩,
  ⟨0xC00038, 0x4, 1, 0x4, 1, .rc, 0x0, 0x0⟩]

/-- The registers of DRC (R511). -/
def regRows13 : List RegRow := [
  ⟨0xD00000, 0x4, 1, 0x4, 1, .ro, 0x0, 0x0⟩,
  ⟨0xD00004, 0x4, 1, 0x4, 1, .w1c, 0x0, 0xFF⟩,
  ⟨0xD00008, 0x4, 1, 0x4, 1, .ro, 0x0, 0x0⟩,
  ⟨0xD0000C, 0x4, 1, 0x4, 1, .rw, 0x20, 0xFF⟩,
  ⟨0xD00010, 0x4, 1, 0x4, 1, .wo, 0x0, 0x0⟩,
  ⟨0xD00014, 0x4, 1, 0x4, 1, .ro, 0x0, 0x0⟩,
  ⟨0xD00018, 0x4, 1, 0x4, 1, .ro, 0x0, 0x0⟩,
  ⟨0xD0001C, 0x4, 1, 0x4, 1, .rc, 0x0, 0x0⟩,
  ⟨0xD00020, 0x4, 1, 0x4, 1, .rc, 0x0, 0x0⟩,
  ⟨0xD00024, 0x4, 1, 0x4, 1, .ro, 0x0, 0x0⟩,
  ⟨0xD00028, 0x4, 1, 0x4, 1, .rc, 0x0, 0x0⟩,
  ⟨0xD0002C, 0x4, 1, 0x4, 1, .rc, 0x0, 0x0⟩,
  ⟨0xD00030, 0x4, 1, 0x4, 1, .rc, 0x0, 0x0⟩,
  ⟨0xD00034, 0x4, 1, 0x4, 1, .rw, 0x0, 0xFFFFFFFF⟩,
  ⟨0xD01000, 0x4, 1, 0x4, 1, .rw, 0x0, 0xFFFF0373⟩,
  ⟨0xD01004, 0x4, 1, 0x4, 1, .wo, 0x0, 0x0⟩,
  ⟨0xD01008, 0x4, 1, 0x4, 1, .mixed, 0x0, 0x100⟩,
  ⟨0xD0100C, 0x4, 1, 0x4, 1, .rw, 0x1818, 0x7F7F⟩,
  ⟨0xD01100, 0x4, 64, 0x4, 1, .rw, 0x0, 0x3FFFF⟩,
  ⟨0xD02000, 0x80, 4, 0x4, 27, .rw, 0x404040, 0x7F7F7F⟩,
  ⟨0xD02800, 0x80, 4, 0x4, 27, .rc, 0x0, 0x0⟩]

/-- The registers of REC (R472). -/
def regRows14 : List RegRow := [
  ⟨0xE00000, 0x4, 1, 0x4, 1, .ro, 0x0, 0x0⟩,
  ⟨0xE00004, 0x4, 1, 0x4, 1, .w1c, 0x0, 0xF⟩,
  ⟨0xE00008, 0x4, 1, 0x4, 1, .ro, 0x0, 0x0⟩,
  ⟨0xE0000C, 0x4, 1, 0x4, 1, .ro, 0x0, 0x0⟩,
  ⟨0xE00010, 0x4, 1, 0x4, 1, .ro, 0x0, 0x0⟩,
  ⟨0xE00014, 0x4, 1, 0x4, 1, .ro, 0x0, 0x0⟩,
  ⟨0xE00018, 0x4, 1, 0x4, 1, .ro, 0x3E8, 0x0⟩,
  ⟨0xE0001C, 0x4, 1, 0x4, 1, .rc, 0x0, 0x0⟩,
  ⟨0xE00020, 0x4, 3, 0x4, 1, .rw, 0x0, 0xFFFFFFFF⟩,
  ⟨0xE0002C, 0x4, 1, 0x4, 1, .wo, 0x0, 0x0⟩,
  ⟨0xE00030, 0x4, 1, 0x4, 1, .rc, 0x0, 0x0⟩,
  ⟨0xE00034, 0x4, 1, 0x4, 1, .rw, 0x0, 0xFFFFF⟩,
  ⟨0xE00038, 0x4, 1, 0x4, 1, .ro, 0x0, 0x0⟩,
  ⟨0xE00040, 0x4, 8, 0x4, 1, .ro, 0x0, 0x0⟩,
  ⟨0xE00060, 0x4, 1, 0x4, 1, .ro, 0x0, 0x0⟩]

/-- The registers of INT (R453). -/
def regRows15 : List RegRow := [
  ⟨0xF00000, 0x4, 1, 0x4, 1, .w1c, 0x0, 0xF⟩,
  ⟨0xF00004, 0x4, 1, 0x4, 1, .w1c, 0x0, 0xFFFFFFFE⟩,
  ⟨0xF00008, 0x4, 1, 0x4, 1, .w1c, 0x0, 0x7⟩,
  ⟨0xF0000C, 0x4, 1, 0x4, 1, .mixed, 0x0, 0xFFFFFFFE⟩,
  ⟨0xF00010, 0x4, 1, 0x4, 1, .w1s, 0x0, 0x7⟩,
  ⟨0xF00014, 0x4, 1, 0x4, 1, .rc, 0x0, 0x0⟩,
  ⟨0xF00018, 0x4, 1, 0x4, 1, .rw, 0x0, 0xF1FFFFF⟩,
  ⟨0xF0001C, 0x4, 1, 0x4, 1, .rw, 0x100, 0x3F3F⟩,
  ⟨0xF00020, 0x4, 1, 0x4, 1, .rc, 0x0, 0x0⟩,
  ⟨0xF00024, 0x4, 1, 0x4, 1, .rc, 0x0, 0x0⟩,
  ⟨0xF00028, 0x4, 1, 0x4, 1, .ro, 0x0, 0x0⟩,
  ⟨0xF0002C, 0x4, 1, 0x4, 1, .rw, 0x0, 0xFFFFFFFF⟩,
  ⟨0xF00030, 0x4, 1, 0x4, 1, .mixed, 0x0, 0x1⟩,
  ⟨0xF00034, 0x4, 1, 0x4, 1, .wo, 0x0, 0x0⟩]

/-- The registers of CFG (R260). -/
def regRows16 : List RegRow := [
  ⟨0x1000000, 0x4, 1, 0x4, 1, .rw, 0x0, 0x33⟩,
  ⟨0x1000004, 0x4, 1, 0x4, 1, .rw, 0x0, 0xFFFFFFFF⟩,
  ⟨0x1000008, 0x4, 1, 0x4, 1, .wo, 0x0, 0x0⟩,
  ⟨0x100000C, 0x4, 1, 0x4, 1, .wo, 0x0, 0x0⟩,
  ⟨0x1000010, 0x4, 1, 0x4, 1, .ro, 0x0, 0x0⟩,
  ⟨0x1000014, 0x4, 1, 0x4, 1, .w1c, 0x0, 0xFF⟩,
  ⟨0x1000018, 0x4, 1, 0x4, 1, .ro, 0x0, 0x0⟩,
  ⟨0x100001C, 0x4, 1, 0x4, 1, .ro, 0x0, 0x0⟩,
  ⟨0x1000020, 0x4, 1, 0x4, 1, .ro, 0x0, 0x0⟩,
  ⟨0x1000024, 0x4, 1, 0x4, 1, .ro, 0x0, 0x0⟩,
  ⟨0x1000028, 0x4, 1, 0x4, 1, .ro, 0x0, 0x0⟩,
  ⟨0x100002C, 0x4, 1, 0x4, 1, .ro, 0x0, 0x0⟩,
  ⟨0x1000030, 0x4, 1, 0x4, 1, .rw, 0xA, 0xFFFF⟩,
  ⟨0x1000034, 0x4, 1, 0x4, 1, .rc, 0x0, 0x0⟩,
  ⟨0x1000038, 0x4, 1, 0x4, 1, .rc, 0x0, 0x0⟩,
  ⟨0x100003C, 0x4, 1, 0x4, 1, .rc, 0x0, 0x0⟩,
  ⟨0x1000040, 0x4, 1, 0x4, 1, .ro, 0x0, 0x0⟩,
  ⟨0x1000044, 0x4, 1, 0x4, 1, .wo, 0x0, 0x0⟩,
  ⟨0x1000060, 0x4, 8, 0x4, 1, .rw, 0x0, 0xFFFFFFFF⟩,
  ⟨0x1000080, 0x4, 16, 0x4, 1, .ro, 0x0, 0x0⟩]

/-- The registers of HST (R555). -/
def regRows17 : List RegRow := [
  ⟨0x1100000, 0x4, 1, 0x4, 1, .ro, 0x105384, 0x0⟩,
  ⟨0x1100004, 0x4, 1, 0x4, 1, .ro, 0x0, 0x0⟩,
  ⟨0x1100008, 0x4, 1, 0x4, 1, .w1c, 0x0, 0x1F⟩,
  ⟨0x110000C, 0x4, 1, 0x4, 1, .rc, 0x0, 0x0⟩,
  ⟨0x1100010, 0x4, 1, 0x4, 1, .ro, 0x0, 0x0⟩,
  ⟨0x1100014, 0x4, 1, 0x4, 1, .rw, 0x0, 0x7FFFFFFF⟩,
  ⟨0x1100018, 0x4, 1, 0x4, 1, .rw, 0x0, 0x7FFFFFFF⟩,
  ⟨0x110001C, 0x4, 1, 0x4, 1, .w1c, 0x0, 0x40400000⟩,
  ⟨0x1100020, 0x4, 1, 0x4, 1, .rw, 0x3020100, 0x1F1F1F1F⟩,
  ⟨0x1100024, 0x4, 1, 0x4, 1, .rw, 0x7060504, 0x1F1F1F1F⟩,
  ⟨0x1100028, 0x4, 1, 0x4, 1, .rw, 0xB0A0908, 0x1F1F1F1F⟩,
  ⟨0x110002C, 0x4, 1, 0x4, 1, .rw, 0xF0E0D0C, 0x1F1F1F1F⟩,
  ⟨0x1100030, 0x4, 1, 0x4, 1, .rw, 0x13121110, 0x1F1F1F1F⟩,
  ⟨0x1100034, 0x4, 1, 0x4, 1, .rw, 0x17161514, 0x1F1F1F1F⟩,
  ⟨0x1100038, 0x4, 1, 0x4, 1, .rw, 0x1B1A1918, 0x1F1F1F1F⟩,
  ⟨0x110003C, 0x4, 1, 0x4, 1, .rw, 0x1F1E1D1C, 0x1F1F1F1F⟩,
  ⟨0x1100040, 0x4, 1, 0x4, 1, .wo, 0x0, 0x0⟩,
  ⟨0x1100100, 0x4, 1, 0x4, 1, .wo, 0x0, 0x0⟩,
  ⟨0x1100104, 0x4, 1, 0x4, 1, .wo, 0x0, 0x0⟩,
  ⟨0x1100108, 0x4, 1, 0x4, 1, .ro, 0x0, 0x0⟩,
  ⟨0x1100200, 0x4, 1, 0x4, 1, .rw, 0x0, 0xFFFFFFFF⟩,
  ⟨0x1100204, 0x4, 1, 0x4, 1, .w1s, 0x0, 0xFFFFFFFF⟩,
  ⟨0x1100208, 0x4, 1, 0x4, 1, .w1c, 0x0, 0xFFFFFFFF⟩,
  ⟨0x110020C, 0x4, 1, 0x4, 1, .ro, 0x0, 0x0⟩,
  ⟨0x1100210, 0x4, 1, 0x4, 1, .rw, 0x0, 0xFFFFFFFF⟩,
  ⟨0x1100214, 0x4, 1, 0x4, 1, .rw, 0x0, 0xFFFFFFFF⟩,
  ⟨0x1100218, 0x4, 1, 0x4, 1, .w1c, 0x0, 0xFFFFFFFF⟩,
  ⟨0x1100300, 0x40, 2, 0x4, 1, .rw, 0x0, 0x7⟩,
  ⟨0x1100304, 0x40, 2, 0x4, 1, .wo, 0x0, 0x0⟩,
  ⟨0x1100308, 0x40, 2, 0x4, 1, .ro, 0x0, 0x0⟩,
  ⟨0x110030C, 0x40, 2, 0x4, 1, .w1c, 0x0, 0xF⟩,
  ⟨0x1100400, 0x4, 1, 0x4, 1, .wo, 0x0, 0x0⟩,
  ⟨0x1100404, 0x4, 1, 0x4, 1, .rw, 0x0, 0xFFFFFFFF⟩,
  ⟨0x1100408, 0x4, 1, 0x4, 1, .w1c, 0x0, 0xE⟩,
  ⟨0x1100500, 0x4, 64, 0x4, 1, .rw, 0x0, 0xFFFFFFFF⟩,
  ⟨0x1101000, 0x80, 4, 0x4, 16, .rw, 0x0, 0xFFFFFFFF⟩,
  ⟨0x1101040, 0x80, 4, 0x4, 16, .ro, 0x0, 0x0⟩,
  ⟨0x1108000, 0x10, 32, 0x4, 1, .rw, 0x0, 0xFFFFFFFC⟩,
  ⟨0x1108004, 0x10, 32, 0x4, 1, .rw, 0x0, 0xFFFFFFFF⟩,
  ⟨0x1108008, 0x10, 32, 0x4, 1, .rw, 0x0, 0xFFFFFFFF⟩,
  ⟨0x110800C, 0x10, 32, 0x4, 1, .rw, 0x1, 0x1⟩,
  ⟨0x1109000, 0x4, 1, 0x4, 1, .ro, 0x0, 0x0⟩]

/-- The rows of the 1 MiB register window `b` of R533. -/
def regRows (b : Nat) : List RegRow :=
  match b with
  | 0 => regRows0
  | 1 => regRows1
  | 2 => regRows2
  | 3 => regRows3
  | 4 => regRows4
  | 5 => regRows5
  | 6 => regRows6
  | 7 => regRows7
  | 8 => regRows8
  | 9 => regRows9
  | 10 => regRows10
  | 11 => regRows11
  | 12 => regRows12
  | 13 => regRows13
  | 14 => regRows14
  | 15 => regRows15
  | 16 => regRows16
  | 17 => regRows17
  | _ => []

/-- The row that holds the word at `a`, if any register lies there (R534). -/
def regRow? (a : Nat) : Option RegRow := (regRows (a / 0x100000)).find? (fun r => r.holds a)

/-- The Reset column of the register at `a`; zero where nothing lies (R534). The clock and lane words of the Gauntlet
groups take the values of R333 at the one reset that reaches them. -/
def regReset (a : Nat) : Word :=
  if a = 0x801580 ∨ a = 0x8015C0 then 0xF2A80200
  else if 0x802B00 ≤ a ∧ a < 0x802C00 ∧ a % 0x20 = 0 then (if a < 0x802B80 then 0xC0000010 else 0x80000010)
  else
    match regRow? a with
    | some r => r.reset
    | none => 0

/-- The access code of the register at `a`. -/
def regCode (a : Nat) : Access :=
  match regRow? a with
  | some r => r.code
  | none => .ro

/-- The bits of the register at `a` that a write may reach under its code (R13). -/
def regMask (a : Nat) : Word :=
  match regRow? a with
  | some r => r.wmask
  | none => 0

end Sys2Proof.Machine
end

