-- ==== Sys2Proof/Machine/Store.lean ====
section
/-!
DEFINITION. Sparse stores in one canonical form: a list of (address, value) pairs with strictly rising
addresses and no pair equal to what an unlisted address reads as. Registers and memories are held so.
-/
namespace Sys2Proof.Machine

/-- What an address reads as: the listed value, or the unlisted default `d`. -/
def Store.get {α : Type} (d : Nat → α) (m : List (Nat × α)) (a : Nat) : α :=
  match m with
  | [] => d a
  | (b, v) :: r => if b = a then v else Store.get d r a

/-- Put `v` at `a`, dropping the entry when `v` is what an unlisted `a` reads as. -/
def Store.set {α : Type} [DecidableEq α] (d : Nat → α) (m : List (Nat × α)) (a : Nat) (v : α) :
    List (Nat × α) :=
  match m with
  | [] => if v = d a then [] else [(a, v)]
  | (b, w) :: r =>
    if b < a then (b, w) :: Store.set d r a v
    else if b = a then (if v = d a then r else (a, v) :: r)
    else (if v = d a then (b, w) :: r else (a, v) :: (b, w) :: r)

/-- Every listed address lies at or above `lo`, the addresses rise strictly and no entry is redundant. -/
def Store.wfFrom {α : Type} [DecidableEq α] (d : Nat → α) (lo : Nat) (m : List (Nat × α)) : Bool :=
  match m with
  | [] => true
  | (b, v) :: r => decide (lo ≤ b) && decide (v ≠ d b) && Store.wfFrom d (b + 1) r

/-- The canonical form of a store. -/
def Store.wf {α : Type} [DecidableEq α] (d : Nat → α) (m : List (Nat × α)) : Bool :=
  Store.wfFrom d 0 m

/-- Drop every entry whose address satisfies `p`: those addresses read as unlisted again. -/
def Store.clear {α : Type} (p : Nat → Bool) (m : List (Nat × α)) : List (Nat × α) :=
  m.filter (fun e => !p e.1)

end Sys2Proof.Machine
end

