-- ==== Sys2Proof/Machine/State.lean ====
section
/-!
DEFINITION. The state of the block as plain data: the register file and memories, what each unit holds
beyond its registers, the queue of waiting commands, and the state after reset.
-/
namespace Sys2Proof.Machine

/-! ## The recorder (The Event Recorder) -/

/-- One record of R456; `total` is the device time of the first occurrence in ns, `flags` is byte 14, and `win` the window in
ns under which it was opened (R459, R467). -/
structure RecEntry where
  total : Nat := 0
  src : Nat := 0
  code : Nat := 0
  count : Nat := 1
  flags : Nat := 0
  data : List Byte := []
  seq : Nat := 0
  win : Nat := 0
deriving DecidableEq, Repr

/-- The recorder: open record, write queue, search, bucket, fetch and power-fail state (R459 to R469). -/
structure RecSt where
  opened : Option RecEntry := none
  queue : List RecEntry := []
  searching : Bool := false
  erasing : Bool := false
  lostRun : Nat := 0
  mism : Nat := 0
  tokens : Nat := 16
  pfw : Bool := false
  fetch : Option Nat := none
deriving DecidableEq, Repr

/-! ## Time (Time Base) -/

/-- The PTP servo's own memory (R402): consecutive good and bad intervals, the last path delays, the last
ROOT_FRAC words it wrote, and the arguments of START. -/
structure ServoSt where
  good : Nat := 0
  bad : Nat := 0
  mpds : List Int := []
  fracs : List Int := []
  held : Int := 0
  args : List Word := []
deriving DecidableEq, Repr

/-- The time counter (R392): 60-bit accumulator, tick phase modulo 3, the word GPLL last copied (R21),
the pulse outputs with the full time at which each active one ends
(R408), the servo, and by how much, in ns, sets of the counter have put it ahead of the domain-R sample count (R280). -/
structure TimSt where
  acc : Nat := 0
  phase : Nat := 0
  gpllFrac : Int := 0
  pulse : List (Option Nat) := [none, none, none, none]
  servo : ServoSt := {}
  ahead : Int := 0
deriving DecidableEq, Repr

/-! ## Modes, power and clocks -/

/-- A stop of the render train at the boundary Sm (R54 steps 1 to 3). -/
structure StopInfo where
  m : Nat
  dest : Nat
  cause : Nat
  restart : Bool
  realign : Bool
deriving DecidableEq, Repr

/-- The mode controller beyond its registers: the last request, whether R49 holds it, the other causes of
R52 that wait for a boundary, the results of WAKE W2 and LOAD, the automatic start (R249), the object range of the running train and the one
that the Gauntlet's write rule follows (R17, R86), the steps of an entry to THERMOS (R525): 1 the recorder drains, 2 PWR_EN is low,
and the full time of the last 1 ms boundary (R52). -/
structure ModeSt where
  req : Option Nat := none
  held : Bool := false
  fault : Option Nat := none
  alarmFx : Bool := false
  twin : Option Nat := none
  w2 : Option Bool := none
  load : Option Bool := none
  stop : Option StopInfo := none
  auto : Bool := false
  autoEntry : Nat := 0xFF
  autoWait : Bool := false
  objects : Nat := 512
  range : Nat := 512
  sleep : Nat := 0
  lastMs : Option Nat := none
deriving DecidableEq, Repr

/-- Power and reset beyond the registers (R516, R520, R524 to R527). `lastDown`: 0 none since the island's
cold start, 1 a fall of PWR_GOOD, 2 a completed THERMOS entry, 5 a VDD_GNT brown-out;
`autoDue`: the service has not yet read the directory since PWR_GOOD (R249); `secFrac`: periods of CLK_PER since the last
second of the island (R524). -/
structure PwrSt where
  good : Bool := true
  resetN : Bool := false
  appHold : Bool := true
  vbat : Bool := true
  pwrEn : Bool := true
  thermos : Bool := false
  lastDown : Nat := 0
  islandWr : Option (Nat × Word) := none
  wakeLatch : Nat := 0
  autoDue : Bool := true
  secFrac : Nat := 0
deriving DecidableEq, Repr

/-- Clock supervision beyond CLK_STATUS: the ROOT monitor, the trim window counters and the onset of 0x08,
whether FOSC was
late at a trip and is not yet recorded, and the CLOCKPLAN figures (R477, R478, R487, R488, R492); `rootStop`: ROOT has stopped and
has neither locked nor been seen running since (R21). -/
structure ClkSt where
  rootArmed : Bool := false
  rootStop : Bool := false
  rootHeld : Bool := true
  goodRun : Nat := 0
  badRun : Nat := 0
  range : Bool := false
  fosc6 : Bool := false
  mclkHz : Nat × Nat := (0, 0)
  drate : Nat := 0
deriving DecidableEq, Repr

/-- The render train (R22 to R28, R42): rate, block size, T0 as a full time, block number, the run of
blocks with a late feed (R57), a restart's preparation and whether it is a realign (R24), and, since a forced switch of M_APP, the block whose deadline comes
next and whether R231 makes it (R480). -/
structure BlkSt where
  armed : Bool := false
  fr : Nat := 48000
  b : Nat := 16
  t0 : Nat := 0
  n : Nat := 0
  base : Nat := 0
  next : Option Nat := none
  lateRun : Nat := 0
  prep : Bool := false
  realign : Bool := false
  fb : Option (Nat × Bool) := none
deriving DecidableEq, Repr

/-! ## Integrity and fuses -/

/-- A word of an on-chip array whose stored bits are wrong, with the inverted bits (R438, R439, R447). -/
structure BadWord where
  array : Nat
  word : Nat
  bits : List Nat
  injected : Bool
deriving DecidableEq, Repr

/-- A stored error of a DRAM unit (R496, R510). -/
structure BadUnit where
  unit : Nat
  double : Bool
deriving DecidableEq, Repr

/-- The DRAM controller beyond its registers (R494 to R513): training has succeeded since PWR_GOOD, segments
whose contents are lost since the last full service, units with stored errors, whether low-power service has left
self-refresh, the service held under R506, the segments kept, whether a RETRAIN runs, and the channel and step of the test
point that runs (R508). -/
structure DrcSt where
  trained : Bool := false
  lost : Nat := 0xFF
  bad : List BadUnit := []
  awake : Bool := false
  heldSvc : Nat := 0
  kept : Nat := 0
  retrain : Bool := false
  point : Option (Nat × Nat) := none
deriving DecidableEq, Repr

/-- One key slot (R257): the hash once programmed, and REVOKED. -/
structure KeySlot where
  hash : Option (BitVec 256) := none
  revoked : Bool := false
deriving DecidableEq, Repr

/-- A key-slot operation that runs (R257, R286): programming with a hash, or revocation. -/
inductive FuseOp where
  | app (slot : Nat) (hash : Option (BitVec 256))
  | gnt (slot : Nat) (hash : Option (BitVec 256))
deriving DecidableEq, Repr

/-- The fuses: key slots, DBG_EN, the unique device ID, and the operation that runs. -/
structure FuseSt where
  app : List KeySlot := [{}, {}, {}, {}]
  gnt : List KeySlot := [{}, {}]
  dbg : Bool := false
  uid : BitVec 64 := 0
  busy : Option FuseOp := none
  dbgBusy : Bool := false
deriving DecidableEq, Repr

/-- Strap and bank inputs the device samples (R561, R562): seat, node and the six bank levels. -/
structure StrapSt where
  seat : Bool := false
  node : Nat := 0
  bank : List Nat := [0, 0, 0, 0, 0, 0]
deriving DecidableEq, Repr

/-! ## The configuration image -/

/-- A section as a set holds it: type, payload and the CRC of its header (R241). -/
structure Section where
  ty : Nat
  crc : Word
  body : List Byte
deriving DecidableEq, Repr

/-- Load and set state beyond CFG_STATUS (R247 to R256): the running load (SRC, and its entry or byte address), the
sections of the two sets, the types the shadow image carries, the store region of the active set, what the load's COEF
section met (whether its blocks are in the pool, and the block that found a live coefficient), FORCE, whether it has acted and whether
it cut a fade, whether flash is in use, a set that a restart is bringing in: its
sections, carried types and SW writes, the block of the last swap (R259), and whether the loader has placed the programs of a
GRAPH section that is not in force yet (R186, R212). -/
structure CfgSt where
  loading : Option (Nat × Nat) := none
  shadow : List Section := []
  carried : List Nat := []
  active : List Section := []
  region : Nat := 0
  coefDone : Bool := false
  coefBad : Option Nat := none
  force : Bool := false
  cut : Bool := false
  forced : Bool := false
  ospiBusy : Bool := false
  coming : List Section := []
  comingCar : List Nat := []
  comingRegs : List (Nat × Word) := []
  swapBlk : Nat := 0
  placed : Bool := false
deriving DecidableEq, Repr

/-! ## The Trail (R170 to R178) -/

/-- A zone bus entry: the four words of GNT_ZB (R182). -/
structure BusWords where
  act : Word := 0
  lo : Word := 0
  hi : Word := 0
  level : Word := 0x00400000
deriving DecidableEq, Repr

/-- A feed's membership: GNT_TF_ZONES and ZVALID (R172). -/
structure FeedZones where
  zones : Word := 0
  valid : Nat := 0
deriving DecidableEq, Repr

/-- A feed at the override stage (R177, R178): the setting in force, DUCK_GAIN in force, the running
crossfade (old setting, samples done), the duck gain's ramp (from, to, length, samples done), and, while no block moves it, the instant
at which it stood so. -/
structure OvrSt where
  ovr : Nat := 0
  duck : Int := 0x100000
  old : Nat := 0
  fadeAt : Option Nat := none
  d0 : Int := 0x400000
  d1 : Int := 0x400000
  dn : Nat := 0
  di : Nat := 0
  dT : Nat := 0
deriving DecidableEq, Repr

/-- A Trail switch that took place at a domain-G instant: what the bus or feed had before it. -/
structure TrailSw where
  at_ : Nat
  feed : Bool
  ix : Nat
  bus : BusWords
  zones : FeedZones
deriving DecidableEq, Repr

/-- The Trail beyond its tables: the bus and feed settings in force, the committed changes that wait for a
zero crossing with the domain-G sample count of their first commit (R173), the switches of the last milliseconds (R176), and the override stage with its committed
changes: OVR, DUCK_GAIN and the instant of the commit (R178). -/
structure TrailSt where
  zb : List (Nat × BusWords) := []
  zbPend : List (Nat × BusWords) := []
  tf : List (Nat × FeedZones) := []
  tfPend : List (Nat × FeedZones) := []
  zbFrom : List (Nat × Nat) := []
  tfFrom : List (Nat × Nat) := []
  ovr : List (Nat × OvrSt) := []
  ovrPend : List (Nat × (Nat × Int × Nat)) := []
  hist : List TrailSw := []
deriving DecidableEq, Repr

/-! ## The Gauntlet (R261 to R289) -/

/-- Who holds a level of a zone (R274); `saved` is the programme beneath a page: source and rank. -/
structure Holder where
  zone : Nat
  level : Nat
  page : Bool
  rank : Nat
  src : Nat
  saved : Option (Nat × Nat)
deriving DecidableEq, Repr

/-- A message player beyond its registers (R277): the command word it runs, whether it is in a gap,
whether PLAY was cleared, whether a programme started it, the 16 kHz samples taken of the play or gap, the phase of the 3:1
interpolator and its input samples, newest first. -/
structure PlayerSt where
  cmd : Word := 0
  gap : Bool := false
  stop : Bool := false
  prog : Bool := false
  pos : Nat := 0
  ph : Nat := 0
  taps : List Int := []
deriving DecidableEq, Repr

/-- A tone generator beyond its registers (R278): running, asked to stop, silent in its cadence, started by a programme,
the 32-bit phase and the samples since it started. -/
structure ToneSt where
  run : Bool := false
  stop : Bool := false
  silent : Bool := false
  prog : Bool := false
  phase : Nat := 0
  t : Nat := 0
deriving DecidableEq, Repr

/-- Pilot supervision of one entry (R281): runs of bad, good and invalid windows, and the condition. -/
structure PilotSt where
  bad : Nat := 0
  good : Nat := 0
  inv : Nat := 0
  fault : Bool := false
deriving DecidableEq, Repr

/-- The Gauntlet sequencer and its firmware beyond the GNT registers (R266 to R286); `cnt` and `keep` stand in the Gauntlet
flash: the stored CNT, and the registers of the console's SNS and SAI MS (R273, R333, R340). `phase`: 0 running,
1 held in reset, 2 released and verifying; `seen`: the raw and debounced levels of the contacts while firmware does not run, and `wait`
the contact commands that wait for it (R48, R267). -/
structure GntSt where
  phase : Nat := 1
  fw : Bool := false
  powerOn : Bool := true
  resets : List Nat := []
  wdt : Nat := 100
  image : List Byte := []
  activate : Bool := false
  holders : List Holder := []
  players : List PlayerSt := List.replicate 16 {}
  tones : List ToneSt := List.replicate 4 {}
  bad : List Nat := []
  ext : List Nat := []
  extCopy : Bool := false
  deb : List Bool := List.replicate 8 false
  acted : List Bool := List.replicate 8 false
  pilots : List (Nat × PilotSt) := []
  cnt : Option Nat := none
  cntRun : Nat := 0
  keep : List (Nat × Word) := []
  seen : Option (Nat × Nat) := none
  wait : List (List Word) := []
deriving DecidableEq, Repr

/-! ## The render side: geometry, lanes, FIR array, graph and mixing -/

/-- The samples of one block on a bus or a feed; what a store of them holds of bus `i` for block `n` stands at `busKey n i`. -/
structure BusVal where
  blk : Nat := 0
  smp : List Int := []
deriving DecidableEq, Repr

/-- What the geometry engine uses for one block (R25, R64): the table bytes and registers as they stood at Sn,
the fabric positions, and the trajectory slots whose word 11 was written since. -/
structure GeoSnap where
  blk : Nat
  tables : List Host.Cell
  regs : List (Nat × Word)
  fab : List (Nat × (Word × Word × Word))
  w11 : List Nat
deriving DecidableEq, Repr

/-- The geometry engine (R60 to R93): freeze seen, the tables of the latest Sn, snapshots of blocks not yet computed, positions received
over the fabric, objects whose item was stopped (R229), the state entries of the block before, and the descriptors of the last
blocks' snapshots, which SRC_BUS is read from (R88). -/
structure GeoSt where
  frozen : Bool := false
  last : List Host.Cell := []
  snaps : List GeoSnap := []
  fab : List (Nat × (Word × Word × Word)) := []
  stopped : List (Nat × Nat) := []
  prev : List (Nat × List Byte) := []
  desc : List (Nat × List Host.Cell) := []
deriving DecidableEq, Repr

/-- The target of an active cell and what its Doppler rule needs (R76 to R78, R109). -/
structure CellTgt where
  key : Nat
  d : Int
  g : Int
  prio : Nat
  dop : Nat
  maxS : Nat
  stepTo : Nat
deriving DecidableEq, Repr

/-- A hop in progress (R110): the frozen old delay and the fade samples done. -/
structure HopX where
  dOld : Int
  i : Nat
deriving DecidableEq, Repr

/-- What the lanes hold of a cell beyond its state entry: activity, hop, samples since a STEPPED hop became
due, blocks of displacement left, ramp samples done while denied, the old tap's last value, and its far slot: the
samples, by input time, that the slot holds for the tap, the old tap of a hop and the tap of a hop that may start, and
the block they were fetched for (R118). -/
structure CellX where
  act : Bool := false
  hop : Option HopX := none
  due : Option Nat := none
  disp : Nat := 0
  deny : Nat := 0
  lastV : Int := 0
  clamp : Bool := false
  held : Bool := false
  slotM : List (Nat × Int) := []
  slotO : List (Nat × Int) := []
  slotN : List (Nat × Int) := []
  got : Option Nat := none
deriving DecidableEq, Repr

/-- What a cell does in a block: delay and gain from and to, whether a hop slot is granted at sample 0
(`start`) or for a STEPPED hop (`step`), whether it is denied a far slot, holds one in this block (`far`) and
releases it at its end (`drop`), and goes inactive (`leave`). -/
structure CellPlan where
  key : Nat
  d0 : Int
  d1 : Int
  g0 : Int
  g1 : Int
  tgt : Int
  start : Bool
  step : Bool
  stepTo : Nat
  due : Bool
  denied : Bool
  disp : Nat
  far : Bool
  drop : Bool
  leave : Bool
  clamp : Bool
deriving DecidableEq, Repr

/-- The targets of a block, the objects whose cells hold their values (R229), and the render-lane registers
as they stood at its Sn (R25). -/
structure TgtBlk where
  blk : Nat
  hopThr : Nat
  stepMin : Nat
  tgts : List CellTgt
  holds : List Nat
deriving DecidableEq, Repr

/-- The plan of the block whose tiles run. -/
structure PlanBlk where
  blk : Nat
  cells : List CellPlan
deriving DecidableEq, Repr

/-- The render lanes (R94 to R125): cells, targets that wait for the tiles of the block before, the plan, the
tiles done, each feed's accumulation, near-ring writes that wait for the tiles (R97), the next block to render, feeds whose far fetch
was stopped (R229), and the saturations of the block. -/
structure RndSt where
  cells : List (Nat × CellX) := []
  tgts : List TgtBlk := []
  plan : Option PlanBlk := none
  done : List Nat := []
  acc : List (Nat × BusVal) := []
  near : List (Nat × BusVal) := []
  tileBlk : Nat := 0
  farStop : List (Nat × Nat) := []
  accSat : List Nat := []
  outSat : List Nat := []
deriving DecidableEq, Repr

/-- A bank switch of a feed (R137, R138): first block, length in blocks (0: a switch), old bank, and whether a
forced swap cut the fade, and at which block (R143). -/
structure FadeSt where
  feed : Nat
  n0 : Nat
  k : Nat
  old : Nat
  cut : Option Nat := none
deriving DecidableEq, Repr

/-- A task's result: its bank's samples, whether a sat72 clamped and at which sample first, and whether the
output saturated. -/
structure FirOut where
  bank : Nat
  smp : List Int
  gov : Option Nat
  sat : Bool
deriving DecidableEq, Repr

/-- The FIR array (R126 to R149): each feed's next block, results of the block's banks, fades that run or are
about to, waiting requests with their feed and block, for each of the last swaps its block and the registers and fades that blocks
below it still use, oldest first (R144), the banks whose task was stopped (R229), and
unit-cycles used in the block. -/
structure FirSt where
  next : List (Nat × Nat) := []
  part : List (Nat × List FirOut) := []
  fades : List FadeSt := []
  waits : List (Nat × Nat) := []
  oldRegs : List (Nat × List (Nat × Word) × List FadeSt) := []
  stopped : List (Nat × Nat) := []
  cycles : Nat := 0
deriving DecidableEq, Repr

/-- A meter's own state (R162): held peak, blocks the hold has run, mean square as `m × 2^e`, clear request. -/
structure MeterSt where
  held : Nat := 0
  run : Nat := 0
  ms : Int × Int := (0, 0)
  clr : Bool := false
deriving DecidableEq, Repr

/-- A change of a gain slot (R155, R156): the block from which it applies, the gain it starts from, the target, the
samples of its ramp or of its timeout, the mode, and the block from which a pending step counts. -/
structure GainSt where
  n0 : Nat
  g0 : Int
  g1 : Int
  len : Nat
  mode : Nat
  since : Nat
deriving DecidableEq, Repr

/-- A route fade (R165): first block, length in blocks, the old program's GRAPH payload, its half,
the mixer words, the changes of gain slots and the read-only words it runs with, the block at which a forced swap cut it (R166), and
the next block of each segment that the old program has run in the fade. -/
structure RouteSt where
  m : Nat
  k : Nat
  graph : List Byte
  half : Nat
  live : List (Nat × Word) := []
  gains : List (Nat × List GainSt) := []
  ro : List Host.Cell := []
  cut : Option Nat := none
  ran : List (Nat × Nat) := []
deriving DecidableEq, Repr

/-- A port bridge (R168, R169): locked, samples ramped, whether it ramps to zero, whether it does so for a Trail
slot that takes its channel, its last input samples, newest first, and the instant of the newest. -/
structure BridgeSt where
  lock : Bool := false
  ramp : Nat := 0
  down : Bool := false
  cfg : Bool := false
  take : Bool := false
  inp : List Int := []
  inpAt : Nat := 0
deriving DecidableEq, Repr

/-- The graph and mixing (R150 to R185): bus samples (of the active program, and of those before it that blocks in flight
still use), mixer words in force, committed words that wait for the next block, Brim gains, meters, the last two route
fades, bridges, each feed's FIR, Brim and override output and last sample, what the port mapper took of each
PORT_OUT channel, the words that blocks below a change of them still use, the samples of the receive channels that a
meter measures, and the changes of the gain slots, latest first. -/
structure MixSt where
  bus : List (Nat × BusVal) := []
  busOld : List (Nat × BusVal) := []
  live : List (Nat × Word) := []
  pend : List (Nat × Word) := []
  brimG : List (Nat × Int) := []
  meters : List (Nat × MeterSt) := []
  route : Option RouteSt := none
  bridges : List (Nat × BridgeSt) := []
  firOut : List (Nat × BusVal) := []
  brimOut : List (Nat × BusVal) := []
  ovrOut : List (Nat × BusVal) := []
  lateLast : List Nat := []
  outBlk : Option Nat := none
  portOut : List (Nat × BusVal) := []
  liveHist : List (Nat × List (Nat × Word)) := []
  busOld2 : List (Nat × BusVal) := []
  route2 : Option RouteSt := none
  portIn : List (Nat × BusVal) := []
  gains : List (Nat × List GainSt) := []
deriving DecidableEq, Repr

/-! ## Sample cores (R186 to R213) -/

/-- One entry of the loop stack (R192): first and last offset of the body and the iterations left. -/
structure LoopSt where
  first : Nat
  last : Nat
  left : Nat
deriving DecidableEq, Repr

/-- The architectural registers of a core (R192); K as 16-bit two's complement. -/
structure CoreRegs where
  x : List Word := List.replicate 16 0
  a : List Int := [0, 0, 0, 0]
  cl : List Bool := [false, false, false, false]
  p : List Nat := List.replicate 8 0
  k : List Nat := List.replicate 8 0
  b : List Nat := List.replicate 8 0
  l : List Nat := List.replicate 8 0
  z : Bool := false
  n : Bool := false
  pc : Nat := 0
  loops : List LoopSt := []
deriving DecidableEq, Repr

/-- The task a core runs: its segment, block, node last named, whether a saturation event is unreported,
whether an accumulator overflowed, cycles used, and the age of its program: 0 the active one, 1 the one before it, 2
the one before that (R165). -/
structure CoreTask where
  seg : Nat
  blk : Nat
  age : Nat
  node : Option Nat := none
  sat : Bool := false
  gov : Bool := false
  cyc : Nat := 0
deriving DecidableEq, Repr

/-- A core: its registers, its task, and the instruction in progress: the registers at its start, the stores
its slots make, a branch taken, END, NODE, whether a slot is illegal (R195, R206), the accumulators it overflowed,
a saturation event, the pointers it forced (index, unforced result, length), a loop of count 0 that skips its body, and cycles a
branch still costs. -/
structure CoreSt where
  r : CoreRegs := {}
  task : Option CoreTask := none
  start : Option CoreRegs := none
  stores : List (Nat × Word) := []
  target : Option Nat := none
  ended : Bool := false
  node : Option Nat := none
  illegal : Bool := false
  gov : Nat := 0
  satNow : Bool := false
  addr : List (Nat × Int × Nat) := []
  skip : Bool := false
  stall : Nat := 0
  blkCyc : Nat := 0
deriving DecidableEq, Repr

/-! ## The dispatcher (R214 to R237) -/

/-- A task on an engine slot: descriptor, item, argument, block, FIR bank, the status once the engine is done,
and the DMA job entry read at dispatch (R221). -/
structure SchTask where
  slot : Nat
  desc : Nat
  item : Nat
  arg : Nat
  blk : Nat
  sub : Nat
  fin : Option Nat
  job : List Byte
deriving DecidableEq, Repr

/-- A descriptor in WAIT, READY or RUN, beyond its 32 bytes: ready and in the lists, cycle of entry, next item,
FIR banks of that item still to start, items complete, highest status, items above EMPTY, slot of the last item,
cancelled, instantiated from a template with a parity error, and the highest status of the tasks of items that are not complete. -/
structure SchDesc where
  idx : Nat
  ready : Bool := false
  listed : Bool := false
  enter : Nat := 0
  next : Nat := 0
  subs : List Nat := []
  done : List Nat := []
  status : Nat := 0
  above : Nat := 0
  last : Nat := 0xFF
  cancel : Bool := false
  bad : Bool := false
  part : List (Nat × Nat) := []
deriving DecidableEq, Repr

/-- What a job of R219 transfers: a frame of the twin link, flits, packet `j` of transmit stream `t`, or a capture-ring entry at a DRAM
address with its header and its samples. -/
inductive JobOut where
  | twin (frame : List Byte)
  | flits (fs : List (List Byte))
  | packet (t j : Nat) (smp : List (List Int))
  | ring (a : Nat) (head smp : List Byte)
deriving DecidableEq, Repr

/-- A transfer that is ready and waits for the item of its class, job code and block (R219). -/
structure WaitJob where
  cls : Nat
  code : Nat
  blk : Nat
  what : JobOut
deriving DecidableEq, Repr

/-- The dispatcher: live descriptors in the order of their submission or instantiation, tasks on engines, blocks
whose bank is busy (R222), the templates that blocks below a swap block still use, descriptors that wait outside full lists
(R225), the last captured block and the last block whose deadline came (R216), trace records since the last spill and not yet
spilled, the dispatcher cycles counted without wrap, the transfers that wait for their items, and the jobs (class, code, block) whose items
ended early (R229). -/
structure SchSt where
  descs : List SchDesc := []
  run : List SchTask := []
  bankWait : List Nat := []
  oldTpl : List (Nat × List Byte) := []
  outside : List Nat := []
  cap : Option Nat := none
  dl : Option Nat := none
  trcFill : Nat := 0
  trcUsed : Nat := 0
  cyc : Nat := 0
  jobs : List WaitJob := []
  stopped : List (Nat × Nat × Nat) := []
deriving DecidableEq, Repr

/-! ## Serial audio (R315 to R335) -/

/-- What a pair or receiver holds of a block: frames, header flags and the time of frame 0 (R325). -/
structure PairBlk where
  blk : Nat := 0
  f : Nat := 0
  flags : Nat := 0
  tns : Nat := 0
  tag : Nat := 0
deriving DecidableEq, Repr

/-- A clock pair or AES3 receiver beyond its registers: the block in which the frame in progress began and its time,
this block's and the last block's counts, the block from which its lanes carry samples again (R331, R332), the one from which its
transmit lanes do after a recovery, whether the frame in progress is lost to a change of its master clock (R321, R484), the frames in
a row that count towards a recovery, P when it locked (R330), the configuration that it still runs with and the instant from which the
new one may begin, or none until S0 (R321, R332), the place of a synchronous slave's next frame, counted from S0 (R320), whether the
frame in progress began before S0 (R322), and whether its master clock has stopped it (R484). -/
structure PairSt where
  fs : Nat := 0
  fsT : Nat := 0
  cur : PairBlk := {}
  last : PairBlk := {}
  zeroTo : Nat := 0
  txTo : Nat := 0
  skip : Bool := false
  good : Nat := 0
  lockP : Nat := 0
  old : Option (Word × Option Nat) := none
  cnt : Option Nat := none
  pre : Bool := false
  halt : Bool := false
deriving DecidableEq, Repr

/-- A lane or receiver beyond its registers (R323, R324, R328): the target mask in force, the masks written that take effect at the
next frame start and at the one after, live slots, per slot the frames a pending switch has waited and the last sample, the last top 16 bits, per pair of
slots the frames since its last burst preamble, whether the channel-status bit mutes it, the slots muted in this block, and the block from which it carries samples
again after its configuration changed (R332). -/
structure LaneSt where
  tgt : Nat := 0xFFFF
  m1 : Option Nat := none
  m2 : Option Nat := none
  live : Nat := 0
  cnt : List Nat := List.replicate 16 0
  lastX : List Int := List.replicate 16 0
  top : List Nat := List.replicate 16 0
  naCnt : List Nat := List.replicate 8 0
  csMute : Bool := false
  naAcc : Nat := 0
  zeroTo : Nat := 0
deriving DecidableEq, Repr

/-- A domain-G sample of the Trail: its instant and the 64 sources (R170). -/
structure GSample where
  at_ : Nat
  src : List Int
deriving DecidableEq, Repr

/-- The serial ports: pairs by 2 × group + pair and receivers by 48 + r, lanes and receivers by 96 + r, the last slots
of the Gauntlet receive lanes, the Trail sources of the latest domain-G samples, newest first (R174, R176), the count of those
samples, the Gauntlet pairs framed since the latest of them, and the elastic buffers of slaved Gauntlet pairs (R333): whether each has been
half full, and its frames, oldest first. -/
structure SaiSt where
  pairs : List (Nat × PairSt) := []
  lanes : List (Nat × LaneSt) := []
  gin : List (Nat × Int) := []
  gsrc : List GSample := []
  gk : Nat := 0
  gseen : List Nat := []
  gbuf : List (Nat × (Bool × List (List (List Word)))) := []
deriving DecidableEq, Repr

/-! ## Sensing and measurement (R338 to R361) -/

/-- The decimation chain of a channel since its last reset (R342, R343), lists newest first: the modulator's bits as ±1, the input
samples of the half-band, final and ÷3 filters, the samples that the ÷3 stage has taken, the sensing ticks, and, over resets, the
equal bits in a row at its input and the last of them (R347). -/
structure ChainSt where
  bits : List Int := []
  half : List Int := []
  fin : List Int := []
  third : List Int := []
  n3 : Nat := 0
  ticks : Nat := 0
  run : Nat := 0
  last : Option Int := none
deriving DecidableEq, Repr

/-- The pilot detector of a channel: samples and sums of the running window, whether one of them was STUCK, and the sums of the last
full one with the same mark (R350, R351). -/
structure PilWin where
  n : Nat := 0
  i : Int := 0
  q : Int := 0
  bad : Bool := false
  full : Option (Int × Int × Bool) := none
deriving DecidableEq, Repr

/-- Sensing beyond its registers: groups with a sync that waits for its tick, groups reset since their last ring entry,
each channel's last pilot amplitude (binary32 as `m × 2^e`), each line entry's runs of bad and good windows and its six words for
the running window (R361), the chains and pilot windows of the channels, and for each group the instant of its last reset, the
ticks its outputs have been formed of since, and the resets of the running train, by their tick from S0, that its ring has not come
to (R346). -/
structure SnsSt where
  pend : Nat := 0
  synced : Nat := 0
  amp : List (Nat × (Int × Int)) := []
  line : List (Nat × (Nat × Nat)) := []
  lcfg : List (Nat × List Word) := []
  chain : List (Nat × ChainSt) := []
  pil : List (Nat × PilWin) := []
  tau : List (Nat × Nat) := []
  gt : List (Nat × Nat) := []
  cuts : List (Nat × Nat) := []
deriving DecidableEq, Repr

/-- The measurement job (R355 to R359): phase 0 none, 1 stimulus and capture, 2 deconvolution, 3 synthesis; the job
block and its address ÷ 64, the first block of the stimulus, the channels used, PEAK0, the instant from which an
alarm cuts the stimulus (R50), the entries of the job's channels with a captured sample that R357 does not admit, the captured
samples of each entry in order, and the instant from which the first train may start the stimulus, where none runs yet. -/
structure MeasSt where
  phase : Nat := 0
  addr : Nat := 0
  job : List Byte := []
  n0 : Nat := 0
  used : Nat := 0
  peak : Nat := 0
  cut : Option Nat := none
  unfit : Nat := 0
  cap : List (Nat × List Int) := []
  wait : Option Nat := none
deriving DecidableEq, Repr

/-! ## Network (R364 to R391) -/

/-- A queued timestamp (R375, R423): nanoseconds, tag, ID, and for a probe whether it departed. -/
structure TsEnt where
  ns : Nat
  tag : Nat
  id : Nat
  dep : Bool := false
deriving DecidableEq, Repr

/-- An Ethernet port beyond its registers: the 64 live counters (R373), frames received, timestamp queues, the errors and
accepted frames of the FCS window (R386), and whether the service transmit ring has the next turn (R372). -/
structure MacPort where
  cnt : List (Nat × Nat) := []
  rxId : Nat := 0
  tsRx : List TsEnt := []
  tsTx : List TsEnt := []
  winErr : Nat := 0
  winOk : Nat := 0
  winAt : Option Nat := none
  turn : Bool := false
deriving DecidableEq, Repr

/-- What a receive stream or fabric channel holds (R382 to R384): the highest EPOCH, whether any EPOCH is accepted, samples
by media time with their EPOCH, the last output per channel, sample instants missed in a row, how many samples of the
ramp after a loss are done, and when the last packet of the highest EPOCH came. -/
structure RxBuf where
  epoch : Nat := 0
  fresh : Bool := true
  held : List (Nat × (Nat × List Int)) := []
  h : List Int := []
  miss : Nat := 0
  up : Nat := 32
  seen : Nat := 0
deriving DecidableEq, Repr

/-- What a transmit stream holds: samples by media time, and in STANDBY the packets kept (R385): packet number and the
instant at which it would have been sent, with its samples. -/
structure TxBuf where
  smp : List (Nat × List Int) := []
  kept : List (Nat × Nat × List (List Int)) := []
deriving DecidableEq, Repr

/-- The Ethernet ports and the stream engine. -/
structure MacSt where
  ports : List MacPort := [{}, {}]
  rx : List (Nat × RxBuf) := []
  tx : List (Nat × TxBuf) := []
deriving DecidableEq, Repr

/-! ## The Bievo fabric (R411 to R432) -/

/-- A Bievo port beyond its registers: the next SEQ to send and to receive, NAK, unacknowledged flits, resend rounds,
good beacons in HELLO, whether it waits for a new attempt, what the peer's beacons say (vector, DUTY, TIME_PRIO), flits
that wait by class, whether AUDIO took each of the last 64 slots, and the probe timestamps. -/
structure BvlPort where
  seqTx : Nat := 0
  seqRx : Nat := 0
  nak : Bool := false
  unacked : List (List Byte) := []
  rounds : Nat := 0
  good : Nat := 0
  wait : Bool := false
  vec : List Nat := List.replicate 128 15
  duty : Bool := false
  prio : Nat := 15
  qa : List (List Byte) := []
  qc : List (List Byte) := []
  qb : List (List Byte) := []
  hist : List Bool := []
  tsq : List TsEnt := []
deriving DecidableEq, Repr

/-- A flit accepted on a port that waits for what it carries to be taken, and whether it is the local copy of a flit. -/
structure FlitIn where
  port : Nat
  flit : List Byte
deriving DecidableEq, Repr

/-- A subscribed object (R425): the blocks it has flits of (block, first sample ÷ 16, samples), the blocks complete and those
missing, the last sample, and whether the next block follows a gap. -/
structure SubSt where
  parts : List (Nat × Nat × List Int) := []
  done : List Nat := []
  missing : List Nat := []
  last : Int := 0
  gap : Bool := false
deriving DecidableEq, Repr

/-- The fabric beyond its registers: ports, flits taken in, subscribers, receive channels, the per-slot request counts and whether each slot's last request writes, the
last remote request executed for each source node and slot with its response, the time parent's port, whether the node was
discovered and whether a conflict took it away (R417), and the transmit
blocks of a channel that a STANDBY unit keeps: the full time at which they were made, channel, block and samples. -/
structure BvlSt where
  ports : List BvlPort := List.replicate 6 {}
  inbox : List FlitIn := []
  subs : List (Nat × SubSt) := []
  rx : List (Nat × RxBuf) := []
  rraCnt : List Nat := [0, 0, 0, 0]
  rraWr : List Bool := [false, false, false, false]
  rraDone : List (Nat × Nat × List Byte) := []
  parent : Option Nat := none
  found : Bool := false
  backoff : Bool := false
  kept : List (Nat × Nat × Nat × List Int) := []
deriving DecidableEq, Repr

/-! ## Twin pairs (R290 to R314) -/

/-- The twin engine beyond its registers. Heartbeats: when each path last delivered one and when it was lost, the last
receipt, the own sequence number, the pin, the partner's PLAN_CRC and IMAGE_ID. Yield and takeover: the cause of a yield
under way, the frozen sample, the samples held, whether feed slots carry zero, the sample at which a yield that timed out
ramps and its instant, the receipt from which the gap of a takeover that restarts the train counts, the first live sample after a takeover, the sample from which kept packets go on, and whether the pair runs
MEASURE. Record: the log of this block, writes held to the next, what BULK brought, the C logs kept, the copy of the
Gauntlet object entries, blocks that wait for C and for A, blocks whose A came, the last C and A applied, the OUT_CRC and
late flag of the last blocks, and the last block sent or applied (R314). -/
structure TwinSt where
  seen : List (Nat × Nat) := []
  lost : List (Nat × Nat) := []
  last : Option Nat := none
  seq : Nat := 0
  pin : Bool := false
  crc : Nat := 0
  image : Word := 0
  yield : Option Nat := none
  at_ : Nat := 0
  hold : List Int := []
  silent : Bool := false
  rampAt : Option Nat := none
  rampNs : Option Nat := none
  gapFrom : Option Nat := none
  live : Option Nat := none
  strFrom : Option Nat := none
  measure : Bool := false
  log : List (Nat × Word) := []
  held : List (Nat × Word) := []
  bulk : List (Nat × Word) := []
  kept : List (Nat × List (Nat × Word)) := []
  gobj : List Host.Cell := []
  cWait : List Nat := []
  aWait : List Nat := []
  aGot : List Nat := []
  lastC : Option Nat := none
  lastA : Option Nat := none
  crcs : List (Nat × (Nat × Bool)) := []
  recBlk : Nat := 0
deriving DecidableEq, Repr

/-! ## The host interface (R533 to R555) -/

/-- An I2C controller beyond its registers (R552): the entries queued, the bytes received, and whether it holds the bus. -/
structure I2cSt where
  queue : List Word := []
  rx : List Nat := []
  hold : Bool := false
deriving DecidableEq, Repr

/-- The HST block beyond its registers: whether MSI-X is enabled and its function unmasked, the armed vectors (R542), ERR of
the QSPI STATUS byte (R546), the I2C controllers, the levels outside drives on the GPIO pins, the raw flash command that
runs (R550), and the streams announced with their SDP texts (R549). -/
structure HostSt where
  msix : Bool := false
  armed : Nat := 0
  qspiErr : Bool := false
  i2c : List I2cSt := [{}, {}]
  gpio : Nat := 0
  ospi : Option Word := none
  sap : List (Nat × List Byte) := []
deriving DecidableEq, Repr

/-- What leaves the device on a link, a bus or a serial line: the kind of thing sent. -/
inductive EmKind where
  | ethFrame | flit | twinFrame | heartbeat | msix | uart | i2c | ospi | pcie | sap | qspi | rdata | audio
deriving DecidableEq, Repr

/-- One thing the device sent: its kind, the port, path or vector, and its bytes. -/
structure Emission where
  kind : EmKind
  port : Nat
  data : List Byte
deriving DecidableEq, Repr

/-- The reasons a step can fault: none. Every command of the table has an effect the spec gives, so no
meaning stops the machine; the type is kept closed and empty (safe). -/
inductive Fault where
deriving DecidableEq, Repr

/-- The reasons a step can be refused. -/
inductive Refusal where
  /-- Raised by an arm of `exec` whose command has no meaning yet (safe: the model stops). -/
  | notModelled (mnemonic : String)
deriving DecidableEq, Repr

/-- The whole state of the block. -/
structure State where
  /-- Commands that wait, first in, first out. -/
  pending : List Instr := []
  /-- Register file: BAR0 word address to word; an unlisted register reads its Reset column. -/
  regs : List (Nat × Word) := []
  /-- Values that SW writes have put into the shadow set (R10, R253). -/
  shadowRegs : List (Nat × Word) := []
  /-- On-chip arrays behind the SRAM windows (R37), byte by byte at BAR0 addresses. -/
  sram : List Host.Cell := []
  /-- DRAM by usable address (R495). -/
  dram : List Host.Cell := []
  /-- Boot flash (R246, R550). -/
  boot : List Host.Cell := []
  /-- Gauntlet flash: images, directory and recorder region (R283, R454). -/
  gflash : List Host.Cell := []
  /-- What the device has sent, latest first. -/
  out : List Emission := []
  /-- The model's own counter of free values drawn (no part of the device). -/
  freeCtr : Nat := 0
  log : RecSt := {}
  tim : TimSt := {}
  mode : ModeSt := {}
  pwr : PwrSt := {}
  clk : ClkSt := {}
  blk : BlkSt := {}
  fuse : FuseSt := {}
  strap : StrapSt := {}
  sramBad : List BadWord := []
  cfg : CfgSt := {}
  trail : TrailSt := {}
  gnt : GntSt := {}
  geo : GeoSt := {}
  rnd : RndSt := {}
  fir : FirSt := {}
  mix : MixSt := {}
  cores : List (Nat × CoreSt) := []
  sch : SchSt := {}
  drc : DrcSt := {}
  sai : SaiSt := {}
  sns : SnsSt := {}
  meas : MeasSt := {}
  mac : MacSt := {}
  bvl : BvlSt := {}
  twin : TwinSt := {}
  host : HostSt := {}
deriving DecidableEq, Repr

/-- The machine right after the power-on reset that PWR_GOOD's rise makes (R395, R527): registers and
memories list nothing, so each reads as its reset value; WAKE W1, the Gauntlet in its power-on reset. The recorder
holds the record of the transition from THERMOS to WAKE that the rise made (R51, R58). -/
def State.reset : State :=
  { log := { opened := some { src := 2, code := 0x40, flags := 1, data := [0, 1, 1, 0, 0, 0, 0, 0, 0, 0, 0, 0], win := 1000000000 } } }

end Sys2Proof.Machine
end

