-- ==== Sys2Proof/Machine/Ops.lean ====
section
/-!
DEFINITION. The named operations that every meaning is written with: registers and their fields, the
memories, the time counter, what leaves the device, the recorder's intake and the detectors.
-/
namespace Sys2Proof.Machine

/-- What a step answers. -/
abbrev Out := Host.Outcome State Fault Refusal

/-! ## Registers -/

/-- The value a register holds. -/
def State.reg (s : State) (a : Nat) : Word := Store.get regReset s.regs a

/-- Put a value into a register. -/
def State.setReg (s : State) (a : Nat) (v : Word) : State :=
  { s with regs := Store.set regReset s.regs a v }

/-- A field of a register. -/
def State.fldR (s : State) (a lo n : Nat) : Nat := fld (s.reg a) lo n

/-- Put a field of a register. -/
def State.setFld (s : State) (a lo n v : Nat) : State := s.setReg a (putFld (s.reg a) lo n v)

/-- A bit of a register. -/
def State.bitR (s : State) (a i : Nat) : Bool := bitOf (s.reg a) i

/-- Set or clear a bit of a register. -/
def State.setBit (s : State) (a i : Nat) (b : Bool) : State := s.setFld a i 1 b.toNat

/-- An event bit sets (W1C registers: R10). -/
def State.evt (s : State) (a i : Nat) : State := s.setBit a i true

/-- A 32-bit counter increments by `k`, saturating (R12). -/
def State.count (s : State) (a k : Nat) : State := s.setReg a (w32 (satU 32 ((s.reg a).toNat + k)))

/-- A counter field of `n` bits increments, saturating (R12). -/
def State.countFld (s : State) (a lo n k : Nat) : State := s.setFld a lo n (satU n (s.fldR a lo n + k))

/-- Every register of a range `[lo, hi)` takes its reset value. -/
def State.resetRange (s : State) (lo hi : Nat) : State :=
  { s with regs := Store.clear (fun a => decide (lo ≤ a) && decide (a < hi)) s.regs }

/-- Where a store of blocks keeps bus `i` of block `n`: the last four blocks of each (R26). -/
def busKey (n i : Nat) : Nat := 4 * i + n % 4

/-- Apply an operation for each element of a list, in order. -/
def State.each {α : Type} (s : State) (l : List α) (f : State → α → State) : State := l.foldl f s

/-- Apply an operation when a condition holds. -/
def State.when (s : State) (c : Bool) (f : State → State) : State := if c then f s else s

/-! ## Memories -/

/-- What a byte of on-chip SRAM that nothing has written reads as: zero, and unity in GR_MIN of a Brim entry (R160, R181). -/
def sramDef (a : Nat) : Byte := if 0x06EDC000 ≤ a ∧ a < 0x06EDF000 ∧ a % 32 = 18 then 0x40 else 0

/-- What a byte of DRAM that nothing has written reads as. -/
def dramDef (_ : Nat) : Byte := 0

/-- An erased flash byte (R465). -/
def flashDef (_ : Nat) : Byte := 0xFF

/-- `n` bytes from address `a` of a store whose entries all lie at or above `a`. -/
def Store.run (d : Nat → Byte) : Nat → Nat → List Host.Cell → List Byte
  | 0, _, _ => []
  | n + 1, a, [] => d a :: Store.run d n (a + 1) []
  | n + 1, a, (b, v) :: r =>
    if b = a then v :: Store.run d n (a + 1) r else d a :: Store.run d n (a + 1) ((b, v) :: r)

/-- The bytes at `[a, a + n)` of a store in canonical form. -/
def Store.bytes (d : Nat → Byte) (m : List Host.Cell) (a n : Nat) : List Byte :=
  Store.run d n a (m.dropWhile (fun e => decide (e.1 < a)))

/-- The entries of bytes from address `a` upward: those that differ from what an unlisted address reads as. -/
def Store.cells (d : Nat → Byte) (a : Nat) : List Byte → List Host.Cell
  | [] => []
  | b :: bs => if b = d a then Store.cells d (a + 1) bs else (a, b) :: Store.cells d (a + 1) bs

/-- Put bytes from address `a` upward. -/
def Store.putBytes (d : Nat → Byte) (m : List Host.Cell) (a : Nat) (bs : List Byte) : List Host.Cell :=
  m.filter (fun e => decide (e.1 < a)) ++ Store.cells d a bs ++ m.filter (fun e => decide (a + bs.length ≤ e.1))

/-- A word of on-chip SRAM, by BAR0 address. -/
def State.sw (s : State) (a : Nat) : Word :=
  w32 (leNat ((List.range 4).map fun i => Store.get sramDef s.sram (a + i)))

/-- Put a word of on-chip SRAM. -/
def State.setSw (s : State) (a : Nat) (v : Word) : State :=
  { s with sram := Store.putBytes sramDef s.sram a (leBytes 4 v.toNat) }

/-- `n` bytes of on-chip SRAM. -/
def State.sramBytes (s : State) (a n : Nat) : List Byte := Store.bytes sramDef s.sram a n

/-- Put bytes into on-chip SRAM. -/
def State.putSram (s : State) (a : Nat) (bs : List Byte) : State :=
  { s with sram := Store.putBytes sramDef s.sram a bs }

/-- `n` bytes of DRAM, by usable address. -/
def State.dramBytes (s : State) (a n : Nat) : List Byte := Store.bytes dramDef s.dram a n

/-- Put bytes into DRAM. -/
def State.putDram (s : State) (a : Nat) (bs : List Byte) : State :=
  { s with dram := Store.putBytes dramDef s.dram a bs }

/-- `n` bytes of the boot flash. -/
def State.bootBytes (s : State) (a n : Nat) : List Byte := Store.bytes flashDef s.boot a n

/-- `n` bytes of the Gauntlet flash. -/
def State.gflashBytes (s : State) (a n : Nat) : List Byte := Store.bytes flashDef s.gflash a n

/-- Put bytes into the Gauntlet flash. -/
def State.putGflash (s : State) (a : Nat) (bs : List Byte) : State :=
  { s with gflash := Store.putBytes flashDef s.gflash a bs }

/-- The canonical form of the four memories. -/
def Memory.wf (s : State) : Bool :=
  Store.wf sramDef s.sram && Store.wf dramDef s.dram && Store.wf flashDef s.boot &&
    Store.wf flashDef s.gflash

/-! ## What leaves the device, and free values -/

/-- The device sends something. -/
def State.emit (s : State) (k : EmKind) (port : Nat) (data : List Byte) : State :=
  { s with out := ⟨k, port, data⟩ :: s.out }

/-- Draw the next free value of a state and count it: a value the spec leaves open. -/
def State.draw (s : State) : State := { s with freeCtr := s.freeCtr + 1 }

/-- The free number the next draw stands for. -/
def State.freeNat (s : State) : Nat := Config.freeValue s.freeCtr

/-! ## Time (R392) -/

/-- The accumulator's 36-bit integer part. -/
def State.int36 (s : State) : Nat := (s.tim.acc >>> 24) % 2 ^ 36

/-- The full time in nanoseconds since the PTP epoch. -/
def State.now (s : State) : Nat := s.fldR Reg.TIM_ERA 0 28 * 2 ^ 36 + s.int36

/-- Put the counter to a full time, with a zero fraction. -/
def State.putTime (s : State) (t : Nat) : State :=
  { s with tim := { s.tim with acc := (t % 2 ^ 36) <<< 24 } }.setReg Reg.TIM_ERA
    (w32 (t / 2 ^ 36 % 2 ^ 28))

/-- A set of the counter: no domain-R sample passes by it (R280). -/
def State.setTime (s : State) (t : Nat) : State :=
  { s with tim := { s.tim with ahead := s.tim.ahead + ((t : Int) - (s.now : Int)) } }.putTime t

/-- Time passes until the counter reads `t`; nothing where it has already passed. TIM_NS wraps set WRAP
(R394). -/
def State.advanceTo (s : State) (t : Nat) : State :=
  if s.now < t then
    ((s.putTime t).when (decide (s.now / 2 ^ 32 < t / 2 ^ 32)) fun s => s.evt Reg.TIM_EVT 0)
  else s

/-! ## Modes and gates -/

/-- The mode code of PWR_MODE_STATUS (R44). -/
def State.pmode (s : State) : Nat := s.fldR Reg.PWR_MODE_STATUS 0 4

/-- PHASE of PWR_MODE_STATUS (R59). -/
def State.phase (s : State) : Nat := s.fldR Reg.PWR_MODE_STATUS 8 3

/-- ALARM is active (R47). -/
def State.alarm (s : State) : Bool := s.bitR Reg.PWR_MODE_STATUS 12

/-- A render train runs (RUNNING of RND_BLK_STATUS, R42). -/
def State.running (s : State) : Bool := s.bitR Reg.RND_BLK_STATUS 0

/-- The application side is held in reset (R478, R518, R520, R527). -/
def State.held (s : State) : Bool :=
  !s.pwr.good || s.pwr.resetN || s.pwr.appHold || s.bitR Reg.PWR_STATUS 11

/-- The application side runs. -/
def State.appOn (s : State) : Bool := !s.held

/-- ROOT is locked and runs (R21). -/
def State.rootUp (s : State) : Bool := s.bitR Reg.CLK_STATUS 4 && s.bitR Reg.CLK_STATUS 0 && !s.clk.rootStop

/-- A block's clock enable is 1 and its side of the device runs (R449, R485). -/
def State.blockOn (s : State) (bit : Nat) : Bool := s.appOn && s.bitR Reg.CLK_EN bit

/-- A rendering mode, MEASURE or STANDBY (R44). -/
def renders (m : Nat) : Bool := decide (4 ≤ m) && decide (m ≤ 9)

/-- Block number for a record: 0 without a train. -/
def State.blkNum (s : State) : Nat := if s.running then s.blk.n else 0

/-! ## Who reaches which block (R449, R485, R537) -/

/-- The CLK_EN bit that gates the block of an address, if one does (R449, R485). -/
def gateBit (a : Nat) : Option Nat :=
  if a < 0x2000000 then
    match a / 0x100000 with
    | 3 => some 4
    | 4 => some 0
    | 5 => some 1
    | 6 => some 2
    | 7 => some 3
    | 8 => some 5
    | 9 => some 6
    | 10 => if a < 0xA40000 then some 7 else if a < 0xA80000 then some 9 else some 8
    | 11 => some 10
    | 12 => some 11
    | 13 => some 12
    | _ => none
  else if a < 0x05000000 then some 0
  else if a < 0x06000000 then some 1
  else if a < 0x06400000 then none
  else if a < 0x06700000 then some 2
  else if a < 0x06900000 then none
  else if a < 0x06A80000 then some 0
  else if a < 0x06C00000 then some 5
  else if a < 0x06D00000 then some 9
  else if a < 0x06D80000 then none
  else if a < 0x06E00000 then some 11
  else if a < 0x06E80000 then some 10
  else if a < 0x06F00000 then some 3
  else if a < 0x06F80000 then some 12
  else if a < 0x06FC0000 then some 0
  else some 4

/-- GNT and HST registers and the Gauntlet arrays stay accessible while the application side is held (R537). -/
def alwaysOn (a : Nat) : Bool :=
  decide (a / 0x100000 = 0) || decide (a / 0x100000 = 17) || decide (a / 0x400000 = 24) ||
    decide (a / 0x80000 = 0xDA)

/-- The addresses of the Gauntlet partition outside its own blocks (R261, R264): G22, G23 and lanes 88 to 95, the
claimed sensing groups with their channels and line entries, and the Gauntlet objects' entries. -/
def State.gntSide (s : State) (a : Nat) : Bool :=
  let o := s.mode.range
  let inR (lo hi : Nat) : Bool := decide (lo ≤ a) && decide (a < hi)
  let claim (i : Nat) : Bool := s.bitR Reg.GNT_SNS_CLAIM i
  inR 0x801580 0x801600 || inR 0x802B00 0x802C00 ||
    (claim 0 && (inR 0x9001C0 0x9001E0 || inR 0x900E00 0x900F00 || inR 0x901600 0x901700)) ||
    (claim 1 && (inR 0x9001E0 0x900200 || inR 0x900F00 0x901000 || inR 0x901700 0x901800)) ||
    inR (0x06F80000 + 32 * (o - 32)) (0x06F80000 + 32 * o) || inR (0x06F88000 + 384 * (o - 32)) (0x06F88000 + 384 * o)

/-- Whether an access to an address reaches its block: not held, and not gated; the silent zero never applies inside
the Gauntlet partition (R264, R449, R537). -/
def State.reach (s : State) (a : Nat) : Bool :=
  alwaysOn a || s.gntSide a || (s.appOn && (match gateBit a with | some b => s.bitR Reg.CLK_EN b | none => true))

/-- The device takes an access of an initiator: PCIe's once its link has trained (R539), and none before PWR_GOOD. -/
def State.admits (s : State) (ini : Initiator) : Bool :=
  s.pwr.good && (decide (ini ≠ .pcie) || s.bitR Reg.HST_STATUS 0)

/-- A row that is an access acts when the access reaches its block, and is dropped silently otherwise. -/
def State.access (s : State) (ini : Initiator) (a : Nat) (f : State → State) : Out :=
  .next (if s.admits ini && s.reach a then f s else s)

/-- Initiator code of R288, byte 4. -/
def iniCode : Initiator → Nat
  | .pcie => 0
  | .qspi => 1
  | .service => 2
  | .dma => 3
  | .remote => 4
  | .other => 5
  | .gauntlet => 5

/-- What the initiator of a read gets. -/
def State.answer (s : State) (ini : Initiator) (v : Word) : State := s.emit .rdata (iniCode ini) (leBytes 4 v.toNat)

/-- A row that is a read: the initiator gets the word, or zero where the block is held or gated (R449, R537). -/
def State.readRow (s : State) (ini : Initiator) (a : Nat) (f : State → State × Word) : Out :=
  .next (if !s.admits ini then s
    else if s.reach a then (f s).1.answer ini (f s).2 else s.answer ini 0)

/-- An event of an application block: nothing happens while the block is held or gated. -/
def State.event (s : State) (a : Nat) (f : State → State) : Out := .next (if s.reach a then f s else s)

/-! ## The recorder's intake (R456 to R463) -/

/-- REC_STATUS.STATE: 0 OFF, 1 RUN, 2 FULL, 3 FAILED (R464). -/
def State.recState (s : State) : Nat := s.fldR Reg.REC_STATUS 0 2

/-- A record is lost: REC_LOST counts it and REC_EVT.LOST sets (R461). -/
def State.recLose (s : State) : State := (s.count Reg.REC_LOST 1).evt Reg.REC_EVT 0

/-- A LOG-FULL or CLEAR or LOST record of the recorder itself (R462, R464, R467): DATA holds a count. -/
def State.recOwn (s : State) (code v : Nat) : RecEntry :=
  { total := s.now, src := 0x11, code := code, count := 1
    flags := s.pmode + 16 * s.strap.seat.toNat + 32 * s.alarm.toNat + 64 * (decide (s.fldR Reg.TIM_SERVO_STAT 0 3 = 2)).toNat
    data := leBytes 4 v ++ List.replicate 8 0, seq := s.fldR Reg.REC_SEQ 0 16 }

/-- SEQ moves on (R458). -/
def State.recSeq (s : State) : State := s.setReg Reg.REC_SEQ (w32 ((s.fldR Reg.REC_SEQ 0 16 + 1) % 65536))

/-- In RUN, a queued record that would need the last slot makes the log FULL: LOG-FULL takes the slot, and the
records that wait are lost (R464). -/
def State.recFull (s : State) : State :=
  if s.recState = 1 ∧ s.log.queue ≠ [] ∧ s.log.searching = false ∧ s.log.erasing = false ∧
      (s.reg Reg.REC_NEXT).toNat + 1 = (s.reg Reg.REC_SIZE).toNat then
    let full := s.recOwn 0x42 (s.reg Reg.REC_LOST).toNat
    let s1 := ((s.recSeq.setFld Reg.REC_STATUS 0 2 2).evt Reg.REC_EVT 1).count Reg.REC_LOST s.log.queue.length
    { s1.evt Reg.REC_EVT 0 with log := { s1.log with queue := [full] } }
  else s

/-- Commit a record: it takes the next SEQ and enters the queue, or is lost (R458, R461, R464). -/
def State.recCommit (s : State) (r : RecEntry) : State :=
  let q := s.fldR Reg.REC_SEQ 0 16
  let s := s.recSeq
  if s.log.searching || s.log.erasing || decide (s.recState = 1) then
    if s.log.queue.length < 64 then
      ({ s with log := { s.log with queue := s.log.queue ++ [{ r with seq := q }] } } : State).recFull
    else { s with log := { s.log with lostRun := s.log.lostRun + 1 } }.recLose
  else s.recLose

/-- Commit the open record, if one is open (R460). -/
def State.recCommitOpen (s : State) : State :=
  match s.log.opened with
  | none => s
  | some r => { s with log := { s.log with opened := none } }.recCommit r

/-- Byte 14 of a record taken now (R456). -/
def State.recFlags (s : State) (submitted : Bool) : Nat :=
  s.pmode + 16 * s.strap.seat.toNat + 32 * s.alarm.toNat +
    64 * (decide (s.fldR Reg.TIM_SERVO_STAT 0 3 = 2)).toNat + 128 * submitted.toNat

/-- An event reaches the recorder: it coalesces into the open record, or replaces it (R459, R460); while
PFW_N is low it is counted as lost (R463). -/
def State.recEvent (s : State) (src code : Nat) (data : List Byte) (submitted : Bool) : State :=
  if s.log.pfw then s.recLose else
  let data := padTo 12 data
  let w := s.fldR Reg.REC_WINDOW 0 16 * 1000000
  let fresh : RecEntry :=
    { total := s.now, src := src, code := code, count := 1, flags := s.recFlags submitted, data := data, seq := 0, win := w }
  let openNew (s : State) : State :=
    if w = 0 then s.recCommit fresh else { s with log := { s.log with opened := some fresh } }
  match s.log.opened with
  | none => openNew s
  | some r =>
    if r.src = src ∧ r.code = code ∧ r.data = data ∧ s.now < r.total + r.win then
      let r' := { r with count := r.count + 1 }
      if r'.count ≥ 0xFFFF then { s with log := { s.log with opened := none } }.recCommit r'
      else { s with log := { s.log with opened := some r' } }
    else openNew s.recCommitOpen

/-- A device event is recorded. -/
def State.note (s : State) (src code : Nat) (data : List Byte) : State := s.recEvent src code data false

/-! ## Detectors (R441, R443) -/

/-- Bit `d` of INT_DET0 or INT_DET1 sets. -/
def State.detBit (s : State) (d : Nat) : State :=
  if d < 32 then s.evt Reg.INT_DET0 d else s.evt Reg.INT_DET1 (d - 32)

/-- A detector is raised and recorded with its owner's source and data. -/
def State.raiseDet (s : State) (d src : Nat) (data : List Byte) : State :=
  (s.detBit d).note src d data

/-- Little-endian block number bytes (six). -/
def State.blkBytes (s : State) : List Byte := leBytes 6 s.blkNum

/-- An event bit sets, and the first setting from 0 is recorded. -/
def State.evtFirst (s : State) (a i src code : Nat) (data : List Byte) : State :=
  if s.bitR a i then s else (s.evt a i).note src code data

/-! ## The Gauntlet's status, faults and denials -/

/-- GNT_STATUS changes; a change of ASTATE, UNUSABLE or TRAIL_LIVE latches source 30 (R541). -/
def State.setGntStatus (s : State) (v : Word) : State :=
  let old := s.reg Reg.GNT_STATUS
  (s.setReg Reg.GNT_STATUS v).when (decide ((old &&& 0x57) ≠ (v &&& 0x57))) fun s =>
    s.evt Reg.HST_IRQ_LATCH 30

/-- ASTATE of GNT_STATUS: 0 QUIET, 1 ALERT, 2 EVAC, 3 TEST, 4 FAULT. -/
def State.astate (s : State) : Nat := s.fldR Reg.GNT_STATUS 0 3

/-- ALARM and ALARM_TRK follow the alarm state (R47). -/
def State.alarmSync (s : State) : State :=
  let a := decide (s.astate = 1) || decide (s.astate = 2)
  let m := s.pmode
  let can := decide (m = 2) || (decide (4 ≤ m) && decide (m ≤ 8)) || decide (m = 11)
  (s.setBit Reg.PWR_MODE_STATUS 12 (a && can)).setBit Reg.PWR_MODE_STATUS 13 (a && decide (m = 9))

/-- FLT_OUT[3:0] follow R270: bit 0 is hardware's, the others firmware's once it runs. -/
def State.fltSync (s : State) : State :=
  let f := s.reg Reg.GNT_FAULTS
  let b0 := s.bitR Reg.GNT_STATUS 6 && !s.bitR Reg.GNT_STATUS 4
  let b1 := !(decide (s.astate = 4) || decide (f ≠ 0))
  let b2 := !(bitOf f 2 || bitOf f 3 || bitOf f 5)
  let b3 := !(decide (s.pmode = 11) || bitOf f 8)
  s.setReg Reg.GNT_FLT_OUT
    (w32 (b0.toNat + (if s.gnt.fw then 2 * b1.toNat + 4 * b2.toNat + 8 * b3.toNat else 0)))

/-- The alarm state changes and is recorded with event 0x40 (R269, R288). -/
def State.setAstate (s : State) (st srcCode op group prog : Nat) : State :=
  if s.astate = st then s else
    (((s.setGntStatus (putFld (s.reg Reg.GNT_STATUS) 0 3 st)).note 1 0x40
      [b8 s.astate, b8 st, b8 srcCode, b8 op, b8 group, b8 prog]).alarmSync).fltSync

/-- A bit of GNT_FAULTS sets; in QUIET the state becomes FAULT (R269). -/
def State.gntFault (s : State) (bit : Nat) : State :=
  let s := s.setBit Reg.GNT_FAULTS bit true
  (if s.astate = 0 then s.setAstate 4 4 0 0 0 else s).fltSync

/-- A write that R262 does not admit is dropped: counted, latched and recorded (R263). -/
def State.deny (s : State) (ini : Initiator) (a : Nat) : State :=
  ((s.count Reg.GNT_DENY_COUNT 1).setReg Reg.GNT_DENY_ADDR (w32 a)).note 1 0x42
    (leBytes 4 a ++ [b8 (iniCode ini)])

/-- GNT_FAULTS.APP at an entry to SAFE-HOLD caused by a fault (R444). -/
def State.appFault (s : State) : State := s.gntFault 8

end Sys2Proof.Machine
end

