-- ==== Sys2Proof/Machine/Trail.lean ====
section
/-!
DEFINITION. What the Trail routes to a feed (R171, R172, R176): zone buses, memberships, the crossing into domain R, and a feed's Trail
substitute (R46).
-/
namespace Sys2Proof.Machine

/-- A zone bus's setting in force. -/
def State.zb (s : State) (z : Nat) : BusWords := Store.get (fun _ => ({} : BusWords)) s.trail.zb z

/-- A feed's membership in force. -/
def State.tf (s : State) (f : Nat) : FeedZones := Store.get (fun _ => ({} : FeedZones)) s.trail.tf f

/-- The instant up to which domain-G samples have been framed, or the time counter's later reading. -/
def State.gNow (s : State) : Nat :=
  match s.sai.gsrc with
  | g :: _ => max s.now g.at_
  | [] => s.now

/-- The domain-G sample at instant `u`, if one was framed within half a sample of it. -/
def State.gSample (s : State) (u : Int) : Option (List Int) :=
  match s.sai.gsrc.find? fun g => decide ((g.at_ : Int) ≤ u + 10416) with
  | some g => if u < g.at_ + 20834 then some g.src else none
  | none => none

/-- The instant of the domain-G sample that a sample at `u` comes from where the crossing is a FIFO, and `u` itself otherwise. -/
def State.gInst (s : State) (u : Int) : Int :=
  if s.bitR Reg.CLK_STATUS 11 ∨ s.blk.fr ≠ 48000 then u
  else
    match s.sai.gsrc.find? fun g => decide ((g.at_ : Int) ≤ u + 10416) with
    | some g => if u < g.at_ + 20834 then g.at_ else u
    | none => u

/-- The crossing between the domains R and G is a plain FIFO: domain G runs from GPLL and Fr is 48 kHz (R36). -/
def State.plain (s : State) : Bool := !s.bitR Reg.CLK_STATUS 11 && decide (s.blk.fr = 48000)

/-- A bus's setting for the domain-G sample at instant `u`. -/
def State.zbAt (s : State) (z : Nat) (u : Int) : BusWords :=
  match s.trail.hist.find? fun h => !h.feed && decide (h.ix = z) && decide (u < h.at_) with
  | some h => h.bus
  | none => s.zb z

/-- A feed's membership for the domain-G sample at instant `u`. -/
def State.tfAt (s : State) (f : Nat) (u : Int) : FeedZones :=
  match s.trail.hist.find? fun h => h.feed && decide (h.ix = f) && decide (u < h.at_) with
  | some h => h.zones
  | none => s.tf f

/-- The priority and source a bus selects, if it is active (R171). -/
def BusWords.sel (w : BusWords) : Option (Nat × Nat) :=
  (((List.range 8).filter fun p => bitOf w.act p).getLast?).map fun p =>
    (p, if p < 4 then fld w.lo (8 * p) 6 else fld w.hi (8 * (p - 4)) 6)

/-- The bus that feeds a feed of a membership, with `bus` the settings of the buses: source and level of the member with the highest
priority (R172). -/
def FeedZones.sel (z : FeedZones) (bus : Nat → BusWords) : Option (Nat × Int) :=
  let cand := ((List.range 4).filter fun i => z.valid.testBit i).filterMap fun i =>
    let w := bus (fld z.zones (8 * i) 8)
    w.sel.map fun p => (p.1, p.2, sfld w.level 0 24)
  (cand.foldl (fun (b : Option (Nat × Nat × Int)) c =>
    match b with
    | none => some c
    | some x => if x.1 < c.1 then some c else b) none).map fun c => (c.2.1, c.2.2)

/-- The bus that feeds a feed at instant `u`. -/
def State.feedSel (s : State) (f : Nat) (u : Int) : Option (Nat × Int) := (s.tfAt f u).sel fun z => s.zbAt z u

/-- What a selection puts out of a source vector: zero where nothing is selected (R171, R172). -/
def trailOut (sel : Option (Nat × Int)) (src : List Int) : Int :=
  match sel with
  | some p => satN 32 (rndShift (nth src p.1 0 * p.2) 22)
  | none => 0

/-- The sample that source `i` of the Trail has behind the crossing into domain R, from the domain-G sample at `u`: through the FIFO
where the crossing is plain (R36, R176), otherwise what its converter makes of the samples it holds by then; `given` where no
domain-G sample was framed. -/
def State.crossIn (s : State) (i : Nat) (u : Int) (given : Int) : Int :=
  if s.plain then
    match s.gSample u with
    | some v => nth v i 0
    | none => given
  else
    match s.sai.gsrc.filter fun g => decide ((g.at_ : Int) ≤ u + 166667) with
    | [] => given
    | g :: r => sext 32 (Config.cross (s.bitR Reg.CLK_STATUS 11) (u + 166667 - g.at_) ((g :: r.take 39).map fun x => nth x.src i 0)).toNat

/-- A feed's sample without a render output at instant `t`: its Trail substitute (R46, R176); `src` gives the sources of a crossing
that converts. -/
def State.subAt (s : State) (f t : Nat) (src : List Int) : Int :=
  let u : Int := (t : Int) - 1000000
  trailOut (s.feedSel f (s.gInst u)) ((List.range 64).map fun i => s.crossIn i u (nth src i 0))

/-- A feed's Trail substitute now. -/
def State.substitute (s : State) (f : Nat) (src : List Int) : Int := s.subAt f s.gNow src

end Sys2Proof.Machine
end

