-- ==== Sys2Proof/Machine/Freeze.lean ====
section
/-!
DEFINITION. What the twin pair puts before everything else (Twin Pairs): the frames of R294, the write log of a duty
unit (R296), the freeze and the YIELD of R306, and an unrecoverable fault (R57), which a paired duty unit answers with
a yield.
-/
namespace Sys2Proof.Machine

/-! ## The unit (R290, R294, R311) -/

/-- The payload of the active TWIN section. -/
def State.twinSect (s : State) : Option (List Byte) := (s.cfg.active.find? fun x => decide (x.ty = 0xE)).map (·.body)

/-- This unit is duty. -/
def State.isDuty (s : State) : Bool := s.bitR Reg.TWN_STATUS 1

/-- Outputs are frozen under R306. -/
def State.isFrozen (s : State) : Bool := s.bitR Reg.TWN_STATUS 2

/-- SYNC: 0 NONE, 1 TABLES, 2 SHADOW, 3 EXACT. -/
def State.syncOf (s : State) : Nat := s.fldR Reg.TWN_STATUS 3 2

/-- A standby whose geometry and tiles follow the record. -/
def State.follows (s : State) : Bool := decide (s.pmode = 9) && decide (2 ≤ s.syncOf)

/-- PAIR_ID of the active image. -/
def State.pairId (s : State) : Nat := match s.twinSect with
  | some p => leAt p 0 2
  | none => 0

/-- HB_PATHS: link 0, pin 1, MAC ports 2 and 3. -/
def State.hbPaths (s : State) : List Nat := match s.twinSect with
  | some p => (List.range 4).filter fun i => (leAt p 2 1).testBit i
  | none => []

/-- FLAGS of a heartbeat. -/
def State.twinFlags (s : State) : Nat :=
  s.isDuty.toNat + 2 * (s.twin.yield.isSome).toNat + 4 * s.isFrozen.toNat + 8 * s.syncOf + 32 * s.strap.seat.toNat

/-- A frame of the Twin link: header, payload and the CRC over both (R294). -/
def State.twinFrame (s : State) (kind flags blk w20 : Nat) (pay : List Byte) : List Byte :=
  let h := [b8 kind, b8 flags] ++ leBytes 2 s.pairId ++ leBytes 6 blk ++ leBytes 2 (s.fldR Reg.TWN_EPOCH 0 16) ++ leBytes 4 pay.length ++
    leBytes 4 (s.reg Reg.TWN_PLAN_CRC).toNat ++ leBytes 4 w20 ++ [0, 0, 0, 0]
  h ++ leBytes 4 (crc32 (h ++ pay)) ++ pay

/-- A frame has a whole header, the length it names, this pair's PAIR_ID and a good CRC. -/
def State.twinGood (s : State) (f : List Byte) : Bool :=
  decide (32 ≤ f.length) && decide (leAt f 12 4 + 32 = f.length) && decide (leAt f 2 2 = s.pairId) &&
    decide (leAt f 28 4 = crc32 (f.take 28 ++ f.drop 32))

/-- A record of R311, code 0x40. -/
def State.twinNote (s : State) (kind gap : Nat) : State :=
  s.note 0xF 0x40 ([b8 kind, b8 s.syncOf] ++ leBytes 2 (s.fldR Reg.TWN_EPOCH 0 16) ++ s.blkBytes ++ leBytes 2 gap)

/-! ## Tracked writes (R296, R297) -/

/-- A register whose writes are tracked: RW, SW or WO. -/
def trackedCode (a : Nat) : Bool :=
  match regCode a with
  | .rw => true
  | .sw => true
  | .wo => true
  | _ => false

/-- The windows of tracked state whose writes the device ignores: the object state and the reserved end of its array (R62). -/
def trackedRo (a : Nat) : Bool :=
  (decide (0x06F84000 ≤ a) && decide (a < 0x06F88000)) || (decide (0x06FBF800 ≤ a) && decide (a < 0x06FC0000))

/-- The registers and windows of tracked state. -/
def trackedAddr (a : Nat) : Bool :=
  (((decide (0x400000 ≤ a) && decide (a < 0x600000)) || (decide (0x700000 ≤ a) && decide (a < 0x800000))) && trackedCode a) ||
    (decide (0x05000000 ≤ a) && decide (a < 0x05780000)) || (decide (0x06E80000 ≤ a) && decide (a < 0x06F00000)) ||
    (decide (0x06F80000 ≤ a) && decide (a < 0x06FC0000))

/-- A paired duty unit logs a write that takes effect. -/
def State.logWrite (s : State) (a : Nat) (v : Word) : State :=
  if s.isDuty ∧ trackedAddr a then { s with twin := { s.twin with log := s.twin.log ++ [(a, v)] } } else s

/-- A RESTART stands for the next C(n): a request, a restart of the pair or an armed swap waits for its boundary. -/
def State.restartAhead (s : State) : Bool := s.mode.req.isSome || s.mode.twin.isSome || decide (s.fldR Reg.CFG_STATUS 4 2 ≠ 0)

/-- The bytes of C(n) if one more write entered its log: the fixed part, the SEL vector of a RESTART, the count, the positions and
the log. -/
def State.logSize (s : State) : Nat :=
  18 + (if s.restartAhead then 48 else 0) + 16 * s.geo.fab.length + 8 * (s.twin.log.length + 1)

/-- One more write to `a` would overflow C(n) of a duty unit; one that the device ignores enters no log. -/
def State.logFull (s : State) (a : Nat) : Bool := s.isDuty && !trackedRo a && decide (129024 < s.logSize)

/-- A write to tracked state: on a standby dropped and counted unless the unit's own Gauntlet makes it, held where C(n) would
overflow, and otherwise made (R296, R297). -/
def State.gateTracked (s : State) (ini : Initiator) (a : Nat) (v : Word) (f : State → State) : State :=
  if !trackedAddr a then f s
  else if s.pmode = 9 ∧ ini ≠ .gauntlet then (s.count Reg.TWN_LOCAL_WR 1).evt Reg.TWN_EVT 6
  else if s.logFull a then
    { s.count Reg.TWN_LOG_HELD 1 with twin := { s.twin with held := s.twin.held ++ [(a, v)] } }
  else f s

/-- A write row of a tracked register. -/
def State.writeTracked (s : State) (ini : Initiator) (a : Nat) (v : Word) (f : State → State) : Out :=
  s.access ini a fun s => s.gateTracked ini a v f

/-! ## The freeze (R306) -/

/-- The instant of Sn on the Tn schedule (R22). -/
def State.snNs (s : State) (n : Nat) : Nat := s.blk.t0 + n * s.blk.b * 1000000000 / s.blk.fr

/-- The index, counted from sample 0 of block 0, of the output sample that leaves now; none before block 0 leaves. -/
def State.outIdx (s : State) : Option Nat :=
  if s.running ∧ 3 ≤ s.blk.n then
    some ((s.blk.n - 3) * s.blk.b + min (s.blk.b - 1) ((s.now - s.snNs s.blk.n) * s.blk.fr / 1000000000))
  else none

/-- Output sample `i` of feed `f` that a block at the port mapper holds. -/
def State.mapped (s : State) (f i : Nat) : Option Int :=
  let n := i / s.blk.b
  (s.mix.ovrOut.find? fun p => decide (p.1 = busKey n f) && decide (p.2.blk = n)).map fun p => nth p.2.smp (i % s.blk.b) 0

/-- A duty unit may yield: YIELD_EN, a partner in SHADOW or EXACT, and a path that is up. -/
def State.yieldMay (s : State) : Bool :=
  s.isDuty && s.twin.yield.isNone && decide (2 ≤ s.fldR Reg.TWN_PARTNER 3 2) && decide (s.fldR Reg.TWN_STATUS 8 4 ≠ 0) &&
    (match s.twinSect with
      | some p => (leAt p 0xE 1).testBit 0
      | none => false)

/-- The unit freezes with the next sample and sends YIELD. `cause`: the detector of a fault, 0 for TWN_CMD.YIELD, 0x100 for
the conflict of R310, 0x200 for UNUSABLE. Where no block of the train leaves, the samples it holds are the Trail substitutes that
leave (R46, R56), from free values where a crossing converts (assumption 16). -/
def State.freeze (s : State) (cause : Nat) : State :=
  let (s1, f, hold) : State × Nat × List Int := match s.outIdx with
    | some i => (s, i + 1, (List.range 384).map fun k => (s.mapped k i).getD 0)
    | none => (s.draw, 0, (List.range 384).map fun k =>
        s.substitute k ((List.range 64).map fun i => sext 32 (s.freeNat / 2 ^ (32 * i))))
  let s2 := ({ s1 with twin := { s1.twin with yield := some cause, at_ := f, hold := hold, rampAt := none, rampNs := none } }.setBit
    Reg.TWN_STATUS 2 true).evt Reg.TWN_EVT 1
  let pay := leBytes 4 (f / max 1 s.blk.b) ++ leBytes 2 (f % max 1 s.blk.b) ++ hold.flatMap fun v => leBytes 4 (toBits 32 v)
  (s2.emit .twinFrame 0 (s2.twinFrame 4 0 s.blkNum 0 pay)).twinNote 2 0

/-! ## Unrecoverable faults (R57) -/

/-- An unrecoverable fault of R57 waits for its boundary, the first one standing; a duty unit that may yield freezes
instead, and one that yields already goes on (R306). -/
def State.fatal (s : State) (det : Nat) : State :=
  if s.twin.yield.isSome then s
  else if s.yieldMay then s.freeze (if det = 0 then 0x200 else det)
  else
    match s.mode.fault with
    | some _ => s
    | none => { s with mode := { s.mode with fault := some det } }

end Sys2Proof.Machine
end

