-- ==== Sys2Proof/Machine/Sram.lean ====
section
/-!
DEFINITION. The on-chip arrays and their checks (R37, R438 to R440, R447): which array an address lies in,
what a read finds, what a write repairs or corrupts, and the records of detectors 0x01 and 0x02.
-/
namespace Sys2Proof.Machine

/-- An array of R37 with its code, source and check (R440): base, size in bytes, source, parity. -/
structure ArrayRow where
  base : Nat
  size : Nat
  src : Nat
  parity : Bool
deriving DecidableEq, Repr

/-- The sixteen arrays in the order of their codes (R37, R440). -/
def arrayRows : List ArrayRow := [
  ⟨0x04000000, 0x1000000, 0x07, false⟩, ⟨0x05000000, 0x780000, 0x08, false⟩,
  ⟨0x05800000, 0x480000, 0x08, false⟩, ⟨0x06000000, 0x400000, 0x01, false⟩,
  ⟨0x06400000, 0x300000, 0x09, false⟩, ⟨0x06700000, 0x200000, 0x14, false⟩,
  ⟨0x06900000, 0x180000, 0x07, true⟩, ⟨0x06A80000, 0x180000, 0x0B, false⟩,
  ⟨0x06C00000, 0x100000, 0x0D, false⟩, ⟨0x06D00000, 0x80000, 0x01, false⟩,
  ⟨0x06D80000, 0x80000, 0x0F, false⟩, ⟨0x06E00000, 0x80000, 0x0E, false⟩,
  ⟨0x06E80000, 0x80000, 0x0A, false⟩, ⟨0x06F00000, 0x80000, 0x10, false⟩,
  ⟨0x06F80000, 0x40000, 0x06, false⟩, ⟨0x06FC0000, 0x40000, 0x05, true⟩]

/-- The row of an array code. -/
def arrayRow (c : Nat) : ArrayRow := nth arrayRows c ⟨0, 0, 0, false⟩

/-- The code of the array that holds a BAR0 address, if one does (R37, R38). -/
def arrayOf (a : Nat) : Option Nat :=
  arrayRows.findIdx? (fun r => decide (r.base ≤ a) && decide (a < r.base + r.size))

/-- The 64-bit word index of an address within its array. -/
def wordIdx (c a : Nat) : Nat := (a - (arrayRow c).base) / 8

/-- The stored error of the word that holds an address, if there is one. -/
def State.flawAt (s : State) (a : Nat) : Option BadWord :=
  match arrayOf a with
  | none => none
  | some c => s.sramBad.find? (fun b => decide (b.array = c) && decide (b.word = wordIdx c a))

/-- Whether a stored error cannot be corrected: parity arrays correct nothing (R438). -/
def BadWord.hard (b : BadWord) : Bool := (arrayRow b.array).parity || decide (2 ≤ b.bits.length)

/-- An engine's or a host's view of a word: zero where it is uncorrectable (R37, R439). -/
def State.swz (s : State) (a : Nat) : Word :=
  match s.flawAt a with
  | some b => if b.hard then 0 else s.sw a
  | none => s.sw a

/-- Whether the word that holds an address is uncorrectable. -/
def State.swBad (s : State) (a : Nat) : Bool :=
  match s.flawAt a with
  | some b => b.hard
  | none => false

/-- The raise of detector 0x01 or 0x02 with the data of R440; the syndrome of a SECDED word is a free value,
since the spec states no code. -/
def State.raiseSram (s : State) (b : BadWord) (kind : Nat) : State :=
  let syn := if (arrayRow b.array).parity then 0 else s.freeNat % 256
  let s := s.draw
  let data := [b8 b.array, b8 (kind + (if b.injected then 0x80 else 0))] ++ leBytes 3 b.word ++ [b8 syn] ++
    s.blkBytes
  let s := s.setReg Reg.INT_SRAM_LAST (w32 (b.array * 2 ^ 24 + b.word))
  if kind = 1 then
    ((s.detBit 1).count Reg.INT_SRAM_CE_COUNT 1).evtFirst Reg.INT_EVT 1 (arrayRow b.array).src 1 data
  else (((s.detBit 2).count Reg.INT_SRAM_UE_COUNT 1).evt Reg.INT_EVT 2).note (arrayRow b.array).src 2 data

/-- Remove the stored error of a word. -/
def State.dropFlaw (s : State) (b : BadWord) : State :=
  { s with sramBad := s.sramBad.filter (fun x => !(decide (x.array = b.array) && decide (x.word = b.word))) }

/-- What a read of the word does: corrects and writes back a single error, raises for each error found. -/
def State.scrub1 (s : State) (b : BadWord) : State :=
  if b.hard then s.raiseSram b (if (arrayRow b.array).parity then 3 else 2)
  else (s.dropFlaw b).raiseSram b 1

/-- The read of every word in `[a, a + n)`: each stored error found is corrected or raised. -/
def State.scrub (s : State) (a n : Nat) : State :=
  if s.sramBad.isEmpty then s else
  s.each (s.sramBad.filter fun b =>
    decide (a < (arrayRow b.array).base + 8 * b.word + 8) && decide ((arrayRow b.array).base + 8 * b.word < a + n))
    State.scrub1

/-- Bytes as an engine reads them: those of uncorrectable words are zero (R37). -/
def State.sramClean (s : State) (a n : Nat) : List Byte :=
  if s.sramBad.isEmpty then s.sramBytes a n
  else (s.sramBytes a n).zipIdx.map fun x => if s.swBad (a + x.2) then 0 else x.1

/-- An array holds an uncorrectable word. -/
def State.arrayBad (s : State) (c : Nat) : Bool := s.sramBad.any fun b => decide (b.array = c) && b.hard

/-- An engine meets the stored errors of its array, whose layout the spec does not give: each is raised, and the words are written anew. -/
def State.arraySweep (s : State) (c : Nat) : State :=
  if s.sramBad.isEmpty then s
  else
    let t := s.scrub (arrayRow c).base (arrayRow c).size
    { t with sramBad := t.sramBad.filter fun b => decide (b.array ≠ c) }

/-- A read of one word through a window (R38, R439). -/
def State.sramRead (s : State) (a : Nat) : State × Word :=
  match s.flawAt a with
  | some b => (s.scrub1 b, s.swz a)
  | none => (s, s.sw a)

/-- The target of an armed SRAM injection: its array, word and inverted bits (R447). -/
def State.armedSram (s : State) (c w : Nat) : Option (List Nat) :=
  let t := s.reg Reg.INT_SRAM_TGT
  if fld t 24 4 = c ∧ fld t 0 21 = w then
    let b0 := s.fldR Reg.INT_SRAM_BITS 0 6
    let b1 := s.fldR Reg.INT_SRAM_BITS 8 6
    if s.bitR Reg.INT_INJ0 1 then some [b0]
    else if s.bitR Reg.INT_INJ0 2 then some (if (arrayRow c).parity then [b0] else [b0, b1]) else none
  else none

/-- After a write of word `w` of array `c`: an armed injection that names it corrupts it and clears (R447). -/
def State.corruptIfArmed (s : State) (c w : Nat) : State :=
  match s.armedSram c w with
  | none => s
  | some bits =>
    let bit := if s.bitR Reg.INT_INJ0 1 then 1 else 2
    { s with sramBad := ⟨c, w, bits, true⟩ :: s.sramBad }.setBit Reg.INT_INJ0 bit false

/-- An engine writes bytes from `a` upward: errors of the words written go, and an armed injection acts. -/
def State.putArray (s : State) (a : Nat) (bs : List Byte) : State :=
  let s := s.putSram a bs
  match arrayOf a with
  | none => s
  | some c =>
    let w0 := wordIdx c a
    let w1 := wordIdx c (a + bs.length - 1)
    let s := if s.sramBad.isEmpty then s else
      { s with sramBad := s.sramBad.filter fun b => !(decide (b.array = c) && decide (w0 ≤ b.word) && decide (b.word ≤ w1)) }
    let t := s.fldR Reg.INT_SRAM_TGT 0 21
    if (s.bitR Reg.INT_INJ0 1 || s.bitR Reg.INT_INJ0 2) ∧ w0 ≤ t ∧ t ≤ w1 then s.corruptIfArmed c t else s

/-- An engine writes one word. -/
def State.putWord (s : State) (a : Nat) (v : Word) : State := s.putArray a (leBytes 4 v.toNat)

/-- A number of inverted bits applied to the 64 bits at `a`. -/
def flip64 (v : Nat) (bits : List Nat) : Nat := bits.foldl (fun v i => v ^^^ 2 ^ i) v

/-- A host write of one word through a window, as the array's check makes it (R38, R439, R447). -/
def State.sramHostWrite (s : State) (a : Nat) (v : Word) : State :=
  match arrayOf a with
  | none => s
  | some c =>
    let base := a / 8 * 8
    let s := match s.flawAt a with
      | none => s.setSw a v
      | some b =>
        if (arrayRow c).parity then
          (if b.bits.any (fun i => decide (i / 32 = a % 8 / 4)) then s.dropFlaw b else s).setSw a v
        else if b.hard then
          let raw := flip64 (leNat (s.sramBytes base 8)) b.bits
          (((s.dropFlaw b).putSram base (leBytes 8 raw)).setSw a v).raiseSram b 4
        else (s.scrub1 b).setSw a v
    s.corruptIfArmed c (wordIdx c a)

end Sys2Proof.Machine
end

