-- ==== Sys2Proof/Machine/Jobs.lean ====
section
/-!
DEFINITION. The dispatcher's descriptors (R215 to R217), the job codes of R219, and the transfers that wait for the items that
name them.
-/
namespace Sys2Proof.Machine

/-! ## Descriptors (R215 to R217) -/

/-- Address of descriptor `d`. -/
def descAddr (d : Nat) : Nat := 0x06FC0000 + 32 * d

/-- `n` bytes from byte `i` of descriptor `d`. -/
def State.dF (s : State) (d i n : Nat) : Nat := leNat (s.sramBytes (descAddr d + i) n)

/-- Put bytes into descriptor `d`. -/
def State.dPut (s : State) (d i : Nat) (bs : List Byte) : State := s.putArray (descAddr d + i) bs

/-- Engine class. -/
def State.dClass (s : State) (d : Nat) : Nat := s.dF d 0 1 % 16

/-- Release event. -/
def State.dTrig (s : State) (d : Nat) : Nat := s.dF d 0 1 / 16

/-- Priority. -/
def State.dPrio (s : State) (d : Nat) : Nat := s.dF d 1 1 % 8

/-- NOTIFY. -/
def State.dNotify (s : State) (d : Nat) : Bool := (s.dF d 1 1).testBit 3

/-- ITEMWISE. -/
def State.dItemwise (s : State) (d : Nat) : Bool := (s.dF d 1 1).testBit 4

/-- Flow; 0 is no flow. -/
def State.dFlow (s : State) (d : Nat) : Nat := s.dF d 2 1

/-- Slot within the class, or 0xFF. -/
def State.dEngine (s : State) (d : Nat) : Nat := s.dF d 3 1

/-- Block number. -/
def State.dBlock (s : State) (d : Nat) : Nat := s.dF d 4 6

/-- Template index. -/
def State.dTemplate (s : State) (d : Nat) : Nat := s.dF d 10 2

/-- Predecessors not yet complete. -/
def State.dPending (s : State) (d : Nat) : Nat := s.dF d 16 1 % 16

/-- STATE: 0 FREE, 1 WAIT, 2 READY, 3 RUN, 4 DONE. -/
def State.dState (s : State) (d : Nat) : Nat := s.dF d 17 1 % 8

/-- FEED. -/
def State.dFeed (s : State) (d : Nat) : Nat := s.dF d 18 2

/-- ITEMS. -/
def State.dItems (s : State) (d : Nat) : Nat := s.dF d 28 2

/-- ARG. -/
def State.dArg (s : State) (d : Nat) : Nat := s.dF d 30 2

/-- The successors named. -/
def State.dSucc (s : State) (d : Nat) : List Nat :=
  ((List.range 4).map fun i => s.dF d (20 + 2 * i) 2).filter fun x => decide (x ≠ 0xFFFF)

/-! ## Jobs (R219) -/

/-- A job code that carries a block: only templates may name it. -/
def blockJob (cls a : Nat) : Bool :=
  match cls with
  | 4 => (decide (0x4000 ≤ a) && decide (a < 0x4200)) || (decide (0x4400 ≤ a) && decide (a < 0x4580)) ||
      (decide (0x4800 ≤ a) && decide (a < 0x485C)) || (decide (0x4900 ≤ a) && decide (a < 0x4908))
  | 5 => decide (a < 2)
  | 6 => decide (a < 0x200) || (decide (0x1000 ≤ a) && decide (a < 0x1200))
  | 7 => decide (a < 128)
  | _ => false

/-- A job code that a row lists. -/
def jobCode (cls a : Nat) : Bool :=
  blockJob cls a || (match cls with
    | 4 => decide (a < 0x400)
    | 5 => decide (a = 2)
    | 6 => decide (a = 0x2000)
    | 7 => decide (a = 0x1000)
    | _ => false)

/-- An item that names a job is incomplete: a live descriptor of the class has its code among its arguments, for its block where the job
carries one. -/
def State.jobWaits (s : State) (cls code blk : Nat) : Bool :=
  s.sch.descs.any fun x =>
    let a := s.dArg x.idx
    decide (s.dClass x.idx = cls) && (!blockJob cls code || decide (s.dBlock x.idx = blk)) && !x.cancel &&
      decide (a ≤ code) && decide (code < a + s.dItems x.idx) && !x.done.contains (code - a)

/-- What a job transfers is ready: it waits for the job's item while that is incomplete, is lost where the item has been stopped (R229),
and otherwise goes out at once. -/
def State.release (s : State) (cls code blk : Nat) (what : JobOut) (send : State → State) : State :=
  if s.sch.stopped.contains (cls, code, blk) then s
  else if s.jobWaits cls code blk then { s with sch := { s.sch with jobs := s.sch.jobs ++ [⟨cls, code, blk, what⟩] } }
  else send s

/-- A twin frame of a job of class 5. -/
def State.twinJob (s : State) (code blk : Nat) (frame : List Byte) : State :=
  s.release 5 code blk (.twin frame) fun s => s.emit .twinFrame 0 frame

end Sys2Proof.Machine
end

