-- ==== Sys2Proof/Machine/Soft.lean ====
section
/-!
DEFINITION. IEEE 754 binary32 and binary64 arithmetic with round to nearest even (R77, R104): each operation
is exact on the values and rounded once. Logarithm, power and sine are computed to far more bits than the
format holds and then rounded.
-/
namespace Sys2Proof.Machine

/-- A floating-point value: `m × 2^e`, an infinity or not a number. Zero is one value. -/
inductive Fl where
  | fin (m : Int) (e : Int)
  | inf (neg : Bool)
  | nan
deriving DecidableEq, Repr

/-- A format: precision in bits, least exponent of a unit in the last place, and the exponent of the bound. -/
structure Fmt where
  prec : Nat
  emin : Int
  emax : Nat
deriving DecidableEq, Repr

/-- binary32. -/
def f32 : Fmt := ⟨24, -149, 128⟩

/-- binary64. -/
def f64 : Fmt := ⟨53, -1074, 1024⟩

/-- Numerator and denominator of `m × 2^e`. -/
def dyadic (m e : Int) : Int × Nat := if 0 ≤ e then (m * 2 ^ e.toNat, 1) else (m, 2 ^ (-e).toNat)

/-- Round `num ÷ den` to a format, half to even, with gradual underflow and overflow to infinity. -/
def Fl.ofRat (f : Fmt) (num : Int) (den : Nat) : Fl :=
  if num = 0 then .fin 0 0 else
  let a := num.natAbs
  let e0 : Int := (Nat.log2 a : Int) - (Nat.log2 den : Int) - (f.prec : Int)
  let e := max e0 f.emin
  let q := if 0 ≤ e then rndDiv a (den * 2 ^ e.toNat) else rndDiv ((a * 2 ^ (-e).toNat : Nat) : Int) den
  let fits := decide (q ≤ 2 ^ f.prec)
  let e1 := if fits then e else max (e0 + 1) f.emin
  let q1 := if fits then q
    else if 0 ≤ e1 then rndDiv a (den * 2 ^ e1.toNat) else rndDiv ((a * 2 ^ (-e1).toNat : Nat) : Int) den
  if (Nat.log2 q1.toNat : Int) + e1 ≥ (f.emax : Int) then .inf (decide (num < 0))
  else .fin (if num < 0 then -q1 else q1) e1

/-- The integer `z` scaled by `2^e`, rounded to a format. -/
def Fl.ofInt (f : Fmt) (z : Int) (e : Int) : Fl := Fl.ofRat f (dyadic z e).1 (dyadic z e).2

/-- Negation. -/
def Fl.neg : Fl → Fl
  | .fin m e => .fin (-m) e
  | .inf n => .inf (!n)
  | .nan => .nan

/-- Sum. -/
def Fl.add (f : Fmt) : Fl → Fl → Fl
  | .fin m e, .fin n k =>
    let lo := min e k
    Fl.ofInt f (m * 2 ^ (e - lo).toNat + n * 2 ^ (k - lo).toNat) lo
  | .nan, _ => .nan
  | _, .nan => .nan
  | .inf a, .inf b => if a = b then .inf a else .nan
  | .inf a, _ => .inf a
  | _, .inf b => .inf b

/-- Difference. -/
def Fl.sub (f : Fmt) (a b : Fl) : Fl := Fl.add f a b.neg

/-- Whether a value is below zero. -/
def Fl.isNeg : Fl → Bool
  | .fin m _ => decide (m < 0)
  | .inf n => n
  | .nan => false

/-- Whether a value is zero. -/
def Fl.isZero : Fl → Bool
  | .fin m _ => decide (m = 0)
  | _ => false

/-- Product. -/
def Fl.mul (f : Fmt) : Fl → Fl → Fl
  | .fin m e, .fin n k => Fl.ofInt f (m * n) (e + k)
  | .nan, _ => .nan
  | _, .nan => .nan
  | a, b => if a.isZero || b.isZero then .nan else .inf (a.isNeg != b.isNeg)

/-- Quotient. -/
def Fl.div (f : Fmt) : Fl → Fl → Fl
  | .fin m e, .fin n k =>
    if n = 0 then (if m = 0 then .nan else .inf (decide (m < 0)))
    else
      let (a, b) := dyadic (if n < 0 then -m else m) (e - k)
      Fl.ofRat f a (b * n.natAbs)
  | .nan, _ => .nan
  | _, .nan => .nan
  | .inf _, .inf _ => .nan
  | .inf a, b => .inf (a != b.isNeg)
  | _, .inf _ => .fin 0 0

/-- The largest `r` at or below `hi` with `r × r ≤ n`, by `k` halvings. -/
def isqrtGo (n : Nat) : Nat → Nat → Nat → Nat
  | 0, lo, _ => lo
  | k + 1, lo, hi =>
    let mid := (lo + hi + 1) / 2
    if mid * mid ≤ n then isqrtGo n k mid hi else isqrtGo n k lo (mid - 1)

/-- Integer square root, rounded down. -/
def isqrt (n : Nat) : Nat := isqrtGo n (Nat.log2 n / 2 + 2) 0 (2 ^ (Nat.log2 n / 2 + 1))

/-- Square root, correctly rounded: the root to 200 more bits with a sticky bit. -/
def Fl.sqrt (f : Fmt) : Fl → Fl
  | .fin m e =>
    if m = 0 then .fin 0 0 else if m < 0 then .nan else
    let odd := e % 2
    let n := m.toNat * 2 ^ odd.toNat * 2 ^ 400
    let r := isqrt n
    let sticky := if r * r = n then 0 else 1
    Fl.ofInt f (2 * r + sticky : Nat) ((e - odd) / 2 - 201)
  | .inf n => if n then .nan else .inf false
  | .nan => .nan

/-- Whether `a ≤ b`; false with a value that is not a number. -/
def Fl.le (a b : Fl) : Bool :=
  match a, b with
  | .nan, _ => false
  | _, .nan => false
  | .inf n, b => n || decide (b = .inf false)
  | a, .inf n => !n || decide (a = .inf true)
  | .fin m e, .fin n k =>
    let lo := min e k
    decide (m * 2 ^ (e - lo).toNat ≤ n * 2 ^ (k - lo).toNat)

/-- Whether `a < b`. -/
def Fl.lt (a b : Fl) : Bool := Fl.le a b && !Fl.le b a

/-- The larger of two values. -/
def Fl.max2 (a b : Fl) : Fl := if Fl.le a b then b else a

/-- Conversion to a two's-complement field of `n` bits with `k` fractional bits (R9). -/
def Fl.toFix (n k : Nat) : Fl → Int
  | .fin m e => satN n (rndDiv (dyadic m (e + k)).1 (dyadic m (e + k)).2)
  | .inf neg => if neg then -((2 ^ (n - 1) : Nat) : Int) else ((2 ^ (n - 1) : Nat) : Int) - 1
  | .nan => 0

/-- Q2.22 of a value. -/
def Fl.q2_22 (a : Fl) : Int := a.toFix 24 22

/-- Bits of `log2` of `y / 2^p` for `2^p ≤ y < 2^(p+1)`: one fractional bit for each squaring. -/
def log2Go (p : Nat) : Nat → Nat → Nat → Nat
  | 0, _, acc => acc
  | k + 1, y, acc =>
    let z := y * y / 2 ^ p
    if 2 ^ (p + 1) ≤ z then log2Go p k (z / 2) (2 * acc + 1) else log2Go p k z (2 * acc)

/-- Base-2 logarithm of a positive value, correctly rounded; not a number below zero, −∞ at zero. -/
def Fl.log2 (f : Fmt) : Fl → Fl
  | .fin m e =>
    if m = 0 then .inf true else if m < 0 then .nan else
    let l := Nat.log2 m.toNat
    let y := m.toNat * 2 ^ (240 - l)
    let frac := log2Go 240 100 y 0
    let sticky := if m.toNat = 2 ^ l then 0 else 1
    Fl.ofInt f (((e + l) * 2 ^ 100 + frac) * 2 + sticky) (-101)
  | .inf n => if n then .nan else .inf false
  | .nan => .nan

/-- `2^(bits / 2^k)` scaled by `2^p`: the product of the roots of two that the bits name, highest first. -/
def exp2Go (p : Nat) : Nat → Nat → Nat → Nat → Nat
  | 0, _, _, acc => acc
  | k + 1, root, bits, acc =>
    let r := isqrt (root * 2 ^ p)
    exp2Go p k r bits (if bits.testBit k then acc * r / 2 ^ p else acc)

/-- `2^(z / 2^100)` rounded to a format, for an integer `z`. -/
def exp2Fix (f : Fmt) (z : Int) : Fl :=
  let ip := z / 2 ^ 100
  let fr := (z % 2 ^ 100).toNat
  if ip > 4096 then .inf false else if ip < -4096 then .fin 0 0
  else if fr = 0 then Fl.ofInt f 1 ip
  else Fl.ofInt f (2 * exp2Go 200 100 (2 * 2 ^ 200) fr (2 ^ 200) + 1 : Nat) (ip - 201)

/-- Power of two, correctly rounded. -/
def Fl.exp2 (f : Fmt) : Fl → Fl
  | .fin m e =>
    let (a, b) := dyadic m (e + 100)
    exp2Fix f (a / b)
  | .inf n => if n then .fin 0 0 else .inf false
  | .nan => .nan

/-- `log2(e)` scaled by 2^120. -/
def log2eFix : Int := 1917670637729674084946755258930051709

/-- `exp(x)`, correctly rounded. -/
def Fl.exp (f : Fmt) : Fl → Fl
  | .fin m e =>
    let (a, b) := dyadic (m * log2eFix) (e - 20)
    exp2Fix f (a / b)
  | .inf n => if n then .fin 0 0 else .inf false
  | .nan => .nan

/-- Sine series in fixed point of 300 bits: `x`, the square of the argument, and the terms left. -/
def sinGo (x2 : Int) : Nat → Nat → Int → Int → Int
  | 0, _, _, acc => acc
  | k + 1, i, term, acc =>
    let t := -(term * x2 / 2 ^ 300) / (((2 * i) * (2 * i + 1) : Nat) : Int)
    sinGo x2 k (i + 1) t (acc + t)

/-- Sine, correctly rounded. -/
def Fl.sin (f : Fmt) : Fl → Fl
  | .fin m e =>
    let (a, b) := dyadic m (e + 300)
    let x := a / b
    Fl.ofInt f (sinGo (x * x / 2 ^ 300) 70 1 x x) (-300)
  | _ => .nan

end Sys2Proof.Machine
end

