-- ==== Sys2Proof/Machine/Graph.lean ====
section
/-!
DEFINITION. The signal graph's static side and its arithmetic: GRAPH section entries (R211), buses (R150),
the node arithmetic of R154, gain ramps (R155, R156), mixing (R158), Brim (R159) and the mixer tables (R181).
-/
namespace Sys2Proof.Machine

/-- The payload of a section of the active set. -/
def State.active (s : State) (ty : Nat) : Option (List Byte) :=
  (s.cfg.active.find? (fun x => decide (x.ty = ty))).map (·.body)

/-! ## GRAPH section (R211) -/

/-- Number of nodes. -/
def graphNodes (g : List Byte) : Nat := leAt g 2 2

/-- Number of segments. -/
def graphSegs (g : List Byte) : Nat := leAt g 4 2

/-- Byte offset of node `i`. -/
def nodeOff (i : Nat) : Nat := 0x210 + 8 * i

/-- Byte offset of segment `i`. -/
def segOff (g : List Byte) (i : Nat) : Nat := 0x210 + 8 * graphNodes g + 24 * i

/-- Byte offset of list entry `i`. -/
def listOff (g : List Byte) (i : Nat) : Nat := 0x210 + 8 * graphNodes g + 24 * graphSegs g + 8 * i

/-- A list entry: kind, table, id and data word address. -/
structure ListEntry where
  kind : Nat
  table : Nat
  id : Nat
  addr : Nat
deriving DecidableEq, Repr

/-- List entry `i`. -/
def listEntry (g : List Byte) (i : Nat) : ListEntry :=
  let o := listOff g i
  ⟨byteAt g o, byteAt g (o + 1), leAt g (o + 2) 2, leAt g (o + 4) 2⟩

/-- The list entries of a segment. -/
def segLists (g : List Byte) (i : Nat) : List ListEntry :=
  let o := segOff g i
  (List.range (leAt g (o + 8) 2)).map fun j => listEntry g (leAt g (o + 6) 2 + j)

/-- The node of type `ty` with index `ix`: its bus, if the graph has one. -/
def nodeBus (g : List Byte) (ty ix : Nat) : Option Nat :=
  ((List.range (graphNodes g)).find? fun i =>
    decide (byteAt g (nodeOff i) = ty) && decide (leAt g (nodeOff i + 2) 2 = ix)).map
    fun i => leAt g (nodeOff i + 4) 2

/-- Every node of a type: its index and bus. -/
def nodesOf (g : List Byte) (ty : Nat) : List (Nat × Nat) :=
  ((List.range (graphNodes g)).filter fun i => decide (byteAt g (nodeOff i) = ty)).map
    fun i => (leAt g (nodeOff i + 2) 2, leAt g (nodeOff i + 4) 2)

/-- The buses that a segment writes. -/
def segOuts (g : List Byte) (i : Nat) : List Nat := ((segLists g i).filter fun e => decide (e.kind = 1)).map (·.id)

/-- The buses that a segment's nodes write: its bus-out entries, and the BUS of each of its nodes that is neither port, feed, meter nor
bridge. -/
def segBuses (g : List Byte) (i : Nat) : List Nat :=
  let o := segOff g i
  segOuts g i ++ (((List.range (leAt g (o + 12) 2)).map fun k => leAt g (o + 10) 2 + k).filter fun k =>
    decide (k < graphNodes g) && decide (5 ≤ byteAt g (nodeOff k)) && decide (byteAt g (nodeOff k) ≤ 9)).map fun k => leAt g (nodeOff k + 4) 2

/-- The buses of post-processing nodes (R152): those of FEED_IN nodes, those of STAGE 3 segments, and those of every segment
that takes one of them in. -/
def postBuses (g : List Byte) : List Nat :=
  let segs := List.range (graphSegs g)
  let post0 := (nodesOf g 2).map (·.2) ++ (segs.filter fun i => decide (byteAt g (segOff g i + 1) = 3)).flatMap (segBuses g)
  segs.foldl (fun acc _ => acc ++ ((segs.filter fun i =>
    (segLists g i).any fun e => decide (e.kind = 0) && acc.contains e.id).flatMap (segBuses g)).filter fun b => !acc.contains b) post0

/-! ## Buses (R150) -/

/-- `B` samples, cut or filled with zeros. -/
def blockOf (b : Nat) (l : List Int) : List Int := (l ++ List.replicate (b - l.length) 0).take b

/-- What a store of bus values gives for block `n`: zeros where nothing was written for it. -/
def busAt (m : List (Nat × BusVal)) (b n i : Nat) : List Int :=
  let v := Store.get (fun _ => ({} : BusVal)) m (busKey n i)
  if v.blk = n then blockOf b v.smp else blockOf b []

/-- Put a bus value. -/
def busPut (m : List (Nat × BusVal)) (n i : Nat) (l : List Int) : List (Nat × BusVal) :=
  Store.set (fun _ => ({} : BusVal)) m (busKey n i) ⟨n, l⟩

/-- The weight of fade sample `i` of `n` (R138). -/
def fadeW (i n : Nat) : Int := if n = 0 then 2 ^ 22 else (((i + 1) * 2 ^ 22 / n : Nat) : Int)

/-- Mix of an old and a new sample with the weight of the new (R138, R178). -/
def fadeMix (old new w : Int) : Int := satN 32 (rndShift (old * (2 ^ 22 - w) + new * w) 22)

/-- Fade `B` samples of the new signal over the old, from fade sample `i0` of `n`. -/
def fadeBlock (old new : List Int) (i0 n : Nat) : List Int :=
  (old.zip new).zipIdx.map fun x => fadeMix x.1.1 x.1.2 (fadeW (i0 + x.2) n)

/-- The block at which a route fade ends: after K blocks, or where a forced swap cut it (R165, R166). -/
def RouteSt.stop (r : RouteSt) : Nat := r.cut.getD (r.m + r.k)

/-- The GRAPH payload of a program by its age: the active one, or one that a swap replaced. -/
def State.graphOf (s : State) (age : Nat) : Option (List Byte) :=
  if age = 0 then s.active 8 else if age = 1 then s.mix.route.map (·.graph) else s.mix.route2.map (·.graph)

/-- The bus samples of a program by its age. -/
def State.busOf (s : State) (age n i : Nat) : List Int :=
  busAt (if age = 0 then s.mix.bus else if age = 1 then s.mix.busOld else s.mix.busOld2) s.blk.b n i

/-- A route fade that block `n` is below the swap of. -/
def below (r : Option RouteSt) (n : Nat) : Bool := match r with
  | some r => decide (n < r.m)
  | none => false

/-- The age of the newest program that runs for block `n`: blocks below a swap keep the program before it (R165). -/
def State.progOf (s : State) (n : Nat) : Nat := if !below s.mix.route n then 0 else if !below s.mix.route2 n then 1 else 2

/-- The first sample and the length of the route fade's weights in block `n`, where the next older program runs beside the
newest one (R165). -/
def State.fadeOf (s : State) (n : Nat) : Option (Nat × Nat) :=
  let w (r : Option RouteSt) : Option (Nat × Nat) := match r with
    | some r => if n < r.stop then some ((n - r.m) * s.blk.b, r.k * s.blk.b) else none
    | none => none
  if s.progOf n = 0 then w s.mix.route else if s.progOf n = 1 then w s.mix.route2 else none

/-- A program output in block `n`, through the mix stage while a route fade runs: `v age` is what the program of an age puts
out (R165). -/
def State.progMix (s : State) (n : Nat) (v : Nat → List Int) : List Int :=
  let a := s.progOf n
  match s.fadeOf n with
  | some (i0, len) => fadeBlock (v (a + 1)) (v a) i0 len
  | none => v a

/-- A sink's block `n`: `bus age` is the bus that feeds it in the program of an age; without one it is zero. -/
def State.sinkBus (s : State) (n : Nat) (bus : Nat → Option Nat) : List Int :=
  s.progMix n fun age => match bus age with
    | some i => s.busOf age n i
    | none => blockOf s.blk.b []

/-- The graph a task belongs to. -/
def State.taskGraph (s : State) (age : Nat) : List Byte := (s.graphOf age).getD []

/-! ## Node arithmetic (R154 to R158) -/

/-- Gain: `y = sat32(rnd(x × g >> 22))`. -/
def nodeGain (x g : Int) : Int := mulSat32 x g 22

/-- Biquad, direct form I: coefficients `b0 b1 b2 a1 a2` in Q3.29 and the four state samples. -/
def nodeBiquad (b0 b1 b2 a1 a2 x x1 x2 y1 y2 : Int) : Int :=
  satN 32 (rndShift (b0 * x + b1 * x1 + b2 * x2 - a1 * y1 - a2 * y2) 29)

/-- `db(p)` of R154: Q8.8 of 6.0205999 × log2(p × 2^-31), −128.0 for 0. -/
def dbOf (p : Nat) : Int :=
  if p = 0 then -32768
  else (Fl.mul f32 (Fl.ofRat f32 60205999 10000000) (Fl.log2 f32 (Fl.ofInt f32 p (-31)))).toFix 16 8

/-- The magnitude of a sample: −2^31 gives 2^31. -/
def magOf (x : Int) : Nat := x.natAbs

/-- The block peak. -/
def peakOf (l : List Int) : Nat := l.foldl (fun a x => max a (magOf x)) 0

/-- Ceiling of a quotient. -/
def ceilDiv (a b : Nat) : Nat := if b = 0 then 0 else (a + b - 1) / b

/-- `att` or `rel` of a dynamics node: none for no limit (R154). -/
def dynStep (b fr ms : Nat) : Option Nat := if ms = 0 then none else some (ceilDiv (2 ^ 22 * b * 1000) (ms * fr))

/-- The new gain of a dynamics node from the peak, the curve and the limits (R154). -/
def nodeDynGain (pk : Nat) (curve : List Int) (gPrev : Int) (att rel : Option Nat) : Int :=
  let i := (dbOf pk + 32768) / 128
  let tgt := nth curve (min (max i 0) 255).toNat 0
  if tgt < gPrev then (match att with | some a => max tgt (gPrev - a) | none => tgt)
  else (match rel with | some r => min tgt (gPrev + r) | none => tgt)

/-- Samples of a ramp of `ms` milliseconds. -/
def rampLen (ms fr : Nat) : Nat := ceilDiv (ms * fr) 1000

/-- Amplitude ramp sample `i` of `n` (R155). -/
def ampRamp (g0 g1 : Int) (i n : Nat) : Int := if n = 0 then g1 else g0 + ((i + 1 : Nat) : Int) * (g1 - g0) / (n : Int)

/-- `c(g)` of a dB ramp (R155). -/
def dbCode (g : Int) : Int :=
  (Fl.log2 f32 (Fl.ofInt f32 ((max g.natAbs 4 : Nat) : Int) (-22))).toFix 32 16

/-- dB ramp sample `i` of `n`; an amplitude ramp where the ends have opposite signs (R155). -/
def dbRamp (g0 g1 : Int) (i n : Nat) : Int :=
  if n = 0 ∨ i + 1 = n then g1
  else if (g0 < 0 ∧ 0 < g1) ∨ (0 < g0 ∧ g1 < 0) then ampRamp g0 g1 i n
  else
    let c := dbCode g0 + ((i + 1 : Nat) : Int) * (dbCode g1 - dbCode g0) / (n : Int)
    let v := (Fl.exp2 f32 (Fl.ofInt f32 c (-16))).q2_22
    if g0 < 0 ∨ (g0 = 0 ∧ g1 < 0) then -v else v

/-- HEADROOM mix of a sum (R158). -/
def mixHeadroom (acc : Int) (h : Nat) : Int := satN 32 (rndShift acc h)

/-- AUTOSCALE's target scale for `n` inputs at or above −60 dBFS (R158). -/
def autoScale (n : Nat) (root : Bool) : Int :=
  if n = 0 then 2 ^ 22
  else
    let d := Fl.ofInt f32 n 0
    (Fl.div f32 (.fin 1 0) (if root then Fl.sqrt f32 d else d)).q2_22

/-! ## Brim (R159, R160) -/

/-- A Brim entry (R181). -/
structure BrimCfg where
  thresh : Nat
  ceil : Nat
  att : Option Nat
  rel : Option Nat
  en : Bool
  look : Bool
deriving DecidableEq, Repr

/-- The u values of a block, from the last sample back. -/
def brimU (att : Option Nat) (look : Bool) : List Int → List Int
  | [] => []
  | r :: rest =>
    let us := brimU att look rest
    let u := match us, att with
      | u1 :: _, some a => if look then min r (u1 + a) else r
      | _, _ => r
    u :: us

/-- The gains of a block from the u values. -/
def brimG (att rel : Option Nat) : Int → List Int → List Int
  | _, [] => []
  | g, u :: us =>
    let g1 := if u < g then (match att with | some a => max u (g - a) | none => u)
      else (match rel with | some r => min u (g + r) | none => u)
    g1 :: brimG att rel g1 us

/-- A block through Brim: outputs, gains, and whether the clamp changed a sample. -/
def brimBlock (c : BrimCfg) (g : Int) (x : List Int) : List Int × List Int × Bool :=
  if !c.en then (x, [], false) else
  let ceil : Int := (max c.ceil c.thresh : Nat)
  let req := x.map fun v =>
    if magOf v ≤ c.thresh then (2 ^ 22 : Int) else ((c.thresh * 2 ^ 22 / magOf v : Nat) : Int)
  let gs := brimG c.att c.rel g (brimU c.att c.look req)
  let raw := (x.zip gs).map fun p => rndShift (p.1 * p.2) 22
  let y := raw.map fun v => max (-ceil) (min v ceil)
  (y, gs, decide (raw ≠ y))

/-! ## Mixer tables (R181) -/

/-- Entry base, entry size in bytes, commit word and read-only words of the table that holds an address. -/
structure MixRow where
  lo : Nat
  hi : Nat
  size : Nat
  commit : Nat
  ro : List Nat
  mask : List Word
deriving DecidableEq, Repr

/-- The mixer parameter tables with commit words (R181). -/
def mixRows : List MixRow := [
  ⟨0x06E80000, 0x06E90000, 16, 0, [1], [0x03FFFFFF]⟩,
  ⟨0x06E90000, 0x06ED8000, 32, 7, [], [0xFFFFFFFF, 0xFFFFFFFF, 0xFFFFFFFF, 0xFFFFFFFF, 0xFFFFFFFF, 0, 0, 0]⟩,
  ⟨0x06ED8000, 0x06EDA000, 8, 0, [1], [0x00003FFF]⟩,
  ⟨0x06EDA000, 0x06EDC000, 8, 0, [1], [0x0000003F]⟩,
  ⟨0x06EDC000, 0x06EDF000, 32, 3, [4], [0x7FFFFFFF, 0x7FFFFFFF, 0xFFFFFFFF, 0x00000003]⟩,
  ⟨0x06EF0000, 0x06EF0400, 16, 0, [1], [0x0FFF0FFF]⟩]

/-- The row of an address in the tables with commit words. -/
def mixRow? (a : Nat) : Option MixRow := mixRows.find? fun r => decide (r.lo ≤ a) && decide (a < r.hi)

/-- A mixer word in force. -/
def State.mixLive (s : State) (a : Nat) : Word := Store.get (fun _ => 0) s.mix.live a

/-- A mixer word as block `n` uses it: a change in force from block m leaves the blocks below m as they were (R181, R189). -/
def State.mixLiveAt (s : State) (n a : Nat) : Word :=
  match s.mix.liveHist.find? fun h => decide (n < h.1) with
  | some h => Store.get (fun _ => 0) h.2 a
  | none => s.mixLive a

/-- The words in force are about to change from block `m` on; what they were before its first change stays. -/
def State.mixKeep (s : State) (m : Nat) : State :=
  if s.mix.liveHist.any fun h => decide (h.1 = m) then s
  else { s with mix := { s.mix with liveHist := (s.mix.liveHist.filter fun h => decide (m < h.1 + 4)) ++ [(m, s.mix.live)] } }

/-- Put a mixer word in force. -/
def State.setMixLive (s : State) (a : Nat) (v : Word) : State :=
  { s with mix := { s.mix with live := Store.set (fun _ => 0) s.mix.live a v } }

/-- Base address and words of a slot table of a list entry (R211). -/
def slotTable (t id : Nat) : Nat × Nat :=
  match t with
  | 0 => (0x06E80000 + 16 * id, 4)
  | 1 => (0x06E90000 + 32 * id, 8)
  | 2 => (0x06ED8000 + 8 * id, 2)
  | 3 => (0x06EDA000 + 8 * id, 2)
  | 4 => (0x06EF0000 + 16 * id, 4)
  | _ => (0x06EE0000 + 1024 * id, 256)

/-! ## Gain slots (R155 to R157) -/

/-- The low 24 bits of a gain. -/
def toWord24 (g : Int) : Word := w32 (toBits 24 g)

/-- The gain of a change at the end of block `n`: its ramp in modes 0 and 1, and its step in mode 2 (R155, R156). -/
def GainSt.atEnd (x : GainSt) (b n : Nat) : Int :=
  if x.mode = 2 then (if x.len < (n + 1 - x.since) * b then x.g1 else x.g0)
  else
    let i := (n + 1 - x.n0) * b
    if x.len ≤ i then x.g1 else if x.mode = 1 then dbRamp x.g0 x.g1 (i - 1) x.len else ampRamp x.g0 x.g1 (i - 1) x.len

/-- The changes of a gain slot, latest first. -/
def State.gainHist (s : State) (slot : Nat) : List GainSt := Store.get (fun _ => []) s.mix.gains slot

/-- The current gain of a slot at the end of block `n` by its changes, latest first, if one of them is in progress. -/
def gainIn (l : List (Nat × List GainSt)) (slot b n : Nat) : Option Int :=
  ((Store.get (fun _ => []) l slot).find? fun x => decide (x.n0 ≤ n)).map fun x => x.atEnd b n

/-- The current gain of a slot at the end of block `n`; where no change of it is in progress, its word 1. -/
def State.gainAt (s : State) (slot n : Nat) : Int :=
  match gainIn s.mix.gains slot s.blk.b n with
  | some g => g
  | none => sext 24 (s.swz (0x06E80004 + 16 * slot)).toNat

/-- A slot whose current gain the active program writes back itself (R189, R211): the device leaves it alone. -/
def State.gainOwned (s : State) (slot : Nat) : Bool :=
  let g := s.taskGraph 0
  (List.range (graphSegs g)).any fun i => (segLists g i).any fun e => decide (e.kind = 3) && decide (e.table = 0) && decide (e.id = slot)

/-- A gain slot takes a target at block `n` (R155, R156): from its current gain, over MIX_RAMP ms (above 2,000 as 2,000), which is
latched, or in mode 2 at the first zero crossing within MIX_ZXTO samples of the first of the targets that wait. The node list does not
give the bus that a slot acts on, so that crossing is a free value within the timeout (assumption 64). -/
def State.gainStart (s : State) (n slot : Nat) (w : Word) : State :=
  if s.gainOwned slot then s else
  let h := s.gainHist slot
  let g0 : Int := match n with
    | 0 => sfld w 0 24
    | k + 1 => s.gainAt slot k
  let mode := fld w 24 2
  let zx := s.fldR Reg.MIX_ZXTO 0 8
  let since : Nat := match h.head? with
    | some x => if x.mode = 2 ∧ (n - x.since) * s.blk.b ≤ x.len then x.since else n
    | none => n
  let cross := min zx ((n - since) * s.blk.b + s.freeNat)
  let s := if mode = 2 then s.draw else s
  let x : GainSt := ⟨n, g0, sfld w 0 24, if mode = 2 then cross else rampLen (min (s.fldR Reg.MIX_RAMP 0 11) 2000) s.blk.fr, mode, since⟩
  { s with mix := { s.mix with gains := Store.set (fun _ => []) s.mix.gains slot ((x :: h).take 4) } }

/-- Word 0 of a gain slot: its target and mode. -/
def gainWord (a : Nat) : Bool := decide (0x06E80000 ≤ a) && decide (a < 0x06E90000) && decide (a % 16 = 0)

/-- The gain slots of a list of mixer words in force that change at block `n`. -/
def State.gainWords (s : State) (n : Nat) (l : List (Nat × Word)) : State :=
  s.each (l.filter fun e => gainWord e.1) fun s e => s.gainStart n ((e.1 - 0x06E80000) / 16) e.2

/-- Word 1 of every gain slot that changes shows its gain at the end of block `n`; a change that is over leaves it there. -/
def State.gainsShow (s : State) (n : Nat) : State :=
  let t := s.each s.mix.gains fun s e => s.putWord (0x06E80004 + 16 * e.1) (toWord24 (s.gainAt e.1 n))
  { t with mix := { t.mix with gains := t.mix.gains.filter fun e => match e.2.head? with
      | some x => !(decide (x.n0 ≤ n) && decide (x.atEnd s.blk.b n = x.g1) && decide (x.n0 + 3 ≤ n))
      | none => false } }

/-- Word 1 of a gain slot. -/
def gainNow (a : Nat) : Bool := decide (0x06E80000 ≤ a) && decide (a < 0x06E90000) && decide (4 ≤ a % 16) && decide (a % 16 < 8)

/-- Block 0 of a train: every gain slot starts at its target (R157). -/
def State.gainsReset (s : State) : State :=
  ({ s with mix := { s.mix with gains := [] }, sram := Store.clear gainNow s.sram } : State).each
    (s.mix.live.filter fun e => gainWord e.1) fun s e =>
    s.putWord (e.1 + 4) (e.2 &&& 0x00FFFFFF)

/-- A mixer word as the graph sees it for block `n`: staged words and curves in force, the current gain of a slot at the block's
start, other read-only words as they stand. -/
def State.mixWord (s : State) (n a : Nat) : Word :=
  match mixRow? a with
  | some r =>
    if !r.ro.contains ((a - r.lo) % r.size / 4) then s.mixLiveAt n a
    else if r.size = 16 ∧ a < 0x06E90000 then (match n with
      | 0 => s.swz a
      | k + 1 => toWord24 (s.gainAt ((a - r.lo) / 16) k))
    else s.swz a
  | none => if 0x06EE0000 ≤ a ∧ a < 0x06EF0000 then s.mixLiveAt n a else s.swz a

/-- The Brim entry of a feed for block `n`. -/
def State.brimCfg (s : State) (f n : Nat) : BrimCfg :=
  let a := 0x06EDC000 + 32 * f
  let w2 := s.mixLiveAt n (a + 8)
  let step (num ms : Nat) : Option Nat := if ms = 0 then none else some (ceilDiv num (ms * s.blk.fr))
  ⟨fld (s.mixLiveAt n a) 0 31, fld (s.mixLiveAt n (a + 4)) 0 31, step (2 ^ 22 * 1000000) (fld w2 0 16),
    step (2 ^ 22 * 1000) (fld w2 16 16), bitOf (s.mixLiveAt n (a + 12)) 0, bitOf (s.mixLiveAt n (a + 12)) 1⟩

/-- Records of MIX_EVT (R179); `blk` is the block whose processing raises the event, or the current one. -/
def State.mixEvt (s : State) (bit kind ix blk : Nat) : State :=
  s.evtFirst Reg.MIX_EVT bit 0x0A 0x41 ([b8 kind] ++ leBytes 2 ix ++ leBytes 6 blk)

/-- Brim of feed `f` on its FIR output of a block (R159, R160). -/
def State.brimFeed (s : State) (f n : Nat) (x : List Int) : State :=
  let c := s.brimCfg f n
  let g0 := Store.get (fun _ => (2 ^ 22 : Int)) s.mix.brimG f
  let (y, gs, clip) := brimBlock c g0 x
  let g1 := if c.en then gs.getLast?.getD g0 else 2 ^ 22
  let gmin := gs.foldl min (2 ^ 22)
  let s := { s with mix := { s.mix with
    brimG := Store.set (fun _ => (2 ^ 22 : Int)) s.mix.brimG f g1
    brimOut := busPut s.mix.brimOut n f y } }
  let s := s.putWord (0x06EDC010 + 32 * f) (w32 gmin.toNat)
  s.when clip fun s => (s.count Reg.MIX_BRIM_CLIP 1).mixEvt 1 2 f n

end Sys2Proof.Machine
end

