-- ==== Sys2Proof/Machine/Dram.lean ====
section
/-!
DEFINITION. DRAM as its requesters see it (R495, R496, R503, R504, R510, R512): regions of MEMPLAN, service,
kept segments, stored errors, and reads and writes with their effects.
-/
namespace Sys2Proof.Machine

/-- A MEMPLAN region (R512), in bytes. -/
structure MemRegion where
  base : Nat
  size : Nat
  kind : Nat
  keep : Bool
deriving DecidableEq, Repr

/-- The regions of a MEMPLAN payload. -/
def memRegions (m : List Byte) : List MemRegion :=
  (List.range (leAt m 0 2)).map fun i =>
    let o := 16 + 16 * i
    ⟨leAt m o 4 * 64, leAt m (o + 4) 4 * 64, byteAt m (o + 8), (byteAt m (o + 9)).testBit 0⟩

/-- The regions of the active MEMPLAN. -/
def State.regions (s : State) : List MemRegion :=
  match s.active 4 with
  | some m => memRegions m
  | none => []

/-- The region that holds a usable address. -/
def State.regionAt (s : State) (a : Nat) : Option MemRegion :=
  s.regions.find? fun r => decide (r.base ≤ a) && decide (a < r.base + r.size)

/-- The region of a kind. -/
def State.regionOf (s : State) (k : Nat) : Option MemRegion := s.regions.find? fun r => decide (r.kind = k)

/-- Base of the far tier (R96, R512). -/
def State.farBase (s : State) : Nat := ((s.regionOf 2).map (·.base)).getD 0

/-- Usable bytes (R495). -/
def State.usable (s : State) : Nat := s.fldR Reg.DRC_USABLE 0 14 * 2 ^ 20

/-- Bytes of a segment (R495). -/
def State.segSize (s : State) : Nat := s.usable / 8

/-- Start of the image store: the top 128 MiB (R247). -/
def State.storeBase (s : State) : Nat := s.usable - 2 ^ 27

/-- SERVICE of DRC_STATUS: 0 off, 1 full, 2 low-power, 3 hold (R506). -/
def State.service (s : State) : Nat := s.fldR Reg.DRC_STATUS 1 2

/-- READY of DRC_STATUS. -/
def State.dramReady (s : State) : Bool := s.bitR Reg.DRC_STATUS 0

/-- The active or the shadow set is VALID (R251, R504): STATE fields of CFG_STATUS. -/
def State.anySet (s : State) : Bool := s.bitR Reg.CFG_STATUS 3 || decide (s.fldR Reg.CFG_STATUS 0 3 = 3)

/-- The kept segments (R504), as a mask of eight. -/
def State.keptMask (s : State) (thermos : Bool) : Nat :=
  let seg (i : Nat) : Bool :=
    (s.regions.any fun r => r.keep && decide (r.base < (i + 1) * s.segSize) && decide (i * s.segSize < r.base + r.size)) ||
      (decide (i = 7) && ((s.anySet && !thermos) || (s.active 4).isNone))
  ((List.range 8).filter seg).foldl (fun m i => m + 2 ^ i) 0

/-- Entry into self-refresh: every debt is repaid, the kept mask stands in KEPT and in the retention memory (R524), the
other segments are lost (R503), and with them an extension copy that they held (R276). -/
def State.selfRefresh (s : State) (thermos : Bool) : State :=
  let k := s.keptMask thermos
  let s1 := (s.setFld (Reg.PWR_RET0 0) 0 8 k).setBit (Reg.PWR_RET0 0) 24 (decide (0 < k))
  let gone : Bool := match s.regionOf 3 with
    | some r => (List.range 8).any fun i => !k.testBit i && decide (r.base < (i + 1) * s.segSize) && decide (i * s.segSize < r.base + r.size)
    | none => true
  { (s1.setReg Reg.DRC_DEBT 0).setFld Reg.DRC_STATUS 8 8 k with
    gnt := if gone then { s1.gnt with ext := [], extCopy := false } else s1.gnt
    drc := { s.drc with lost := s.drc.lost ||| (0xFF - k), awake := false, kept := k } }

/-- Low-power service of TRAIL and SAFE-HOLD (R503). -/
def State.dramLow (s : State) : State :=
  if s.drc.trained then (s.selfRefresh false).setFld Reg.DRC_STATUS 1 2 2 else s

/-- Full service begins with initialisation: the segments that were not kept are written with zeros, and READY sets at its end (R505).
A request to such a segment waits for it, so that it finds zeros from here on. A gated controller stays in self-refresh (R485). -/
def State.dramFull (s : State) : State :=
  if s.drc.trained ∧ s.service ≠ 1 ∧ s.bitR Reg.CLK_EN 12 then
    let gone (a : Nat) : Bool := decide (0 < s.segSize) && s.drc.lost.testBit (a / s.segSize)
    let s1 : State := { s with
      dram := Store.clear gone s.dram
      drc := { s.drc with bad := s.drc.bad.filter fun b => !gone (b.unit * 64) } }
    (((s1.setFld Reg.DRC_STATUS 1 2 1).setBit Reg.DRC_STATUS 0 false).setBit Reg.DRC_STATUS 3 true).setBit (Reg.PWR_RET0 0) 24 false
  else s

/-- Initialisation ends: every segment is kept from now on, and READY sets (R505). -/
def State.dramInitDone (s : State) : State :=
  if s.bitR Reg.DRC_STATUS 3 then
    ((({ s with drc := { s.drc with lost := 0 } } : State).setBit Reg.DRC_STATUS 3 false).setBit Reg.DRC_STATUS 0 true)
  else s

/-- The controller's clock enable has changed: gated, it keeps its devices in the self-refresh of the active MEMPLAN, and enabled
again it gives the service of the mode (R485, R503). -/
def State.dramGate (s : State) (was : Bool) : State :=
  let on := s.bitR Reg.CLK_EN 12
  if was && !on then s.dramLow
  else if !was && on && decide (3 ≤ s.pmode) && decide (s.pmode ≤ 10) then s.dramFull else s

/-- A request finds the controller without DRAM (R503). -/
def State.notReady (s : State) : State := s.evt Reg.DRC_EVT 6

/-- Whether an address lies in a segment that low-power service does not serve (R504). -/
def State.unserved (s : State) (a : Nat) : Bool :=
  decide (s.service = 2) && !(s.drc.kept.testBit (a / s.segSize))

/-- A detector 0x03 or 0x04 raise with the data of R509; every stored error is an injected one. An uncorrectable unit of a real-time
region, KIND 1 or 2, is an unrecoverable fault whatever request met it (R57, R107, R327, R512). -/
def State.raiseDram (s : State) (unit kind : Nat) (rt : Bool) : State :=
  let region := ((s.regionAt (unit * 64)).map (·.kind)).getD 0xFF
  let data := [b8 (unit / 7 % 4), b8 (kind + 0x80)] ++ leBytes 4 unit ++
    [b8 region, b8 rt.toNat, b8 s.freeNat]
  let s := s.draw
  if kind = 1 then ((s.detBit 3).count Reg.DRC_CE_COUNT 1).evtFirst Reg.DRC_EVT 0 0x10 3 data
  else
    let s := ((((s.detBit 4).count Reg.DRC_UE_COUNT 1).setReg Reg.DRC_UE_ADDR (w32 unit)).evt Reg.DRC_EVT 1).note 0x10 4 data
    s.when (decide (region = 1) || decide (region = 2)) fun s => s.fatal 4

/-- The stored errors of the units in `[a, a + n)`. -/
def State.badIn (s : State) (a n : Nat) : List BadUnit :=
  s.drc.bad.filter fun b => decide (b.unit * 64 < a + n) && decide (a < b.unit * 64 + 64)

/-- Remove the stored error of a unit. -/
def State.dropUnit (s : State) (u : Nat) : State :=
  { s with drc := { s.drc with bad := s.drc.bad.filter fun b => decide (b.unit ≠ u) } }

/-- A request in low-power service leaves self-refresh for a while (R503). -/
def State.dramWake (s : State) : State := if s.service = 2 then { s with drc := { s.drc with awake := true } } else s

/-- Bytes of an uncorrectable unit read as zero. -/
def zeroUnits (bad : List BadUnit) (a : Nat) (bs : List Byte) : List Byte :=
  bs.zipIdx.map fun x => if bad.any fun b => b.double && decide (b.unit = (a + x.2) / 64) then 0 else x.1

/-- A read of `n` bytes; the second result is false where a unit was uncorrectable (R496). A request whose place in the controller's
queues is uncorrectable is retried, so that only the raise is left of it (R37). -/
def State.dramRead (s : State) (a n : Nat) (rt : Bool) : State × List Byte × Bool :=
  let s := s.arraySweep 13
  if !s.drc.trained then (s.notReady, List.replicate n 0, true)
  else if a + n > s.usable ∨ !s.bitR Reg.CLK_EN 12 then (s, List.replicate n 0, true)
  else if s.unserved a then (s.evt Reg.DRC_EVT 3, List.replicate n 0, true)
  else
    let bad := s.badIn a n
    let bs := s.dramBytes a n
    let s := s.dramWake
    if bad.isEmpty then (s, bs, true)
    else
      let s := s.each bad fun s b =>
        if b.double then s.raiseDram b.unit 2 rt else (s.dropUnit b.unit).raiseDram b.unit 1 rt
      (s, zeroUnits bad a bs, !(bad.any (·.double)))

/-- Who writes DRAM: its own rights differ (R247, R512), and `realtime` are the engines whose requests are of the real-time class: far
mirror, Hamper spill and sensing rings (R96, R327, R349). -/
inductive DramWho where
  | host | engine | gauntlet | recorder | loader | realtime
deriving DecidableEq, Repr

/-- A write to a region the writer may not write is dropped and counted (R247, R512). Regions and the store begin at whole units, so
its first byte decides for a request within one unit. -/
def State.dramDenied (s : State) (w : DramWho) (a : Nat) : Option State :=
  if decide (w ≠ .loader) && decide (s.storeBase ≤ a) then some (s.evt Reg.CFG_EVT 7)
  else
    match s.regionAt a with
    | some r =>
      if (decide (r.kind = 3) && decide (w ≠ .gauntlet)) || (decide (r.kind = 4) && decide (w ≠ .recorder)) then
        some ((s.count Reg.DRC_REGION_WR 1).evt Reg.DRC_EVT 4)
      else none
    | none => none

/-- After a write to a unit: an armed injection that names it corrupts it and clears (R510). -/
def State.corruptUnit (s : State) (u : Nat) : State :=
  if s.reg Reg.DRC_INJ_ADDR = w32 u then
    let go (s : State) (d : Nat) (dbl : Bool) : State :=
      if s.bitR Reg.INT_INJ0 d then
        { s with drc := { s.drc with bad := ⟨u, dbl⟩ :: s.drc.bad.filter fun b => decide (b.unit ≠ u) } }.setBit Reg.INT_INJ0 d false
      else s
    go (go s 3 false) 4 true
  else s

/-- One request to the controller: a write of bytes; partial units are read-modify-written with the effects of R496. -/
def State.dramWrite (s : State) (w : DramWho) (a : Nat) (bs : List Byte) : State :=
  let n := bs.length
  let s := s.arraySweep 13
  if n = 0 then s
  else if !s.drc.trained then s.notReady
  else if a + n > s.usable ∨ !s.bitR Reg.CLK_EN 12 then s
  else if s.unserved a then s.evt Reg.DRC_EVT 3
  else
    match s.dramDenied w a with
    | some s' => s'
    | none =>
      let bad := s.badIn a n
      let full (u : Nat) : Bool := decide (a ≤ u * 64) && decide (u * 64 + 64 ≤ a + n)
      let s := s.dramWake
      let s := s.each bad fun s b =>
        if full b.unit then s.dropUnit b.unit
        else if b.double then
          let w0 := leNat (s.dramBytes (b.unit * 64) 1)
          ((s.putDram (b.unit * 64) [b8 (w0 ^^^ 3)]).dropUnit b.unit).raiseDram b.unit 4 (decide (w = .realtime))
        else (s.dropUnit b.unit).raiseDram b.unit 1 (decide (w = .realtime))
      let s := s.putDram a bs
      if s.bitR Reg.INT_INJ0 3 || s.bitR Reg.INT_INJ0 4 then
        let t := (s.reg Reg.DRC_INJ_ADDR).toNat
        if a / 64 ≤ t ∧ t ≤ (a + n - 1) / 64 then s.corruptUnit t else s
      else s

/-- Bytes cut where they cross into the next 64-byte unit: address and bytes of each request. -/
def dramParts (a : Nat) (bs : List Byte) : List (Nat × List Byte) :=
  (List.range ((a + bs.length + 63) / 64 - a / 64)).map fun i =>
    let lo := max a (64 * (a / 64 + i))
    (lo, (bs.drop (lo - a)).take (64 * (a / 64 + i + 1) - lo))

/-- A write of many bytes: a request for each unit, judged on its own (R247). -/
def State.dramWriteParts (s : State) (w : DramWho) (a : Nat) (bs : List Byte) : State :=
  s.each (dramParts a bs) fun s p => s.dramWrite w p.1 p.2

end Sys2Proof.Machine
end

