-- ==== Sys2Proof/Machine/Geometry.lean ====
section
/-!
DEFINITION. Objects, speakers and the geometry engine (R60 to R92): table entries, trajectories, the laws and
the targets of every active cell, computed from the snapshot taken at Sn.
-/
namespace Sys2Proof.Machine

/-- A point, in raw Q16.16 or Q1.15. -/
structure Vec where
  x : Int
  y : Int
  z : Int
deriving DecidableEq, Repr

/-- Little-endian number in a table. -/
def tb (t : List Host.Cell) (a n : Nat) : Nat := leNat (Store.bytes sramDef t a n)

/-- Signed little-endian number in a table. -/
def tbS (t : List Host.Cell) (a n : Nat) : Int := sext (8 * n) (tb t a n)

/-- Three signed numbers. -/
def tbVec (t : List Host.Cell) (a n : Nat) : Vec := ⟨tbS t a n, tbS t (a + n) n, tbS t (a + 2 * n) n⟩

/-- Address of an object descriptor. -/
def objAddr (o : Nat) : Nat := 0x06F80000 + 32 * o

/-- Address of an object-state entry. -/
def objStAddr (o : Nat) : Nat := 0x06F84000 + 32 * o

/-- Address of a trajectory slot. -/
def trajAddr (o s : Nat) : Nat := 0x06F88000 + 384 * o + 48 * s

/-- Address of a speaker entry. -/
def spkAddr (f : Nat) : Nat := 0x06FB8000 + 32 * f

/-- First Gauntlet object of the range (R17). -/
def State.gntObj (s : State) : Nat := s.mode.range - 32

/-- Whether an object is a Gauntlet object. -/
def State.isGntObj (s : State) (o : Nat) : Bool := decide (s.gntObj ≤ o) && decide (o < s.mode.range)

/-- Whether an address of the object window belongs to a Gauntlet object's descriptor or trajectory (R85). -/
def State.gntEntry (s : State) (a : Nat) : Bool :=
  (decide (0x06F80000 ≤ a) && decide (a < 0x06F84000) && s.isGntObj ((a - 0x06F80000) / 32)) ||
    (decide (0x06F88000 ≤ a) && decide (a < 0x06FB8000) && s.isGntObj ((a - 0x06F88000) / 384))

/-- The unit renders as MEASURE does: in MEASURE, and in STANDBY while the duty unit runs MEASURE (R44). -/
def State.measuring (s : State) : Bool := decide (s.pmode = 8) || (decide (s.pmode = 9) && s.twin.measure)

/-- Whether an object is rendered in the current mode (R45). -/
def State.rendered (s : State) (o : Nat) : Bool :=
  decide (o < s.mode.objects) && (!s.measuring || decide (o < 96) || decide (480 ≤ o))

/-! ## Entries -/

/-- An object descriptor (R65), reserved codes already acting as the table says. -/
structure ObjD where
  en : Bool
  mute : Bool
  prio : Nat
  law : Nat
  dop : Nat
  setZones : Bool
  dist : Nat
  fabric : Bool
  gain : Int
  spread : Nat
  ref : Int
  dbapA : Nat
  mask : Nat
  zones : List Nat
  dopMax : Nat
  stepTo : Nat
deriving DecidableEq, Repr

/-- A descriptor's DOP_MAX with its limits (R109). -/
def dopMaxOf (v : Nat) : Nat := if v = 0 then 655 else min v 0x4000

/-- The descriptor at an address. -/
def objD (t : List Host.Cell) (a : Nat) : ObjD :=
  let b0 := tb t a 1
  let b1 := tb t (a + 1) 1
  let dop := b1 / 4 % 4
  let dist := b1 / 32 % 4
  let zc := min (tb t (a + 14) 1 % 16) 8
  { en := b0.testBit 0, mute := b0.testBit 1, prio := b0 / 4 % 8, law := b1 % 4
    dop := if dop = 3 then 0 else dop, setZones := b1.testBit 4, dist := if dist = 3 then 0 else dist
    fabric := b1.testBit 7, gain := tbS t (a + 4) 3, spread := tb t (a + 7) 1
    ref := max 0 (tbS t (a + 8) 4), dbapA := tb t (a + 12) 1, mask := tb t (a + 13) 1 % 128
    zones := (List.range zc).map fun i => tb t (a + 16 + i) 1
    dopMax := dopMaxOf (tb t (a + 24) 2), stepTo := tb t (a + 26) 2 }

/-- A speaker entry (R73). -/
structure Spk where
  pos : Vec
  aim : Vec
  k : Nat
  pol : Bool
  en : Bool
  zones : List Nat
  dTrim : Int
  gTrim : Int
  taper : Nat
deriving DecidableEq, Repr

/-- The speaker of feed `f`. DIR_K 9 to 15, which only the loader refuses (R93), is the exponent as it stands (DESIGN CHOICE,
assumption 63). -/
def spkD (t : List Host.Cell) (f : Nat) : Spk :=
  let a := spkAddr f
  let b := tb t (a + 18) 1
  { pos := tbVec t a 4, aim := tbVec t (a + 12) 2, k := b % 16, pol := b.testBit 4, en := b.testBit 7
    zones := ((List.range 4).filter fun i => (tb t (a + 19) 1).testBit i).map fun i => tb t (a + 20 + i) 1
    dTrim := tbS t (a + 24) 4, gTrim := tbS t (a + 28) 3, taper := tb t (a + 31) 1 }

/-- Whether feed `f` is in mask `m`. -/
def inMask (t : List Host.Cell) (m f : Nat) : Bool := (tb t (0x06FBB000 + 48 * m + f / 8) 1).testBit (f % 8)

/-- The active set of an object (R66), before the speaker's EN. -/
def inSet (t : List Host.Cell) (d : ObjD) (f : Nat) (sp : Spk) : Bool :=
  let z := d.zones.any fun z => sp.zones.contains z
  if d.setZones then z else inMask t d.mask f && (decide (d.law ≠ 3) || z)

/-! ## Trajectories (R67 to R71) -/

/-- A trajectory segment. -/
structure Seg where
  slot : Nat
  start : Int
  pos : Vec
  vel : Vec
  acc : Vec
  dur : Nat
deriving DecidableEq, Repr

/-- The start instant whose seconds end in `lo` and which lies after `tn − 32,768 s` and no later than
`tn + 32,768 s` (R69), in nanoseconds. -/
def resolveStart (tn : Nat) (lo ns : Nat) : Int :=
  let top : Int := (tn : Int) + 32768 * 1000000000
  let smax : Int := (top - ns) / 1000000000
  (smax - (smax - lo) % 65536) * 1000000000 + ns

/-- The valid segments of an object whose START_NS is in range, with their start instants; a slot that `dead` names acts as
disabled (R37, R88). -/
def segsOf (t : List Host.Cell) (dead : Nat → Bool) (o tn : Nat) : List Seg :=
  ((List.range 8).filter fun s =>
    !dead s && (tb t (trajAddr o s + 47) 1).testBit 0 && decide (tb t (trajAddr o s) 4 < 1000000000)).map fun s =>
    let a := trajAddr o s
    ⟨s, resolveStart tn (tb t (a + 4) 2) (tb t a 4), tbVec t (a + 8) 4, tbVec t (a + 20) 4, tbVec t (a + 32) 4,
      tb t (a + 44) 3⟩

/-- The slots whose VALID is set but whose START_NS is out of range. -/
def badSegs (t : List Host.Cell) (dead : Nat → Bool) (o : Nat) : List Nat :=
  (List.range 8).filter fun s =>
    !dead s && (tb t (trajAddr o s + 47) 1).testBit 0 && !decide (tb t (trajAddr o s) 4 < 1000000000)

/-- The active segment: the started one with the latest start, the higher slot of equals (R69). -/
def activeSeg (segs : List Seg) (tn : Nat) : Option Seg :=
  segs.foldl (fun best g =>
    if (tn : Int) < g.start then best
    else match best with
      | none => some g
      | some b => if b.start ≤ g.start then some g else best) none

/-- One coordinate at `tau` nanoseconds (R70), unsaturated. -/
def coordAt (p v a tau : Int) : Int :=
  p + rndDiv (v * tau) 1000000000 + rndDiv (a * tau * tau) 2000000000000000000

/-- The position of a segment at `tn`, and whether a coordinate saturated. -/
def segPos (g : Seg) (tn : Nat) : Vec × Bool :=
  if g.dur = 0 then (g.pos, false) else
  let tau0 : Int := (tn : Int) - g.start
  let tau := if g.dur = 0xFFFFFF then tau0 else min tau0 ((g.dur * 1000000 : Nat) : Int)
  let raw : Vec := ⟨coordAt g.pos.x g.vel.x g.acc.x tau, coordAt g.pos.y g.vel.y g.acc.y tau,
    coordAt g.pos.z g.vel.z g.acc.z tau⟩
  let p : Vec := ⟨satN 32 raw.x, satN 32 raw.y, satN 32 raw.z⟩
  (p, decide (p ≠ raw))

/-- An object's position in a block; `seg` is none where no segment is active. -/
structure ObjPos where
  pos : Vec
  seg : Option Nat
  held : Bool
  placed : Bool
  sat : Bool
  retire : List Nat
  bad : List Nat
deriving DecidableEq, Repr

/-- Position of object `o` at `tn` (R69 to R71) from the tables, the fabric and its last state entry. -/
def objPos (t : List Host.Cell) (fab : List (Nat × (Word × Word × Word))) (dead : Nat → Bool) (st : List Byte) (d : ObjD)
    (o tn : Nat) : ObjPos :=
  let was : Vec := ⟨sext 32 (leAt st 0 4), sext 32 (leAt st 4 4), sext 32 (leAt st 8 4)⟩
  let placed := (byteAt st 12).testBit 4
  if d.fabric then
    match fab.find? (fun e => decide (e.1 = o)) with
    | some (_, x, y, z) => ⟨⟨x.toInt, y.toInt, z.toInt⟩, none, false, true, false, [], []⟩
    | none => ⟨was, none, placed, placed, false, [], []⟩
  else
    let segs := segsOf t dead o tn
    match activeSeg segs tn with
    | some g =>
      let (p, sat) := segPos g tn
      let retire := (segs.filter fun h => decide (h.start ≤ (tn : Int)) && decide (h.slot ≠ g.slot)).map (·.slot)
      ⟨p, some g.slot, false, true, sat, retire, badSegs t dead o⟩
    | none => ⟨was, none, placed, placed, false, [], badSegs t dead o⟩

/-! ## Distances and vectors (R75, R77, R84) -/

/-- Distance in raw Q16.16 (R75). -/
def distRaw (a b : Vec) : Nat :=
  min (isqrt ((a.x - b.x) ^ 2 + (a.y - b.y) ^ 2 + (a.z - b.z) ^ 2).toNat) 0x7FFFFFFF

/-- A binary32 vector. -/
structure FVec where
  x : Fl
  y : Fl
  z : Fl
deriving DecidableEq, Repr

/-- Dot product, left to right (R77). -/
def FVec.dot (a b : FVec) : Fl :=
  Fl.add f32 (Fl.add f32 (Fl.mul f32 a.x b.x) (Fl.mul f32 a.y b.y)) (Fl.mul f32 a.z b.z)

/-- Cross product (R80). -/
def FVec.cross (a b : FVec) : FVec :=
  let m (p q r t : Fl) := Fl.sub f32 (Fl.mul f32 p q) (Fl.mul f32 r t)
  ⟨m a.y b.z a.z b.y, m a.z b.x a.x b.z, m a.x b.y a.y b.x⟩

/-- A Q16.16 number in binary32. -/
def fq16 (v : Int) : Fl := Fl.ofInt f32 v (-16)

/-- A distance as the law arithmetic takes it: at least 2^-8 m (R84). -/
def lawDist (d : Nat) : Fl := fq16 (max d 256 : Nat)

/-- The unit vector from `a` to `b`: each difference component divided by the distance (R77). Two equal points have no
direction and the spec gives none: (0, 0, 1) (DESIGN CHOICE, assumption 63). -/
def dirVec (a b : Vec) : FVec :=
  let d := distRaw a b
  if d = 0 then ⟨.fin 0 0, .fin 0 0, .fin 1 0⟩
  else
    let r := fq16 d
    ⟨Fl.div f32 (fq16 (b.x - a.x)) r, Fl.div f32 (fq16 (b.y - a.y)) r, Fl.div f32 (fq16 (b.z - a.z)) r⟩

/-- The unit vector between an object and a speaker: (0, 0, 1) below 2^-8 m (R84). -/
def unitVec (a b : Vec) : FVec := if distRaw a b < 256 then ⟨.fin 0 0, .fin 0 0, .fin 1 0⟩ else dirVec a b

/-- AIM as a binary32 vector. -/
def aimVec (v : Vec) : FVec := ⟨Fl.ofInt f32 v.x (-15), Fl.ofInt f32 v.y (-15), Fl.ofInt f32 v.z (-15)⟩

/-- Binary32 sum, left to right. -/
def fsum (l : List Fl) : Fl :=
  match l with
  | [] => .fin 0 0
  | a :: r => r.foldl (Fl.add f32) a

/-- One in binary32. -/
def fOne : Fl := .fin 1 0

/-- Zero. -/
def fZero : Fl := .fin 0 0

/-- 2^-20. -/
def fEps : Fl := .fin 1 (-20)

/-- Absolute value. -/
def Fl.mag (a : Fl) : Fl := if a.isNeg then a.neg else a

/-! ## The laws (R79 to R83) -/

/-- Distance-model gain (R79). -/
def distGain (dist : Nat) (ref : Int) (dm : Nat) : Fl :=
  if dist = 0 ∨ ref = 0 then fOne
  else
    let q := Fl.div f32 (fq16 ref) (Fl.max2 (fq16 dm) (fq16 ref))
    if dist = 1 then q else Fl.sqrt f32 q

/-- A triangle that passes the first test of R80: its feeds, two for a pair; an uncorrectable entry acts as disabled. -/
def triFeeds (t : List Host.Cell) (bad : Nat → Nat → Bool) (act : List Nat) (i : Nat) : Option (List Nat) :=
  let a := 0x06FBD800 + 8 * i
  let c := tb t (a + 4) 2
  let fs := [tb t a 2, tb t (a + 2) 2] ++ (if c = 0xFFFF then [] else [c])
  if !bad a 8 ∧ (tb t (a + 6) 1).testBit 0 ∧ fs.all act.contains then some fs else none

/-- The gains of a triangle or pair for direction `u`, or none where it is skipped. -/
def triGains (l : Nat → FVec) (u : FVec) (fs : List Nat) : Option (List (Nat × Fl)) :=
  let ok (g : List (Nat × Fl)) : Option (List (Nat × Fl)) :=
    if (g.all fun p => Fl.le fEps.neg p.2) && (g.any fun p => Fl.lt fZero p.2) then some g else none
  match fs with
  | [a, b] =>
    let m := (l a).dot (l b)
    let den := Fl.sub f32 fOne (Fl.mul f32 m m)
    if Fl.lt den fEps then none
    else
      let ra := u.dot (l a)
      let rb := u.dot (l b)
      ok [(a, Fl.div f32 (Fl.sub f32 ra (Fl.mul f32 m rb)) den), (b, Fl.div f32 (Fl.sub f32 rb (Fl.mul f32 m ra)) den)]
  | [a, b, c] =>
    let bc := (l b).cross (l c)
    let det := (l a).dot bc
    if Fl.lt det.mag fEps then none
    else ok [(a, Fl.div f32 (u.dot bc) det), (b, Fl.div f32 (u.dot ((l c).cross (l a))) det),
      (c, Fl.div f32 (u.dot ((l a).cross (l b))) det)]
  | _ => none

/-- VBAP (R80, R84): the law gain of each feed of the active set, and whether the search missed. -/
def lawVbap (t : List Host.Cell) (bad : Nat → Nat → Bool) (org p : Vec) (spread : Nat) (act : List Nat) : List (Nat × Fl) × Bool :=
  let tris := (List.range 1024).filterMap (triFeeds t bad act)
  let usable := act.filter fun f => tris.any fun fs => fs.contains f
  let n := Fl.ofInt f32 (usable.length : Nat) 0
  if usable.isEmpty then (act.map fun f => (f, fZero), true)
  else if distRaw org p < 256 then
    (act.map fun f => (f, if usable.contains f then Fl.div f32 fOne (Fl.sqrt f32 n) else fZero), false)
  else
    let l (f : Nat) : FVec := dirVec org (spkD t f).pos
    let u := dirVec org p
    let hit := tris.findSome? (triGains l u)
    let best : Option (Nat × Fl) := usable.foldl (fun b f =>
      let v := (l f).dot u
      match b with
      | none => some (f, v)
      | some (_, w) => if Fl.lt w v then some (f, v) else b) none
    let g0 : List (Nat × Fl) := match hit with
      | some g => g
      | none => (best.map fun b => [(b.1, fOne)]).getD []
    let g1 := g0.map fun x => (x.1, Fl.max2 fZero x.2)
    let nrm := Fl.sqrt f32 (fsum (g1.map fun x => Fl.mul f32 x.2 x.2))
    let sg := Fl.div f32 (Fl.ofInt f32 spread 0) (.fin 255 0)
    let out := act.map fun f =>
      let gf := match g1.find? (fun x => decide (x.1 = f)) with
        | some x => Fl.div f32 x.2 nrm
        | none => fZero
      let a := Fl.mul f32 (Fl.sub f32 fOne sg) (Fl.mul f32 gf gf)
      let b := Fl.div f32 sg n
      (f, if usable.contains f then Fl.sqrt f32 (Fl.add f32 a b) else fZero)
    (out, hit.isNone)

/-- Integer power by repeated multiplication. -/
def fpow (c : Fl) : Nat → Fl
  | 0 => fOne
  | 1 => c
  | k + 2 => Fl.mul f32 (fpow c (k + 1)) c

/-- DBAP (R81). -/
def lawDbap (t : List Host.Cell) (p : Vec) (spread a : Nat) (act : List Nat) : List (Nat × Fl) :=
  let r := Fl.mul f32 (Fl.ofInt f32 spread 0) (.fin 1 (-2))
  let v := act.map fun f =>
    let sp := spkD t f
    let d := lawDist (distRaw p sp.pos)
    let d2 := Fl.sqrt f32 (Fl.add f32 (Fl.mul f32 d d) (Fl.mul f32 r r))
    let w := if sp.k = 0 ∨ sp.aim = ⟨0, 0, 0⟩ then fOne
      else
        let c := (aimVec sp.aim).dot (unitVec sp.pos p)
        if Fl.le c fZero then fZero else fpow c sp.k
    (f, if a = 0 then w
      else Fl.mul f32 w (Fl.exp2 f32 (Fl.mul f32 (Fl.ofInt f32 a (-6)) (Fl.log2 f32 d2)).neg))
  let sum := fsum (v.map fun x => Fl.mul f32 x.2 x.2)
  if sum.isZero then v.map fun x => (x.1, fZero)
  else v.map fun x => (x.1, Fl.div f32 x.2 (Fl.sqrt f32 sum))

/-- WAVE (R82). -/
def lawWave (t : List Host.Cell) (p : Vec) (ref : Int) (act : List Nat) : List (Nat × Fl) :=
  act.map fun f =>
    let sp := spkD t f
    let free := decide (sp.aim = ⟨0, 0, 0⟩)
    let c := (aimVec sp.aim).dot (unitVec p sp.pos)
    let taper := Fl.ofInt f32 (sp.taper + 1 : Nat) (-8)
    let root := if ref = 0 then fOne
      else Fl.sqrt f32 (Fl.div f32 (fq16 ref) (Fl.max2 (lawDist (distRaw p sp.pos)) (fq16 ref)))
    (f, if !free && Fl.le c fZero then fZero
      else Fl.mul f32 (Fl.mul f32 taper (if free then fOne else c)) root)

/-! ## Targets (R76, R78) -/

/-- The target delay of a cell in samples with 16 fractional bits, before the lanes' clamp (R76). -/
def targetDelay (t : List Host.Cell) (d : ObjD) (sp : Spk) (p : Vec) (fr geoC : Nat) : Int :=
  let num : Int := if d.law = 3 then
      match d.zones.find? fun z => sp.zones.contains z with
      | some z =>
        let a := 0x06FBC800 + 16 * z
        tbS t (a + 12) 4 - (distRaw sp.pos (tbVec t a 4) : Nat)
      | none => 0
    else (distRaw p sp.pos : Nat) - d.ref
  min (max (rndDiv (num * fr * 2 ^ 22) geoC + sp.dTrim) 0) (2 ^ 40 - 1)

/-- The target gain of a cell (R78). -/
def targetGain (d : ObjD) (sp : Spk) (law dm : Fl) : Int :=
  let g := Fl.mul f32 (Fl.mul f32 (Fl.mul f32 (Fl.ofInt f32 d.gain (-22)) law) dm) (Fl.ofInt f32 sp.gTrim (-22))
  if d.mute then 0 else (if sp.pol then g.neg else g).q2_22

/-- What an object gives in a block: its targets, distance-model distance and a VBAP miss. -/
structure ObjOut where
  tgts : List CellTgt
  dm : Option Nat
  miss : Bool
deriving DecidableEq, Repr

/-- The far maximum in raw samples (R119). -/
def farMax : Int := 130944 * 65536

/-- The active set of an object: the feeds of R66, before the speakers' EN; an uncorrectable mask is empty (R37), and a ZONE
object has no zone to align to where the zone's entry is uncorrectable (R66, R76; assumption 63). -/
def activeSet (t : List Host.Cell) (bad : Nat → Nat → Bool) (d : ObjD) : List (Nat × Spk) :=
  let lost := !d.setZones && bad (0x06FBB000 + 48 * d.mask) 48
  ((List.range 384).map fun f => (f, spkD t f)).filter fun x =>
    !lost && inSet t d x.1 x.2 &&
      (decide (d.law ≠ 3) || (d.zones.any fun z => x.2.zones.contains z && !bad (0x06FBC800 + 16 * z) 16))

/-- The distance-model distance D_M of an object at `p` (R79): none where the spec states none (WAVE, ZONE, and DBAP over an
empty set). -/
def objDm (org p : Vec) (d : ObjD) (set : List (Nat × Spk)) : Option Nat :=
  if d.law = 0 then some (distRaw p org)
  else if d.law = 1 then set.foldl (fun m x => some (min (m.getD 0x7FFFFFFF) (distRaw p x.2.pos))) none
  else none

/-- The targets of an object at position `p` (R66, R76 to R84); `bad a n` tells an uncorrectable entry, which acts as disabled
(R37), and `on` whether the object takes cells at all. -/
def objTargets (t : List Host.Cell) (org : Vec) (fr geoC : Nat) (bad : Nat → Nat → Bool) (on : Bool) (o : Nat) (d : ObjD)
    (p : Vec) : ObjOut :=
  let set := activeSet t bad d
  let dmR := objDm org p d set
  let act := if on then set.filter fun x => x.2.en && !bad (spkAddr x.1) 32 else []
  let fs := act.map (·.1)
  let (laws, miss) :=
    if !on then ([], false)
    else if d.law = 0 then lawVbap t bad org p d.spread fs
    else if d.law = 1 then (lawDbap t p d.spread d.dbapA fs, false)
    else if d.law = 2 then (lawWave t p d.ref fs, false)
    else (fs.map fun f => (f, fOne), false)
  let dm := match dmR with
    | some v => distGain d.dist d.ref v
    | none => fOne
  let d1 := { d with zones := d.zones.filter fun z => !bad (0x06FBC800 + 16 * z) 16 }
  let tg := (act.zip laws).map fun x =>
    ({ key := 384 * o + x.1.1, d := targetDelay t d1 x.1.2 p fr geoC, g := targetGain d x.1.2 x.2.2 dm,
       prio := d.prio, dop := d.dop, maxS := d.dopMax, stepTo := d.stepTo } : CellTgt)
  ⟨tg, dmR, miss⟩

/-! ## The engine's step for a block -/

/-- A GEO_EVT event sets and is recorded (R91). -/
def State.geoEvt (s : State) (bit kind obj slot blk : Nat) : State :=
  (s.evt Reg.GEO_EVT bit).note 0x06 0x40 ([b8 kind] ++ leBytes 2 obj ++ [b8 slot] ++ leBytes 6 blk)

/-- The instant of block `n`'s last sample (R25). -/
def State.tn (s : State) (n : Nat) : Nat := s.blk.t0 + ((n + 1) * s.blk.b - 1) * 1000000000 / s.blk.fr

/-- The snapshot at Sn: application entries stay as they were while FREEZE is seen set (R25, R64); a standby takes the
Gauntlet object entries from the copy that the log keeps (R297). -/
def State.takeSnap (s : State) (n : Nat) : State :=
  let cur := s.sram.filter fun e => decide (0x06F80000 ≤ e.1) && decide (e.1 < 0x06FC0000)
  let freeze := s.bitR Reg.GEO_CTL 0
  let tables := if freeze && s.geo.frozen then
      let app := s.geo.last.filter fun e => !s.gntEntry e.1
      (cur.filter fun e => s.gntEntry e.1).foldl (fun m e => Store.set sramDef m e.1 e.2) app
    else cur
  let regs := [Reg.GEO_C, Reg.GEO_ORG_X, Reg.GEO_ORG_Y, Reg.GEO_ORG_Z, Reg.RND_HOP_THR, Reg.RND_STEP_MIN].map
    fun a => (a, s.reg a)
  let used := if s.follows then
      (s.twin.gobj.foldl (fun m e => Store.set sramDef m e.1 e.2) (tables.filter fun e => !s.gntEntry e.1)) else tables
  let snap : GeoSnap := ⟨n, used, regs, s.geo.fab, []⟩
  let desc := used.filter fun e => decide (e.1 < objStAddr 0)
  { s with geo := { s.geo with
    frozen := freeze, last := tables, snaps := s.geo.snaps ++ [snap]
    desc := (n, desc) :: (s.geo.desc.filter fun e => decide (n < e.1 + 4) && decide (e.1 < n)) } }

/-- A write of a word of the object, trajectory and speaker tables that takes effect: logged by a duty unit, and a word 11 of
a trajectory slot noted for the blocks not yet computed (R68). -/
def State.tableWrite (s : State) (a : Nat) (v : Word) : State :=
  if trackedRo a then s else
  let s1 := (s.logWrite a v).sramHostWrite a v
  if 0x06F88000 ≤ a ∧ a < 0x06FB8000 ∧ (a - 0x06F88000) % 48 = 44 then
    let k := (a - 0x06F88000) / 48
    { s1 with geo := { s1.geo with snaps := s1.geo.snaps.map fun (g : GeoSnap) => { g with w11 := k :: g.w11 } } }
  else s1

/-- Clear VALID of a trajectory slot. -/
def State.clearSeg (s : State) (o slot : Nat) : State :=
  let a := trajAddr o slot + 44
  if s.follows ∧ s.gntEntry a then
    { s with twin := { s.twin with gobj := Store.putBytes sramDef s.twin.gobj a (leBytes 4 (putBit (w32 (leNat (Store.bytes sramDef s.twin.gobj a 4))) 24 false).toNat) } }
  else s.putWord a (putBit (s.sw a) 24 false)

/-- The part of GEOMETRY_DONE for one object: retirement, events and the state entry; its targets join `acc`. SEG where no
segment is active, and D_M where R79 states none or the object has no position, are free values (assumption 19). -/
def State.geoObject (s : State) (g : GeoSnap) (acc : List CellTgt) (o : Nat) : State × List CellTgt :=
  if s.geo.stopped.contains (g.blk, o) then (s, acc) else
  let t := g.tables
  let tn := s.tn g.blk
  let bad (a n : Nat) : Bool := s.sramBad.any fun b => decide (b.array = 14) && b.hard &&
    decide (a < 0x06F80000 + 8 * b.word + 8) && decide (0x06F80000 + 8 * b.word < a + n)
  let d0 := objD t (objAddr o)
  let d := if bad (objAddr o) 32 then { d0 with en := false } else d0
  let p := objPos t g.fab (fun x => bad (trajAddr o x) 48)
    (if bad (objStAddr o) 32 then [] else s.sramBytes (objStAddr o) 32) d o tn
  let hold := s.geo.frozen && !decide (s.mode.objects ≤ o + 32)
  let keep (slot : Nat) : Bool := hold || g.w11.contains (8 * o + slot)
  let retire := p.retire.filter fun x => !keep x
  let badS := p.bad.filter fun x => !keep x
  let s := s.each retire fun s x => (s.clearSeg o x).count Reg.GEO_SEG_RETIRED 1
  let s := s.each badS fun s x => ((s.clearSeg o x).count Reg.GEO_SEG_INVALID 1).geoEvt 0 1 o x g.blk
  let s := s.when p.sat fun s => (s.count Reg.GEO_POS_SAT 1).geoEvt 1 2 o 0 g.blk
  let on := d.en && s.rendered o && (p.placed || decide (d.law = 3))
  let rv (a : Nat) : Nat := (Store.get (fun _ => 0) g.regs a).toNat
  let org : Vec := ⟨sext 32 (rv Reg.GEO_ORG_X), sext 32 (rv Reg.GEO_ORG_Y), sext 32 (rv Reg.GEO_ORG_Z)⟩
  let out := objTargets t org s.blk.fr (rv Reg.GEO_C) bad on o d p.pos
  let s := s.when out.miss fun s => (s.count Reg.GEO_VBAP_MISS 1).geoEvt 2 3 o 0 g.blk
  let (s, dm) := match (if p.placed then out.dm else none) with
    | some v => (s, v)
    | none => (s.draw, s.freeNat % 2 ^ 32)
  let (s, seg) := match p.seg with
    | some v => (s, v)
    | none => (s.draw, s.freeNat % 8)
  let flags := seg + 8 * p.held.toNat + 16 * p.placed.toNat + 32 * p.sat.toNat
  let entry := leBytes 4 (toBits 32 p.pos.x) ++ leBytes 4 (toBits 32 p.pos.y) ++ leBytes 4 (toBits 32 p.pos.z) ++
    [b8 flags, 0, 0, 0] ++ leBytes 4 dm ++ leBytes 2 out.tgts.length ++ leBytes 6 g.blk ++ [0, 0, 0, 0]
  let s := { s with geo := { s.geo with prev := Store.set (fun _ => []) s.geo.prev o (s.sramBytes (objStAddr o) 32) } }
  (s.putArray (objStAddr o) entry, acc ++ out.tgts)

end Sys2Proof.Machine
end

