-- ==== Sys2Proof/Machine/Lanes.lean ====
section
/-!
DEFINITION. Render lanes and the delay store (R94 to R123): near and far rings, the interpolator, the Doppler
rules, hop and far-slot grants, and the tile arithmetic; and the commands of geometry and rendering.
-/
namespace Sys2Proof.Machine

/-! ## Rings (R94 to R96) -/

/-- The near window in samples (R39, R95). -/
def State.nearW (s : State) : Nat := if s.mode.objects = 256 then 21845 else 10922

/-- Q1.31 to Q1.23 (R94). -/
def q23 (v : Int) : Int := satN 24 (rndShift v 8)

/-- Three bytes of a Q1.23 sample. -/
def q23Bytes (v : Int) : List Byte := leBytes 3 (toBits 24 v)

/-- Address of near-ring sample `t` of object `o` (R95). -/
def State.nearAddr (s : State) (o t : Nat) : Nat := 0x04000000 + 3 * (o * s.nearW + t % s.nearW)

/-- Write a block of samples into an object's near ring (R94). -/
def State.nearWrite (s : State) (o n : Nat) (l : List Int) : State :=
  s.each (blockOf s.blk.b l).zipIdx fun s x => s.putArray (s.nearAddr o (n * s.blk.b + x.2)) (q23Bytes (q23 x.1))

/-- A block of object audio: written at once, or held until every tile of the block before is done (R97). -/
def State.objWrite (s : State) (o n : Nat) (l : List Int) : State :=
  if s.twin.aGot.contains n then s
  else if n ≤ s.rnd.tileBlk ∧ !s.twin.aWait.contains n then s.nearWrite o n l
  else { s with rnd := { s.rnd with near := (s.rnd.near.filter fun e => !(decide (e.1 = o) && decide (e.2.blk = n))) ++ [(o, ⟨n, l⟩)] } }

/-- Near-ring writes that waited for the tiles are made (R97). -/
def State.nearFlush (s : State) : State :=
  let now (e : Nat × BusVal) : Bool := decide (e.2.blk ≤ s.rnd.tileBlk) && !s.twin.aWait.contains e.2.blk
  let go := s.rnd.near.filter now
  let s := { s with rnd := { s.rnd with near := s.rnd.near.filter fun e => !now e } }
  s.each go fun s e => s.nearWrite e.1 e.2.blk e.2.smp

/-- Samples of a far ring (R96). -/
def farLen : Nat := 131072

/-- DRAM address of far-ring sample `t` of object `o` (R96). -/
def State.farAddr (s : State) (o t : Nat) : Nat := s.farBase + 3 * (o * farLen + t % farLen)

/-- A far ring's share of the near samples of block `n` (R96): what a mirror write copies. -/
def State.mirrorWrite (s : State) (o n : Nat) : State :=
  let b := s.blk.b
  s.each (List.range b) fun s k =>
    let a := s.nearAddr o (n * b + k)
    (s.scrub a 3).dramWriteParts .realtime (s.farAddr o (n * b + k)) (s.sramClean a 3)

/-- A 24-bit sample. -/
def sample24 (bs : List Byte) : Int := sext 24 (leNat bs)

/-- A sample of the near ring; zero before S0 and in an uncorrectable word (R37, R107). -/
def State.nearSample (s : State) (o : Nat) (t : Int) : Int :=
  if t < 0 then 0 else
  let a := s.nearAddr o t.toNat
  if s.swBad a || s.swBad (a + 2) then 0 else sample24 (s.sramBytes a 3)

/-- A far fetch of one sample from the far ring; zero where an uncorrectable unit holds any of it and where DRAM is not served (R107). -/
def State.farSample (s : State) (o t : Nat) : State × Int :=
  let a := s.farAddr o t
  if !s.drc.trained || s.unserved a then (s, 0) else let r := s.dramRead a 3 true; (r.1, if r.2.2 then sample24 r.2.1 else 0)

/-! ## The interpolator (R102 to R105) -/

/-- The binary64 value nearest π. -/
def pi64 : Fl := .fin 884279719003555 (-48)

/-- `i0` of R104 after the terms `m` to 30. -/
def i0Go (q : Fl) : Nat → Nat → Fl → Fl → Fl
  | 0, _, _, acc => acc
  | k + 1, m, t, acc =>
    let t1 := Fl.div f64 (Fl.mul f64 t q) (Fl.ofInt f64 (m * m : Nat) 0)
    i0Go q k (m + 1) t1 (Fl.add f64 acc t1)

/-- The modified Bessel function as R104 writes it. -/
def i0 (x : Fl) : Fl :=
  let h := Fl.mul f64 x (.fin 1 (-1))
  i0Go (Fl.mul f64 h h) 30 1 (.fin 1 0) (.fin 1 0)

/-- Coefficient before the sum is adjusted (R104). -/
def iptRaw (phi j : Nat) : Int :=
  let un : Int := 1024 * ((j : Int) - 3) - (phi : Int)
  let u := Fl.ofInt f64 un (-10)
  let a := Fl.mul f64 pi64 u
  let s := if un = 0 then Fl.fin 1 0 else Fl.div f64 (Fl.sin f64 a) a
  let v := Fl.div f64 u (.fin 9 (-1))
  let root := Fl.sqrt f64 (Fl.sub f64 (.fin 1 0) (Fl.mul f64 v v))
  let w := Fl.div f64 (i0 (Fl.mul f64 (.fin 7 0) root)) (i0 (.fin 7 0))
  (Fl.mul f64 (Fl.mul f64 (.fin 1 18) s) w).toFix 64 0

/-- The eight coefficients of a phase: they sum to 2^18 after the largest takes the difference (R104). -/
def iptRow (phi : Nat) : List Int :=
  let l := (List.range 8).map (iptRaw phi)
  let diff := 2 ^ 18 - l.foldl (· + ·) 0
  let big := (List.range 8).foldl (fun b j => if (nth l b 0).natAbs < (nth l j 0).natAbs then j else b) 0
  l.set big (nth l big 0 + diff)

/-- Coefficient `h[φ][j]`. -/
def iptCoef (phi j : Nat) : Int := nth (iptRow phi) j 0

/-- Tap position of a delay: `E` and phase (R102). -/
def tapPos (d : Int) : Int × Nat :=
  let q := d + 3 * 65536 + 32
  (q / 65536, (q / 64 % 1024).toNat)

/-- Delay or gain of sample `k` between the values of two blocks (R101). -/
def glide (a b : Int) (k bl : Nat) : Int := a + ((k + 1 : Nat) : Int) * (b - a) / (bl : Int)

/-- The largest depth a tap reads over a block (R113). -/
def tapReach (d0 d1 : Int) (b : Nat) : Int :=
  (List.range b).foldl (fun (m : Int) (k : Nat) => max m ((b : Int) + 3 - (k : Int) + (tapPos (glide d0 d1 k b)).1)) 0

/-- The smallest depth a tap reads over a block (R117). -/
def tapFloor (d0 d1 : Int) (b : Nat) : Int :=
  (List.range b).foldl (fun (m : Int) (k : Nat) => min m ((b : Int) - 1 - (k : Int) + (tapPos (glide d0 d1 k b)).1 - 3)) (2 ^ 40)

/-- The value of a tap at input time `t` (R106): `rd` reads the object's sample at a time. -/
def tapValue (rd : Int → Int) (d t : Int) : Int :=
  let (e, phi) := tapPos d
  let row := iptRow phi
  let s := (List.range 8).foldl (fun (acc : Int) (j : Nat) => acc + rd (t - e + 3 - (j : Int)) * nth row j 0) 0
  satN 26 (rndShift s 17)

/-- The newest input time of block `n` (R97). -/
def State.newest (s : State) (n : Nat) : Nat := n * s.blk.b + s.blk.b - 1

/-- Whether a tap reads the far tier (R117). -/
def State.tapFar (s : State) (far : Bool) (d0 d1 : Int) : Bool :=
  far && decide (((s.nearW : Int) - 1024) ≤ tapFloor d0 d1 s.blk.b)

/-- The input times that a tap reads in block `n`, those before S0 left out. -/
def State.tapSpan (s : State) (n : Nat) (d0 d1 : Int) : List Nat :=
  let lo := (tapFloor d0 d1 s.blk.b).toNat
  let hi := (tapReach d0 d1 s.blk.b).toNat
  ((List.range (hi + 1 - lo)).filter fun i => decide (lo + i ≤ s.newest n)).map fun i => s.newest n - (lo + i)

/-- A far slot's samples of a tap for block `n`: those of its span that it `held` stay, the others are fetched unless the fetch
was stopped (R118, R229). -/
def State.farTap (s : State) (o n : Nat) (far stop : Bool) (d0 d1 : Int) (held : List (Nat × Int)) :
    State × List (Nat × Int) :=
  if !s.tapFar far d0 d1 then (s, [])
  else (s.tapSpan n d0 d1).foldl (fun (r : State × List (Nat × Int)) t =>
    match held.find? fun e => decide (e.1 = t) with
    | some e => (r.1, r.2 ++ [e])
    | none => if stop then r else let q := r.1.farSample o t; (q.1, r.2 ++ [(t, q.2)])) (s, [])

/-- The reader of a tap of object `o` in block `n`: its far slot's samples or the near ring (R117); a sample that a stopped far
fetch left out reads as zero. -/
def State.tapReader (s : State) (o n : Nat) (far : Bool) (slot : List (Nat × Int)) (d0 d1 : Int) : Int → Int :=
  let useFar := s.tapFar far d0 d1
  fun t =>
    if useFar then (if t < 0 then 0 else ((slot.find? fun e => decide (e.1 = t.toNat)).map (·.2)).getD 0)
    else if (s.newest n : Int) - t > (s.nearW : Int) - 1 then 0 else s.nearSample o t

/-! ## Cell state (R98) -/

/-- Address of the state entry of a cell. -/
def cellAddr (key : Nat) : Nat := 0x06900000 + 8 * key

/-- DLY of a cell. -/
def State.cellDly (s : State) (key : Nat) : Int := ((leNat (s.sramBytes (cellAddr key) 5) % 2 ^ 33 : Nat) : Int)

/-- GAIN of a cell. -/
def State.cellGain (s : State) (key : Nat) : Int := sext 24 (leNat (s.sramBytes (cellAddr key + 5) 3))

/-- What the lanes hold of a cell. -/
def State.cellX (s : State) (key : Nat) : CellX := Store.get (fun _ => ({} : CellX)) s.rnd.cells key

/-- Put what the lanes hold of a cell. -/
def State.setCellX (s : State) (key : Nat) (x : CellX) : State :=
  { s with rnd := { s.rnd with cells := Store.set (fun _ => ({} : CellX)) s.rnd.cells key x } }

/-- Write a cell's state entry (R98). -/
def State.setCell (s : State) (key : Nat) (d g : Int) (far hop denied clamp : Bool) : State :=
  let w := d.toNat % 2 ^ 33 + far.toNat * 2 ^ 33 + hop.toNat * 2 ^ 34 + denied.toNat * 2 ^ 35 + clamp.toNat * 2 ^ 36
  s.putArray (cellAddr key) (leBytes 5 w ++ leBytes 3 (toBits 24 g))

/-! ## Doppler rules and grants (R109 to R119) -/

/-- Limit to ±m. -/
def clampTo (z m : Int) : Int := max (-m) (min z m)

/-- A cell before slots are granted: its values, whether a hop is due, and its tap's reach. -/
structure Cand where
  t : CellTgt
  x : CellX
  d0 : Int
  g0 : Int
  tgt : Int
  step : Int
  due : Bool
  clamp : Bool
  leave : Bool
deriving DecidableEq, Repr

/-- Judge one cell of a block (R109, R119, R120). A hop that is due stays due in STEPPED only (R111, R112). -/
def State.candOf (s : State) (b hopThr stepMin : Nat) (t : CellTgt) (leave : Bool) : Cand :=
  let x := s.cellX t.key
  let tgt := min t.d farMax
  let fresh := !x.act || s.swBad (cellAddr t.key)
  let d0 := if fresh then tgt else s.cellDly t.key
  let g0 := if fresh then 0 else s.cellGain t.key
  let x := if fresh then { x with act := true, hop := none, due := none, disp := 0, deny := 0, lastV := 0, held := false, slotM := [] }
    else if t.dop = 2 then x else { x with due := none }
  let delta := tgt - d0
  let limit : Int := ((t.maxS * b : Nat) : Int)
  let step := if t.dop = 0 then clampTo delta (b * 16384 : Nat) else if t.dop = 1 then clampTo delta limit else 0
  let due := x.hop.isNone && !leave &&
    (if t.dop = 0 then decide ((b : Int) * 16384 < ((delta.natAbs : Nat) : Int))
     else if t.dop = 1 then decide (((hopThr * 65536 : Nat) : Int) < (((tgt - (d0 + step)).natAbs : Nat) : Int))
     else decide (((stepMin : Nat) : Int) ≤ ((delta.natAbs : Nat) : Int)) || x.due.isSome)
  ⟨t, x, d0, g0, tgt, step, due, decide (farMax < t.d), leave⟩

/-- The new delay of a cell without a hop in this block. DESIGN CHOICE (assumption 57): a cell that becomes inactive has no
target, and keeps its delay through its last block. -/
def Cand.free (c : Cand) (b : Nat) : Int :=
  if c.leave then c.d0
  else match c.x.hop with
    | some _ => if c.t.dop = 0 then c.tgt else if c.t.dop = 1 then c.d0 + c.step
        else c.d0 + clampTo (c.tgt - c.d0) (b * 16384 : Nat)
    | none => if c.due then c.d0 + c.step else if c.t.dop = 0 then c.tgt else c.d0 + c.step

/-- The order of hop grants: PRIO descending, then the cell (R112). -/
def hopBefore (a b : Cand) : Bool :=
  decide (b.t.prio < a.t.prio) || (decide (a.t.prio = b.t.prio) && decide (a.t.key < b.t.key))

/-- Insert into a list ordered by `lt`. -/
def insertBy {α : Type} (lt : α → α → Bool) (a : α) : List α → List α
  | [] => [a]
  | b :: r => if lt a b then a :: b :: r else b :: insertBy lt a r

/-- Sort by insertion. -/
def sortBy {α : Type} (lt : α → α → Bool) (l : List α) : List α := l.foldr (insertBy lt) []

/-- Whether a cell requests a far slot (R113): its reach, with the hysteresis of a holder. -/
def State.wantsFar (s : State) (b : Nat) (c : Cand) (granted : Bool) : Bool :=
  let d1 := if granted && decide (c.t.dop ≠ 2) then c.tgt else c.free b
  let main := if granted && decide (c.t.dop ≠ 2) then tapReach c.tgt c.tgt b else tapReach c.d0 d1 b
  let old := match c.x.hop with
    | some h => tapReach h.dOld h.dOld b
    | none => if granted && decide (c.t.dop ≠ 2) then tapReach c.d0 c.d0 b else 0
  let new := if granted && decide (c.t.dop = 2) then tapReach c.tgt c.tgt b else 0
  let r := max main (max old new)
  let lim : Int := (s.nearW : Int) - (if c.x.held then 768 else 512)
  decide (lim < r)

/-- Ranking of requesting cells (R114). -/
def farBefore (a b : Cand) : Bool :=
  let ka := (a.t.g.natAbs)
  let kb := (b.t.g.natAbs)
  let ha := a.x.held && decide (a.x.disp = 0)
  let hb := b.x.held && decide (b.x.disp = 0)
  decide (b.t.prio < a.t.prio) || (decide (a.t.prio = b.t.prio) &&
    (decide (kb < ka) || (decide (ka = kb) &&
      ((ha && !hb) || (decide (ha = hb) && decide (a.t.key < b.t.key))))))

/-- Records of RND_EVT (R122). -/
def State.rndEvt (s : State) (bit kind obj feed blk : Nat) : State :=
  s.evtFirst Reg.RND_EVT bit 0x07 0x41 ([b8 kind] ++ leBytes 2 obj ++ leBytes 2 feed ++ leBytes 6 blk)

/-- The lowest cell of a list, as object and feed. -/
def lowCell (l : List Nat) : Nat × Nat :=
  let k := l.foldl min (l.headD 0)
  (k / 384, k % 384)

/-- The clamp starts of a block: counted, raised as detector 0x22 and recorded (R119, R121). -/
def State.clampStart (s : State) (c : Cand) (blk : Nat) : State :=
  let d := min (c.t.d / 65536 / 16).toNat 0xFFFF
  ((s.count Reg.RND_CLAMP_COUNT 1).evt Reg.RND_EVT 1).raiseDet 0x22 0x07
    (leBytes 2 (c.t.key / 384) ++ leBytes 2 (c.t.key % 384) ++ leBytes 6 blk ++ leBytes 2 d)

/-- The plan of block `tb.blk`: Doppler rules, hop slots and far slots (R109 to R119). -/
def State.makePlan (s : State) (tb : TgtBlk) : State :=
  let b := s.blk.b
  let keys := tb.tgts.map (·.key)
  let active := s.rnd.cells.filter fun e => e.2.act
  let holdCells := active.filter fun e => tb.holds.contains (e.1 / 384)
  let gone := active.filter fun e => !keys.contains e.1 && !tb.holds.contains (e.1 / 384)
  let live := tb.tgts.map fun t => s.candOf b tb.hopThr tb.stepMin t false
  let kept := holdCells.map fun e =>
    let d := objD s.sram (objAddr (e.1 / 384))
    s.candOf b tb.hopThr tb.stepMin ⟨e.1, s.cellDly e.1, s.cellGain e.1, d.prio, d.dop, d.dopMax, d.stepTo⟩ false
  let left := gone.map fun e =>
    s.candOf b tb.hopThr tb.stepMin ⟨e.1, s.cellDly e.1, 0, 0, 0, 655, 0⟩ true
  let cands := live ++ kept ++ left
  -- clamp starts
  let s := s.each (live.filter fun c => c.clamp && !c.x.clamp) fun s c => s.clampStart c tb.blk
  let s := s.setReg Reg.RND_CLAMPED (w32 (live.filter (·.clamp)).length)
  -- hop slots
  let inHop := (cands.filter fun c => c.x.hop.isSome).length
  let due := sortBy hopBefore (live.filter (·.due))
  let granted := (due.take (8192 - inHop)).map (·.t.key)
  let waiting := (due.drop (8192 - inHop)).map (·.t.key)
  let s := s.count Reg.RND_HOP_WAIT waiting.length
  let s := s.when (!waiting.isEmpty) fun s => let c := lowCell waiting; s.rndEvt 2 2 c.1 c.2 tb.blk
  let s := s.setReg Reg.RND_HOP_ACTIVE (w32 (inHop + granted.length))
  -- far slots
  let want := (live ++ kept).filter fun c => s.wantsFar b c (granted.contains c.t.key)
  let budget := s.fldR Reg.RND_FAR_BUDGET 0 17
  let ranked := sortBy farBefore want
  let wins := (ranked.take budget).map (·.t.key)
  let wantK := want.map (·.t.key)
  let heldAll := cands.filter fun c => c.x.held
  let free := budget - heldAll.length
  let newcomers := (ranked.take budget).filter fun c => !c.x.held
  let getters := (newcomers.take free).map (·.t.key)
  let plan := cands.map fun c =>
    let k := c.t.key
    let wants := wantK.contains k
    let g := granted.contains k
    let startNow := g && decide (c.t.dop ≠ 2)
    let ramping := decide (0 < c.x.disp)
    let displaced := c.x.held && wants && !wins.contains k && !ramping
    let disp := if ramping then c.x.disp else if displaced then ceilDiv 16 b else 0
    let holds := c.x.held || getters.contains k
    let denied := decide (0 < disp) || (wants && !holds)
    let d1 := if startNow then c.tgt else c.free b
    ({ key := k, d0 := if startNow then c.tgt else c.d0, d1 := d1, g0 := c.g0, g1 := c.t.g, tgt := c.tgt,
       start := startNow, step := g && decide (c.t.dop = 2), stepTo := c.t.stepTo, due := c.due && decide (c.t.dop = 2), denied := denied,
       disp := disp, far := holds, drop := !(wants || decide (0 < disp)), leave := c.leave, clamp := c.clamp } : CellPlan)
  let den := (plan.filter (·.denied)).map (·.key)
  let s := s.count Reg.RND_FAR_DENIED den.length
  let s := s.when (!den.isEmpty) fun s => let c := lowCell den; s.rndEvt 0 1 c.1 c.2 tb.blk
  let used := (plan.filter (·.far)).length
  let s := s.setReg Reg.RND_FAR_USED (w32 used)
  let s := s.setReg Reg.RND_FAR_PEAK (w32 (max used (s.reg Reg.RND_FAR_PEAK).toNat))
  let s := cands.foldl (fun s c => s.setCellX c.t.key
    { c.x with clamp := c.clamp, hop := if granted.contains c.t.key && decide (c.t.dop ≠ 2) then some ⟨c.d0, 0⟩ else c.x.hop }) s
  let s := s.count Reg.RND_HOPS (live.filter fun c => granted.contains c.t.key && decide (c.t.dop ≠ 2)).length
  { s with rnd := { s.rnd with plan := some ⟨tb.blk, plan⟩, done := [], accSat := [], outSat := [] } }

/-- Plan the next block once its targets are known and the tiles before it are done. -/
def State.tryPlan (s : State) : State :=
  match s.rnd.plan with
  | some _ => s
  | none =>
    match s.rnd.tgts.find? fun t => decide (t.blk = s.rnd.tileBlk) && !s.twin.aWait.contains t.blk with
    | none => s
    | some tb =>
      { s with rnd := { s.rnd with tgts := s.rnd.tgts.filter fun t => decide (t.blk ≠ tb.blk) } }.makePlan tb

/-! ## A tile (R99 to R106, R110, R116) -/

/-- What a cell contributes to a block: `v` values and gains per sample, and its state after. -/
structure CellOut where
  vs : List Int
  gs : List Int
  d : Int
  g : Int
  x : CellX
  hops : Nat
deriving DecidableEq, Repr

/-- Fade samples of a hop (R110). -/
def hopLen (fr : Nat) : Nat := fr / 500

/-- The first sample of a block at which a STEPPED hop starts: a zero crossing of the old tap or the timeout
(R111). DESIGN CHOICE (assumption 57): a value after a 0 differs in sign from no value before it. -/
def stepStart (old : List Int) (prev : Int) (cnt stepTo : Nat) : Option Nat :=
  let rec go (l : List Int) (p : Int) (k : Nat) : Option Nat :=
    match l with
    | [] => none
    | v :: r =>
      if stepTo ≤ cnt + k then some k
      else if v = 0 ∨ (v < 0 ∧ 0 < p) ∨ (0 < v ∧ p < 0) then some k else go r v (k + 1)
  go old prev 0

/-- Gain factor of denied ramp sample `j` (R116). -/
def denyGain (g : Int) (j : Nat) : Int := if j < 16 then rndShift (g * (((15 - j) * 2 ^ 22 / 16 : Nat) : Int)) 22 else 0

/-- One cell of a tile in block `n`, its far slot already fetched. DESIGN CHOICE (assumption 57): GAIN of a cell whose ramp to
silence ends before sample 15, because the next block grants it a slot, is the gain of R101. -/
def State.cellBlock (s : State) (n : Nat) (p : CellPlan) : CellOut :=
  let b := s.blk.b
  let o := p.key / 384
  let x := s.cellX p.key
  let rdMain := s.tapReader o n p.far x.slotM p.d0 p.d1
  let t (k : Nat) : Int := ((n * b + k : Nat) : Int)
  let main := (List.range b).map fun k => tapValue rdMain (glide p.d0 p.d1 k b) (t k)
  let cnt := x.due.getD 0
  let stepAt := if p.step then stepStart main x.lastV cnt p.stepTo else none
  let n0 := hopLen s.blk.fr
  let (vs, hop, dEnd, hops) : List Int × Option HopX × Int × Nat :=
    if p.leave then (main, none, p.d1, 0)
    else match stepAt with
      | some k0 =>
        let dOld := p.d0
        let rdNew := s.tapReader o n p.far x.slotN p.tgt p.tgt
        let vs := (List.range b).map fun k =>
          let old := nth main k 0
          if k < k0 then old
          else
            let w := fadeW (k - k0) n0
            satN 26 (rndShift (old * (2 ^ 22 - w) + tapValue rdNew p.tgt (t k) * w) 22)
        (vs, some ⟨dOld, b - k0⟩, p.tgt, 1)
      | none =>
        match x.hop with
        | some h =>
          let rdOld := s.tapReader o n p.far x.slotO h.dOld h.dOld
          let vs := (List.range b).map fun k =>
            let i := h.i + k
            if n0 ≤ i then nth main k 0
            else
              let w := fadeW i n0
              satN 26 (rndShift (tapValue rdOld h.dOld (t k) * (2 ^ 22 - w) + nth main k 0 * w) 22)
          (vs, if n0 ≤ h.i + b then none else some ⟨h.dOld, h.i + b⟩, p.d1, 0)
        | none => (main, none, p.d1, 0)
  let gk := (List.range b).map fun k => glide p.g0 p.g1 k b
  let den0 := if x.deny = 0 ∧ p.g0 = 0 then 16 else x.deny
  let gs := if p.denied then gk.zipIdx.map fun e => denyGain e.1 (den0 + e.2) else gk
  let deny := if p.denied then min (den0 + b) 16 else 0
  let gEnd := if p.denied && decide (16 ≤ deny) then 0 else p.g1
  let dispLeft := p.disp - 1
  let held := p.far && !p.drop && !(decide (0 < p.disp) && decide (dispLeft = 0)) && !p.leave
  let slotM := if stepAt.isSome then x.slotN else x.slotM
  let slotO := if hop.isNone then [] else if stepAt.isSome then x.slotM else x.slotO
  let x1 : CellX :=
    { act := !p.leave, hop := hop, due := if p.due && hop.isNone then some (cnt + b) else none,
      disp := dispLeft, deny := deny, lastV := (main.getLast?).getD 0, clamp := p.clamp, held := held
      slotM := if held then slotM else [], slotO := if held then slotO else [] }
  ⟨vs, gs, dEnd, gEnd, x1, hops⟩

/-- The feed's samples from its cells' contributions, with the cell whose addition first saturated (R106). -/
def tileSum (b : Nat) (cells : List (Nat × CellOut)) : List Int × Option Nat × Bool :=
  (List.range b).foldl (fun r k =>
    let (acc, sat) := cells.foldl (fun (a : Int × Option Nat) c =>
      let raw := a.1 + rndShift (nth c.2.vs k 0 * nth c.2.gs k 0) 2
      let v := satN 56 raw
      (v, if v ≠ raw ∧ a.2.isNone then some c.1 else a.2)) (0, none)
    let o := rndShift acc 13
    let y := satN 32 o
    (r.1 ++ [y], if r.2.1.isSome then r.2.1 else sat, r.2.2 || decide (y ≠ o))) ([], none, false)

/-- The engine of a running item is done with it (R227): the dispatcher completes it with ITEM_COMPLETE. -/
def State.engineDone (s : State) (p : SchTask → Bool) (st : Nat) : State :=
  { s with sch := { s.sch with run := s.sch.run.map fun t => if p t && t.fin.isNone then { t with fin := some st } else t } }

/-- The class of an engine slot (R214). -/
def slotClass (k : Nat) : Nat :=
  if k < 2 then 0 else if k < 34 then 1 else if k < 50 then 2 else if k < 74 then 3 else if k < 90 then 4
  else if k < 91 then 5 else if k < 97 then 6 else 7

/-- The smallest margin seen (R43). -/
def State.marginMin (s : State) (a : Nat) (m : Word) : State :=
  if m.toInt < (s.reg a).toInt then s.setReg a m else s

/-- After the last tile of a block: saturation records, near-ring writes that waited, the next block's plan. -/
def State.tilesEnd (s : State) (n : Nat) : State :=
  let s := s.when (!s.rnd.accSat.isEmpty) fun s => let c := lowCell s.rnd.accSat; s.rndEvt 3 3 c.1 c.2 n
  let s := s.when (!s.rnd.outSat.isEmpty) fun s => s.rndEvt 4 4 0xFFFF (s.rnd.outSat.foldl min 0x1FF) n
  let s := { s with rnd := { s.rnd with plan := none, done := [], tileBlk := n + 1, accSat := [], outSat := [], farStop := s.rnd.farStop.filter fun e => decide (n < e.1) } }
  s.nearFlush.tryPlan

/-- A(n), once the tiles of block `n` start: the near-ring samples of every object in the range (R295). -/
def State.sendAudio (s : State) (n : Nat) : State :=
  if s.isDuty ∧ s.rnd.done = [] then
    let pay := (List.range s.mode.objects).flatMap fun o =>
      (List.range s.blk.b).flatMap fun k => s.sramClean (s.nearAddr o (n * s.blk.b + k)) 3
    s.twinJob 1 n (s.twinFrame 2 0 n 0 pay)
  else s

/-- The far fetch of feed `f` for the block whose plan is made: every far slot of its cells takes the samples it does not hold
yet, the whole span where the slot is new and for the tap that starts a hop (R118). -/
def State.farFetch (s : State) (f : Nat) : State :=
  match s.rnd.plan with
  | none => s
  | some pl =>
    let stop := s.rnd.farStop.contains (pl.blk, f)
    s.each (pl.cells.filter fun c => c.far && decide (c.key % 384 = f) && decide ((s.cellX c.key).got ≠ some pl.blk)) fun s c =>
      let x := s.cellX c.key
      let o := c.key / 384
      let a := s.farTap o pl.blk true stop c.d0 c.d1 (if c.start then [] else x.slotM)
      let b : State × List (Nat × Int) := match x.hop with
        | some h => if c.leave then (a.1, []) else a.1.farTap o pl.blk true stop h.dOld h.dOld (if c.start then x.slotM else x.slotO)
        | none => (a.1, [])
      let d : State × List (Nat × Int) := if c.step then b.1.farTap o pl.blk true stop c.tgt c.tgt [] else (b.1, [])
      d.1.setCellX c.key { x with slotM := a.2, slotO := b.2, slotN := d.2, got := some pl.blk }

/-- Whether a tap of the cell reads word `w` of the delay store in block `n`. -/
def State.readsNear (s : State) (n : Nat) (p : CellPlan) (w : Nat) : Bool :=
  let taps : List (Int × Int) := [(p.d0, p.d1)] ++
    (match (s.cellX p.key).hop with
      | some h => if p.leave then [] else [(h.dOld, h.dOld)]
      | none => []) ++ (if p.step then [(p.tgt, p.tgt)] else [])
  taps.any fun d => !s.tapFar p.far d.1 d.2 && (s.tapSpan n d.1 d.2).any fun t =>
    let a := s.nearAddr (p.key / 384) t
    decide (s.newest n < t + s.nearW) && (decide (wordIdx 0 a = w) || decide (wordIdx 0 (a + 2) = w))

/-- The delay-store words that a tile reads are checked (R37). -/
def State.nearScrub (s : State) (n : Nat) (mine : List CellPlan) : State :=
  if s.sramBad.isEmpty then s
  else s.each (s.sramBad.filter fun b => decide (b.array = 0) && mine.any fun p => s.readsNear n p b.word) State.scrub1

/-- The render accumulation of a feed goes to its FEED_IN bus in every program that runs for the block (R151, R165). -/
def State.feedIn (s : State) (n f : Nat) (y : List Int) : State :=
  let bus (age : Nat) : Option Nat := (s.graphOf age).bind fun g => nodeBus g 2 f
  let put (age : Nat) (l : List (Nat × BusVal)) : List (Nat × BusVal) := match bus age with
    | some i => busPut l n i y
    | none => l
  { s with mix := { s.mix with bus := put 0 s.mix.bus, busOld := put 1 s.mix.busOld, busOld2 := put 2 s.mix.busOld2 } }

/-- The result of a feed's tile for the block whose plan is made; a stopped tile gives zeros and keeps the cell
state (R229). -/
def State.tileDone (s : State) (f : Nat) (stopped : Bool) : State :=
  match s.rnd.plan with
  | none => s
  | some pl =>
    if 384 ≤ f ∨ s.rnd.done.contains f then s else
    let n := pl.blk
    let b := s.blk.b
    let s := s.sendAudio n
    let mine := pl.cells.filter fun c => decide (c.key % 384 = f)
    let s := s.when (!stopped) fun s => mine.foldl (fun s c => s.scrub (cellAddr c.key) 8) ((s.farFetch f).nearScrub n mine)
    let outs := if stopped then [] else mine.map fun c => (c.key, s.cellBlock n c)
    let (y, sat, osat) := tileSum b outs
    let s := outs.foldl (fun s c =>
      let pc := (mine.find? fun m => decide (m.key = c.1))
      let den := (pc.map (·.denied)).getD false
      let s := s.setCellX c.1 c.2.x
      let s := s.count Reg.RND_HOPS c.2.hops
      s.setCell c.1 c.2.d c.2.g c.2.x.held c.2.x.hop.isSome den c.2.x.clamp) s
    let s := s.when sat.isSome fun s => s.count Reg.RND_ACC_SAT 1
    let s := s.when osat fun s => s.count Reg.RND_OUT_SAT 1
    let s : State := { s with rnd := { s.rnd with
      acc := busPut s.rnd.acc n f y, done := f :: s.rnd.done
      accSat := s.rnd.accSat ++ sat.toList, outSat := if osat then f :: s.rnd.outSat else s.rnd.outSat } }
    let s := s.feedIn n f y
    if s.rnd.done.length = 384 then s.tilesEnd n else s

/-- RENDER_TILE_DONE (R99). -/
def execRenderTileDone (f : BitVec 9) (margin : Word) (s : State) : Out :=
  s.event 0x401000 fun s =>
    match s.rnd.plan with
    | none => s
    | some pl =>
      let s1 := s.tileDone f.toNat false
      let s1 := s1.engineDone (fun t => decide (slotClass t.slot = 2) && decide (t.arg = f.toNat) && decide (t.blk = pl.blk)) 0
      s1.marginMin Reg.RND_MARGIN2 margin

/-- GEOMETRY_DONE (R89): the oldest snapshot's block. -/
def execGeometryDone (margin : Word) (s : State) : Out :=
  s.event 0x400000 fun s =>
    match s.geo.snaps with
    | [] => s
    | g :: rest =>
      let s := s.scrub 0x06F80000 0x40000
      let (s, tg) : State × List CellTgt := (List.range s.mode.objects).foldl (fun (a : State × List CellTgt) o => a.1.geoObject g a.2 o) (s, [])
      let thr := (Store.get (fun _ => 0) g.regs Reg.RND_HOP_THR).toNat
      let smin := (Store.get (fun _ => 0) g.regs Reg.RND_STEP_MIN).toNat
      let objs := (List.range s.mode.objects).filter fun o => tg.any fun t => decide (t.key / 384 = o)
      let s := (s.setReg Reg.GEO_ACTIVE_CELLS (w32 tg.length)).setReg Reg.GEO_STATUS (w32 objs.length)
      let s := { s with
        geo := { s.geo with snaps := rest, stopped := s.geo.stopped.filter fun (e : Nat × Nat) => decide (g.blk < e.1) }
        rnd := { s.rnd with tgts := s.rnd.tgts ++ [(⟨g.blk, thr % 2 ^ 18, smin % 2 ^ 24, tg, (s.geo.stopped.filter fun (e : Nat × Nat) => decide (e.1 = g.blk)).map fun (e : Nat × Nat) => e.2⟩ : TgtBlk)] } }
      (s.tryPlan).marginMin Reg.GEO_MARGIN margin

/-- RND_IPT_DATA (R105, R123): the coefficient, and RND_IPT_ADDR moves on modulo 8,192. -/
def State.iptRead (s : State) : State × Word :=
  let a := s.fldR Reg.RND_IPT_ADDR 0 13
  (s.setReg Reg.RND_IPT_ADDR (w32 ((a + 1) % 8192)), i32 (iptCoef (a / 8) (a % 8)))

/-- RND_IPT_DATA_READ (R123); the word read goes to the initiator. -/
def execRndIptDataRead (ini : Initiator) (s : State) : Out :=
  s.readRow ini Reg.RND_IPT_DATA State.iptRead

/-- A write of GEO_C (R61). -/
def State.geoCWrite (s : State) (v : Word) : State :=
  if 200 * 2 ^ 22 ≤ v.toNat ∧ v.toNat ≤ 500 * 2 ^ 22 then (s.setReg Reg.GEO_C v).logWrite Reg.GEO_C v
  else s.geoEvt 3 4 0 0 s.blkNum

/-- GEO_C_WRITE (R61). -/
def execGeoCWrite (ini : Initiator) (v : Word) (s : State) : Out := s.writeTracked ini Reg.GEO_C v fun s => s.geoCWrite v

/-- A write of GEO_CTL (R64): FREEZE acts at the next Sn. -/
def State.geoCtlWrite (s : State) (v : Word) : State :=
  (s.setReg Reg.GEO_CTL (v &&& 1)).logWrite Reg.GEO_CTL v

/-- GEO_FREEZE_WRITE (R64). -/
def execGeoFreezeWrite (ini : Initiator) (v : Word) (s : State) : Out := s.writeTracked ini Reg.GEO_CTL v fun s => s.geoCtlWrite v

end Sys2Proof.Machine
end

