-- ==== Sys2Proof/Machine/FirArray.lean ====
section
/-!
DEFINITION. Room correction (R126 to R147): banks, the filter's exact accumulation, cross-fades, group delay,
descriptor writes, and the commands of the FIR array.
-/
namespace Sys2Proof.Machine

/-- A bank descriptor (R127). -/
structure Bank where
  start : Nat
  len : Nat
  exp : Int
deriving DecidableEq, Repr

/-- Bank `x` (0 A, 1 B) from the words of a descriptor set. -/
def bankOf (rd : Nat → Word) (f x : Nat) : Bank :=
  let w := rd (if x = 0 then Reg.FIR_A f else Reg.FIR_B f)
  ⟨fld w 0 22, fld (rd (Reg.FIR_LEN f)) (16 * x) 13, sfld w 22 5⟩

/-- SEL of a feed. -/
def State.firSel (s : State) (f : Nat) : Nat := s.fldR (Reg.FIR_FST f) 0 1

/-- FADING of a feed. -/
def State.firFading (s : State) (f : Nat) : Bool := s.bitR (Reg.FIR_FST f) 1

/-- The live banks of a feed now (R128). -/
def State.firLive (s : State) (f : Nat) : List Nat := if s.firFading f then [0, 1] else [s.firSel f]

/-- Whether coefficient `w` is live (R128). -/
def State.coefLive (s : State) (w : Nat) : Bool :=
  (List.range 384).any fun f => (s.firLive f).any fun x =>
    let b := bankOf s.reg f x
    decide (b.start ≤ w) && decide (w < b.start + b.len)

/-- Records of FIR_EVT (R146); `blk` is the block whose processing raises the event, or the current one for a write. -/
def State.firEvt (s : State) (bit kind feed blk : Nat) : State :=
  s.evtFirst Reg.FIR_EVT bit 0x08 0x41 ([b8 kind] ++ leBytes 2 feed ++ leBytes 6 blk)

/-- FADES_ACTIVE and FADES_WAIT follow the fades and requests (R139, R147). -/
def State.firStatus (s : State) : State :=
  let act := (List.range 384).filter fun f => s.firFading f
  (s.setFld Reg.FIR_STATUS 0 7 act.length).setFld Reg.FIR_STATUS 8 9 s.fir.waits.length

/-! ## Group delay (R141) -/

/-- Address of coefficient `w` (R126). -/
def coefAddr (w : Nat) : Nat := 0x05000000 + 3 * w

/-- A coefficient; zero where its word is uncorrectable (R140). -/
def State.coef (s : State) (w : Nat) : Int :=
  let a := coefAddr w
  if s.swBad a || s.swBad (a + 2) then 0 else sample24 (s.sramBytes a 3)

/-- The word FIR_GD shows for a bank. -/
def State.gdWord (s : State) (b : Bank) : Word :=
  if b.len = 0 then 0x80000000
  else
    let c := (List.range b.len).map fun j => sample24 (s.sramBytes (coefAddr (b.start + j)) 3)
    let e := (c.map fun v => (v * v).toNat).foldl (· + ·) 0
    if e = 0 then 0xC0000000
    else
      let m := (c.zipIdx.map fun v => v.2 * (v.1 * v.1).toNat).foldl (· + ·) 0
      let pk := (c.zipIdx.foldl (fun (p : Nat × Nat) v => if p.2 < v.1.natAbs then (v.2, v.1.natAbs) else p) (0, 0)).1
      w32 (2 ^ 31 + pk * 2 ^ 16 + (rndDiv ((16 * m : Nat) : Int) e).toNat % 2 ^ 16)

/-- A newly selected bank: VALID clears, or sets at once for length 0 (R141). -/
def State.gdClear (s : State) (f : Nat) : State :=
  if (bankOf s.reg f (s.firSel f)).len = 0 then s.setReg (Reg.FIR_GD f) 0x80000000
  else s.setBit (Reg.FIR_GD f) 31 false

/-- SEL names the other bank. -/
def State.firSwitch (s : State) (f : Nat) : State :=
  (s.setFld (Reg.FIR_FST f) 0 1 (1 - s.firSel f)).gdClear f

/-! ## Fades (R137 to R140) -/

/-- Fade length in blocks from FIR_FADE (R138). -/
def State.fadeBlocks (s : State) (ms : Nat) : Nat := ceilDiv (min ms 2000 * s.blk.fr) (1000 * s.blk.b)

/-- A refused or discarded request (R137). -/
def State.fadeRefuse (s : State) (f : Nat) : State := (s.count Reg.FIR_FADE_REFUSED 1).firEvt 2 2 f s.blkNum

/-- A fade request for a feed is accepted (R137). -/
def State.fadeMay (s : State) (f : Nat) : Bool := !(s.firFading f || s.bitR (Reg.FIR_FST f) 2 || s.bitR Reg.FIR_STATUS 24)

/-- A fade request for one feed (R137). -/
def State.fadeReq (s : State) (f : Nat) : State :=
  if !s.fadeMay f then s.fadeRefuse f
  else if s.running then
    (({ s with fir := { s.fir with waits := s.fir.waits ++ [(f, s.blk.n + 1)] } }).setBit (Reg.FIR_FST f) 2 true).firStatus
  else s.firSwitch f

/-- A write of FIR_FADE_REQ (R137): one feed, or every feed ascending. A refused request is a write that takes no effect, so it enters
no log; where an ALL request is refused in part, the log names each accepted feed (R296, R300; assumption 92). -/
def State.fadeReqWrite (s : State) (v : Word) : State :=
  let fs := if bitOf v 16 then List.range 384 else [fld v 0 9].filter fun f => decide (f < 384)
  let ok := fs.filter s.fadeMay
  let t := s.each fs State.fadeReq
  if ok = fs ∧ ok ≠ [] then t.logWrite Reg.FIR_FADE_REQ v
  else t.each ok fun s f => s.logWrite Reg.FIR_FADE_REQ (w32 f)

/-- One waiting request at Sn: it starts, or waits on for a slot (R138, R139). -/
def State.fadeStart (s : State) (n : Nat) (w : Nat × Nat) : State :=
  let f := w.1
  let act := s.fldR Reg.FIR_STATUS 0 7
  let k := s.fadeBlocks (s.fldR Reg.FIR_FADE 0 11)
  if n < w.2 then s
  else if k = 0 then
    let s1 := { s with fir := { s.fir with
      waits := s.fir.waits.filter fun x => decide (x.1 ≠ f), fades := s.fir.fades ++ [({ feed := f, n0 := n, k := 0, old := s.firSel f } : FadeSt)] } }
    ((s1.setBit (Reg.FIR_FST f) 2 false).firSwitch f).firStatus
  else if act < 96 then
    let s1 := { s with fir := { s.fir with
      waits := s.fir.waits.filter fun x => decide (x.1 ≠ f), fades := s.fir.fades ++ [({ feed := f, n0 := n, k := k, old := s.firSel f } : FadeSt)] } }
    (((s1.setBit (Reg.FIR_FST f) 2 false).setBit (Reg.FIR_FST f) 1 true).firSwitch f).firStatus
  else s

/-- The first block in which only the new bank of a fade plays. -/
def FadeSt.stop (x : FadeSt) : Nat := min (x.n0 + x.k) (x.cut.getD (x.n0 + x.k))

/-- The slots of the fades that a forced swap cut are free from the boundary after the cut (R143). -/
def State.fadesFree (s : State) (n : Nat) : State :=
  let cut := s.fir.fades.filter fun x => (x.cut.map fun m => decide (m < n)).getD false
  if cut.isEmpty then s else (s.each cut fun s x => s.setBit (Reg.FIR_FST x.feed) 1 false).firStatus

/-- FADE_START of block `n`, in the order of the requests. -/
def State.fadesAt (s : State) (n : Nat) : State := (s.fadesFree n).each s.fir.waits fun s w => s.fadeStart n w

/-- Waiting requests are discarded and counted (R140, R142). -/
def State.fadesDiscard (s : State) : State :=
  let s1 := s.each s.fir.waits fun s w => (s.setBit (Reg.FIR_FST w.1) 2 false).fadeRefuse w.1
  { s1 with fir := { s1.fir with waits := [] } }.firStatus

/-- Every running fade ends on its new bank (R140, R143). -/
def State.fadesEnd (s : State) : State :=
  let s1 := s.each (List.range 384) fun s f => s.when (s.firFading f) fun s => s.setBit (Reg.FIR_FST f) 1 false
  { s1 with fir := { s1.fir with fades := [] } }.firStatus

/-- The end of the last fade block of a feed (R138). -/
def State.fadeEndAt (s : State) (f n : Nat) : State :=
  match s.fir.fades.find? fun x => decide (x.feed = f) && decide (x.n0 + x.k ≤ n + 1 ∨ x.stop ≤ n) && decide (x.n0 ≤ n) with
  | none => s
  | some x =>
    let s1 := { s with fir := { s.fir with fades := s.fir.fades.filter fun y => decide (y ≠ x) } }
    if x.k = 0 then s1
    else
      let s2 := (s1.setBit (Reg.FIR_FST f) 1 false).firStatus
      if x.cut.isSome then s2 else (s2.count Reg.FIR_FADES_DONE 1).evt Reg.FIR_EVT 4

/-! ## The filter (R130 to R134) -/

/-- The registers and fades that block `n` uses (R144). -/
def State.firView (s : State) (n : Nat) : (Nat → Word) × List FadeSt :=
  match s.fir.oldRegs.find? fun e => decide (n < e.1) with
  | some (_, regs, fades) => (fun a => Store.get regReset regs a, fades)
  | none => (s.reg, s.fir.fades)

/-- The banks a feed plays in block `n`: old and new of a fade, with the fade, or the selected one (R138). -/
def State.firBanks (s : State) (f n : Nat) : List Nat × Option FadeSt :=
  let (rd, fades) := s.firView n
  let sel := fld (rd (Reg.FIR_FST f)) 0 1
  match fades.find? fun x => decide (x.feed = f) with
  | none => ([sel], none)
  | some x =>
    if n < x.n0 then ([x.old], none)
    else if n < x.stop then ([x.old, 1 - x.old], some x)
    else ([1 - x.old], none)

/-- The post-processing output of feed `f` in block `n`: its FEED_OUT bus, or where no program in the block has one, the render
accumulation (R151); in a route fade an output of one program only fades from or to zero (R165). -/
def State.firIn (s : State) (f n : Nat) : List Int :=
  let out (age : Nat) : Option Nat := (s.graphOf age).bind fun g => nodeBus g 3 f
  let a := s.progOf n
  if (out a).isNone && ((s.fadeOf n).isNone || (out (a + 1)).isNone) then busAt s.rnd.acc s.blk.b n f
  else s.sinkBus n out

/-- Address of history sample `t` of feed `f` (R130). -/
def histAddr (f t : Nat) : Nat := 0x05800000 + 3 * (4096 * f + t % 4096)

/-- A history sample; zero before S0 and in an uncorrectable word. -/
def State.histSample (s : State) (f : Nat) (t : Int) : Int :=
  if t < 0 then 0 else
  let a := histAddr f t.toNat
  if s.swBad a || s.swBad (a + 2) then 0 else sample24 (s.sramBytes a 3)

/-- One accumulation of R131: the sum, and whether an addition saturated. -/
def firAcc (e : Int) (l : List (Int × Int)) : Int × Bool :=
  l.foldl (fun (a : Int × Bool) p =>
    let raw := a.1 + p.1 * p.2 * 2 ^ (17 + e).toNat
    let v := satN 72 raw
    (v, a.2 || decide (v ≠ raw))) (0, false)

/-- The samples of a bank in block `n` (R131, R132). -/
def State.firBank (s : State) (f n x : Nat) : FirOut :=
  let b := s.blk.b
  let inp := s.firIn f n
  let bk := bankOf (s.firView n).1 f x
  if bk.len = 0 then ⟨x, inp, none, false⟩
  else if s.fir.stopped.contains (f, x) then ⟨x, blockOf b [], none, false⟩
  else
    let cs := (List.range bk.len).map fun j => s.coef (bk.start + j)
    let xAt (t : Int) : Int :=
      if (n * b : Nat) ≤ t then q23 (nth inp (t - (n * b : Nat)).toNat 0) else s.histSample f t
    let outs := (List.range b).map fun k =>
      firAcc bk.exp (cs.zipIdx.map fun c => (c.1, xAt (((n * b + k : Nat) : Int) - (c.2 : Int))))
    let ys := outs.map fun o => rndShift o.1 32
    let sat := ys.map (satN 32)
    ⟨x, sat, outs.findIdx? (·.2), decide (ys ≠ sat)⟩

/-- The FIR stage of a feed ends: mix, flags, history, fade, and Brim after it (R130, R134, R138). -/
def State.firFinish (s : State) (f n : Nat) (parts : List FirOut) : State :=
  let b := s.blk.b
  let (banks, fade) := s.firBanks f n
  let get (x : Nat) : FirOut := (parts.find? fun p => decide (p.bank = x)).getD (s.firBank f n x)
  let outs := banks.map get
  let inp := s.firIn f n
  let (y, mixSat) : List Int × Bool := match fade, outs with
    | some x, [o, w] =>
      let raw := (o.smp.zip w.smp).zipIdx.map fun e =>
        rndShift (e.1.1 * (2 ^ 22 - fadeW ((n - x.n0) * b + e.2) (x.k * b)) + e.1.2 * fadeW ((n - x.n0) * b + e.2) (x.k * b)) 22
      (raw.map (satN 32), decide (raw.map (satN 32) ≠ raw))
    | _, o :: _ => (o.smp, false)
    | _, [] => (inp, false)
  let govs := outs.filterMap fun o => o.gov.map fun k => (k, o.bank)
  let s := s.when (!govs.isEmpty) fun s =>
    let sel := fld ((s.firView n).1 (Reg.FIR_FST f)) 0 1
    let first := govs.foldl (fun (m : Nat × Nat) g => if g.1 < m.1 ∨ (g.1 = m.1 ∧ g.2 = sel) then g else m) (govs.headD (0, 0))
    let reg := Reg.FIR_GOV (f / 32)
    let was := s.bitR reg (f % 32)
    let s := ((s.evt reg (f % 32)).count Reg.FIR_GOV_COUNT 1).evt Reg.FIR_EVT 0
    s.when (!was) fun s => s.raiseDet 0x0E 0x08
      (leBytes 2 f ++ [b8 first.2, b8 (fade.isSome.toNat + 2 * (decide (govs.length = 2)).toNat)] ++ leBytes 6 n)
  let s := s.when (mixSat || outs.any (·.sat)) fun s => (s.count Reg.FIR_OUT_SAT 1).firEvt 1 1 f n
  let s := s.each inp.zipIdx fun s e => s.putArray (histAddr f (n * b + e.2)) (q23Bytes (q23 e.1))
  let s := s.fadeEndAt f n
  let s := { s with
    fir := { s.fir with next := Store.set (fun _ => 0) s.fir.next f (n + 1), part := s.fir.part.filter fun (p : Nat × List FirOut) => decide (p.1 ≠ f),
                        stopped := s.fir.stopped.filter fun (p : Nat × Nat) => decide (p.1 ≠ f) }
    mix := { s.mix with firOut := busPut s.mix.firOut n f y } }
  s.brimFeed f n y

/-- The block a feed's FIR stage computes next. -/
def State.firNext (s : State) (f : Nat) : Nat := Store.get (fun _ => 0) s.fir.next f

/-- The live banks of length 1 or more of a feed in block `n` (R135, R217). -/
def State.firTasks (s : State) (f n : Nat) : List Nat :=
  (s.firBanks f n).1.filter fun x => decide (0 < (bankOf (s.firView n).1 f x).len)

/-- A bank's task ends for the feed's next block; the last one ends the stage (R135). -/
def State.firTask (s : State) (f x : Nat) : State :=
  let n := s.firNext f
  if 384 ≤ f ∨ ¬ (s.firTasks f n).contains x then s else
  let bk := bankOf (s.firView n).1 f x
  let s := (s.scrub (coefAddr bk.start) (3 * bk.len)).scrub (histAddr f 0) (3 * 4096)
  let parts := ((s.fir.part.find? fun p => decide (p.1 = f)).map (·.2)).getD []
  if parts.any fun p => decide (p.bank = x) then s else
  let parts : List FirOut := parts ++ [s.firBank f n x]
  let s := { s with fir := { s.fir with
    part := (s.fir.part.filter fun (p : Nat × List FirOut) => decide (p.1 ≠ f)) ++ [(f, parts)], cycles := s.fir.cycles + bk.len * s.blk.b / 4 } }
  if (s.firTasks f n).all fun y => parts.any fun p => decide (p.bank = y) then s.firFinish f n parts else s

/-- The FIR stage of a feed computed to its end: a stage without tasks, or one whose tasks are all complete. -/
def State.firRun (s : State) (f n : Nat) : State :=
  if n < s.firNext f then s
  else
    let s := { s with fir := { s.fir with next := Store.set (fun _ => 0) s.fir.next f n } }
    s.firFinish f n (((s.fir.part.find? fun p => decide (p.1 = f)).map (·.2)).getD [])

/-- FIR_TASK_DONE (R135). -/
def execFirTaskDone (f : BitVec 9) (bank : Bool) (margin : Word) (s : State) : Out :=
  s.event 0x500000 fun s =>
    let n := s.firNext f.toNat
    let s1 := s.firTask f.toNat bank.toNat
    let s1 := s1.engineDone (fun t => decide (slotClass t.slot = 3) && decide (t.arg = f.toNat) && decide (t.blk = n) &&
      decide (t.sub = bank.toNat)) 0
    s1.marginMin Reg.RND_MARGIN3 margin

/-- FIR_FADE_REQ for one feed (R137). -/
def execFirFadeReq (ini : Initiator) (f : BitVec 9) (s : State) : Out :=
  s.writeTracked ini Reg.FIR_FADE_REQ (w32 f.toNat) fun s => s.fadeReqWrite (w32 f.toNat)

/-- FIR_FADE_REQ with ALL = 1 (R137). -/
def execFirFadeReqAll (ini : Initiator) (s : State) : Out :=
  s.writeTracked ini Reg.FIR_FADE_REQ 0x10000 fun s => s.fadeReqWrite 0x10000

/-- A write to FIR_A, FIR_B or FIR_LEN (R129): dropped for a changed live field or a broken limit. -/
def State.firDescWrite (s : State) (a : Nat) (v : Word) : State :=
  let f := (a - 0x501000) / 16
  let v := v &&& regMask a
  let rd (x : Nat) : Word := if x = a then v else s.reg x
  let changed (x : Nat) : Bool := decide (bankOf rd f x ≠ bankOf s.reg f x)
  let limit (x : Nat) : Bool :=
    let b := bankOf rd f x
    decide (b.len ≤ s.fldR Reg.FIR_MAX_TAPS 0 13) && decide (-8 ≤ b.exp) && decide (b.exp ≤ 8) && decide (b.start + b.len ≤ 2621440)
  let touched := if a % 16 = 0 then [0] else if a % 16 = 4 then [1] else [0, 1]
  if ((s.firLive f).any changed) || !(touched.all limit) then (s.count Reg.FIR_WR_DROP 1).firEvt 3 3 f s.blkNum
  else (s.setReg a v).logWrite a v

/-- FIR_DESCRIPTOR_WRITE (R129). -/
def execFirDescriptorWrite (ini : Initiator) (addr : Nat) (v : Word) (s : State) : Out :=
  s.writeTracked ini addr v fun s =>
    if 0x501000 ≤ addr ∧ addr < 0x501000 + 16 * 384 ∧ addr % 4 = 0 ∧ addr % 16 ≠ 12 then s.firDescWrite addr v else s

/-- A host write to the coefficient pool (R129). -/
def State.poolWrite (s : State) (a : Nat) (v : Word) : State :=
  let w0 := (a - 0x05000000) / 3
  let w1 := (a + 3 - 0x05000000) / 3
  if (List.range (w1 - w0 + 1)).any fun i => s.coefLive (w0 + i) then (s.count Reg.FIR_WR_DROP 1).firEvt 3 3 0xFFFF s.blkNum
  else (s.sramHostWrite a v).logWrite a v

/-- FIR_GD_DONE (R141): the group delay of the selected bank is computed and VALID sets. -/
def execFirGdDone (f : BitVec 9) (s : State) : Out :=
  s.event 0x500000 fun s =>
    if f.toNat < 384 ∧ s.bitR (Reg.FIR_GD f.toNat) 31 = false then
      s.setReg (Reg.FIR_GD f.toNat) (s.gdWord (bankOf s.reg f.toNat (s.firSel f.toNat)))
    else s

end Sys2Proof.Machine
end

