-- ==== Sys2Proof/Machine/Cores.lean ====
section
/-!
DEFINITION. The sample cores (R186 to R211): memories, tasks with their copies, and the four-slot instruction.
A slot command acts on the instruction in progress: it reads the registers as they stood at the instruction's
start, and the MAC-slot command, the last in the order of R206, retires the instruction.
-/
namespace Sys2Proof.Machine

/-! ## Memories and state of a core (R186) -/

/-- BAR0 address of data word `w` of core `c`. -/
def coreData (c w : Nat) : Nat := 0x06400000 + 0x18000 * c + 4 * (w % 16384)

/-- BAR0 address of instruction `i` of a program half of core `c`. -/
def coreProg (c half i : Nat) : Nat := 0x06410000 + 0x18000 * c + 8 * (2048 * half + i)

/-- A core. -/
def State.core (s : State) (c : Nat) : CoreSt := Store.get (fun _ => ({} : CoreSt)) s.cores c

/-- Put a core. -/
def State.setCore (s : State) (c : Nat) (k : CoreSt) : State :=
  { s with cores := Store.set (fun _ => ({} : CoreSt)) s.cores c k }

/-- The program half of the active graph (SCR_CORE_STAT.HALF). -/
def State.half (s : State) : Nat := s.fldR (Reg.SCR_CORE_STAT 0) 8 1

/-- Whether a core is halted (R188). -/
def State.halted (s : State) (c : Nat) : Bool := s.bitR Reg.SCR_HALTED c

/-- The half a program of an age runs in. -/
def State.taskHalf (s : State) (age : Nat) : Nat :=
  match (if age = 0 then none else if age = 1 then s.mix.route else s.mix.route2) with
  | some r => r.half
  | none => s.half

/-- CYC_MAX of a task's segment (R211). -/
def State.taskMax (s : State) (t : CoreTask) : Nat :=
  let g := s.taskGraph t.age
  leAt g (segOff g t.seg + 16) 4

/-! ## Copies (R189) -/

/-- A mixer word as a program that a swap replaced has it for block `n` of `b` samples: its gain ramps go on (R165). -/
def RouteSt.word (r : RouteSt) (b n a : Nat) : Word :=
  match mixRow? a with
  | some row => if row.ro.contains ((a - row.lo) % row.size / 4) then
      (match (if gainNow a then (if n = 0 then none else gainIn r.gains ((a - 0x06E80000) / 16) b (n - 1)) else none) with
        | some g => toWord24 g
        | none => w32 (leNat (Store.bytes sramDef r.ro a 4)))
      else Store.get (fun _ => 0) r.live a
  | none => Store.get (fun _ => 0) r.live a

/-- The route fade whose old program has an age. -/
def State.routeOf (s : State) (age : Nat) : Option RouteSt := if age = 0 then none else if age = 1 then s.mix.route else s.mix.route2

/-- The mixer words that a task reads are checked: a slot with an uncorrectable word reinitialises, which makes the lost words
zero (R37). -/
def State.slotScrub (s : State) (a n : Nat) : State :=
  if s.sramBad.isEmpty then s
  else
    let bad := s.sramBad.filter fun b => decide (b.array = 12) && b.hard && decide (a < 0x06E80000 + 8 * b.word + 8) &&
      decide (0x06E80000 + 8 * b.word < a + n)
    (s.scrub a n).each bad fun s b =>
      let w := 0x06E80000 + 8 * b.word
      ((s.putArray w [0, 0, 0, 0, 0, 0, 0, 0]).setMixLive w 0).setMixLive (w + 4) 0

/-- Copy one input of a task's list into data memory. -/
def State.copyIn (s : State) (c n age : Nat) (e : ListEntry) : State :=
  if e.kind = 0 then
    s.each (s.busOf (if e.id < 0x7C0 then age else 0) n e.id).zipIdx fun s x => s.putWord (coreData c (e.addr + x.2)) (i32 x.1)
  else if e.kind = 2 then
    let (a, k) := slotTable e.table e.id
    (s.slotScrub a (4 * k)).each (List.range k) fun s i =>
      s.putWord (coreData c (e.addr + i)) (match s.routeOf age with
        | some r => r.word s.blk.b n (a + 4 * i)
        | none => s.mixWord n (a + 4 * i))
  else s

/-- SRC_BUS of an object for block `n` (R65): as the block's snapshot has it (R25, R64, R88). -/
def State.srcBus (s : State) (n o : Nat) : Nat :=
  tb (match s.geo.desc.find? fun e => decide (e.1 = n) with
    | some e => e.2
    | none => s.sram) (objAddr o + 2) 2 % 2048

/-- The object's audio comes over the fabric (R425). -/
def State.subscribed (s : State) (o : Nat) : Bool := s.bitR (Reg.BVL_SUB o) 31

/-- The object audio that a bus gives in block `n`: a program whose post-processing alone writes the bus gives zeros (R94). -/
def State.objBus (s : State) (n bus : Nat) : List Int :=
  s.progMix n fun age => if (postBuses (s.taskGraph age)).contains bus then blockOf s.blk.b [] else s.busOf age n bus

/-- An object-source bus has its samples for block `n`: they go to the near rings of its objects (R94); an application object
that names a Trail source gets silence (R85). -/
def State.busToObjects (s : State) (n bus : Nat) : State :=
  s.each ((List.range s.mode.objects).filter fun o => decide (s.srcBus n o = bus) && !s.subscribed o) fun s o =>
    s.objWrite o n (if 0x7C0 ≤ bus then (if s.isGntObj o then s.busOf 0 n bus else []) else s.objBus n bus)

/-- A bus gets its samples of block `n` from the program of an age. -/
def State.putBus (s : State) (n bus age : Nat) (l : List Int) : State :=
  let m := s.mix
  let s : State := { s with mix :=
    if age = 0 then { m with bus := busPut m.bus n bus l }
    else if age = 1 then { m with busOld := busPut m.busOld n bus l }
    else { m with busOld2 := busPut m.busOld2 n bus l } }
  if (postBuses (s.taskGraph age)).contains bus then s else s.busToObjects n bus

/-- Put a read-only word of a program that a swap replaced. -/
def State.putOldRo (s : State) (age a : Nat) (v : Word) : State :=
  let put (r : Option RouteSt) : Option RouteSt := r.map fun r => { r with ro := Store.putBytes sramDef r.ro a (leBytes 4 v.toNat) }
  if age = 1 then { s with mix := { s.mix with route := put s.mix.route } } else { s with mix := { s.mix with route2 := put s.mix.route2 } }

/-- Copy one output of a task's list out of data memory; `zero`: as R209 states for a task that failed. The words are read as
any read of the memory is: an uncorrectable one is raised, read as zero, and halts the core (R37, R188). -/
def State.copyOut (s : State) (c n age : Nat) (zero : Bool) (e : ListEntry) : State :=
  let rd (i : Nat) : Word := s.swz (coreData c (e.addr + i))
  if e.kind = 1 then
    s.putBus n e.id age (if zero then blockOf s.blk.b [] else (List.range s.blk.b).map fun i => (rd i).toInt)
  else if e.kind = 3 && !zero then
    let (a, k) := slotTable e.table e.id
    let ro := match mixRow? a with
      | some r => r.ro
      | none => []
    s.each ((List.range k).filter ro.contains) fun s i =>
      if age = 0 then s.putWord (a + 4 * i) (rd i) else s.putOldRo age (a + 4 * i) (rd i)
  else s

/-- The data words that the copies out of a task read. -/
def outWords (b : Nat) (l : List ListEntry) : List Nat :=
  l.flatMap fun e => (List.range (if e.kind = 1 then b else if e.kind = 3 then (slotTable e.table e.id).2 else 0)).map (e.addr + ·)

/-! ## Task start and end (R189 to R191) -/

/-- Registers at the start of a task (R190). -/
def taskRegs (b arg entry : Nat) : CoreRegs :=
  { x := List.replicate 15 0 ++ [w32 b], p := (arg % 16384) :: List.replicate 7 0, pc := entry }

/-- A task of segment `seg` starts on core `c` for block `n`: copy-in, then the registers. -/
def State.coreStart (s : State) (c seg n age : Nat) : State :=
  let g := s.taskGraph age
  let o := segOff g seg
  let s := s.each (segLists g seg) fun s e => s.copyIn c n age e
  let s := s.setCore c { s.core c with
    r := taskRegs s.blk.b (leAt g (o + 4) 2) (leAt g (o + 2) 2 % 2048), task := some { seg := seg, blk := n, age := age }
    start := none, stores := [], illegal := false, stall := 0 }
  s.setBit (Reg.SCR_CORE_STAT c) 9 true

/-- The time-out of R229 on a task: counted, event and detector 0x11. -/
def State.timeoutFx (s : State) (slot : Nat) : State :=
  let s := (s.count Reg.SCH_TIMEOUT_COUNT 1).evt Reg.SCH_EVT 2
  let (desc, blk, tpl) := match s.sch.run.find? fun t => decide (t.slot = slot) with
    | some t => (t.desc, t.blk, fld (s.sw (0x06FC0000 + 32 * t.desc + 8)) 16 16)
    | none => (0xFFFF, 0, 0xFFFF)
  s.raiseDet 0x11 0x05 ([b8 (slotClass slot), b8 slot] ++ leBytes 2 desc ++ leBytes 6 blk ++ leBytes 2 tpl)

/-- The address of the instruction in progress, with its half in bit 11. -/
def State.corePc (s : State) (c : Nat) : Nat :=
  let k := s.core c
  let half := match k.task with
    | some t => s.taskHalf t.age
    | none => s.half
  (k.start.getD k.r).pc % 2048 + 2048 * half

/-- The fault PC is latched and the event recorded when its bit sets from 0 (R209). -/
def State.coreFaultEvt (s : State) (c bit kind : Nat) : State :=
  let pc := s.corePc c
  let n := match (s.core c).task with
    | some t => t.blk
    | none => s.blkNum
  (s.setReg (Reg.SCR_CORE_FPC c) (w32 pc)).evtFirst Reg.SCR_EVT bit 0x09 0x42
    ([b8 kind, b8 c] ++ leBytes 2 pc ++ leBytes 6 n)

/-- An uncorrectable error in a core's memory halts it (R188): its task never ends by itself. -/
def State.coreHalt (s : State) (c : Nat) : State :=
  if s.halted c then s else
  let s := s.coreFaultEvt c 3 2
  let s := ((s.setBit Reg.SCR_HALTED c true).setBit (Reg.SCR_CORE_STAT c) 10 true).setBit (Reg.SCR_CORE_STAT c) 9 false
  s.setCore c { s.core c with task := none, start := none, stores := [], illegal := false }

/-- The copies out of a task read a word of the core's memory: a single error is corrected, an uncorrectable one raised; whether one
was uncorrectable (R37, R188). -/
def State.outScrub (s : State) (c : Nat) (t : CoreTask) : State × Bool :=
  if s.sramBad.isEmpty then (s, false)
  else
    let l := outWords s.blk.b (segLists (s.taskGraph t.age) t.seg)
    let hit := s.sramBad.filter fun b => decide (b.array = 4) && l.any fun w => decide (wordIdx 4 (coreData c w) = b.word)
    (s.each hit State.scrub1, hit.any (·.hard))

/-- A task leaves its core: outputs are copied out and the dispatcher's item is done (R191, R209). The older program's task of a
route fade is no item of the dispatcher. -/
def State.coreEnd (s : State) (c : Nat) (t : CoreTask) (status : Nat) : State :=
  let o := if status = 0 then s.outScrub c t else (s, false)
  if o.2 then o.1.coreHalt c
  else
    let s := o.1.each (segLists (s.taskGraph t.age) t.seg) fun s e => s.copyOut c t.blk t.age (decide (status ≠ 0)) e
    let k := s.core c
    let s := s.setCore c { k with task := none, start := none, stores := [], illegal := false, stall := 0 }
    let s := s.setBit (Reg.SCR_CORE_STAT c) 9 false
    if t.age ≠ s.progOf t.blk then s else s.engineDone (fun x => decide (x.slot = 2 + c)) status

/-- A task is stopped at CYC_MAX (R191, R229). -/
def State.coreTimeout (s : State) (c : Nat) : State :=
  match (s.core c).task with
  | none => s
  | some t => (s.timeoutFx (2 + c)).coreEnd c t 4

/-- An illegal instruction ends the task at once (R209). -/
def State.coreIllegal (s : State) (c : Nat) : State :=
  match (s.core c).task with
  | none => s
  | some t => ((s.coreFaultEvt c 2 1).count Reg.SCR_ILLEGAL_COUNT 1).coreEnd c t 5

/-! ## Slots (R193 to R206) -/

/-- X register `i`. -/
def CoreRegs.xr (r : CoreRegs) (i : Nat) : Word := nth r.x i 0

/-- Write X register `i`. -/
def CoreRegs.setX (r : CoreRegs) (i : Nat) (v : Word) : CoreRegs := { r with x := putNth r.x i v }

/-- An instruction begins with its first slot; a fetch past the half is illegal (R201). -/
def CoreSt.begin (k : CoreSt) : CoreSt :=
  match k.start with
  | some _ => k
  | none =>
    { k with start := some k.r, illegal := decide (2048 ≤ k.r.pc), stores := [], target := none, ended := false,
             node := none, gov := 0, satNow := false, addr := [], skip := false }

/-- The registers at the start of the instruction in progress (R206). -/
def CoreSt.old (k : CoreSt) : CoreRegs := k.start.getD k.r

/-- Whether a core runs a task. -/
def State.coreRuns (s : State) (c : Nat) : Bool :=
  s.reach 0x600000 && !s.halted c && (s.core c).task.isSome

/-- A slot acts on the instruction in progress of a core that runs a task. -/
def State.slot (s : State) (c : Nat) (f : CoreRegs → CoreSt → CoreSt) : State :=
  if s.coreRuns c then
    let k := (s.core c).begin
    s.setCore c (f k.old k)
  else s

/-- A slot whose encoding may be illegal (R195). -/
def CoreSt.guard (k : CoreSt) (legal : Bool) (f : CoreSt → CoreSt) : CoreSt :=
  if legal then f k else { k with illegal := true }

/-- A result of the ALU: saturates or wraps under S, with its saturation event (R202). -/
def CoreSt.alu (k : CoreSt) (s : Bool) (d : Nat) (z : Int) : CoreSt :=
  if s then { k with r := k.r.setX d (i32 (satN 32 z)), satNow := k.satNow || decide (satN 32 z ≠ z) }
  else { k with r := k.r.setX d (i32 z) }

/-- An accumulation's result: A, CLAMPED and whether it overflowed (R198). -/
def accPut (sat cl : Bool) (a z : Int) : Int × Bool × Bool :=
  if cl then (a, true, false)
  else if satN 72 z = z then (z, false, false)
  else if sat then (satN 72 z, true, true)
  else (sext 72 (toBits 72 z), false, true)

/-- One accumulator of a MAC slot: `z` is the exact result, `acc` says whether the operation accumulates. -/
def CoreSt.accStep (k : CoreSt) (sat acc : Bool) (i : Nat) (a z : Int) (cl : Bool) : CoreSt :=
  let (v, c, g) := if acc then accPut sat cl a z else (z, false, false)
  { k with
    r := { k.r with a := putNth k.r.a i v, cl := putNth k.r.cl i c }
    gov := if g then k.gov ||| 2 ^ i else k.gov
    satNow := k.satNow || (g && sat) }

/-- The MAC slot's arithmetic on the accumulators that MASK selects (R197): `op y x a` is the exact result. -/
def macSlot (acc : Bool) (op : Int → Int → Int → Int) (legal f s : Bool) (xa : BitVec 4) (q : BitVec 2) (mask : BitVec 4)
    (old : CoreRegs) (k : CoreSt) : CoreSt :=
  k.guard legal fun k =>
    (bitsOf 4 mask.toNat).foldl (fun k i =>
      let y := old.xr (if f && decide (2 ≤ i) then xa.toNat + 1 else xa.toNat)
      let x := old.xr (4 * q.toNat + i)
      let a := nth old.a i 0
      k.accStep s acc i a (op y.toInt x.toInt a) (nth old.cl i false)) k

/-- Post-modification of pointer `j`: the new value, and the unforced result where it was forced (R204). -/
def postMod (old : CoreRegs) (j : Nat) : Nat × Option Int :=
  let p : Int := (nth old.p j 0 : Nat)
  let b : Int := (nth old.b j 0 : Nat)
  let l : Int := (nth old.l j 0 : Nat)
  let p1 := p + sext 16 (nth old.k j 0)
  if l = 0 then ((p1 % 16384).toNat, none)
  else
    let p2 := if b + l ≤ p1 then p1 - l else if p1 < b then p1 + l else p1
    if b ≤ p2 ∧ p2 < b + l then ((p2 % 16384).toNat, none) else (b.toNat, some p2)

/-- The pointer of a memory operation moves on when M is set. -/
def CoreSt.post (k : CoreSt) (old : CoreRegs) (m : Bool) (j : Nat) : CoreSt :=
  if m then
    let (p, e) := postMod old j
    { k with
      r := { k.r with p := putNth k.r.p j p }
      addr := match e with
        | some u => k.addr ++ [(j, u, nth old.l j 0)]
        | none => k.addr }
  else k

/-- A store waits for the end of the instruction (R206). -/
def CoreSt.store (k : CoreSt) (old : CoreRegs) (j : Nat) (v : Word) : CoreSt :=
  { k with stores := k.stores ++ [(nth old.p j 0 % 16384, v)] }

/-- A loaded word of a core's data memory; an uncorrectable one halts the core (R188). -/
def State.loadSlot (s : State) (c : Nat) (x j : Nat) (m : Bool) (f : Word → Word) : State :=
  if s.coreRuns c then
    let k := (s.core c).begin
    let a := coreData c (nth k.old.p j 0)
    let bad := s.swBad a
    let (s, w) := s.sramRead a
    if bad then (s.setCore c k).coreHalt c
    else s.setCore c (({ k with r := k.r.setX x (f w) } : CoreSt).post k.old m j)
  else s

/-! ## Retirement (R194, R201, R202, R207, R208) -/

/-- A taken branch leaves every loop whose body does not hold its target, and those inside it (R201). -/
def leaveLoops (t : Nat) (l : List LoopSt) : List LoopSt :=
  let keep := l.reverse.takeWhile fun x => decide (x.first ≤ t) && decide (t ≤ x.last)
  keep.reverse

/-- The next PC and loops after the instruction at `p`, where no branch is taken. -/
def loopNext (p : Nat) : List LoopSt → Nat × List LoopSt
  | [] => (p + 1, [])
  | x :: r =>
    if x.last = p then
      if 1 < x.left then (x.first, { x with left := x.left - 1 } :: r) else loopNext p r
    else (p + 1, x :: r)

/-- Saturation events since the last NODE are reported (R202). -/
def State.nodeSat (s : State) (t : CoreTask) : State :=
  if t.sat then
    let g := s.taskGraph t.age
    let node := t.node.getD (leAt g (segOff g t.seg + 10) 2)
    (s.count Reg.MIX_NODE_SAT 1).mixEvt 0 1 node t.blk
  else s

/-- Accumulators overflowed (R198, R207). -/
def State.govEvt (s : State) (c : Nat) (t : CoreTask) (mask : Nat) : State :=
  if mask = 0 then s else
  let was := s.bitR Reg.SCR_GOV c
  let s := (s.setReg (Reg.SCR_CORE_GOV c) (s.reg (Reg.SCR_CORE_GOV c) ||| w32 mask)).evt Reg.SCR_GOV c
  let s := s.evt Reg.SCR_EVT 0
  let s := if t.gov then s else s.count Reg.SCR_GOV_COUNT 1
  s.when (!was) fun s => s.raiseDet 0x0D 0x09
    ([b8 c, b8 (s.fldR (Reg.SCR_CORE_GOV c) 0 4)] ++ leBytes 2 (t.node.getD 0xFFFF) ++ leBytes 2 (s.corePc c) ++ leBytes 6 t.blk)

/-- A pointer was forced (R208). -/
def State.addrErr (s : State) (c : Nat) (t : CoreTask) (e : Nat × Int × Nat) : State :=
  let was := s.bitR Reg.SCR_ADDR_ERR c
  let s := ((s.evt Reg.SCR_ADDR_ERR c).evt Reg.SCR_EVT 1).count Reg.SCR_ADDR_ERR_COUNT 1
  s.when (!was) fun s => s.raiseDet 0x0F 0x09
    ([b8 c, b8 e.1] ++ leBytes 2 (toBits 16 e.2.1) ++ leBytes 2 e.2.2 ++ leBytes 6 t.blk)

/-- The instruction in progress retires: illegal, or every slot's effect with the PC, loops and cycles. -/
def State.retire (s : State) (c : Nat) : State :=
  if !s.coreRuns c then s else
  let k := s.core c
  match k.task, k.start with
  | some t, some old =>
    if k.illegal then (s.setCore c { k with r := old }).coreIllegal c
    else
      let s := s.each k.stores fun s e => s.putWord (coreData c e.1) e.2
      let s := s.govEvt c t k.gov
      let s := s.each k.addr fun s e => s.addrErr c t e
      let cost := if k.target.isSome then 3 else 1
      let (pc, loops) := match k.target with
        | some x => (x, leaveLoops x k.r.loops)
        | none =>
          if k.skip then (k.r.pc, k.r.loops) else loopNext old.pc k.r.loops
      let t : CoreTask := { t with sat := t.sat || k.satNow, gov := t.gov || decide (k.gov ≠ 0), cyc := t.cyc + cost }
      let report := k.node.isSome || k.ended
      let s := if report then s.nodeSat t else s
      let t : CoreTask := if report then { t with sat := false, node := if k.node.isSome then k.node else t.node } else t
      let k1 : CoreSt := { k with
        r := { k.r with pc := pc, loops := loops }, start := none, stores := [], target := none, ended := false, node := none,
        gov := 0, satNow := false, addr := [], skip := false, task := some t, blkCyc := k.blkCyc + cost, stall := cost - 1 }
      let s := s.setCore c k1
      if k.ended then s.coreEnd c t 0
      else if s.taskMax t ≤ t.cyc then s.coreTimeout c
      else s
  | _, _ => s

/-- A MAC-slot command: its effect, then retirement. -/
def State.macCmd (s : State) (c : BitVec 5) (f : CoreRegs → CoreSt → CoreSt) : State :=
  (s.slot c.toNat f).retire c.toNat

/-! ## MAC-slot commands (R197 to R199) -/

/-- MAC_NOP: no effect of the slot; the instruction retires. -/
def execMacNop (c : BitVec 5) (s : State) : Out := .next (s.macCmd c fun _ k => k)

/-- MAC. -/
def execMacAcc (c : BitVec 5) (f st : Bool) (xa : BitVec 4) (q : BitVec 2) (mask : BitVec 4) (s : State) : Out :=
  .next (s.macCmd c (macSlot true (fun y x a => a + y * x) (macLegal f xa) f st xa q mask))

/-- MSU. -/
def execMsu (c : BitVec 5) (f st : Bool) (xa : BitVec 4) (q : BitVec 2) (mask : BitVec 4) (s : State) : Out :=
  .next (s.macCmd c (macSlot true (fun y x a => a - y * x) (macLegal f xa) f st xa q mask))

/-- MPY. -/
def execMpy (c : BitVec 5) (f st : Bool) (xa : BitVec 4) (q : BitVec 2) (mask : BitVec 4) (s : State) : Out :=
  .next (s.macCmd c (macSlot false (fun y x _ => y * x) (macLegal f xa) f st xa q mask))

/-- ADDX. -/
def execAddx (c : BitVec 5) (f st : Bool) (xa : BitVec 4) (q : BitVec 2) (mask : BitVec 4) (s : State) : Out :=
  .next (s.macCmd c (macSlot true (fun _ x a => a + x * 2 ^ 32) true f st xa q mask))

/-- SUBX. -/
def execSubx (c : BitVec 5) (f st : Bool) (xa : BitVec 4) (q : BitVec 2) (mask : BitVec 4) (s : State) : Out :=
  .next (s.macCmd c (macSlot true (fun _ x a => a - x * 2 ^ 32) true f st xa q mask))

/-- LDX. -/
def execLdx (c : BitVec 5) (f st : Bool) (xa : BitVec 4) (q : BitVec 2) (mask : BitVec 4) (s : State) : Out :=
  .next (s.macCmd c (macSlot false (fun _ x _ => x * 2 ^ 32) true f st xa q mask))

/-- ACLR. -/
def execAclr (c : BitVec 5) (f st : Bool) (xa : BitVec 4) (q : BitVec 2) (mask : BitVec 4) (s : State) : Out :=
  .next (s.macCmd c (macSlot false (fun _ _ _ => 0) true f st xa q mask))

/-- `floor(a ÷ 2^r)`, half to even, or half up (R199). -/
def extRound (rnd : Nat) (a : Int) (r : Nat) : Int :=
  if rnd = 0 then a / (2 ^ r : Nat)
  else if rnd = 1 then rndDiv a (2 ^ r)
  else (2 * a + (2 ^ r : Nat)) / (2 ^ (r + 1) : Nat)

/-- The EXT slot: each selected accumulator to its X register. -/
def extSlot (st : Bool) (sh : BitVec 5) (rnd q : BitVec 2) (mask : BitVec 4) (old : CoreRegs) (k : CoreSt) : CoreSt :=
  k.guard (extLegal sh rnd) fun k =>
    (bitsOf 4 mask.toNat).foldl (fun k i =>
      k.alu st (4 * q.toNat + i) (extRound rnd.toNat (nth old.a i 0) (32 - sh.toInt).toNat)) k

/-- EXT (R199). -/
def execExtract (c : BitVec 5) (st : Bool) (sh : BitVec 5) (rnd q : BitVec 2) (mask : BitVec 4) (s : State) : Out :=
  .next (s.macCmd c (extSlot st sh rnd q mask))

/-! ## ALU-slot commands (R200 to R202) -/

/-- An ALU slot of the data layout: `op a b` is the exact result of X[SA] and X[SB]. -/
def aluSlot (st : Bool) (d sa sb : BitVec 4) (op : Word → Word → Int) (old : CoreRegs) (k : CoreSt) : CoreSt :=
  k.alu st d.toNat (op (old.xr sa.toNat) (old.xr sb.toNat))

/-- ALU_NOP. -/
def execAluNop (c : BitVec 5) (s : State) : Out := .next (s.slot c.toNat fun _ k => k)

/-- ADD. -/
def execAddW (c : BitVec 5) (st : Bool) (d sa sb : BitVec 4) (s : State) : Out :=
  .next (s.slot c.toNat (aluSlot st d sa sb fun a b => a.toInt + b.toInt))

/-- SUB. -/
def execSubW (c : BitVec 5) (st : Bool) (d sa sb : BitVec 4) (s : State) : Out :=
  .next (s.slot c.toNat (aluSlot st d sa sb fun a b => a.toInt - b.toInt))

/-- ADDI: SB is a signed immediate. -/
def execAddi (c : BitVec 5) (st : Bool) (d sa sb : BitVec 4) (s : State) : Out :=
  .next (s.slot c.toNat (aluSlot st d sa sb fun a _ => a.toInt + sb.toInt))

/-- AND. -/
def execAndW (c : BitVec 5) (_st : Bool) (d sa sb : BitVec 4) (s : State) : Out :=
  .next (s.slot c.toNat (aluSlot false d sa sb fun a b => (a &&& b).toInt))

/-- OR. -/
def execOrW (c : BitVec 5) (_st : Bool) (d sa sb : BitVec 4) (s : State) : Out :=
  .next (s.slot c.toNat (aluSlot false d sa sb fun a b => (a ||| b).toInt))

/-- XOR. -/
def execXorW (c : BitVec 5) (_st : Bool) (d sa sb : BitVec 4) (s : State) : Out :=
  .next (s.slot c.toNat (aluSlot false d sa sb fun a b => (a ^^^ b).toInt))

/-- SHL. -/
def execShl (c : BitVec 5) (st : Bool) (d sa sb : BitVec 4) (s : State) : Out :=
  .next (s.slot c.toNat (aluSlot st d sa sb fun a b => a.toInt * (2 ^ fld b 0 5 : Nat)))

/-- SHRA. -/
def execShra (c : BitVec 5) (_st : Bool) (d sa sb : BitVec 4) (s : State) : Out :=
  .next (s.slot c.toNat (aluSlot false d sa sb fun a b => a.toInt / (2 ^ fld b 0 5 : Nat)))

/-- SHRL. -/
def execShrl (c : BitVec 5) (_st : Bool) (d sa sb : BitVec 4) (s : State) : Out :=
  .next (s.slot c.toNat (aluSlot false d sa sb fun a b => ((a.toNat / 2 ^ fld b 0 5 : Nat) : Int)))

/-- MIN. -/
def execMinW (c : BitVec 5) (_st : Bool) (d sa sb : BitVec 4) (s : State) : Out :=
  .next (s.slot c.toNat (aluSlot false d sa sb fun a b => min a.toInt b.toInt))

/-- MAX. -/
def execMaxW (c : BitVec 5) (_st : Bool) (d sa sb : BitVec 4) (s : State) : Out :=
  .next (s.slot c.toNat (aluSlot false d sa sb fun a b => max a.toInt b.toInt))

/-- ABS. -/
def execAbsW (c : BitVec 5) (st : Bool) (d sa sb : BitVec 4) (s : State) : Out :=
  .next (s.slot c.toNat (aluSlot st d sa sb fun a _ => ((a.toInt.natAbs : Nat) : Int)))

/-- NEG. -/
def execNegW (c : BitVec 5) (st : Bool) (d sa sb : BitVec 4) (s : State) : Out :=
  .next (s.slot c.toNat (aluSlot st d sa sb fun a _ => -a.toInt))

/-- CMP sets Z and N by the exact comparison. -/
def execCmpW (c : BitVec 5) (_st : Bool) (_d sa sb : BitVec 4) (s : State) : Out :=
  .next (s.slot c.toNat fun old k =>
    let a := old.xr sa.toNat
    let b := old.xr sb.toNat
    { k with r := { k.r with z := decide (a = b), n := decide (a.toInt < b.toInt) } })

/-- MOV. -/
def execMovW (c : BitVec 5) (_st : Bool) (d sa sb : BitVec 4) (s : State) : Out :=
  .next (s.slot c.toNat (aluSlot false d sa sb fun a _ => a.toInt))

/-- A loop over the body that ends at `t`, `count` times; a count of 0 skips it (R200, R201). -/
def loopSlot (count t : Nat) (old : CoreRegs) (k : CoreSt) : CoreSt :=
  k.guard (decide (old.pc < t) && decide (old.loops.length < 2)) fun k =>
    if count = 0 then { k with skip := true, r := { k.r with pc := (loopNext t k.r.loops).1, loops := (loopNext t k.r.loops).2 } }
    else { k with r := { k.r with loops := ⟨old.pc + 1, t, count⟩ :: k.r.loops } }

/-- LOOPB: B times. -/
def execLoopb (c : BitVec 5) (t : BitVec 11) (s : State) : Out :=
  .next (s.slot c.toNat (loopSlot s.blk.b t.toNat))

/-- LOOPR: X15[15:0] times. -/
def execLoopr (c : BitVec 5) (t : BitVec 11) (s : State) : Out :=
  .next (s.slot c.toNat fun old k => loopSlot (fld (old.xr 15) 0 16) t.toNat old k)

/-- A branch to `t` where `cond` holds of the flags at the start. -/
def branchSlot (cond : CoreRegs → Bool) (t : Nat) (old : CoreRegs) (k : CoreSt) : CoreSt :=
  if cond old then { k with target := some t } else k

/-- BR. -/
def execBr (c : BitVec 5) (t : BitVec 11) (s : State) : Out := .next (s.slot c.toNat (branchSlot (fun _ => true) t.toNat))

/-- BRZ. -/
def execBrz (c : BitVec 5) (t : BitVec 11) (s : State) : Out := .next (s.slot c.toNat (branchSlot (·.z) t.toNat))

/-- BRNZ. -/
def execBrnz (c : BitVec 5) (t : BitVec 11) (s : State) : Out := .next (s.slot c.toNat (branchSlot (fun r => !r.z) t.toNat))

/-- BRN. -/
def execBrn (c : BitVec 5) (t : BitVec 11) (s : State) : Out := .next (s.slot c.toNat (branchSlot (·.n) t.toNat))

/-- NODE: at retirement earlier saturation events are reported, and later ones go to node `t` (R202). -/
def execNodeMark (c : BitVec 5) (t : BitVec 11) (s : State) : Out :=
  .next (s.slot c.toNat fun _ k => { k with node := some t.toNat })

/-- END: the task ends when the instruction retires (R191). -/
def execEndTask (c : BitVec 5) (_t : BitVec 11) (s : State) : Out :=
  .next (s.slot c.toNat fun _ k => { k with ended := true })

/-! ## Address and move slots (R203 to R205) -/

/-- AM_NOP. -/
def execAmNop (c : BitVec 5) (_am : Bool) (s : State) : Out := .next (s.slot c.toNat fun _ k => k)

/-- LDW. -/
def execLdw (c : BitVec 5) (_am : Bool) (x : BitVec 4) (j : BitVec 3) (m : Bool) (s : State) : Out :=
  .next (s.loadSlot c.toNat x.toNat j.toNat m id)

/-- LDH: `sext(mem[23:0]) × 2^8`. -/
def execLdh (c : BitVec 5) (_am : Bool) (x : BitVec 4) (j : BitVec 3) (m : Bool) (s : State) : Out :=
  .next (s.loadSlot c.toNat x.toNat j.toNat m fun w => w <<< 8)

/-- STW. -/
def execStw (c : BitVec 5) (_am : Bool) (x : BitVec 4) (j : BitVec 3) (m : Bool) (s : State) : Out :=
  .next (s.slot c.toNat fun old k => (k.store old j.toNat (old.xr x.toNat)).post old m j.toNat)

/-- STH: `sext(floor(X ÷ 2^8))`. -/
def execSth (c : BitVec 5) (_am : Bool) (x : BitVec 4) (j : BitVec 3) (m : Bool) (s : State) : Out :=
  .next (s.slot c.toNat fun old k => (k.store old j.toNat ((old.xr x.toNat).sshiftRight 8)).post old m j.toNat)

/-- A register move (R203). -/
def mvrSlot (x j sel : Nat) (old : CoreRegs) (k : CoreSt) : CoreSt :=
  let v := (old.xr x).toNat
  let r := k.r
  { k with r := match sel with
      | 0 => { r with p := putNth r.p j (v % 2 ^ 14) }
      | 1 => { r with k := putNth r.k j (v % 2 ^ 16) }
      | 2 => { r with b := putNth r.b j (v % 2 ^ 14) }
      | 3 => { r with l := putNth r.l j (min (v % 2 ^ 15) 16384) }
      | 4 => r.setX x (w32 (nth old.p j 0))
      | 5 => r.setX x (i32 (sext 16 (nth old.k j 0)))
      | 6 => r.setX x (w32 (nth old.b j 0))
      | _ => r.setX x (w32 (nth old.l j 0)) }

/-- MVR. -/
def execMvr (c : BitVec 5) (_am : Bool) (x : BitVec 4) (j sel : BitVec 3) (s : State) : Out :=
  .next (s.slot c.toNat (mvrSlot x.toNat j.toNat sel.toNat))

/-- LIM: a signed immediate of six bits. -/
def execLim (c : BitVec 5) (_am : Bool) (x : BitVec 4) (imm : BitVec 6) (s : State) : Out :=
  .next (s.slot c.toNat fun _ k => { k with r := k.r.setX x.toNat (imm.signExtend 32) })

/-! ## Tasks (R189, R191, R209) -/

/-- The next block that segment `seg` of the older program of a route fade runs for, once its inputs are complete: captured, and
for post-processing rendered (R26, R165). -/
def State.fadeNext (s : State) (r : RouteSt) (seg : Nat) : Option Nat :=
  let n := ((r.ran.find? fun e => decide (e.1 = seg)).map (·.2)).getD r.m
  let cap : Bool := match s.sch.cap with
    | some c => decide (n ≤ c)
    | none => false
  if n < r.stop ∧ cap = true ∧ (byteAt r.graph (segOff r.graph seg + 1) ≠ 3 ∨ n < s.rnd.tileBlk) then some n else none

/-- Segment `seg` of the older program of a route fade starts on core `c`, if it may. -/
def State.fadeTask (s : State) (c seg age : Nat) : Option State :=
  match s.routeOf age with
  | none => none
  | some r =>
    if graphSegs r.graph ≤ seg ∨ byteAt r.graph (segOff r.graph seg) ≠ c then none
    else
      match s.fadeNext r seg with
      | none => none
      | some n =>
        let put (x : RouteSt) : RouteSt := { x with ran := (x.ran.filter fun e => decide (e.1 ≠ seg)) ++ [(seg, n + 1)] }
        let s1 : State := if age = 1 then { s with mix := { s.mix with route := s.mix.route.map put } }
          else { s with mix := { s.mix with route2 := s.mix.route2.map put } }
        some (s1.coreStart c seg n age)

/-- CORE_TASK_START (R189): the item the dispatcher gave the core starts, or a segment of the older program while a
route fade runs both (R165). -/
def execCoreTaskStart (c : BitVec 5) (old : Option (BitVec 12)) (s : State) : Out :=
  s.event 0x600000 fun s =>
    let k := s.core c.toNat
    if k.task.isSome || s.halted c.toNat then s else
    match old with
    | some seg => ((s.fadeTask c.toNat seg.toNat 2).or (s.fadeTask c.toNat seg.toNat 1)).getD s
    | none =>
      match s.sch.run.find? fun t => decide (t.slot = 2 + c.toNat) && t.fin.isNone with
      | some t => if (s.graphOf (s.progOf t.blk)).isSome then s.coreStart c.toNat t.arg t.blk (s.progOf t.blk) else s
      | none => s

/-- CORE_TASK_TIMEOUT (R191, R229). -/
def execCoreTaskTimeout (c : BitVec 5) (s : State) : Out :=
  s.event 0x600000 fun s => s.coreTimeout c.toNat

/-- Whether an instruction word may not execute on core `c` now (R195, R197, R199, R201). -/
def State.wordIllegal (s : State) (c : BitVec 5) (w : BitVec 64) : Bool :=
  let r := (s.core c.toNat).old
  decide (2048 ≤ r.pc) || (decodeWord c w).any (·.isNone) ||
    (match decodeAlu c (w.extractLsb' 26 18) with
      | some (.loopb _ t) => !(decide (r.pc < t.toNat) && decide (r.loops.length < 2))
      | some (.loopr _ t) => !(decide (r.pc < t.toNat) && decide (r.loops.length < 2))
      | _ => false)

/-- ILLEGAL_INSTRUCTION (R209): the word the core fetched ends its task where an encoding in it is illegal. -/
def execIllegalInstruction (c : BitVec 5) (w : BitVec 64) (s : State) : Out :=
  s.event 0x600000 fun s =>
    if s.coreRuns c.toNat && s.wordIllegal c w then s.coreIllegal c.toNat else s

/-! ## A core that runs from its program memory (R193, R194) -/

/-- The effect of a slot command. -/
def State.slotRun (s : State) (i : Instr) : State :=
  let go (o : Out) : State := match o with
    | .next t => t
    | _ => s
  match i with
  | .macNop c => go (execMacNop c s)
  | .macAcc c f st xa q m => go (execMacAcc c f st xa q m s)
  | .msu c f st xa q m => go (execMsu c f st xa q m s)
  | .mpy c f st xa q m => go (execMpy c f st xa q m s)
  | .addx c f st xa q m => go (execAddx c f st xa q m s)
  | .subx c f st xa q m => go (execSubx c f st xa q m s)
  | .ldx c f st xa q m => go (execLdx c f st xa q m s)
  | .aclr c f st xa q m => go (execAclr c f st xa q m s)
  | .extract c st sh rnd q m => go (execExtract c st sh rnd q m s)
  | .aluNop c => go (execAluNop c s)
  | .addW c st d sa sb => go (execAddW c st d sa sb s)
  | .subW c st d sa sb => go (execSubW c st d sa sb s)
  | .addi c st d sa sb => go (execAddi c st d sa sb s)
  | .andW c st d sa sb => go (execAndW c st d sa sb s)
  | .orW c st d sa sb => go (execOrW c st d sa sb s)
  | .xorW c st d sa sb => go (execXorW c st d sa sb s)
  | .shl c st d sa sb => go (execShl c st d sa sb s)
  | .shra c st d sa sb => go (execShra c st d sa sb s)
  | .shrl c st d sa sb => go (execShrl c st d sa sb s)
  | .minW c st d sa sb => go (execMinW c st d sa sb s)
  | .maxW c st d sa sb => go (execMaxW c st d sa sb s)
  | .absW c st d sa sb => go (execAbsW c st d sa sb s)
  | .negW c st d sa sb => go (execNegW c st d sa sb s)
  | .cmpW c st d sa sb => go (execCmpW c st d sa sb s)
  | .movW c st d sa sb => go (execMovW c st d sa sb s)
  | .loopb c t => go (execLoopb c t s)
  | .loopr c t => go (execLoopr c t s)
  | .br c t => go (execBr c t s)
  | .brz c t => go (execBrz c t s)
  | .brnz c t => go (execBrnz c t s)
  | .brn c t => go (execBrn c t s)
  | .nodeMark c t => go (execNodeMark c t s)
  | .endTask c t => go (execEndTask c t s)
  | .amNop c a => go (execAmNop c a s)
  | .ldw c a x j m => go (execLdw c a x j m s)
  | .ldh c a x j m => go (execLdh c a x j m s)
  | .stw c a x j m => go (execStw c a x j m s)
  | .sth c a x j m => go (execSth c a x j m s)
  | .mvr c a x j v => go (execMvr c a x j v s)
  | .lim c a x v => go (execLim c a x v s)
  | _ => s

/-- One instruction from program memory, on a core that runs a task and has none in progress. -/
def State.coreFetch (s : State) (c : Nat) : State :=
  let k := s.core c
  match k.task with
  | none => s
  | some t =>
    if k.r.pc < 2048 then
      let a := coreProg c (s.taskHalf t.age) k.r.pc
      let bad := s.swBad a
      let (s, _) := s.sramRead a
      if bad then s.coreHalt c
      else
        let w := BitVec.ofNat 64 (leNat (s.sramBytes a 8))
        if s.wordIllegal (BitVec.ofNat 5 c) w then s.coreIllegal c
        else s.each ((decodeWord (BitVec.ofNat 5 c) w).filterMap id) State.slotRun
    else s.coreIllegal c

/-- One CLK_CORE cycle of a core that is busy and not in the middle of an instruction given by commands. -/
def State.coreCycle (s : State) (c : Nat) : State :=
  let k := s.core c
  if !s.coreRuns c || k.start.isSome then s
  else if 0 < k.stall then s.setCore c { k with stall := k.stall - 1 }
  else s.coreFetch c

/-- `n` CLK_CORE cycles of every core. -/
def State.coreTicks (s : State) (n : Nat) : State :=
  s.each (s.cores.map (·.1)) fun s c => s.each (List.range n) fun s _ => s.coreCycle c

end Sys2Proof.Machine
end

