-- ==== Sys2Proof/Machine/Dispatcher.lean ====
section
/-!
DEFINITION. The dispatcher (R214 to R235): block banks, readiness, flows, the choice of a task,
completion, cancels, trace, and which feeds are late at Dn.
-/
namespace Sys2Proof.Machine

/-! ## Descriptors (R215 to R217) -/

/-- The dispatcher changes a byte of a descriptor beside others of its word, whose parity error stays (R37). -/
def State.dSet (s : State) (d i v : Nat) : State :=
  (s.putSram (descAddr d + i) [b8 v]).corruptIfArmed 15 (wordIdx 15 (descAddr d + i))

/-- STATE changes. -/
def State.setDState (s : State) (d st : Nat) : State := s.dSet d 17 st

/-- A live descriptor. -/
def State.desc? (s : State) (d : Nat) : Option SchDesc := s.sch.descs.find? fun x => decide (x.idx = d)

/-- Change a live descriptor. -/
def State.updDesc (s : State) (d : Nat) (f : SchDesc → SchDesc) : State :=
  { s with sch := { s.sch with descs := s.sch.descs.map fun x => if x.idx = d then f x else x } }

/-- Entries in the ready lists. -/
def State.listCount (s : State) : Nat := (s.sch.descs.filter (·.listed)).length

/-- SCH_STATUS follows the lists and engines; SCH_READY_PEAK follows READY (R235). -/
def State.schStatus (s : State) : State :=
  let n := s.listCount
  let s := s.setReg Reg.SCH_STATUS (w32 (n + s.sch.run.length * 2 ^ 16 + (!s.sch.bankWait.isEmpty).toNat * 2 ^ 24))
  if (s.reg Reg.SCH_READY_PEAK).toNat < n then s.setReg Reg.SCH_READY_PEAK (w32 n) else s

/-! ## Trace (R232, R233) -/

/-- 256 records have accumulated: they are copied to the spill buffer, if it is set up. -/
def State.trcSpill (s : State) (head : Nat) : State :=
  let size := s.fldR Reg.SCH_TRC_SPILL_SIZE 0 16 * 65536
  if !(s.bitR Reg.SCH_TRC_CTL 9) || decide (size = 0) then s
  else
    let ptr := (s.reg Reg.SCH_TRC_SPILL_PTR).toNat * 64
    let stop := s.bitR Reg.SCH_TRC_CTL 8
    if size ≤ ptr ∧ stop then s
    else if !s.drc.trained then s.count Reg.SCH_TRC_LOST 256
    else
      let ptr := if size ≤ ptr then 0 else ptr
      let a := 0x06FE4000 + 16 * ((head + 256) % 512)
      let s := s.dramWriteParts .engine ((s.reg Reg.SCH_TRC_SPILL_BASE).toNat * 64 + ptr) (s.sramBytes a 4096)
      { s.setReg Reg.SCH_TRC_SPILL_PTR (w32 ((ptr + 4096) / 64)) with sch := { s.sch with trcUsed := s.sch.trcUsed - 256 } }

/-- The ring holds 512 records, or the spill buffer is full (R233). -/
def State.trcFull (s : State) : Bool :=
  let size := s.fldR Reg.SCH_TRC_SPILL_SIZE 0 16 * 65536
  decide (512 ≤ s.sch.trcUsed) ||
    (s.bitR Reg.SCH_TRC_CTL 9 && decide (0 < size) && decide (size ≤ (s.reg Reg.SCH_TRC_SPILL_PTR).toNat * 64))

/-- A decision is traced (R232). -/
def State.trace (s : State) (kind d slot status item : Nat) : State :=
  if !(s.bitR Reg.SCH_TRC_CTL (kind - 1)) then s
  else if s.trcFull && s.bitR Reg.SCH_TRC_CTL 8 then s.count Reg.SCH_TRC_LOST 1
  else
    let h := s.fldR Reg.SCH_TRC_HEAD 0 9
    let rec_ := leBytes 4 (s.reg Reg.SCH_CYCLE).toNat ++ leBytes 2 d ++ [b8 (kind + 16 * s.dPrio d), b8 slot] ++
      leBytes 2 (s.dTemplate d) ++ leBytes 2 (s.dBlock d % 65536) ++ [b8 status, b8 (min (s.listCount / 2) 255)] ++ leBytes 2 item
    let s := s.putArray (0x06FE4000 + 16 * h) rec_
    let h1 := (h + 1) % 512
    let fill := s.sch.trcFill + 1
    let s := s.setReg Reg.SCH_TRC_HEAD (w32 h1)
    let s : State := { s with sch := { s.sch with trcFill := fill % 256, trcUsed := min (s.sch.trcUsed + 1) 512 } }
    if fill = 256 then s.trcSpill h1 else s

/-! ## Detector 0x10 (R234) -/

/-- Detector 0x10: kind 1 list overflow, 2 bank wait. -/
def State.raiseQfull (s : State) (kind d blk tpl : Nat) (first : Bool) : State :=
  let s := s.count Reg.SCH_QFULL_COUNT 1
  if first then s.raiseDet 0x10 0x05 ([b8 kind, 0xFF] ++ leBytes 2 d ++ leBytes 6 blk ++ leBytes 2 tpl) else s.detBit 0x10

/-! ## Completion (R227, R228) -/

/-- A completion record is written, or discarded where the ring is full. -/
def State.cplRecord (s : State) (d : SchDesc) (status : Nat) : State :=
  let h := s.fldR Reg.SCH_CPL_HEAD 0 10
  if (h + 1) % 1024 = s.fldR Reg.SCH_CPL_TAIL 0 10 then (s.count Reg.SCH_CPL_LOST 1).evt Reg.SCH_EVT 4
  else
    let rec_ := leBytes 2 d.idx ++ leBytes 2 (s.dTemplate d.idx) ++ leBytes 6 (s.dBlock d.idx) ++ [b8 status, b8 d.last] ++
      leBytes 2 d.above ++ leBytes 2 (s.fldR Reg.SCH_CYCLE 0 16)
    (s.putArray (0x06FE0000 + 16 * h) rec_).setReg Reg.SCH_CPL_HEAD (w32 ((h + 1) % 1024))

/-- A successor's PENDING decrements while it is in WAIT (R223). -/
def State.pendDec (s : State) (t : Nat) : State :=
  if t < 4096 ∧ s.dState t = 1 then
    let b := s.dF t 16 1
    if b % 16 = 0 then s else s.dSet t 16 (b - 1)
  else s

/-- An entry outside full lists enters as one frees (R225). -/
def State.refill (s : State) : State :=
  match s.sch.outside with
  | [] => s
  | d :: r =>
    if s.listCount < 512 then
      { s with sch := { s.sch with outside := r } }.updDesc d fun x =>
        { x with listed := true, enter := s.sch.cyc }
    else s

/-- A sweep ends: DONE, its record, its successors, its flow and the lists (R223, R224, R228, R230). -/
def State.sweepEnd (s : State) (d : SchDesc) (status : Nat) (always : Bool) : State :=
  let s := s.setDState d.idx 4
  let s := s.when (decide (status = 5)) fun s => s.evt Reg.SCH_EVT 5
  let s := if always || s.dNotify d.idx || decide (4 ≤ status) then s.cplRecord d status else s
  let succ := (s.dSucc d.idx).eraseDups
  let s : State := { s with sch := { s.sch with
    descs := s.sch.descs.filter fun x => decide (x.idx ≠ d.idx), outside := s.sch.outside.filter fun x => decide (x ≠ d.idx) } }
  (s.each succ State.pendDec).refill

/-! ## Becoming ready (R223 to R225) -/

/-- Whether a release event has occurred for a block. -/
def State.trigDone (s : State) (trig blk : Nat) : Bool :=
  match trig with
  | 0 => true
  | 1 => s.running && decide (blk ≤ s.blk.n)
  | 2 => (match s.sch.cap with
    | some m => decide (blk ≤ m)
    | none => false)
  | _ => (match s.sch.dl with
    | some m => decide (blk ≤ m)
    | none => false)

/-- The live predecessors of a descriptor. -/
def State.preds (s : State) (d : Nat) : List SchDesc := s.sch.descs.filter fun p => (s.dSucc p.idx).contains d

/-- Item `i` of every live predecessor is complete. -/
def State.itemFree (s : State) (d i : Nat) : Bool := (s.preds d).all fun p => p.done.contains i

/-- A descriptor heads its flow: the first live one of it (R224). -/
def State.flowHead (s : State) (d : Nat) : Bool :=
  let f := s.dFlow d
  decide (f = 0) || ((s.sch.descs.find? fun x => decide (s.dFlow x.idx = f)).map (·.idx) == some d)

/-- The conditions of R223. -/
def State.readyNow (s : State) (d : Nat) : Bool :=
  (decide (s.dPending d = 0) ||
    (s.dItemwise d && decide (s.dPending d ≤ (s.preds d).length) && s.itemFree d 0)) &&
    s.trigDone (s.dTrig d) (s.dBlock d) && s.flowHead d

/-- A READY descriptor enters the lists, or waits outside full ones (R225). -/
def State.enlist (s : State) (d : Nat) : State :=
  if s.listCount < 512 then
    s.updDesc d fun x => { x with listed := true, enter := s.sch.cyc }
  else
    let first := !s.bitR Reg.SCH_EVT 0
    let s : State := { s with sch := { s.sch with outside := s.sch.outside ++ [d] } }
    (s.evt Reg.SCH_EVT 0).raiseQfull 1 d (s.dBlock d) (s.dTemplate d) first

/-- One descriptor in WAIT becomes READY if it may; the second result says that one without items completed. -/
def State.tryReady (a : State × Bool) (d : Nat) : State × Bool :=
  let (s, ch) := a
  match s.desc? d with
  | none => a
  | some x =>
    if x.ready || !s.readyNow d then a
    else
      let s := ((s.updDesc d fun x => { x with ready := true }).setDState d 2).trace 1 d 0xFF 0 0
      if s.dItems d = 0 then ((s.trace 3 d 0xFF 1 0).sweepEnd { x with status := 1 } 1 false, true)
      else (s.enlist d, ch)

/-- Descriptors become READY until nothing more changes. -/
def State.settleGo : Nat → State → State
  | 0, s => s
  | k + 1, s =>
    let (t, ch) := (s.sch.descs.map (·.idx)).foldl State.tryReady (s, false)
    if ch then t.settleGo k else t

/-- Descriptors become READY in this dispatcher cycle. -/
def State.settle (s : State) : State := (s.settleGo (s.sch.descs.length + 1)).schStatus

/-! ## Items -/

/-- A sweep completes when its items are, or when it is cancelled, none runs and the one dispatched in part has no bank to
start (R230). -/
def State.sweepCheck (s : State) (d : Nat) : State :=
  match s.desc? d with
  | none => s
  | some x =>
    let busy := s.sch.run.any fun t => decide (t.desc = d)
    if (x.cancel && !busy && x.subs.isEmpty) || (!x.cancel && decide (x.done.length = s.dItems d)) then
      let st := if x.cancel then 3 else x.status
      (s.trace 3 d x.last st (x.next - 1)).sweepEnd x st x.cancel
    else s

/-- A task of an item ends with a status (R227). -/
def State.taskEnd (s : State) (d item slot st : Nat) : State :=
  match s.desc? d with
  | none => s
  | some x =>
    let was := ((x.part.find? fun p => decide (p.1 = item)).map (·.2)).getD 0
    let st := max was st
    let rest := x.part.filter fun p => decide (p.1 ≠ item)
    if (s.sch.run.any fun t => decide (t.desc = d) && decide (t.item = item)) || decide (x.next = item) then
      s.updDesc d fun x => { x with part := rest ++ [(item, st)], last := slot }
    else
      (s.updDesc d fun x => { x with
        part := rest, done := x.done ++ [item], status := max x.status st, above := x.above + (decide (1 < st)).toNat,
        last := slot }).sweepCheck d

/-- The task on a slot leaves it with a status; successors, flows and lists follow. -/
def State.slotEnd (s : State) (slot st : Nat) : State :=
  match s.sch.run.find? fun t => decide (t.slot = slot) with
  | none => s
  | some t =>
    let s : State := { s with sch := { s.sch with run := s.sch.run.filter fun x => decide (x.slot ≠ slot) } }
    (s.taskEnd t.desc t.item slot st).settle

/-! ## Jobs (R219) -/

/-- What a block job names belongs to the active mode and the completed set: an object of the mode's range, the ring of an
enabled receive lane or receiver, an enabled sensing group with a ring, a transmit channel that carries samples, an enabled
transmit stream. -/
def State.jobHas (s : State) (cls a : Nat) : Bool :=
  match cls with
  | 4 =>
    if a < 0x4400 then decide (a - 0x4000 < s.mode.objects)
    else if a < 0x4800 then true
    else if a < 0x4858 then s.bitR (Reg.SAI_LANE_CFG (a - 0x4800)) 31 && !s.bitR (Reg.SAI_LANE_CFG (a - 0x4800)) 30
    else if a < 0x4900 then s.bitR (Reg.SAI_AES_CFG (a - 0x4858)) 31
    else s.bitR (Reg.SNS_GRP_CFG (a - 0x4900)) 31 && decide (s.fldR (Reg.SNS_RING_DEPTH (a - 0x4900)) 0 16 ≠ 0)
  | 6 =>
    if a < 0x1000 then decide (a < s.mode.objects)
    else s.bitR (Reg.BVL_TXCH (a - 0x1000)) 31 || (match s.active 8 with
      | some g => (nodeBus g 4 (4608 + (a - 0x1000))).isSome
      | none => false)
  | 7 => s.bitR (Reg.STR_TX a 0) 31
  | _ => true

/-- A job that runs: a row lists its code, and what it names exists (R219). -/
def State.jobOk (s : State) (cls a : Nat) : Bool := jobCode cls a && (!blockJob cls a || s.jobHas cls a)

/-! ## Choosing a task (R225, R226) -/

/-- First slot and number of slots of a class (R214). -/
def classSlots (c : Nat) : Nat × Nat :=
  match c with
  | 0 => (0, 2)
  | 1 => (2, 32)
  | 2 => (34, 16)
  | 3 => (50, 24)
  | 4 => (74, 16)
  | 5 => (90, 1)
  | 6 => (91, 6)
  | _ => (97, 2)

/-- The core of a segment of block `n`'s program (R217). -/
def State.segCore (s : State) (n seg : Nat) : Nat :=
  let g := s.taskGraph (s.progOf n)
  byteAt g (segOff g seg)

/-- Whether a slot can take a task. -/
def State.slotFree (s : State) (k : Nat) : Bool :=
  !(s.sch.run.any fun t => decide (t.slot = k)) &&
    (decide (slotClass k ≠ 1) || (!s.halted (k - 2) && (s.core (k - 2)).task.isNone))

/-- The lowest free slot for the next item of a descriptor (R217, R225, R226). -/
def State.slotFor (s : State) (d arg : Nat) : Option Nat :=
  let c := s.dClass d
  let (b, n) := classSlots c
  let any : List Nat := if c = 1 then [2 + s.segCore (s.dBlock d) arg]
    else if s.dEngine d = 0xFF then (List.range n).map (b + ·) else [b + s.dEngine d]
  if c = 3 ∧ 6 * s.blk.b / 4 ≤ (s.sch.run.filter fun t => decide (slotClass t.slot = 3)).length then none
  else any.find? s.slotFree

/-- The next item ends at once without an engine: a FIR item with no bank, or a job code of no row (R217, R219). -/
def State.emptyItem (s : State) (x : SchDesc) : Bool :=
  let c := s.dClass x.idx
  let a := s.dArg x.idx + x.next
  if c = 3 then x.subs.isEmpty && (s.firTasks a (s.dBlock x.idx)).isEmpty
  else decide (4 ≤ c) && !s.jobOk c a

/-- An entry that may be dispatched in this cycle. -/
def State.canGo (s : State) (x : SchDesc) : Bool :=
  x.listed && decide (x.enter < s.sch.cyc) && decide (x.next < s.dItems x.idx) &&
    (!s.dItemwise x.idx || s.itemFree x.idx x.next) &&
    (s.emptyItem x || (s.slotFor x.idx (s.dArg x.idx + x.next)).isSome)

/-- The order of the choice: priority, cycle of entry, index. -/
def State.goBefore (s : State) (a b : SchDesc) : Bool :=
  decide (s.dPrio b.idx < s.dPrio a.idx) || (decide (s.dPrio a.idx = s.dPrio b.idx) &&
    (decide (a.enter < b.enter) || (decide (a.enter = b.enter) && decide (a.idx < b.idx))))

/-- The entry the dispatcher picks. -/
def State.pick (s : State) : Option SchDesc :=
  (s.sch.descs.filter s.canGo).foldl (fun best x =>
    match best with
    | none => some x
    | some b => if s.goBefore x b then some x else best) none

/-- The item `next` has been dispatched in full; the entry leaves the lists with its last one, or once it is cancelled. -/
def State.advance (s : State) (d : Nat) : State :=
  match s.desc? d with
  | none => s
  | some x =>
    let s := s.updDesc d fun x => { x with next := x.next + 1, subs := [] }
    if x.next + 1 = s.dItems d ∨ x.cancel then (s.updDesc d fun x => { x with listed := false }).refill else s

/-- A word with a parity error among `n` of the dispatcher array. -/
def State.schBad (s : State) (a n : Nat) : Bool := (List.range n).any fun i => s.swBad (a + 4 * i)

/-- Dispatch the next item of an entry; a parity error in its descriptor, or in the job entry it names, ends it with ERROR
(R227). -/
def State.dispatch (s : State) (x : SchDesc) : State :=
  let d := x.idx
  let c := s.dClass d
  let a := s.dArg d + x.next
  let n := s.dBlock d
  let general := decide (c = 4) && decide (a < 0x400)
  let bad := x.bad || s.schBad (descAddr d) 8 || (general && s.schBad (0x06FE8000 + 32 * a) 8)
  let s := (s.setDState d 3).when x.subs.isEmpty fun s => s.count Reg.SCH_DISPATCHES 1
  if s.emptyItem x then
    let s := (s.trace 2 d 0xFF 0 x.next).scrub (descAddr d) 32
    let s := if c = 3 then s.firRun a n else s
    (s.advance d).taskEnd d x.next 0xFF (if bad then 5 else 1)
  else
    match s.slotFor d a with
    | none => s
    | some k =>
      let s := s.trace 2 d k 0 x.next
      let subs := if c = 3 then (if x.subs.isEmpty then s.firTasks a n else x.subs) else []
      let s := (s.scrub (descAddr d) 32).when general fun s => s.scrub (0x06FE8000 + 32 * a) 32
      let t : SchTask :=
        { slot := k, desc := d, item := x.next, arg := a, blk := n, sub := subs.headD 0
          fin := if bad then some 5 else none
          job := if general then s.sramBytes (0x06FE8000 + 32 * a) 32 else [] }
      let s : State := { s with sch := { s.sch with run := s.sch.run ++ [t] } }
      if subs.length ≤ 1 then s.advance d else s.updDesc d fun x => { x with subs := subs.drop 1 }

/-- SCH_CYCLE advances, and with it the cycles counted since reset. -/
def State.schTick (s : State) : State :=
  { s.setReg Reg.SCH_CYCLE (s.reg Reg.SCH_CYCLE + 1) with sch := { s.sch with cyc := s.sch.cyc + 1 } }

/-- DISPATCH_CYCLE (R225): SCH_CYCLE advances, and one entry's next item is dispatched. -/
def State.schCycle (s : State) : State :=
  let s := s.schTick
  match s.pick with
  | none => s.settle
  | some x => (s.dispatch x).settle

/-- DISPATCH_CYCLE. -/
def execDispatchCycle (s : State) : Out := s.event 0x300000 State.schCycle

/-! ## Block banks (R222) -/

/-- The templates of block `n`: those of the active set, or those that a swap at a later block replaced. -/
def State.templates (s : State) (n : Nat) : List Byte :=
  match s.sch.oldTpl.find? fun e => decide (n < e.1) with
  | some e => e.2
  | none => (match s.active 10 with
    | some p => s.sramBytes 0x06FE6000 (32 * leAt p 0 2)
    | none => [])

/-- A descriptor of a bank is live. -/
def State.bankBusy (s : State) (b : Nat) : Bool := s.sch.descs.any fun x => decide (x.idx / 256 = b)

/-- Template `t` of a block's templates becomes a descriptor of block `n`; one with a parity error gives a task that ends with ERROR
(R37). -/
def State.instOne (s : State) (tpls : List Byte) (n t : Nat) : State :=
  let bank := 256 * (n % 4)
  let tp := (tpls.drop (32 * t)).take 32
  let succ := (List.range 4).flatMap fun i =>
    let v := leAt tp (20 + 2 * i) 2
    leBytes 2 (if v = 0xFFFF then v else bank + v)
  let bs := tp.take 4 ++ leBytes 6 n ++ (tp.drop 10).take 7 ++ [1] ++ (tp.drop 18).take 2 ++ succ ++ tp.drop 28
  let bad := s.schBad (0x06FE6000 + 32 * t) 8
  let s := (s.scrub (0x06FE6000 + 32 * t) 32).dPut (bank + t) 0 bs
  { s with sch := { s.sch with descs := s.sch.descs ++ [{ idx := bank + t, bad := bad }] } }

/-- Every template of `tpls` becomes a descriptor of block `n`. -/
def State.instAll (s : State) (tpls : List Byte) (n : Nat) : State :=
  (s.each (List.range (tpls.length / 32)) fun s t => s.instOne tpls n t).settle

/-- Every active template becomes a descriptor of block `n`. -/
def State.instantiate (s : State) (n : Nat) : State := s.instAll (s.templates n) n

/-- Sn for the dispatcher: the bank is instantiated, or waits (R222). -/
def State.schBlock (s : State) (n : Nat) : State :=
  let s : State := { s with sch := { s.sch with stopped := s.sch.stopped.filter fun j => decide (n < j.2.2 + 8) } }
  if s.bankBusy (n % 4) then
    let d := (s.sch.descs.filter fun x => decide (x.idx / 256 = n % 4)).foldl (fun m x => min m x.idx) 1023
    let s : State := { s with sch := { s.sch with bankWait := s.sch.bankWait ++ [n] } }
    ((s.evt Reg.SCH_EVT 1).raiseQfull 2 d n (s.dTemplate d) true).settle
  else s.instantiate n

/-- BANK_INSTANTIATE_DEFERRED (R222): the oldest block that waits and whose own bank is free. -/
def execBankInstantiateDeferred (s : State) : Out :=
  s.event 0x300000 fun s =>
    match s.sch.bankWait.find? fun n => !s.bankBusy (n % 4) with
    | none => s
    | some n =>
      let r := s.sch.bankWait.erase n
      ({ s with sch := { s.sch with bankWait := r, oldTpl := if r.isEmpty then [] else s.sch.oldTpl } } : State).instAll (s.templates n) n

/-! ## Submit and cancel (R218, R230) -/

/-- A refused submit or cancel, or a dropped descriptor write. -/
def State.submitErr (s : State) : State := (s.count Reg.SCH_SUBMIT_ERR 1).evt Reg.SCH_EVT 3

/-- A general-pool descriptor's fields are legal (R214, R216, R217, R219). -/
def State.descLegal (s : State) (d : Nat) : Bool :=
  let c := s.dClass d
  let items := s.dItems d
  let a := s.dArg d
  let feed := s.dFeed d
  let range (n : Nat) : Bool := decide (items = 0) || decide (a + items ≤ n)
  decide (c < 8) && decide (s.dTrig d ≤ 3) && decide (s.dF d 1 1 < 32) && decide (items ≤ 512) &&
    decide (0 < s.dF d 12 3) && decide (s.dF d 15 1 = 0) && decide (s.dF d 16 1 < 16) && decide (s.dF d 17 1 < 8) &&
    (decide (s.dEngine d = 0xFF) || decide (s.dEngine d < (classSlots c).2)) &&
    (decide (0xFFFE ≤ feed) || decide (feed + items ≤ 384)) &&
    (s.dSucc d).all (fun x => decide (x < 4096)) &&
    (match c with
      | 0 => range 512
      | 1 => (match s.active 8 with
        | some g => range (graphSegs g)
        | none => false)
      | 2 => range 384
      | 3 => range 384
      | _ => (List.range items).all fun i => !blockJob c (a + i))

/-- A write of SCH_SUBMIT (R218). -/
def State.submit (s : State) (v : Word) : State :=
  let d := fld v 0 12
  if d < 1024 ∨ ¬ (s.dState d = 0 ∨ s.dState d = 4) ∨ s.descLegal d = false then s.submitErr
  else
    let s := s.setDState d 1
    let s : State := { s with sch := { s.sch with descs := s.sch.descs ++ [{ idx := d }] } }
    s.settle

/-- SCH_SUBMIT. -/
def execSchSubmit (ini : Initiator) (v : Word) (s : State) : Out := s.access ini Reg.SCH_SUBMIT fun s => s.submit v

/-- A write of SCH_CANCEL (R230). -/
def State.cancel (s : State) (v : Word) : State :=
  let d := fld v 0 12
  if d < 1024 then s.submitErr
  else
    match s.desc? d with
    | none => s.count Reg.SCH_CANCEL_MISS 1
    | some x =>
      if x.next = 0 ∧ x.subs.isEmpty then ((s.trace 4 d 0xFF 2 0).sweepEnd x 2 true).settle
      else
        let s := (s.trace 4 d 0xFF 3 x.next).updDesc d fun x => { x with cancel := true, listed := x.listed && !x.subs.isEmpty }
        (s.refill.sweepCheck d).settle

/-- SCH_CANCEL. -/
def execSchCancel (ini : Initiator) (v : Word) (s : State) : Out := s.access ini Reg.SCH_CANCEL fun s => s.cancel v

/-- A host write to the dispatcher array (R215, R218). -/
def State.schArrayWrite (s : State) (a : Nat) (v : Word) : State :=
  if a < 0x06FC8000 then s
  else if a < 0x06FE0000 then
    let d := (a - 0x06FC0000) / 32
    if s.dState d = 0 ∨ s.dState d = 4 then
      s.sramHostWrite a (if a % 32 = 16 then putFld v 8 3 (s.dState d) else v)
    else s.submitErr
  else if 0x06FE8000 ≤ a ∧ a < 0x06FF0000 then s.sramHostWrite a v
  else s

/-! ## The output deadline (R231) -/

/-- Feed `f` is late for block `n`: not instantiated, or an item that serves it is incomplete. -/
def State.feedLate (s : State) (f n : Nat) : Bool :=
  s.sch.bankWait.contains n ||
    s.sch.descs.any fun x =>
      decide (x.idx < 1024) && decide (s.dBlock x.idx = n) &&
        ((decide (s.dFeed x.idx = 0xFFFF) && decide (0 < s.dItems x.idx)) ||
          (decide (s.dFeed x.idx ≤ f) && decide (f < s.dFeed x.idx + s.dItems x.idx) &&
            !x.done.contains (f - s.dFeed x.idx)))

/-- The block banks when a train ends: what is left of its tasks is dropped, and descriptors outside the lists take the entries that
free (R225). -/
def State.schStop (s : State) : State :=
  let live := s.sch.descs.filter fun x => decide (x.idx < 1024)
  let s := s.each live fun s x => s.setDState x.idx 4
  let t : State := { s with sch := { s.sch with
    descs := s.sch.descs.filter fun x => decide (1024 ≤ x.idx), run := s.sch.run.filter fun t => decide (1024 ≤ t.desc)
    outside := s.sch.outside.filter fun x => decide (1024 ≤ x), bankWait := [], oldTpl := [], cap := none, dl := none
    jobs := s.sch.jobs.filter fun j => !blockJob j.cls j.code, stopped := [] } }
  (t.each t.sch.outside fun s _ => s.refill).schStatus

end Sys2Proof.Machine
end

