-- ==== Sys2Proof/Machine/Mixer.lean ====
section
/-!
DEFINITION. Mixer parameters, meters, bridges, the Trail and the override stage (R155 to R182): commits, switches,
and the output of a feed.
-/
namespace Sys2Proof.Machine

/-! ## Who may write the Gauntlet partition (R262, R263) -/

/-- A write that only the Gauntlet sequencer may make: it acts, or is denied. -/
def State.gwWrite (s : State) (ini : Initiator) (a : Nat) (f : State → State) : State :=
  if !s.admits ini then s else if ini = .gauntlet then f s else s.deny ini a

/-! ## Mixer parameters (R181) -/

/-- The host's write of a word of the tables with commit words: staged, and with its entry's commit word applied
from the next block (R25). A word of a dynamics curve applies on its own, from the next block too. -/
def State.mixWrite (s : State) (a : Nat) (v : Word) : State :=
  match mixRow? a with
  | some r =>
    let i := (a - r.lo) % r.size / 4
    let m := nth r.mask i 0
    if r.ro.contains i then s
    else
      let s := s.logWrite a v
      let s := s.sramHostWrite a (v &&& m)
      if i = r.commit then
        let e := a - 4 * i
        let ws := ((List.range r.mask.length).filter fun j => !r.ro.contains j).map fun j => (e + 4 * j, s.swz (e + 4 * j))
        { s with mix := { s.mix with pend := (s.mix.pend.filter fun p => !(decide (e ≤ p.1) && decide (p.1 < e + r.size))) ++ ws } }
      else s
  | none =>
    if 0x06EE0000 ≤ a ∧ a < 0x06EF0000 then
      let t := (s.sramHostWrite a (v &&& 0x00FFFFFF)).logWrite a v
      { t with mix := { t.mix with pend := (t.mix.pend.filter fun p => decide (p.1 ≠ a)) ++ [(a, v &&& 0x00FFFFFF)] } }
    else s

/-- COMMIT_WORD_WRITE (R181). -/
def execCommitWordWrite (ini : Initiator) (addr : Nat) (v : Word) (s : State) : Out :=
  s.writeTracked ini addr v fun s => if addr % 4 = 0 then s.mixWrite addr v else s

/-- Sn for the mixer: committed words are in force from block `n` on (R25, R181). -/
def State.mixBlock (s : State) (n : Nat) : State :=
  let p := s.mix.pend
  let s := s.when (!p.isEmpty) fun s => s.mixKeep n
  let s := p.foldl (fun s e => s.setMixLive e.1 e.2) (s.gainWords n p)
  { s with mix := { s.mix with pend := [] } }

/-! ## Meters (R162, R163) -/

/-- Address of a meter entry. -/
def meterAddr (m : Nat) : Nat := 0x06EF8000 + 16 * m

/-- A meter's own state. -/
def State.meter (s : State) (m : Nat) : MeterSt := Store.get (fun _ => ({} : MeterSt)) s.mix.meters m

/-- Put a meter's own state. -/
def State.setMeter (s : State) (m : Nat) (x : MeterSt) : State :=
  { s with mix := { s.mix with meters := Store.set (fun _ => ({} : MeterSt)) s.mix.meters m x } }

/-- CLIP clears and the hold restarts from the next block (R163). -/
def State.meterClear (s : State) (m : Nat) : State :=
  let a := meterAddr m + 4
  (s.putWord a (putFld (s.swz a) 0 16 0)).setMeter m { s.meter m with clr := true }

/-- A host write to the meter table (R163, R181). -/
def State.meterWrite (s : State) (a : Nat) (v : Word) : State :=
  let s := s.when (decide (a % 16 ≠ 0)) fun s => s.logWrite a v
  match a % 16 with
  | 4 => s.meterClear ((a - 0x06EF8000) / 16)
  | 8 => s.sramHostWrite a (v &&& 0x8FFF3FFF)
  | 12 => s.sramHostWrite a (v &&& 0x0007FFFF)
  | _ => s

/-- METER_CLEAR_WRITE (R163). -/
def execMeterClearWrite (ini : Initiator) (m : BitVec 11) (v : Word) (s : State) : Out :=
  s.writeTracked ini (meterAddr m.toNat + 4) v fun s => (s.meterClear m.toNat).logWrite (meterAddr m.toNat + 4) v

/-- A write of MIX_MTR_CTL (R163). -/
def State.mtrCtl (s : State) (v : Word) : State :=
  (if bitOf v 0 then s.each (List.range 2048) State.meterClear else s).logWrite Reg.MIX_MTR_CTL v

/-- MIX_MTR_CLR (R163). -/
def execMixMtrClr (ini : Initiator) (v : Word) (s : State) : Out := s.writeTracked ini Reg.MIX_MTR_CTL v fun s => s.mtrCtl v

/-- Whether a channel is a receive channel a meter may name: a slot of a receive lane, AES3, a receive stream or a fabric receive
channel (R161). -/
def State.rxMeter (s : State) (ch : Nat) : Bool :=
  (decide (ch < 1408) && !s.bitR (Reg.SAI_LANE_CFG (ch / 16)) 30) || (decide (1536 ≤ ch) && decide (ch < 1544)) ||
    (decide (2048 ≤ ch) && decide (ch < 3072)) || (decide (4096 ≤ ch) && decide (ch < 4608))

/-- The samples a feed's stage has put out for block `n`, once it has. -/
def stageOut (m : List (Nat × BusVal)) (b n f : Nat) : Option (List Int) :=
  if f < 384 ∧ m.any (fun e => decide (e.1 = busKey n f) && decide (e.2.blk = n)) then some (busAt m b n f) else none

/-- The samples a meter measures for block `n`, if it updates (R161). -/
def State.meterIn (s : State) (m n : Nat) : Option (List Int) :=
  let w2 := s.swz (meterAddr m + 8)
  let w3 := s.swz (meterAddr m + 12)
  let ix := fld w3 0 16
  let b := s.blk.b
  if !bitOf w2 31 then none
  else match fld w3 16 3 with
    | 0 =>
      let age := s.progOf n
      (match s.graphOf age with
      | some g => (nodeBus g 10 m).map fun bus => s.busOf age n bus
      | none => none)
    | 1 => stageOut s.mix.firOut b n ix
    | 2 => stageOut s.mix.brimOut b n ix
    | 3 => stageOut s.mix.ovrOut b n ix
    | 4 => if s.rxMeter ix then some (busAt s.mix.portIn b n ix) else none
    | _ => none

/-- A pair of mantissa and exponent as a number, and back. -/
def msFl (p : Int × Int) : Fl := .fin p.1 p.2

/-- The stored pair of a number. -/
def flMs : Fl → Int × Int
  | .fin m e => (m, e)
  | .inf neg => (if neg then -1 else 1, 4096)
  | .nan => (0, 0)

/-- One update of a meter from a block's samples (R162). -/
def State.meterUpdate (s : State) (m n : Nat) (l : List Int) : State :=
  let a := meterAddr m
  let w2 := s.swz (a + 8)
  let x := s.meter m
  let b := s.blk.b
  let fr := s.blk.fr
  let p := peakOf l
  let hold := ceilDiv (min (fld w2 0 14) 10000 * fr) (1000 * b)
  let rms := max 10 (min (fld w2 16 12) 3000)
  let restart := x.clr || decide (x.held ≤ p) || decide (hold ≤ x.run)
  let held := if restart then p else x.held
  let q := Fl.div f32 (fsum (l.map fun v => let y := Fl.ofInt f32 v (-31); Fl.mul f32 y y)) (Fl.ofInt f32 (b : Nat) 0)
  let tb := Fl.div f32 (Fl.ofInt f32 (b : Nat) 0) (Fl.ofInt f32 (fr : Nat) 0)
  let tau := Fl.div f32 (Fl.ofInt f32 (rms : Nat) 0) (Fl.ofInt f32 1000 0)
  let alpha := Fl.sub f32 fOne (Fl.exp f32 (Fl.div f32 tb tau).neg)
  let m0 := msFl x.ms
  let m1 := Fl.add f32 m0 (Fl.mul f32 alpha (Fl.sub f32 q m0))
  let rmsW : Int := if m1.isZero then -32768
    else (Fl.mul f32 (Fl.ofRat f32 30103 10000) (Fl.log2 f32 m1)).toFix 16 8
  let clips := (l.filter fun v => decide (v = 2147483647) || decide (v = -2147483648)).length
  let clip := satU 16 (fld (s.swz (a + 4)) 0 16 + clips)
  let s := s.putArray a (leBytes 2 (toBits 16 (dbOf held)) ++ leBytes 2 (toBits 16 rmsW) ++ leBytes 2 clip ++ leBytes 2 (n % 65536))
  s.setMeter m { held := held, run := if restart then 1 else x.run + 1, ms := flMs m1, clr := false }

/-- The words of a meter are checked: one with an uncorrectable word reinitialises (R37). -/
def State.meterScrub (s : State) (m : Nat) : State :=
  if s.sramBad.isEmpty then s
  else
    let bad := s.swBad (meterAddr m) || s.swBad (meterAddr m + 8)
    (s.slotScrub (meterAddr m) 16).when bad fun s => s.setMeter m {}

/-- The meters update from the samples of block `n`. -/
def State.metersBlock (s : State) (n : Nat) : State :=
  s.each (List.range 2048) fun s m =>
    let s := s.meterScrub m
    if bitOf (s.sw (meterAddr m + 8)) 31 then
      match s.meterIn m n with
      | some l => s.meterUpdate m n l
      | none => s
    else s

/-! ## Bridges (R168, R169) -/

/-- What the model holds of a bridge. -/
def State.bridge (s : State) (c : Nat) : BridgeSt := Store.get (fun _ => ({} : BridgeSt)) s.mix.bridges c

/-- Put what the model holds of a bridge. -/
def State.setBridge (s : State) (c : Nat) (x : BridgeSt) : State :=
  { s with mix := { s.mix with bridges := Store.set (fun _ => ({} : BridgeSt)) s.mix.bridges c x } }

/-- A sample enters a bridge at instant `t`: it holds the last 512. -/
def State.bridgeIn (s : State) (c t : Nat) (v : Int) : State :=
  if !s.bitR (Reg.MIX_BRG_STAT c) 31 then s
  else s.setBridge c { s.bridge c with inp := (v :: (s.bridge c).inp).take 512, inpAt := t }

/-- A bridge loses its lock and outputs zero (R169, R179). -/
def State.bridgeUnlock (s : State) (c : Nat) : State :=
  let r := Reg.MIX_BRG_STAT c
  if s.bitR r 29 then
    ((s.setBit r 29 false).setBridge c { s.bridge c with lock := false, ramp := 0 }).mixEvt 3 3 c s.blkNum
  else s

/-- A port bridge has ramped to zero for a Trail slot: PREEMPT sets (R168, R179). -/
def State.bridgeTaken (s : State) (c : Nat) : State :=
  let r := Reg.MIX_BRG_STAT c
  (((s.setBit r 29 false).setBit r 28 true).setBridge c { s.bridge c with lock := false, down := false, ramp := 0, take := false }).mixEvt
    4 4 c s.blkNum

/-- A Trail slot takes a bridge channel from its port: a locked bridge first ramps to zero over its next 32 samples; one that puts out
nothing (unlocked, or an input without a train) is taken at once (R168). -/
def State.bridgeTake (s : State) (c : Nat) : State :=
  let r := Reg.MIX_BRG_STAT c
  if !s.bitR r 31 then s
  else if (s.bridge c).lock ∧ (s.running ∨ s.bitR r 30) then
    s.setBridge c { s.bridge c with lock := false, down := true, ramp := 0, take := true }
  else s.bridgeTaken c

/-- A write of GNT_TSLOT_EN (R168): newly routed slots take their bridge channel from a port, others return it. -/
def State.tslotWrite (s : State) (v : Word) : State :=
  let old := s.reg Reg.GNT_TSLOT_EN
  let s := s.setReg Reg.GNT_TSLOT_EN (v &&& 0xFFF)
  s.each (List.range 12) fun s k =>
    let c := 116 + k
    if bitOf v k && !bitOf old k then s.bridgeTake c
    else if bitOf old k && !bitOf v k then
      ((s.setBit (Reg.MIX_BRG_STAT c) 28 false).setBit (Reg.MIX_BRG_STAT c) 29 false).setBridge c
        { s.bridge c with lock := false, down := false, ramp := 0, take := false }
    else s

/-- GNT_TSLOT_EN_WRITE (R168). -/
def execGntTslotEnWrite (ini : Initiator) (v : Word) (s : State) : Out :=
  .next (s.gwWrite ini Reg.GNT_TSLOT_EN fun s => s.tslotWrite v)

/-! ## The Trail (R170 to R175) -/

/-- The timeout of an entry with a change pending keeps counting from its first commit. -/
def firstFrom (l : List (Nat × Nat)) (i k : Nat) : List (Nat × Nat) := if l.any fun p => decide (p.1 = i) then l else l ++ [(i, k)]

/-- A commit of a zone bus: its four words wait for a zero crossing; a pending change is replaced (R173). -/
def State.zbCommit (s : State) (z : Nat) (v : Word) : State :=
  let s := s.setReg (Reg.GNT_ZB_ACT z) (v &&& 0xFF)
  let w : BusWords := ⟨v &&& 0xFF, s.reg (Reg.GNT_ZB_SRCLO z), s.reg (Reg.GNT_ZB_SRCHI z), s.reg (Reg.GNT_ZB_LEVEL z)⟩
  { s with trail := { s.trail with
    zbPend := (s.trail.zbPend.filter fun p => decide (p.1 ≠ z)) ++ [(z, w)]
    zbFrom := firstFrom s.trail.zbFrom z s.sai.gk } }

/-- ZONE_BUS_COMMIT (R173). -/
def execZoneBusCommit (ini : Initiator) (z : BitVec 8) (v : Word) (s : State) : Out :=
  .next (s.gwWrite ini (Reg.GNT_ZB_ACT z.toNat) fun s => s.zbCommit z.toNat v)

/-- A commit of a feed entry: its membership waits for a zero crossing, its OVR for 1.000 ms (R173, R178). -/
def State.tfCommit (s : State) (f : Nat) (v : Word) : State :=
  let s := s.setReg (Reg.GNT_TF_CTL f) (v &&& 0xFFFFFF3F)
  let z : FeedZones := ⟨s.reg (Reg.GNT_TF_ZONES f), fld v 0 4⟩
  { s with trail := { s.trail with
    tfPend := (s.trail.tfPend.filter fun p => decide (p.1 ≠ f)) ++ [(f, z)]
    tfFrom := firstFrom s.trail.tfFrom f s.sai.gk
    ovrPend := s.trail.ovrPend ++ [(f, (fld v 4 2, sfld v 8 24, s.now))] } }

/-- FEED_ENTRY_COMMIT (R173). -/
def execFeedEntryCommit (ini : Initiator) (f : BitVec 9) (v : Word) (s : State) : Out :=
  .next (s.gwWrite ini (Reg.GNT_TF_CTL f.toNat) fun s => if f.toNat < 384 then s.tfCommit f.toNat v else s)

/-- The switches of the last 5 ms, with one more. -/
def State.switched (s : State) (h : TrailSw) : List TrailSw :=
  (s.trail.hist.filter fun x => decide (s.gNow < x.at_ + 5000000)) ++ [h]

/-- The source and level of a zone bus's setting. -/
def BusWords.out (w : BusWords) : Option (Nat × Int) := w.sel.map fun p => (p.2, sfld w.level 0 24)

/-- A staged change applies at the present domain-G sample: the old output is zero, has changed its sign, or GNT_ZXTO samples have
passed since the first commit (R173). -/
def State.crossed (s : State) (y0 y1 : Int) (from_ : Option Nat) : Bool :=
  decide (y0 = 0) || decide (y0 * y1 < 0) || decide (s.fldR Reg.GNT_ZXTO 0 8 ≤ s.sai.gk - from_.getD s.sai.gk)

/-- The sources of the latest domain-G sample or the one before it; zeros where there is none. -/
def State.gsrcAt (s : State) (i : Nat) : List Int := (nth s.sai.gsrc i ⟨0, []⟩).src

/-- The instant of the domain-G sample before the latest. -/
def State.gPrev (s : State) : Int := ((nth s.sai.gsrc 1 ⟨0, []⟩).at_ : Int)

/-- The number of the entry in a list of pending changes, with its value. -/
def pendOf {α : Type} (l : List (Nat × α)) (k : Nat) : Option α := (l.find? fun p => decide (p.1 = k)).map (·.2)

/-- The duck gain now. -/
def OvrSt.cur (o : OvrSt) : Int :=
  if o.dn = 0 ∨ o.dn ≤ o.di then o.d1 else if o.di = 0 then o.d0 else ampRamp o.d0 o.d1 (o.di - 1) o.dn

/-- The duck gain of the next sample: a change of routing or DUCK_GAIN starts a ramp of `n` samples (R177). -/
def OvrSt.duckStep (o : OvrSt) (routed : Bool) (n : Nat) : OvrSt :=
  let tgt : Int := if routed then o.duck else 2 ^ 22
  let o := if tgt = o.d1 then o else { o with d0 := o.cur, d1 := tgt, dn := n, di := 0 }
  { o with di := min (o.di + 1) o.dn }

/-- The duck gain as it stands at instant `t`, while no block of a train moves it: its ramp goes on, and a change of routing starts one
(R177). -/
def OvrSt.duckIdle (o : OvrSt) (routed : Bool) (n fr t : Nat) : OvrSt :=
  let o := { o with di := min o.dn (o.di + (t - o.dT) * fr / 1000000000), dT := t }
  let tgt : Int := if routed then o.duck else 2 ^ 22
  if tgt = o.d1 then o else { o with d0 := o.cur, d1 := tgt, dn := n, di := 0 }

/-- What a setting outputs (R177). -/
def ovrOutput (ovr : Nat) (r t d : Int) : Int :=
  if ovr = 0 then r else if ovr = 1 then satN 32 (rndShift (r * d) 22 + t) else t

/-- A committed OVR change applies: the crossfade starts (R178). -/
def OvrSt.apply (o : OvrSt) (ovr : Nat) (duck : Int) : OvrSt :=
  if ovr = o.ovr then { o with duck := duck } else { o with duck := duck, old := o.ovr, ovr := ovr, fadeAt := some 0 }

/-- A feed at the override stage. -/
def State.ovrSt (s : State) (f : Nat) : OvrSt := Store.get (fun _ => ({} : OvrSt)) s.trail.ovr f

/-- Put a feed at the override stage. -/
def State.setOvr (s : State) (f : Nat) (o : OvrSt) : State :=
  { s with trail := { s.trail with ovr := Store.set (fun _ => ({} : OvrSt)) s.trail.ovr f o } }

/-- The duck gains of the feeds of some membership without a running train, which no block moves (R177): as they stand at instant `t`. -/
def State.ducksIdle (s : State) (t : Nat) : State :=
  let n := rampLen (min (s.fldR Reg.GNT_DUCK_RAMP 0 11) 2000) s.blk.fr
  s.each ((s.trail.tf.map (·.1)) ++ (s.trail.ovr.map (·.1))).eraseDups fun s f =>
    s.setOvr f ((s.ovrSt f).duckIdle ((s.tf f).sel s.zb).isSome n s.blk.fr t)

/-- A train starts: each duck gain stands where its ramp has come to by its first sample, and a crossfade from before the train is over
(R177, R178). -/
def State.ovrStart (s : State) : State :=
  let t := s.ducksIdle (s.blk.t0 + 3 * s.blk.b * 1000000000 / s.blk.fr)
  { t with trail := { t.trail with ovr := t.trail.ovr.map fun (e : Nat × OvrSt) => (e.1, { e.2 with fadeAt := none }) } }

/-- A train ends: from now on no block moves the duck gains. -/
def State.ovrStop (s : State) : State :=
  { s with trail := { s.trail with ovr := s.trail.ovr.map fun (e : Nat × OvrSt) => (e.1, { e.2 with dT := s.gNow }) } }

/-- A zone bus's staged change applies if its condition holds at the present sample. -/
def State.zbSwitch (s : State) (k : Nat) : State :=
  match pendOf s.trail.zbPend k with
  | none => s
  | some w =>
    let o := (s.zb k).out
    if s.crossed (trailOut o (s.gsrcAt 0)) (trailOut o (s.gsrcAt 1)) (pendOf s.trail.zbFrom k) then
      { s with trail := { s.trail with
        zb := Store.set (fun _ => ({} : BusWords)) s.trail.zb k w
        zbPend := s.trail.zbPend.filter fun x => decide (x.1 ≠ k)
        zbFrom := s.trail.zbFrom.filter fun x => decide (x.1 ≠ k)
        hist := s.switched ⟨s.gNow, false, k, s.zb k, {}⟩ } }
    else s

/-- A feed's staged membership applies if its condition holds at the present sample, against the buses as switched. -/
def State.tfSwitch (s : State) (k : Nat) : State :=
  match pendOf s.trail.tfPend k with
  | none => s
  | some z =>
    let old := s.tf k
    if s.crossed (trailOut (old.sel s.zb) (s.gsrcAt 0)) (trailOut (old.sel fun z => s.zbAt z s.gPrev) (s.gsrcAt 1)) (pendOf s.trail.tfFrom k) then
      { s with trail := { s.trail with
        tf := Store.set (fun _ => ({} : FeedZones)) s.trail.tf k z
        tfPend := s.trail.tfPend.filter fun x => decide (x.1 ≠ k)
        tfFrom := s.trail.tfFrom.filter fun x => decide (x.1 ≠ k)
        hist := s.switched ⟨s.gNow, true, k, {}, old⟩ } }
    else s

/-- Every staged change that is due applies: buses first, then feeds. -/
def State.trailSwitches (s : State) : State :=
  let s1 := s.each (s.trail.zbPend.map (·.1)) State.zbSwitch
  let s2 := s1.each (s1.trail.tfPend.map (·.1)) State.tfSwitch
  s2.when (!s2.running && decide (s2.trail.hist.length ≠ s.trail.hist.length)) fun t => t.ducksIdle t.gNow

/-- TRAIL_SWITCH (R173): the staged change of an entry applies, if the condition of R173 holds at the latest domain-G sample. -/
def execTrailSwitch (isFeed : Bool) (i : BitVec 9) (s : State) : Out :=
  .next ((if isFeed then s.tfSwitch i.toNat else s.zbSwitch i.toNat).when (!s.running) fun t => t.ducksIdle t.gNow)

/-! ## The override stage (R176 to R178) -/

/-- Ramp gain of sample `k` (R55): 1 down, 2 up, otherwise unity. -/
def rampGain (ramp b k : Nat) : Int :=
  if ramp = 1 then (((b - 1 - k) * 2 ^ 22 / b : Nat) : Int) else if ramp = 2 then (((k + 1) * 2 ^ 22 / b : Nat) : Int) else 2 ^ 22

/-- One output sample of a feed: the setting, the crossfade and the ramp (R55, R56, R177, R178). -/
def ovrSample (o : OvrSt) (ramp b k m : Nat) (r t : Int) : Int :=
  let g := rampGain ramp b k
  let rg := if ramp = 0 then r else mulSat32 r g 22
  let one (ovr : Nat) : Int :=
    let y := ovrOutput ovr rg t o.cur
    if ramp = 2 ∧ ovr = 0 then satN 32 (y + mulSat32 t (2 ^ 22 - g) 22) else y
  match o.fadeAt with
  | some i => if i < m then fadeMix (one o.old) (one o.ovr) (fadeW i m) else one o.ovr
  | none => one o.ovr

/-- The samples of a feed's block at the override stage: `sel k` is what the Trail routes at sample `k`, `due k` the
changes committed by then. -/
def ovrGo (duckN ramp b m : Nat) (trail : Nat → Option Int) (due : Nat → List (Nat × Int)) :
    List Int → Nat → OvrSt → List Int → OvrSt × List Int
  | [], _, o, acc => (o, acc.reverse)
  | r :: rs, k, o, acc =>
    let o := (due k).foldl (fun o e => o.apply e.1 e.2) o
    let o := o.duckStep (trail k).isSome duckN
    let y := ovrSample o ramp b k m r ((trail k).getD 0)
    let o := { o with fadeAt := o.fadeAt.bind fun i => if i + 1 < m then some (i + 1) else none }
    ovrGo duckN ramp b m trail due rs (k + 1) o (y :: acc)

/-- The instant at which sample `k` of block `n` leaves (R26). -/
def State.outInstant (s : State) (n k : Nat) : Nat := s.blk.t0 + ((n + 3) * s.blk.b + k) * 1000000000 / s.blk.fr

/-- The Trail part of feed `f` at sample `k` of block `n`, where something is routed (R176); `src` gives the source samples of a
crossing that converts. -/
def State.trailPart (s : State) (src : List (Nat × List Int)) (f n k : Nat) : Option Int :=
  let u : Int := (s.outInstant n k : Int) - 1000000
  (s.feedSel f (s.gInst u)).map fun p =>
    let x := s.crossIn p.1 u (((src.find? fun e => decide (e.1 = p.1)).map fun e => nth e.2 k 0).getD 0)
    satN 32 (rndShift (x * p.2) 22)

/-- The override stage of feed `f` for block `n`: its samples before and after a late block's substitute (R231). -/
def State.ovrFeed (s : State) (f n : Nat) (src : List (Nat × List Int)) (r : List Int) (ramp : Nat) (late : Bool) : State × List Int :=
  let b := s.blk.b
  let ms := min (s.fldR Reg.GNT_DUCK_RAMP 0 11) 2000
  let mine := s.trail.ovrPend.filter fun p => decide (p.1 = f)
  let at_ (k : Nat) : List (Nat × (Nat × Int × Nat)) := mine.filter fun p => decide (p.2.2.2 + 1000000 ≤ s.outInstant n k)
  let due (k : Nat) : List (Nat × Int) :=
    ((at_ k).drop (if k = 0 then 0 else (at_ (k - 1)).length)).map fun p => (p.2.1, p.2.2.1)
  let tp := s.trailPart src f n
  let (o, y) := ovrGo (rampLen ms s.blk.fr) ramp b (s.blk.fr / 3000) tp due (blockOf b r) 0 (s.ovrSt f) []
  let last := (busAt s.mix.ovrOut b (n - 1) f).getLast?.getD 0
  let h := if n = 0 then 0 else last
  let y := if late then
      (if (tp 0).isSome || decide (2 ≤ o.ovr) then (List.range b).map fun k => (tp k).getD 0
       else (List.range b).map fun k => mulSat32 h (rampGain 1 b k) 22)
    else y
  let gone := (at_ (b - 1)).length
  let rest := s.trail.ovrPend.filter fun p => decide (p.1 ≠ f)
  let s := (s.setOvr f o)
  ({ s with
    trail := { s.trail with ovrPend := rest ++ mine.drop gone }
    mix := { s.mix with ovrOut := busPut s.mix.ovrOut n f y } }, y)

/-- OVR_APPLY (R178): a change committed 1.000 ms ago applies where no block has taken it yet. -/
def execOvrApply (f : BitVec 9) (s : State) : Out :=
  .next <|
    match s.trail.ovrPend.find? fun p => decide (p.1 = f.toNat) with
    | none => s
    | some p =>
      let o := (s.ovrSt f.toNat).apply p.2.1 p.2.2.1
      let s1 := s.setOvr f.toNat o
      { s1 with trail := { s1.trail with ovrPend := s1.trail.ovrPend.erase p } }

end Sys2Proof.Machine
end

