-- ==== Sys2Proof/Machine/Recorder.lean ====
section
/-!
DEFINITION. The event recorder (R454 to R472): the record's bytes, programming with read-back, the search after a
power-on Gauntlet reset, erasure, submissions, fetches and the DRAM mirror.
-/
namespace Sys2Proof.Machine

/-- CRC-16 of R457: polynomial 0x1021, most significant bit first, initial value 0xFFFF. -/
def crc16 (bs : List Byte) : Nat :=
  bs.foldl (fun c b =>
    (List.range 8).foldl (fun c _ => if c.testBit 15 then (c * 2 % 65536) ^^^ 0x1021 else c * 2 % 65536)
      (c ^^^ (b.toNat * 256))) 0xFFFF

/-- The 32 bytes of a record (R456, R457). -/
def RecEntry.bytes (r : RecEntry) : List Byte :=
  let body := leBytes 6 (r.total / 1000000000) ++ leBytes 4 (r.total % 1000000000) ++ [b8 r.src, b8 r.code] ++
    leBytes 2 r.count ++ [b8 r.flags, 0] ++ padTo 12 r.data ++ leBytes 2 r.seq
  body ++ leBytes 2 (crc16 body)

/-- First byte of the region in the Gauntlet flash (R454). -/
def State.recBase (s : State) : Nat := (s.reg Reg.REC_BASE).toNat * 64

/-- Slots of the region. -/
def State.recSlots (s : State) : Nat := (s.reg Reg.REC_SIZE).toNat

/-- The next slot. -/
def State.recNext (s : State) : Nat := (s.reg Reg.REC_NEXT).toNat

/-- The bytes of a slot. -/
def State.recSlot (s : State) (i : Nat) : List Byte := s.gflashBytes (s.recBase + 32 * i) 32

/-- A slot is copied to the DRAM mirror once DRAM is trained and MEMPLAN names one (R469). -/
def State.recMirror (s : State) (i : Nat) : State :=
  let m := (s.reg Reg.REC_MIR_BASE).toNat
  if s.drc.trained ∧ m ≠ 0 then s.dramWrite .recorder (m * 64 + 32 * i) (s.recSlot i) else s

/-- Every slot below REC_NEXT is copied and MIR_VALID sets (R469). -/
def State.recMirrorAll (s : State) : State :=
  if s.drc.trained ∧ (s.reg Reg.REC_MIR_BASE).toNat ≠ 0 ∧ s.log.searching = false then
    (s.each (List.range s.recNext) State.recMirror).setBit Reg.REC_STATUS 11 true
  else s

/-- Records were lost to a full queue: a LOST record follows as soon as there is room (R462). -/
def State.recLostRec (s : State) : State :=
  if s.log.lostRun = 0 ∨ 64 ≤ s.log.queue.length then s
  else
    let r := s.recOwn 0x41 s.log.lostRun
    ({ s with log := { s.log with lostRun := 0 } } : State).recCommit r

/-- The read-back of the slot just written (R464, R466): `back` is what it reads. -/
def State.recProgram (s : State) (back : List Byte) : State :=
  match s.log.queue with
  | [] => s
  | r :: rest =>
    if s.log.searching || s.log.erasing || !(decide (s.recState = 1) || decide (s.recState = 2)) then s else
    let slot := s.recNext
    let back := padTo 32 back
    let s1 := (s.putGflash (s.recBase + 32 * slot) back).recMirror slot
    let last := decide (s.recState = 2)
    let s1 := if last then s1 else s1.setReg Reg.REC_NEXT (w32 (slot + 1))
    if back = r.bytes then
      ({ s1 with log := { s1.log with queue := rest, mism := 0 } } : State).recLostRec.recFull
    else
      let k := s1.log.mism + 1
      let s2 : State := { s1 with log := { s1.log with mism := k, queue := if last then [] else r :: rest } }
      let s3 := ((s2.evt Reg.REC_EVT 2).raiseDet 0x1C 0x11 (leBytes 4 slot ++ [b8 k])).gntFault 0
      if 3 ≤ k then
        let lost := s3.log.queue.length
        let s4 := (s3.setFld Reg.REC_STATUS 0 2 3).count Reg.REC_LOST lost
        { s4.evt Reg.REC_EVT 0 with log := { s4.log with queue := [], mism := 0 } }
      else s3.recFull

/-- REC_PROGRAM_DONE (R461, R466). -/
def execRecProgramDone (readBack : List Byte) (s : State) : Out := .next (s.recProgram readBack)

/-- The highest slot that is not erased, plus one (R465). -/
def State.recUsed (s : State) : Nat :=
  let b := s.recBase
  s.gflash.foldl (fun m e => if b ≤ e.1 ∧ e.1 < b + 32 * s.recSlots then max m ((e.1 - b) / 32 + 1) else m) 0

/-- Whether a slot holds a valid record (R470). -/
def validRec (bs : List Byte) : Bool := decide (crc16 (bs.take 30) = leAt bs 30 2) && bs.any (fun b => decide (b ≠ 0xFF))

/-- The SEQ with which the counter resumes (R465): after the last valid record below slot `n`. -/
def State.recResume (s : State) : Nat → Nat
  | 0 => 0
  | n + 1 => if validRec (s.recSlot n) then (leAt (s.recSlot n) 28 2 + 1) % 65536 else s.recResume n

/-- REC_SEARCH_DONE (R465): the next slot, the state, and the SEQ of the records that waited. -/
def execRecSearchDone (s : State) : Out :=
  .next <|
    if s.log.searching then
      let used := s.recUsed
      let base := s.recResume used
      let n := s.recSlots
      let full := decide (used = n)
      let q := s.log.queue.map fun (r : RecEntry) => { r with seq := (r.seq + base) % 65536 }
      let s1 : State := { s with log := { s.log with searching := false, queue := q } }
      let s2 := ((s1.setReg Reg.REC_NEXT (w32 used)).setReg Reg.REC_SEQ (w32 ((s.fldR Reg.REC_SEQ 0 16 + base) % 65536))).setFld
        Reg.REC_STATUS 0 2 (if full then 2 else 1)
      let s3 : State := if full then
          { (s2.count Reg.REC_LOST q.length).when (!q.isEmpty) (fun s => s.evt Reg.REC_EVT 0) with log := { s2.log with queue := [] } }
        else s2
      (s3.recMirrorAll).recFull
    else s

/-- REC_ERASE_DONE (R464, R467): the region is erased; CLEAR comes first. -/
def execRecEraseDone (s : State) : Out :=
  .next <|
    if s.log.erasing then
      let b := s.recBase
      let s1 : State := { s with
        gflash := Store.clear (fun a => decide (b ≤ a) && decide (a < b + 32 * s.recSlots)) s.gflash
        log := { s.log with erasing := false, mism := 0 } }
      if 2 ≤ s1.recSlots then
        let clr := s1.recOwn 0x40 (s1.reg Reg.REC_LOST).toNat
        let s2 := ((s1.recSeq.setReg Reg.REC_LOST 0).setReg Reg.REC_NEXT 0).setFld Reg.REC_STATUS 0 2 1
        ({ s2 with log := { s2.log with queue := clr :: s2.log.queue } } : State).recFull
      else s1
    else s

/-- REC_WINDOW_EXPIRY (R460): the open record's window is reached. -/
def execRecWindowExpiry (s : State) : Out :=
  .next <|
    match s.log.opened with
    | none => s
    | some r => (s.advanceTo (r.total + r.win)).recCommitOpen

/-- A write of REC_SUBMIT (R468). -/
def State.recSubmit (s : State) (v : Word) : State :=
  if bitOf v 31 then
    if fld v 0 8 < 0x80 ∨ s.log.tokens = 0 then (s.count Reg.REC_SUB_DROP 1).evt Reg.REC_EVT 3
    else
      let data := leBytes 4 (s.reg 0xE00020).toNat ++ leBytes 4 (s.reg 0xE00024).toNat ++ leBytes 4 (s.reg 0xE00028).toNat
      ({ s with log := { s.log with tokens := s.log.tokens - 1 } } : State).recEvent 0x14 (fld v 0 8) data true
  else s

/-- REC_SUBMIT. -/
def execRecSubmit (ini : Initiator) (v : Word) (s : State) : Out := s.access ini Reg.REC_SUBMIT fun s => s.recSubmit v

/-- A write of REC_RD_SLOT starts a fetch (R469). -/
def State.recFetchGo (s : State) (v : Word) : State :=
  let s1 := (s.setReg Reg.REC_RD_SLOT (v &&& 0xFFFFF)).setReg Reg.REC_RD_STAT 0
  { s1 with log := { s1.log with fetch := some (fld v 0 20) } }

/-- REC_FETCH. -/
def execRecFetch (ini : Initiator) (v : Word) (s : State) : Out := s.access ini Reg.REC_RD_SLOT fun s => s.recFetchGo v

/-- REC_FETCH_DONE (R469): a slot of the region; the bytes of any other slot are a free value. -/
def execRecFetchDone (s : State) : Out :=
  .next <|
    match s.log.fetch with
    | none => s
    | some slot =>
      let known := decide (slot < s.recSlots)
      let bs := if known then s.recSlot slot else leBytes 32 s.freeNat
      let s1 : State := { (if known then s else s.draw) with log := { s.log with fetch := none } }
      let s2 := s1.each (List.range 8) fun s i => s.setReg (0xE00040 + 4 * i) (w32 (leAt bs (4 * i) 4))
      s2.setReg Reg.REC_RD_STAT (w32 (1 + 2 * (bs.all fun b => decide (b = 0xFF)).toNat))

/-- REC_TOKEN_REFILL (R468): one token, up to 16. -/
def execRecTokenRefill (s : State) : Out :=
  .next { s with log := { s.log with tokens := min 16 (s.log.tokens + 1) } }

/-- The recorder at a power-on Gauntlet reset (R454, R465, R467): registers, region and window from the directory
at the start of the Gauntlet flash; the search starts where the region has two slots or more. -/
def State.recPowerOn (s : State) (off total rwin : Nat) (valid : Bool) : State :=
  let n := if valid && decide (64 ≤ total) then min (total / 32) 524288 else 0
  let win := if rwin.testBit 31 && decide (rwin % 65536 ≤ 60000) then rwin % 65536 else 1000
  let s1 := s.resetRange 0xE00000 0xF00000
  let s2 := ((s1.setReg Reg.REC_BASE (w32 (if valid then off else 0))).setReg Reg.REC_SIZE (w32 n)).setReg Reg.REC_WINDOW (w32 win)
  { s2 with log := { searching := decide (2 ≤ n) } }

end Sys2Proof.Machine
end

