-- ==== Sys2Proof/Machine/Time.lean ====
section
/-!
DEFINITION. The time base (R392 to R410): the counter's ticks, sets and steering, the comparators' instants, the
pulse outputs and the PTP servo.
-/
namespace Sys2Proof.Machine

/-- Saturate to 32 bits and give the word. -/
def sat32W (z : Int) : Word := i32 (satN 32 z)

/-- A record of R409. -/
def State.timNote (s : State) (kind : Nat) (v : Int) : State :=
  s.note 0x04 0x40 ([b8 kind, b8 (s.fldR Reg.TIM_SERVO_STAT 0 3), b8 (s.fldR Reg.TIM_SERVO_STAT 4 3), 0] ++
    leBytes 4 (sat32W v).toNat ++ leBytes 4 (s.reg Reg.TIM_MPD).toNat)

/-- An event of TIM_EVT whose first setting is recorded (R409). -/
def State.timEvtFirst (s : State) (bit kind : Nat) : State :=
  if s.bitR Reg.TIM_EVT bit then s else (s.evt Reg.TIM_EVT bit).timNote kind 0

/-- Whether an initiator may steer or set the counter now; otherwise its write is dropped (R399). -/
def State.timGuard (s : State) (ini : Initiator) (f : State → State) : State :=
  if s.bitR Reg.TIM_SERVO_STAT 31 && decide (ini ≠ .service) then s.evt Reg.TIM_EVT 7 else f s

/-! ## Comparators (R404) -/

/-- V of a comparator: tag and nanoseconds. -/
def State.cmpV (s : State) (i : Nat) : Nat := s.fldR (Reg.TIM_CMP_CFG i) 0 4 * 2 ^ 32 + (s.reg (Reg.TIM_CMP_VAL i)).toNat

/-- Put V. -/
def State.setCmpV (s : State) (i v : Nat) : State :=
  (s.setReg (Reg.TIM_CMP_VAL i) (w32 v)).setFld (Reg.TIM_CMP_CFG i) 0 4 (v / 2 ^ 32)

/-- A comparator is armed. -/
def State.cmpEn (s : State) (i : Nat) : Bool := s.bitR (Reg.TIM_CMP_CFG i) 31

/-- `C` has reached or passed `V` (R404). -/
def passed (c v : Nat) : Bool := decide ((c + 2 ^ 36 - v % 2 ^ 36) % 2 ^ 36 < 2 ^ 35)

/-- An armed comparator is due. -/
def State.cmpDue (s : State) (i : Nat) : Bool := s.cmpEn i && passed s.int36 (s.cmpV i)

/-- The periods that a match skips: the new V, and how many further additions it took (R404). -/
def cmpNext (c v per : Nat) : Nat × Nat :=
  let v1 := (v + per) % 2 ^ 36
  let behind := (c + 2 ^ 36 - v1) % 2 ^ 36
  if passed c v1 then ((v1 + (behind / per + 1) * per) % 2 ^ 36, behind / per + 1) else (v1, 0)

/-- The comparator's own part of a match: its event, and V or EN after it (R404). -/
def State.cmpFire (s : State) (i : Nat) : State :=
  let s1 := s.evt Reg.TIM_CMP_EVT i
  let per := (s.reg (Reg.TIM_CMP_PER i)).toNat
  if per = 0 then s1.setBit (Reg.TIM_CMP_CFG i) 31 false
  else
    let (v, k) := cmpNext s.int36 (s.cmpV i) per
    (s1.setCmpV i v).count Reg.TIM_CMP_SKIPS k

/-- The full time whose 36-bit integer part is `v` and which is nearest to now. -/
def State.fullOf (s : State) (v : Nat) : Nat :=
  let d := (v + 2 ^ 36 - s.int36) % 2 ^ 36
  if d < 2 ^ 35 then s.now + d else s.now + d - 2 ^ 36

/-! ## Pulse outputs (R408) -/

/-- The pulse outputs that follow comparator `i` become active at its match. -/
def State.pulseStart (s : State) (i : Nat) : State :=
  s.each (List.range 4) fun s k =>
    let w := s.reg (Reg.TIM_PULSE_CFG k)
    if bitOf w 31 ∧ fld w 0 4 = i ∧ fld w 8 20 ≠ 0 then
      { s with tim := { s.tim with pulse := putNth s.tim.pulse k (some (s.now + fld w 8 20 * 1000)) } }
    else s

/-- A pulse output returns inactive. -/
def State.pulseStop (s : State) (k : Nat) : State :=
  { s with tim := { s.tim with pulse := putNth s.tim.pulse k none } }

/-- The level of TIME_PULSE[k]: active level under POL (R408). -/
def State.pulsePin (s : State) (k : Nat) : Bool :=
  let w := s.reg (Reg.TIM_PULSE_CFG k)
  let on := bitOf w 31 && decide (fld w 8 20 ≠ 0) && (nth s.tim.pulse k none).isSome
  on != bitOf w 4

/-- PULSE_END (R408): WIDTH µs have passed since the match. -/
def execPulseEnd (k : BitVec 2) (s : State) : Out :=
  .next <|
    match nth s.tim.pulse k.toNat none with
    | none => s
    | some t => (s.advanceTo t).pulseStop k.toNat

/-- A write of TIM_PULSE_CFG(k): without EN or WIDTH the pin is inactive. -/
def State.pulseCfg (s : State) (k : Nat) (v : Word) : State :=
  let s := s.setReg (Reg.TIM_PULSE_CFG k) (v &&& 0x8FFFFF1F)
  if bitOf v 31 ∧ fld v 8 20 ≠ 0 then s else s.pulseStop k

/-! ## The counter (R392 to R398) -/

/-- One CLK_PER tick of the accumulator, the third included; TIM_ERA and WRAP follow (R392, R394). -/
def State.tick (s : State) : State :=
  let third := if s.bitR Reg.TIM_CTL 0 && decide (s.tim.phase = 2) then 1 else 0
  let a := s.tim.acc + (s.reg Reg.TIM_INC).toNat + third
  let s1 : State := { s with tim := { s.tim with acc := a % 2 ^ 60, phase := (s.tim.phase + 1) % 3 } }
  let s2 := if 2 ^ 60 ≤ a then s1.setReg Reg.TIM_ERA (w32 ((s.fldR Reg.TIM_ERA 0 28 + 1) % 2 ^ 28)) else s1
  if s.tim.acc / 2 ^ 56 ≠ a / 2 ^ 56 then s2.evt Reg.TIM_EVT 0 else s2

/-- Put the counter to a new full time: SET, its record (R396, R409). -/
def State.setCounter (s : State) (t : Nat) : State :=
  ((s.setTime t).evt Reg.TIM_EVT 1).timNote 1 ((t : Int) - (s.now : Int))

/-- A write of TIM_CMD (R396, R399). -/
def State.timCmd (s : State) (ini : Initiator) (v : Word) : State :=
  s.timGuard ini fun s =>
    if bitOf v 0 then
      s.setCounter (s.fldR Reg.TIM_SET_ERA 0 28 * 2 ^ 36 + s.fldR Reg.TIM_SET_TAG 0 4 * 2 ^ 32 + (s.reg Reg.TIM_SET_NS).toNat)
    else s

/-- A write of TIM_INC (R397). -/
def State.timInc (s : State) (ini : Initiator) (v : Word) : State :=
  s.timGuard ini fun s =>
    if v.toNat < 85250000 then (s.setReg Reg.TIM_INC (w32 85250000)).timEvtFirst 2 4
    else if 85416667 < v.toNat then (s.setReg Reg.TIM_INC (w32 85416667)).timEvtFirst 2 4
    else s.setReg Reg.TIM_INC v

/-- TIM_INC_WRITE (R397). -/
def execTimIncWrite (ini : Initiator) (v : Word) (s : State) : Out := s.access ini Reg.TIM_INC fun s => s.timInc ini v

/-- ROOT_FRAC takes a word, limited; without a train GPLL takes it at once (R21, R398). -/
def State.rootFrac (s : State) (ini : Initiator) (v : Word) : State :=
  s.timGuard ini fun s =>
    let z := v.toInt
    let lim : Int := max (-219902326) (min z 219902326)
    let s := s.setReg Reg.ROOT_FRAC (i32 lim)
    let s := if lim = z then s else s.timEvtFirst 3 5
    { s with tim := { s.tim with
      gpllFrac := if s.running || !s.rootUp then s.tim.gpllFrac else lim
      servo := if ini = .service then { s.tim.servo with fracs := (s.tim.servo.fracs ++ [lim]).drop (s.tim.servo.fracs.length - 15) }
        else s.tim.servo } }

/-- ROOT_FRAC_WRITE (R398). -/
def execRootFracWrite (ini : Initiator) (v : Word) (s : State) : Out := s.access ini Reg.ROOT_FRAC fun s => s.rootFrac ini v

/-- A read of TIM_NS latches the tag and the era (R393). -/
def State.nsRead (s : State) : State × Word :=
  ((s.setReg Reg.TIM_TAG (w32 (s.int36 / 2 ^ 32))).setReg Reg.TIM_ERA_LAT (s.reg Reg.TIM_ERA), w32 s.int36)

/-- TIM_NS_READ (R393). -/
def execTimNsRead (ini : Initiator) (s : State) : Out :=
  s.readRow ini Reg.TIM_NS State.nsRead

/-- TIM_WRAP (R394): the counter reaches the next wrap of TIM_NS. -/
def execTimWrap (s : State) : Out := .next (s.advanceTo ((s.now / 2 ^ 32 + 1) * 2 ^ 32))

/-- A write of TIM_CMP_CFG(i): setting EN arms, and V already passed sets CMP_LATE (R405). -/
def State.cmpCfg (s : State) (i : Nat) (v : Word) : State :=
  let was := s.cmpEn i
  let s := s.setReg (Reg.TIM_CMP_CFG i) (v &&& 0x8000000F)
  if bitOf v 31 && !was && passed s.int36 (s.cmpV i) then s.evt Reg.TIM_EVT 6 else s

/-- CMP_ARM (R405). -/
def execCmpArm (ini : Initiator) (i : BitVec 4) (v : Word) (s : State) : Out :=
  s.access ini (Reg.TIM_CMP_CFG i.toNat) fun s => s.cmpCfg i.toNat v

/-- After an automatic start the service arms the comparator that START_CMP names, unless it is enabled: every 2 ms on the
grid of the counter; `rec`: without the lock of the PTP service (R528). -/
def State.armStart (s : State) (rec : Bool) : State :=
  let i := s.fldR Reg.RND_BLK_CTL 0 4
  let s1 := { s with mode := { s.mode with auto := false, autoWait := false } }
  if s1.cmpEn i then s1
  else
    let v := (s1.now + 1000000 + 1999999) / 2000000 * 2000000 % 2 ^ 36
    let s2 := ((s1.setReg (Reg.TIM_CMP_PER i) (w32 2000000)).setCmpV i v).cmpCfg i (w32 (2 ^ 31 + v / 2 ^ 32))
    s2.when rec fun s => s.note 0x14 0x40 (b8 4 :: List.replicate 11 0)

/-! ## The PTP servo (R400, R402, R403) -/

/-- While a train runs, a PTP service that runs holds TIM_INC at its nominal value with THIRD = 1 (R400). -/
def State.ptpHold (s : State) : State :=
  if s.running && s.bitR Reg.TIM_SERVO_STAT 31 then (s.setReg Reg.TIM_INC 0x05161555).setBit Reg.TIM_CTL 0 true else s

/-- STATE of TIM_SERVO_STAT: 0 FREE, 1 ACQUIRE, 2 LOCKED, 3 HOLDOVER. -/
def State.servo (s : State) : Nat := s.fldR Reg.TIM_SERVO_STAT 0 3

/-- The servo changes its state; the change is recorded, and HOLDOVER's entry sets its event (R402). -/
def State.servoTo (s : State) (st hold : Nat) : State :=
  let s1 := s.setFld Reg.TIM_SERVO_STAT 8 4 hold
  if s.servo = st then s1
  else
    let s2 := (s1.setFld Reg.TIM_SERVO_STAT 0 3 st).when (decide (st = 3)) fun s => s.evt Reg.TIM_EVT 5
    let s3 : State := { s2 with tim := { s2.tim with servo := { s2.tim.servo with good := 0, bad := 0 } } }
    (s3.timNote 2 (s3.reg Reg.TIM_OFFSET).toInt).when (decide (st = 2) && s.mode.autoWait) fun s => s.armStart false

/-- The mean of a list of integers, half to even. -/
def meanI (l : List Int) : Int := if l.isEmpty then 0 else rndDiv (l.foldl (· + ·) 0) l.length

/-- HOLDOVER: ROOT_FRAC is held at the mean of the last 16 values written (R402); GPLL copies it as it copies any word (R21). -/
def State.servoHold (s : State) (hold : Nat) : State :=
  let m := if s.tim.servo.fracs.isEmpty then (s.reg Reg.ROOT_FRAC).toInt else meanI s.tim.servo.fracs
  let s1 := s.setReg Reg.ROOT_FRAC (i32 m)
  let s2 : State := { s1 with tim := { s1.tim with
    servo := { s1.tim.servo with held := m }, gpllFrac := if s1.running || !s1.rootUp then s1.tim.gpllFrac else m } }
  s2.servoTo 3 hold

/-- Put the servo's own memory of path delays. -/
def State.setMpds (s : State) (l : List Int) : State :=
  { s with tim := { s.tim with servo := { s.tim.servo with mpds := l } } }

/-- The counts of consecutive good and bad intervals. -/
def State.setRuns (s : State) (good bad : Nat) : State :=
  { s with tim := { s.tim with servo := { s.tim.servo with good := good, bad := bad } } }

/-- No sync, or ROOT unlocked: HOLDOVER without a step (R395, R402). -/
def State.servoLost (s : State) : State := if s.servo = 1 ∨ s.servo = 2 then s.servoHold 0 else s

/-- One interval in ACQUIRE or LOCKED without a path-delay step. -/
def State.servoTrack (s : State) (off : Int) : State :=
  let a := off.natAbs
  let g := s.tim.servo.good
  let b := s.tim.servo.bad
  if s.servo = 1 then
    if a ≤ 1000 then (if 16 ≤ g + 1 then s.servoTo 2 0 else s.setRuns (g + 1) 0)
    else
      let s1 := s.setRuns 0 0
      if 100000 < a ∧ s.running = false then s1.setCounter ((s1.now : Int) - off).toNat else s1
  else if 10000 < a then (if 4 ≤ b + 1 then s.servoTo 1 0 else s.setRuns 0 (b + 1))
  else s.setRuns 0 0

/-- One interval (R402, R403): offset and delay, the step test against the mean of the last 8, and the state; with ROOT
unlocked it is only measured, and ACQUIRE and LOCKED pass to HOLDOVER. -/
def State.servoInterval (s : State) (offset : Int) (mpd : Word) (port : Bool) : State :=
  let st := s.servo
  if st = 0 ∨ s.bitR Reg.TIM_SERVO_STAT 31 = false then s
  else
    let asym := (s.reg (if port then Reg.TIM_ASYM1 else Reg.TIM_ASYM0)).toInt
    let off := if s.fldR Reg.TIM_SERVO_STAT 4 3 = 4 then offset else offset - rndDiv asym 2
    let old := s.tim.servo.mpds
    let d : Int := (mpd.toNat : Int) - meanI old
    let s := (s.setReg Reg.TIM_OFFSET (sat32W off)).setReg Reg.TIM_MPD mpd
    if s.bitR Reg.CLK_STATUS 4 = false then s.servoLost else
    let step := !old.isEmpty && decide ((s.reg Reg.TIM_STEP_THR).toNat < d.natAbs)
    let left := s.fldR Reg.TIM_SERVO_STAT 8 4
    let mpds := if step && !(decide (st = 3) && decide (left = 0)) then [(mpd.toNat : Int)] else (old ++ [(mpd.toNat : Int)]).drop (old.length - 7)
    let s := s.setMpds mpds
    if step && !(decide (st = 3) && decide (left = 0)) then
      let s1 := if st = 3 then s.setFld Reg.TIM_SERVO_STAT 8 4 8 else s.servoHold 8
      (s1.evt Reg.TIM_EVT 4).timNote 3 d
    else if st = 3 then
      if left = 0 then s.servoTo 1 0 else if left = 1 then (s.setMpds [(mpd.toNat : Int)]).servoTo 1 0 else s.setFld Reg.TIM_SERVO_STAT 8 4 (left - 1)
    else s.servoTrack off

/-- SERVO_INTERVAL. -/
def execServoInterval (offset : Int) (mpd : Word) (port : Bool) (s : State) : Out :=
  s.event 0x200000 fun s => s.servoInterval offset mpd port

/-- SYNC_TIMEOUT (R402). -/
def execSyncTimeout (s : State) : Out := s.event 0x200000 State.servoLost

end Sys2Proof.Machine
end

