-- ==== Sys2Proof/Machine/Crypto.lean ====
section
/-!
DEFINITION. The arithmetic that images and commands are checked with: SHA-256, SHA-512,
HMAC-SHA-256 (R272) and Ed25519 verification with the cofactored group equation (R244).
-/
namespace Sys2Proof.Machine

/-! ## SHA-2 -/

/-- The first 80 primes. -/
def primes80 : List Nat :=
  (List.range 410).filter fun n => decide (2 ≤ n) && (List.range n).all fun d => decide (d < 2) || decide (n % d ≠ 0)

/-- Integer cube root by bits: the largest `r` with `r³ ≤ n`. -/
def icbrt (n : Nat) : Nat :=
  (List.range 80).foldl (fun r i => let t := r + 2 ^ (79 - i); if t * t * t ≤ n then t else r) 0

/-- The 80 round constants of SHA-512: fractional cube roots of primes; SHA-256 uses the top halves of 64. -/
def sha512K : List Nat := primes80.map fun p => icbrt (p * 2 ^ 192) % 2 ^ 64

/-- The initial hash words of SHA-512: fractional square roots of the first eight primes. -/
def sha512H : List Nat := (primes80.take 8).map fun p => isqrt (p * 2 ^ 128) % 2 ^ 64

/-- Rotate right by `k` in `n` bits. -/
def ror (n x k : Nat) : Nat := (x >>> k ||| x <<< (n - k)) % 2 ^ n

/-- The parameters of a SHA-2 function: word bits, rounds, rotations and shifts. -/
structure Sha2 where
  n : Nat
  k : List Nat
  h : List Nat
  s0 : Nat × Nat × Nat
  s1 : Nat × Nat × Nat
  b0 : Nat × Nat × Nat
  b1 : Nat × Nat × Nat

/-- SHA-256. -/
def sha256P : Sha2 :=
  { n := 32, k := (sha512K.take 64).map (· / 2 ^ 32), h := sha512H.map (· / 2 ^ 32)
    s0 := (7, 18, 3), s1 := (17, 19, 10), b0 := (2, 13, 22), b1 := (6, 11, 25) }

/-- SHA-512. -/
def sha512P : Sha2 :=
  { n := 64, k := sha512K, h := sha512H
    s0 := (1, 8, 7), s1 := (19, 61, 6), b0 := (28, 34, 39), b1 := (14, 18, 41) }

/-- A small sigma: two rotations and a shift. -/
def Sha2.sig (p : Sha2) (r : Nat × Nat × Nat) (x : Nat) : Nat := ror p.n x r.1 ^^^ ror p.n x r.2.1 ^^^ (x >>> r.2.2)

/-- A big sigma: three rotations. -/
def Sha2.bsig (p : Sha2) (r : Nat × Nat × Nat) (x : Nat) : Nat :=
  ror p.n x r.1 ^^^ ror p.n x r.2.1 ^^^ ror p.n x r.2.2

/-- The rounds over the constants `ks`, with the window of the last 16 message words, oldest first. -/
def Sha2.rounds (p : Sha2) : List Nat → List Nat → List Nat → List Nat
  | [], _, st => st
  | k :: ks, w, st =>
    let w0 := nth w 0 0
    let a := nth st 0 0
    let e := nth st 4 0
    let ch := (e &&& nth st 5 0) ^^^ ((2 ^ p.n - 1 - e) &&& nth st 6 0)
    let mj := (a &&& nth st 1 0) ^^^ (a &&& nth st 2 0) ^^^ (nth st 1 0 &&& nth st 2 0)
    let t1 := nth st 7 0 + p.bsig p.b1 e + ch + k + w0
    let t2 := p.bsig p.b0 a + mj
    let wn := (p.sig p.s1 (nth w 14 0) + nth w 9 0 + p.sig p.s0 (nth w 1 0) + w0) % 2 ^ p.n
    Sha2.rounds p ks (w.drop 1 ++ [wn])
      [(t1 + t2) % 2 ^ p.n, a, nth st 1 0, nth st 2 0, (nth st 3 0 + t1) % 2 ^ p.n, e, nth st 5 0, nth st 6 0]

/-- A number of `k` bytes, most significant first. -/
def beBytes (k v : Nat) : List Byte := (leBytes k v).reverse

/-- The number that bytes hold, most significant first. -/
def beNat (bs : List Byte) : Nat := leNat bs.reverse

/-- Compress the blocks of a padded message, `fuel` at most. -/
def Sha2.blocks (p : Sha2) : Nat → List Byte → List Nat → List Nat
  | 0, _, h => h
  | f + 1, m, h =>
    match m with
    | [] => h
    | _ :: _ =>
      let w := (List.range 16).map fun i => beNat ((m.drop (i * (p.n / 8))).take (p.n / 8))
      Sha2.blocks p f (m.drop (2 * p.n)) (((p.rounds p.k w h).zip h).map fun x => (x.1 + x.2) % 2 ^ p.n)

/-- The hash of a message. -/
def Sha2.hash (p : Sha2) (m : List Byte) : List Byte :=
  let lf := p.n / 4
  let z := (4 * p.n - (m.length + 1 + lf) % (2 * p.n)) % (2 * p.n)
  let m' := m ++ [0x80] ++ List.replicate z 0 ++ beBytes lf (8 * m.length)
  (p.blocks (m'.length / (2 * p.n)) m' p.h).flatMap fun x => beBytes (p.n / 8) x

/-- SHA-256. -/
def sha256 (m : List Byte) : List Byte := sha256P.hash m

/-- SHA-512. -/
def sha512 (m : List Byte) : List Byte := sha512P.hash m

/-- HMAC-SHA-256 under a key of at most 64 bytes (R272). -/
def hmacSha256 (key m : List Byte) : List Byte :=
  let k := padTo 64 key
  sha256 (k.map (· ^^^ 0x5C) ++ sha256 (k.map (· ^^^ 0x36) ++ m))

/-! ## Ed25519 (RFC 8032, R244) -/

/-- The field's prime. -/
def edP : Nat := 2 ^ 255 - 19

/-- The order of the base point. -/
def edL : Nat := 2 ^ 252 + 27742317777372353535851937790883648493

/-- `b ^ e mod edP` over `n` bits of the exponent, most significant first. -/
def edPow (b e : Nat) : Nat → Nat
  | 0 => 1
  | n + 1 => let r := edPow b (e / 2) n; if e % 2 = 1 then r * r % edP * b % edP else r * r % edP

/-- Inverse in the field. -/
def edInv (x : Nat) : Nat := edPow x (edP - 2) 255

/-- The curve's constant d. -/
def edD : Nat := (edP - 121665) * edInv 121666 % edP

/-- A point in extended coordinates. -/
structure EdPt where
  x : Nat
  y : Nat
  z : Nat
  t : Nat
deriving DecidableEq, Repr

/-- The neutral point. -/
def EdPt.zero : EdPt := ⟨0, 1, 1, 0⟩

/-- Addition, complete on this curve. -/
def EdPt.add (p q : EdPt) : EdPt :=
  let a := (p.y + edP - p.x) * (q.y + edP - q.x) % edP
  let b := (p.y + p.x) * (q.y + q.x) % edP
  let c := 2 * p.t * q.t % edP * edD % edP
  let d := 2 * p.z * q.z % edP
  let e := b + edP - a
  let f := d + edP - c
  let g := d + c
  let h := b + a
  ⟨e * f % edP, g * h % edP, f * g % edP, e * h % edP⟩

/-- `[k]P` over `n` bits of `k`. -/
def EdPt.mul (p : EdPt) (k : Nat) : Nat → EdPt
  | 0 => EdPt.zero
  | n + 1 => let r := EdPt.mul p (k / 2) n; let r2 := r.add r; if k % 2 = 1 then r2.add p else r2

/-- Whether two points are equal. -/
def EdPt.same (p q : EdPt) : Bool :=
  decide (p.x * q.z % edP = q.x * p.z % edP) && decide (p.y * q.z % edP = q.y * p.z % edP)

/-- Decode a point; none where y is not below p or no x exists (R244). -/
def edDecode (bs : List Byte) : Option EdPt :=
  let v := leNat bs
  let y := v % 2 ^ 255
  let sgn := v / 2 ^ 255
  if edP ≤ y then none else
  let u := (y * y + edP - 1) % edP
  let w := (edD * y % edP * y + 1) % edP
  let x0 := u * edPow w 3 3 % edP * edPow (u * edPow w 7 4 % edP) ((edP - 5) / 8) 255 % edP
  let x1 := x0 * edPow 2 ((edP - 1) / 4) 255 % edP
  let x? := if w * x0 % edP * x0 % edP = u then some x0 else if w * x1 % edP * x1 % edP = u then some x1 else none
  match x? with
  | none => none
  | some x =>
    if x = 0 ∧ sgn = 1 then none
    else
      let x := if x % 2 = sgn then x else edP - x
      some ⟨x, y, 1, x * y % edP⟩

/-- The base point: y = 4/5, x even. -/
def edBase : EdPt := (edDecode (leBytes 32 (4 * edInv 5 % edP))).getD EdPt.zero

/-- A signature verifies under the cofactored equation [8][S]B = [8]R + [8][k]A (R244). -/
def edVerify (pub msg sig : List Byte) : Bool :=
  let r := sig.take 32
  let sc := leNat (sig.drop 32)
  match edDecode pub, edDecode r with
  | some a, some rp =>
    if edL ≤ sc then false
    else
      let k := leNat (sha512 (r ++ pub ++ msg)) % edL
      let l := (edBase.mul sc 253).mul 8 4
      let q := (rp.add (a.mul k 253)).mul 8 4
      l.same q
  | _, _ => false

end Sys2Proof.Machine
end

