-- ==== Sys2Proof/Machine/Image.lean ====
section
/-!
DEFINITION. The signed container that carries application and Gauntlet images, and the checks of its frame
(R240 to R244, R246, R250); the content check of the GAUNTLET section (R285); key slots.
-/
namespace Sys2Proof.Machine

/-- The first thing that is wrong, with its offset. -/
def firstBad (l : List (Bool × Nat)) : Option Nat := (l.find? fun p => p.1).map (·.2)

/-- Whether a check holds for some index below `n`. -/
def anyIx (n : Nat) (f : Nat → Bool) : Bool := (List.range n).any f

/-- The first index below `n` for which a check holds. -/
def findIx (n : Nat) (f : Nat → Bool) : Option Nat := (List.range n).find? f

/-- Whether the bytes at `[a, a + n)` are not all zero. -/
def nonZero (bs : List Byte) (a n : Nat) : Bool := ((bs.drop a).take n).any fun b => decide (b ≠ 0)

/-- Whether a little-endian field has a bit outside a mask. -/
def stray (bs : List Byte) (a n mask : Nat) : Bool := decide (leAt bs a n &&& mask ≠ leAt bs a n)

/-- A load failure: its code of R250, the section type and the image byte offset that it reports. -/
structure ImgErr where
  code : Nat
  ty : Nat
  off : Nat
deriving DecidableEq, Repr

/-- A section of an image with the offset of its header. -/
structure ImgSect where
  at_ : Nat
  sec : Section
deriving DecidableEq, Repr

/-- How a container is checked: the kind it must have, the fuse slots, the TOTAL that a directory entry gives, a read
that fails, the checks of the sections: `own` of one section's payload, `post` of the completed set, and a type whose header ends the
walk, which asks whether the loader reaches that section. -/
structure ImgChk where
  kind : Nat
  slots : List KeySlot
  dirTotal : Option Nat
  readErr : Option Nat
  own : Nat → Section → Option Nat
  post : List ImgSect → Option ImgErr
  halt : Nat := 0

/-- Round up to a multiple of 16. -/
def up16 (n : Nat) : Nat := (n + 15) / 16 * 16

/-- Step 1 of R250: the image header. -/
def imgHeader (c : ImgChk) (h : List Byte) : Option ImgErr :=
  let g := decide (c.kind = 2)
  let total := leAt h 8 4
  let nsec := leAt h 12 2
  let e (code off : Nat) : ImgErr := ⟨code, 0, off⟩
  ((firstBad [
    (decide (leAt h 0 4 ≠ 0x49524C56), 0), (decide (leAt h 4 2 ≠ 1), 4), (decide (crc32 (h.take 60) ≠ leAt h 60 4), 60),
    (decide (byteAt h 6 ≠ c.kind), 6), (decide ((if g then 1 else 3) < byteAt h 14), 14),
    (g && decide (byteAt h 7 ≠ 0), 7), (nonZero h 15 1, 15), (nonZero h 26 34, 26)]).map (e 1)).or
  ((firstBad [
    (decide (67108864 < total) || decide (total % 16 ≠ 0), 8),
    (if g then decide (nsec ≠ 1) else decide (nsec < 4) || decide (16 < nsec), 12),
    ((match c.dirTotal with | some t => decide (t ≠ total) | none => false), 8)]).map (e 2))

/-- Whether a read of `[a, b)` meets the byte that cannot be read. -/
def ImgChk.unread (c : ImgChk) (a b : Nat) : Option Nat :=
  match c.readErr with
  | some o => if a ≤ o ∧ o < b then some o else none
  | none => none

/-- Steps 2 and 3 of R250: each section in stream order, then the end of the sections. -/
def imgSections (c : ImgChk) (img : List Byte) (mode total nsec : Nat) :
    Nat → Nat → Nat → List ImgSect → Except ImgErr (List ImgSect)
  | 0, pos, _, _ => .error ⟨2, 0, pos⟩
  | fuel + 1, pos, last, acc =>
    let lim := total - 128
    if pos = lim then
      if acc.length = nsec then .ok acc.reverse else .error ⟨2, 0, lim⟩
    else
      let h := (img.drop pos).take 32
      let ty := byteAt h 0
      let len := leAt h 4 4
      let stop := pos + 32 + up16 len
      let known := decide (1 ≤ ty) && decide (ty ≤ 16) || decide (ty = 0x40)
      let fits := if c.kind = 2 then decide (ty = 0x40) else decide (ty ≤ 16)
      match c.unread pos (pos + 32) with
      | some o => .error ⟨0xC, 0, o⟩
      | none =>
        if acc.length = nsec ∨ lim < pos + 32 ∨ lim < stop then .error ⟨2, ty, pos⟩
        else if !known || decide (ty ≤ last) || !fits then .error ⟨3, ty, pos⟩
        else if byteAt h 1 ≠ 1 then .error ⟨4, ty, pos⟩
        else if ty = c.halt then .error ⟨0x10, ty, pos⟩
        else match c.unread pos stop with
          | some o => .error ⟨0xC, ty, o⟩
          | none =>
            let body := (img.drop (pos + 32)).take len
            let sec : Section := ⟨ty, w32 (leAt h 8 4), body⟩
            if crc32 body ≠ leAt h 8 4 ∨ nonZero h 2 2 ∨ nonZero h 12 20 ∨ nonZero img (pos + 32 + len) (up16 len - len) then
              .error ⟨5, ty, pos⟩
            else match c.own mode sec with
              | some o => .error ⟨6, ty, pos + o⟩
              | none => imgSections c img mode total nsec fuel stop ty (⟨pos, sec⟩ :: acc)

/-- Step 5 of R250: the trailer. -/
def imgTrailer (c : ImgChk) (img : List Byte) (total slot : Nat) : Option ImgErr :=
  let t := (img.drop (total - 128)).take 128
  let dig := t.take 32
  let pub := (t.drop 32).take 32
  match c.unread (total - 128) total with
  | some o => some ⟨0xC, 0, o⟩
  | none =>
    if dig ≠ sha256 (img.take (total - 128)) then some ⟨9, 0, total - 128⟩
    else
      let k := nth c.slots slot {}
      if k.hash ≠ some (BitVec.ofNat 256 (leNat (sha256 pub))) ∨ k.revoked then some ⟨0xA, 0, total - 96⟩
      else if edVerify pub dig (t.drop 64) then none else some ⟨0xB, 0, total - 64⟩

/-- The check of an image: its sections, or the first failure (R250). -/
def imgCheck (c : ImgChk) (img : List Byte) : Except ImgErr (List ImgSect) :=
  let h := img.take 64
  let total := leAt h 8 4
  match c.unread 0 64 with
  | some o => .error ⟨0xC, 0, o⟩
  | none =>
    match imgHeader c h with
    | some e => .error e
    | none =>
      match imgSections c img (byteAt h 7) total (leAt h 12 2) 18 64 0 [] with
      | .error e => .error e
      | .ok secs =>
        match (c.post secs).or (imgTrailer c img total (byteAt h 14)) with
        | some e => .error e
        | none => .ok secs

/-! ## Directory (R246, R283) -/

/-- Whether a directory of 64 bytes is valid. -/
def dirOk (d : List Byte) : Bool := decide (leAt d 0 4 = 0x5249444C) && decide (crc32 (d.take 60) = leAt d 60 4)

/-- Entry `i` of a directory: byte offset, TOTAL and FLAGS. -/
def dirEntry (d : List Byte) (i : Nat) : Nat × Nat × Nat :=
  (leAt d (4 + 12 * i) 4 * 64, leAt d (8 + 12 * i) 4, leAt d (12 + 12 * i) 4)

/-- Whether entry `i` points to an image. -/
def dirValid (d : List Byte) (i : Nat) : Bool := dirOk d && (dirEntry d i).2.2.testBit 0

/-! ## The GAUNTLET section (R284, R285) -/

/-- Offset of the message directory in the payload. -/
def gMsgOff : Nat := 0x2B10

/-- Messages of an image. -/
def gMsgs (b : List Byte) : Nat := leAt b 0 2

/-- Routes of an image. -/
def gRoutes (b : List Byte) : Nat := leAt b 2 2

/-- Supervision entries of an image. -/
def gSups (b : List Byte) : Nat := leAt b 4 2

/-- Offset of route `r`. -/
def gRouteOff (b : List Byte) (r : Nat) : Nat := gMsgOff + 16 * gMsgs b + 448 * r

/-- Offset of supervision entry `e`. -/
def gSupOff (b : List Byte) (e : Nat) : Nat := gRouteOff b (gRoutes b) + 8 * e

/-- Offset and length of the store audio. -/
def gStore (b : List Byte) : Nat × Nat := (gSupOff b (gSups b) + 4, leAt b (gSupOff b (gSups b)) 4)

/-- Round up to a multiple of 4. -/
def up4 (n : Nat) : Nat := (n + 3) / 4 * 4

/-- Offset and length of the extension audio. -/
def gExt (b : List Byte) : Nat × Nat :=
  let o := (gStore b).1 + up4 (gStore b).2
  (o + 4, leAt b o 4)

/-- A directory entry of a message (R276). -/
structure MsgDir where
  start : Nat
  len : Nat
  crc : Nat
  fallback : Nat
  ext : Bool
  essential : Bool
deriving DecidableEq, Repr

/-- Entry `i` of a message directory held in bytes from offset `o`. -/
def msgDirAt (b : List Byte) (o : Nat) : MsgDir :=
  ⟨leAt b o 4, leAt b (o + 4) 4, leAt b (o + 8) 4, leAt b (o + 12) 2 % 1024, (byteAt b (o + 14)).testBit 0,
    (byteAt b (o + 14)).testBit 1⟩

/-- Message `m` of an image. -/
def gMsg (b : List Byte) (m : Nat) : MsgDir := msgDirAt b (gMsgOff + 16 * m)

/-- Length of a FALLBACK chain from message `m`, counted to at most nine steps. -/
def gChain (b : List Byte) : Nat → Nat → Nat
  | 0, _ => 0
  | k + 1, m =>
    let f := (gMsg b m).fallback
    if f = 0x3FF ∨ gMsgs b ≤ f then 0 else 1 + gChain b k f

/-- Reserved bits of an object descriptor (R65). -/
def descStray (b : List Byte) (o : Nat) : Bool :=
  stray b o 1 0x1F || stray b (o + 2) 2 0x7FF || stray b (o + 13) 1 0x7F || stray b (o + 14) 1 0x0F || nonZero b (o + 15) 1 ||
    nonZero b (o + 28) 4

/-- The GAUNTLET section fails its check (R285). -/
def gauntletBad (b : List Byte) : Bool :=
  let n := gMsgs b
  let sl := gStore b
  let xl := gExt b
  let w (o : Nat) : Nat := leAt b o 4
  decide (1024 < n) || decide (64 < gRoutes b) || decide (128 < gSups b) || decide (4194304 < sl.2) ||
  decide (b.length ≠ xl.1 + up4 xl.2) ||
  anyIx n (fun i => let m := gMsg b i; decide ((if m.ext then xl.2 else sl.2) < m.start + 2 * m.len)) ||
  anyIx n (fun i => let m := gMsg b i; m.essential && m.ext) ||
  anyIx n (fun i => decide (8 < gChain b 9 i)) ||
  anyIx (gRoutes b) (fun r => decide (31 < byteAt b (gRouteOff b r))) ||
  anyIx 32 (fun p =>
    let o := 0xE0 + 16 * p
    let src := w o / 256 % 64
    decide (20 ≤ src) && (decide (w (o + 4) ≠ 0) || decide (w o / 65536 % 16 ≠ 0))) ||
  nonZero b 6 2 || stray b 0x08 4 0xFF0FFFFF || stray b 0x0C 4 0xFFFF || stray b 0x10 4 0xFF || stray b 0x14 4 0x7FF ||
  stray b 0x18 4 0xFFF || stray b 0x1C 4 3 || stray b 0x20 4 0xF01 || nonZero b 0x24 12 ||
  anyIx 4 (fun i => stray b (0x50 + 4 * i) 4 0x7FFFF) ||
  anyIx 16 (fun i => stray b (0x60 + 8 * i) 4 0xFFFF07FF || stray b (0x64 + 8 * i) 4 0x3F1F3F) ||
  anyIx 32 (fun p => stray b (0xE0 + 16 * p) 4 0xF3F07 || stray b (0xE4 + 16 * p) 4 0xFFFF03FF) ||
  anyIx 16 (fun t => let o := 0x2E0 + 16 * t
    stray b o 4 0xFFFFF || stray b (o + 4) 4 0xFFFFF || stray b (o + 8) 4 0xFFFFFFF3 || stray b (o + 12) 4 0x80FFFFFF) ||
  nonZero b 0x3E0 32 ||
  anyIx 256 (fun z => let o := 0x400 + 16 * z
    stray b o 4 0xFF || stray b (o + 4) 4 0x3F3F3F3F || stray b (o + 8) 4 0x3F3F3F3F || stray b (o + 12) 4 0xFFFFFF) ||
  anyIx 384 (fun f => stray b (0x1404 + 8 * f) 4 0xFFFFFF3F || stray b (0x2000 + f) 1 0x83) ||
  anyIx 64 (fun j => stray b (0x2180 + 4 * j) 4 0xC70F01FF) || anyIx 32 (fun i => stray b (0x2280 + 4 * i) 4 0x870F0000) ||
  nonZero b 0x2308 8 ||
  anyIx n (fun i => stray b (gMsgOff + 16 * i + 12) 2 0x3FF || stray b (gMsgOff + 16 * i + 14) 1 3 || nonZero b (gMsgOff + 16 * i + 15) 1) ||
  anyIx (gRoutes b) (fun r => let o := gRouteOff b r
    nonZero b (o + 1) 31 || descStray b (o + 32) ||
      anyIx 8 (fun k => nonZero b (o + 64 + 48 * k + 6) 2 || stray b (o + 64 + 48 * k + 47) 1 1)) ||
  anyIx (gSups b) (fun e => nonZero b (gSupOff b e + 3) 1 || nonZero b (gSupOff b e + 7) 1) ||
  nonZero b (sl.1 + sl.2) (up4 sl.2 - sl.2) || nonZero b (xl.1 + xl.2) (up4 xl.2 - xl.2)

/-- How a Gauntlet image is checked (R283). -/
def gntChk (slots : List KeySlot) : ImgChk :=
  { kind := 2, slots := slots, dirTotal := none, readErr := none
    own := fun _ x => if gauntletBad x.body then some 0 else none, post := fun _ => none }

/-- The directory of the Gauntlet flash (R283). -/
def State.gdir (s : State) : List Byte := s.gflashBytes 0 64

/-- The Gauntlet image of entry 1 or 2, where it verifies: IMAGE_ID and payload (R283). -/
def State.gntVerify (s : State) (e : Nat) : Option (Nat × List Byte) :=
  let d := s.gdir
  if !dirValid d e then none else
  let off := (dirEntry d e).1
  let total := leAt (s.gflashBytes off 64) 8 4
  if 67108864 < total then none else
  let img := s.gflashBytes off total
  match imgCheck (gntChk s.fuse.gnt) img with
  | .ok [x] => some (leAt img 16 4, x.sec.body)
  | _ => none

end Sys2Proof.Machine
end

