-- ==== Sys2Proof/Machine/Tones.lean ====
section
/-!
DEFINITION. The Gauntlet's tone generators, and the samples that they and the pilot form (R278, R280).
-/
namespace Sys2Proof.Machine

/-- `π × 2^300`. -/
def piFix : Int := 6399537258350533404498902296276095619968599404742382956244570183135712832137875919436931981

/-- The sine of a fraction `n ÷ d` of a turn, times 2^300. -/
def sinTurn (n d : Nat) : Int :=
  let x := 2 * piFix * (n : Int) / (d : Int)
  sinGo (x * x / 2 ^ 300) 90 1 x x

/-- The frequency of a tone at sample `t`, in 1/16 Hz (R278). -/
def toneFreq (f1 f2 shape period t : Nat) : Nat :=
  let f1 := min f1 383999
  let f2 := min f2 383999
  let p := period * 48
  if period = 0 then f1
  else if shape = 1 then (if t % (2 * p) < p then f1 else f2)
  else if shape = 2 then ((f1 : Int) + ((f2 : Int) - (f1 : Int)) * ((t % p : Nat) : Int) / (p : Int)).toNat
  else f1

/-- The phase increment of a frequency. -/
def toneInc (f : Nat) : Nat := (rndDiv ((f * 2 ^ 28 : Nat) : Int) 48000).toNat

/-- The sample of a phase at a level. -/
def toneSample (phase : Nat) (level : Int) : Int := satN 32 (rndDiv (sinTurn phase (2 ^ 32) * 2 ^ 31 * level) (2 ^ 322))

/-- Put the Gauntlet's own state. -/
def State.setGnt (s : State) (f : GntSt → GntSt) : State := { s with gnt := f s.gnt }

/-! ## Tone generators (R278) -/

/-- A tone generator. -/
def State.tone (s : State) (g : Nat) : ToneSt := nth s.gnt.tones g {}

/-- Put a tone generator. -/
def State.setTone (s : State) (g : Nat) (x : ToneSt) : State := s.setGnt fun t => { t with tones := putNth t.tones g x }

/-- ON and OFF of a generator's cadence in domain-G samples. -/
def State.cadence (s : State) (g : Nat) : Nat × Nat :=
  (s.fldR (Reg.GNT_TONE_SHAPE g) 16 8 * 480, s.fldR (Reg.GNT_TONE_SHAPE g) 24 8 * 480)

/-- A write of GNT_TONE_RUN with RUN set: a stopped generator starts, and a pending stop is cancelled. -/
def State.toneRun (s : State) (g : Nat) (v : Word) (prog : Bool) : State :=
  let s1 := s.setReg (Reg.GNT_TONE_RUN g) (v &&& regMask (Reg.GNT_TONE_RUN 0))
  let x := s1.tone g
  if x.run then s1.setTone g { x with stop := false, prog := prog }
  else
    s1.setTone g { run := true, prog := prog }

/-- The cadence has a generator silent: it never does while OFF = 0, and always while ON = 0. -/
def ToneSt.mute (x : ToneSt) (c : Nat × Nat) : Bool := decide (0 < c.2) && (decide (c.1 = 0) || x.silent)

/-- An ON period of a generator's cadence starts at its sample `t`. -/
def ToneSt.starts (x : ToneSt) (c : Nat × Nat) : Bool := decide (0 < c.2) && decide (0 < c.1) && decide (x.t % (c.1 + c.2) = 0)

/-- An ON period starts at phase 0. -/
def ToneSt.period (x : ToneSt) (c : Nat × Nat) : ToneSt := if x.starts c then { x with phase := 0, silent := false } else x

/-- RUN clears: the tone stops at the next phase wrap, or at once if the cadence has it silent. -/
def State.toneStop (s : State) (g : Nat) (v : Word) : State :=
  let s1 := s.setReg (Reg.GNT_TONE_RUN g) (v &&& regMask (Reg.GNT_TONE_RUN 0))
  let x := s1.tone g
  if !x.run then s1 else if x.mute (s1.cadence g) then s1.setTone g {} else s1.setTone g { x with stop := true }

/-- A write of GNT_TONE_RUN. -/
def State.toneWrite (s : State) (g : Nat) (v : Word) : State := if bitOf v 31 then s.toneRun g v false else s.toneStop g v

/-- The phase increment of a generator at its sample `t`. -/
def State.toneStep (s : State) (g t : Nat) : Nat :=
  let sh := s.reg (Reg.GNT_TONE_SHAPE g)
  toneInc (toneFreq (s.fldR (Reg.GNT_TONE_F1 g) 0 20) (s.fldR (Reg.GNT_TONE_F2 g) 0 20) (fld sh 0 2) (fld sh 4 12) t)

/-- Tone generator `g` puts out its sample and moves one domain-G sample on (R278): an ON period starts at phase 0; at a phase wrap a
pending stop takes effect, and the sound of a period that has lasted ON ends. -/
def State.toneNext (s : State) (g : Nat) : State × Int :=
  let c := s.cadence g
  let x := (s.tone g).period c
  if !x.run then (s, 0)
  else if x.mute c then (s.setTone g (if x.stop then {} else { x with t := x.t + 1 }), 0)
  else
    let y := toneSample x.phase (sfld (s.reg (Reg.GNT_TONE_RUN g)) 0 24)
    let ph := x.phase + s.toneStep g x.t
    let wrap := decide (2 ^ 32 ≤ ph)
    let done := wrap && decide (0 < c.2) && decide (c.1 ≤ x.t % (c.1 + c.2) + 1)
    (s.setTone g (if wrap && x.stop then {} else { x with t := x.t + 1, phase := ph % 2 ^ 32, silent := done }), y)

/-- The phase of a generator has wrapped at its present sample. -/
def State.toneWrapped (s : State) (g : Nat) : Bool :=
  let x := s.tone g
  decide (0 < x.t) && decide (x.phase < s.toneStep g (x.t - 1))

/-- The pilot sample of index `k` at a rate of `12 × 4,000 × m` Hz, `m` 1 or 2 (R280). -/
def pilotSample (k rate : Nat) : Int :=
  let per := rate / 4000
  rndDiv (67909114 * sinTurn (5 * k % per) per) (2 ^ 300)

/-- Whether the pilot is added to a feed, or to Trail direct output `384 + j` (R280). -/
def State.pilotOn (s : State) (i : Nat) : Bool :=
  s.bitR Reg.GNT_PILOT_CTL 0 && s.bitR (0x40 + 4 * (i / 32)) (i % 32)

/-- A feed's output with the pilot of sample index `k` where it is enabled (R280). -/
def State.addPilot (s : State) (i k rate : Nat) (y : Int) : Int :=
  if s.pilotOn i then satN 32 (y + pilotSample k rate) else y

end Sys2Proof.Machine
end

