-- ==== Sys2Proof/Machine/Players.lean ====
section
/-!
DEFINITION. The Gauntlet's message store and players, and the samples that the players form (R276, R277).
-/
namespace Sys2Proof.Machine

/-! ## Messages (R276, R277) -/

/-- Messages of the Gauntlet image in use. -/
def State.msgCount (s : State) : Nat := gMsgs s.gnt.image

/-- Directory entry `m` of the working memory; an entry beyond the image's is empty. -/
def State.msg (s : State) (m : Nat) : MsgDir :=
  if m < s.msgCount then msgDirAt (s.sramBytes (0x06D00000 + 16 * m) 16) 0 else ⟨0, 0, 0, 0x3FF, false, false⟩

/-- The DRAM controller serves a region (R276). -/
def State.extServed (s : State) : Bool :=
  match s.regionOf 3 with
  | some r => decide (s.service = 1) || (decide (s.service = 2) &&
      (List.range 8).all fun i => s.bitR Reg.DRC_STATUS (8 + i) || decide ((i + 1) * s.segSize ≤ r.base) || decide (r.base + r.size ≤ i * s.segSize))
  | none => false

/-- A message is playable: not BAD, and an extension message only from its copy while the DRAM serves it. -/
def State.playable (s : State) (m : Nat) : Bool :=
  !s.gnt.bad.contains m && (!(s.msg m).ext || (s.gnt.ext.contains m && s.extServed))

/-- The first playable message of a FALLBACK chain, at most `k` steps on. -/
def State.fallback (s : State) : Nat → Nat → Option Nat
  | 0, _ => none
  | k + 1, m =>
    let f := (s.msg m).fallback
    if f = 0x3FF ∨ s.msgCount ≤ f then none
    else if s.playable f then some f else State.fallback s k f

/-- Detector 0x1B is raised; every raise sets GNT_FAULTS.MSG (R277, R288). -/
def State.msgRaise (s : State) (m kind player v : Nat) : State :=
  (s.raiseDet 0x1B 1 (leBytes 2 m ++ [b8 kind, b8 player] ++ leBytes 4 v)).gntFault 1

/-- Bytes of a message: of the store, or of its copy in the extension region. -/
def State.msgBytes (s : State) (m : Nat) : List Byte :=
  let d := s.msg m
  if d.ext then (match s.regionOf 3 with
    | some r => s.dramBytes (r.base + d.start) (2 * d.len)
    | none => [])
  else s.sramBytes (0x06000000 + d.start) (2 * d.len)

/-! ## Players (R277) -/

/-- A player. -/
def State.player (s : State) (p : Nat) : PlayerSt := nth s.gnt.players p {}

/-- Put a player. -/
def State.setPlayer (s : State) (p : Nat) (x : PlayerSt) : State := s.setGnt fun g => { g with players := putNth g.players p x }

/-- Record 0x43 of a player. -/
def State.playNote (s : State) (p m kind req : Nat) : State := s.note 1 0x43 ([b8 p] ++ leBytes 2 m ++ [b8 kind] ++ leBytes 2 req)

/-- A player runs a command. -/
def State.playing (s : State) (p : Nat) : Bool := s.bitR (Reg.GNT_PLY_STAT p) 31

/-- A command ends: kind 2 after its last play, 3 stopped. -/
def State.playOver (s : State) (p kind : Nat) : State :=
  let x := s.player p
  ((s.setReg (Reg.GNT_PLY_STAT p) 0).playNote p (fld x.cmd 0 10) kind 0).setPlayer p { ph := x.ph, taps := x.taps }

/-- A play starts with its message check; `left` plays are still to come. -/
def State.playBegin (s : State) (p left : Nat) : State :=
  let m := fld (s.player p).cmd 0 10
  let st (cur : Nat) (subst : Bool) : Word := w32 (cur + 65536 * left + 2 ^ 30 * subst.toNat + 2 ^ 31)
  if s.playable m then s.setReg (Reg.GNT_PLY_STAT p) (st m false)
  else
    let r := (s.fallback 8 m).getD 0x3FF
    let k := if (s.msg m).ext then 3 else 4
    ((s.setReg (Reg.GNT_PLY_STAT p) (st r true)).playNote p r 4 m).msgRaise m k p r

/-- A write of GNT_PLY_CTL with PLAY = 1, by firmware for itself or for a programme; a message of LEN 0 completes whatever REPEAT
holds. -/
def State.playStart (s : State) (p : Nat) (v : Word) (prog : Bool) : State :=
  let s0 := s.setReg (Reg.GNT_PLY_CTL p) (v &&& regMask (Reg.GNT_PLY_CTL 0))
  let s1 := if s0.playing p then s0.playOver p 3 else s0
  let m := fld v 0 10
  let rep := fld v 16 8
  if (s1.msg m).len = 0 then (s1.playNote p m 1 0).playNote p m 2 0
  else if rep = 0 then s1
  else ((s1.setPlayer p { cmd := v, prog := prog, taps := (s1.player p).taps }).playNote p m 1 0).playBegin p (if rep = 255 then 255 else rep - 1)

/-- A write of GNT_PLY_CTL with PLAY = 0. -/
def State.playStop (s : State) (p : Nat) (v : Word) : State :=
  let s1 := s.setReg (Reg.GNT_PLY_CTL p) (v &&& regMask (Reg.GNT_PLY_CTL 0))
  if !s1.playing p then s1
  else if (s1.player p).gap then s1.playOver p 3
  else s1.setPlayer p { s1.player p with stop := true }

/-- A write of GNT_PLY_CTL. -/
def State.playWrite (s : State) (p : Nat) (v : Word) : State := if bitOf v 31 then s.playStart p v false else s.playStop p v

/-- Plays still to come. -/
def State.playLeft (s : State) (p : Nat) : Nat := s.fldR (Reg.GNT_PLY_STAT p) 16 8

/-- The next play of a command. -/
def State.playNext (s : State) (p : Nat) : State :=
  let l := s.playLeft p
  (s.setPlayer p { s.player p with gap := false, pos := 0 }).playBegin p (if l = 255 then 255 else l - 1)

/-- A play or a gap ends: the next play, a gap or the end of the command follows. -/
def State.playEdge (s : State) (p : Nat) : State :=
  let x := s.player p
  if x.gap then s.playNext p
  else if x.stop then s.playOver p 3
  else if s.playLeft p = 0 then s.playOver p 2
  else if 0 < fld x.cmd 24 7 then s.setPlayer p { x with gap := true, pos := 0 }
  else s.playNext p

/-- The message a player plays now: the one asked for or its substitute; 0x3FF where it plays zeros in its stead. -/
def State.playCur (s : State) (p : Nat) : Nat := s.fldR (Reg.GNT_PLY_STAT p) 0 10

/-- The length of the present play or gap in 16 kHz samples. -/
def State.playLen (s : State) (p : Nat) : Nat :=
  let x := s.player p
  if x.gap then 1600 * fld x.cmd 24 7
  else if s.playCur p = 0x3FF then (s.msg (fld x.cmd 0 10)).len else (s.msg (s.playCur p)).len

/-- A message is marked BAD, and detector 0x1B raised with the player that read it; one that is BAD already is not raised again. -/
def State.msgBad (s : State) (m kind player off : Nat) : State :=
  if s.gnt.bad.contains m then s
  else (s.setGnt fun g => { g with bad := m :: g.bad }).msgRaise m kind player off

/-- Sample `k` of a message as the store or the extension region gives it, scaled to Q1.31; the last result is false where its word
is uncorrectable, and it is then zero. -/
def State.msgSample (s : State) (m k : Nat) : State × Int × Bool :=
  let d := s.msg m
  let off := d.start + 2 * k
  let smp (bs : List Byte) : Int := sext 16 (leNat bs) * 65536
  if d.ext then
    match s.regionOf 3 with
    | some r =>
      let q := s.dramRead (r.base + off) 2 false
      (if k = 0 ∨ (r.base + off) % 64 = 0 then q.1 else s, smp q.2.1, q.2.2)
    | none => (s, 0, true)
  else
    let a := 0x06000000 + off
    (if k = 0 ∨ a % 8 = 0 then s.scrub a 2 else s, smp (s.sramClean a 2), !s.swBad a)

/-- A player takes its next 16 kHz sample; an uncorrectable word marks the message BAD with the word's offset (R288). -/
def State.playTake (s : State) (p : Nat) : State × Int :=
  let s1 := if s.playing p && decide (s.playLen p ≤ (s.player p).pos) then s.playEdge p else s
  let x := s1.player p
  let m := s1.playCur p
  if !s1.playing p then (s1, 0)
  else
    let s2 := s1.setPlayer p { x with pos := x.pos + 1 }
    if x.gap || decide (m = 0x3FF) then (s2, 0)
    else
      let q := s2.msgSample m x.pos
      (if q.2.2 then q.1 else q.1.msgBad m 2 p (((s2.msg m).start + 2 * x.pos) / 8 * 8), q.2.1)

/-- The output of the 3:1 interpolator from the 16 kHz samples it holds, newest first; its coefficients are not published, and a
linear filter gives zero for zeros. -/
def interp (taps : List Int) (ph : Nat) : Int := if taps.all (fun v => decide (v = 0)) then 0 else (Config.msgInterp taps ph).toInt

/-- A player's domain-G sample: the interpolated message at LEVEL (R277). -/
def State.playerNext (s : State) (p : Nat) : State × Int :=
  let x := s.player p
  if !s.playing p && x.taps.isEmpty then (s, 0)
  else
    let q : State × Int := if x.ph = 0 then s.playTake p else (s, 0)
    let y := q.1.player p
    let taps := if x.ph = 0 then (q.2 :: y.taps).take 22 else y.taps
    let taps := if !q.1.playing p && taps.all (fun v => decide (v = 0)) then [] else taps
    (q.1.setPlayer p { y with taps := taps, ph := (x.ph + 1) % 3 }, mulSat32 (interp taps x.ph) (sfld (q.1.reg (Reg.GNT_PLY_LEVEL p)) 0 24) 22)

/-- The sixteen players put out a sample each. -/
def State.playersNext (s : State) : State × List Int :=
  (List.range 16).foldl (fun (a : State × List Int) p =>
    let r := a.1.playerNext p
    (r.1, a.2 ++ [r.2])) (s, [])

end Sys2Proof.Machine
end

