-- ==== Sys2Proof/Machine/Sai.lean ====
section
/-!
DEFINITION. The serial audio ports: pairs, lanes, masks, the Hamper, AES3 receivers, clock faults and the Gauntlet
lanes (R315 to R335).
-/
namespace Sys2Proof.Machine

/-! ## What the model holds of pairs and lanes -/

/-- A pair (2 × group + pair) or AES3 receiver (48 + r). -/
def State.pairSt (s : State) (i : Nat) : PairSt := Store.get (fun _ => ({} : PairSt)) s.sai.pairs i

/-- Put a pair or receiver. -/
def State.setPair (s : State) (i : Nat) (x : PairSt) : State :=
  { s with sai := { s.sai with pairs := Store.set (fun _ => ({} : PairSt)) s.sai.pairs i x } }

/-- A lane or receiver (96 + r). -/
def State.laneSt (s : State) (l : Nat) : LaneSt := Store.get (fun _ => ({} : LaneSt)) s.sai.lanes l

/-- Put a lane or receiver. -/
def State.setLane (s : State) (l : Nat) (x : LaneSt) : State :=
  { s with sai := { s.sai with lanes := Store.set (fun _ => ({} : LaneSt)) s.sai.lanes l x } }

/-- Configuration register of a pair or receiver. -/
def pairCfgReg (i : Nat) : Nat :=
  if 48 ≤ i then Reg.SAI_AES_CFG (i - 48) else if i % 2 = 1 then Reg.SAI_CKB_CFG (i / 2) else Reg.SAI_CKA_CFG (i / 2)

/-- Status register of a pair or receiver. -/
def pairStatReg (i : Nat) : Nat :=
  if 48 ≤ i then Reg.SAI_AES_STAT (i - 48) else if i % 2 = 1 then Reg.SAI_CKB_STAT (i / 2) else Reg.SAI_CKA_STAT (i / 2)

/-- Period register of a pair or receiver. -/
def pairPerReg (i : Nat) : Nat :=
  if 48 ≤ i then Reg.SAI_AES_PERIOD (i - 48) else if i % 2 = 1 then Reg.SAI_CKB_PERIOD (i / 2) else Reg.SAI_CKA_PERIOD (i / 2)

/-- RATE code in Hz (R335). -/
def rateHz (c : Nat) : Nat := nth [32000, 44100, 48000, 88200, 96000, 176400, 192000] c 48000

/-- WIDTH code in bits (R335). -/
def slotBits (c : Nat) : Nat := nth [16, 24, 32] c 32

/-- The configuration that a pair or receiver runs with (R321, R332). -/
def State.pairCfg (s : State) (i : Nat) : Word := match (s.pairSt i).old with
  | some o => o.1
  | none => s.reg (pairCfgReg i)

/-- The rate domain of a pair's configuration: 0 R, 1 A, 2 G (R316). -/
def pairDomain (w : Word) : Nat := if bitOf w 30 && decide (fld w 28 2 = 3) then 2 else if bitOf w 27 then 0 else 1

/-- The domain of a pair or receiver; the pairs of G22 and G23 are domain G's (R333). -/
def State.domOf (s : State) (i : Nat) : Nat := if 48 ≤ i then 1 else if 44 ≤ i then 2 else pairDomain (s.pairCfg i)

/-- A pair or receiver is supervised: it takes its clock from outside (R330). -/
def State.slaved (s : State) (i : Nat) : Bool := decide (48 ≤ i) || !bitOf (s.pairCfg i) 30

/-- FMAX of a pair or receiver (R322, R325). -/
def State.fmax (s : State) (i : Nat) : Nat :=
  if 48 ≤ i then ceilDiv (192000 * s.blk.b) s.blk.fr + 1
  else if pairDomain (s.reg (pairCfgReg i)) = 0 then s.blk.b else ceilDiv (rateHz (s.fldR (pairCfgReg i) 24 3) * s.blk.b) s.blk.fr + 1

/-- The pair or receiver a lane uses. -/
def State.lanePair (s : State) (l : Nat) : Nat := if 96 ≤ l then l - 48 else 2 * (l / 4) + (s.bitR (Reg.SAI_LANE_CFG l) 29).toNat

/-- A lane or receiver is enabled. -/
def State.laneEn (s : State) (l : Nat) : Bool := if 96 ≤ l then s.bitR (Reg.SAI_AES_CFG (l - 96)) 31 else s.bitR (Reg.SAI_LANE_CFG l) 31

/-- A lane transmits. -/
def State.laneTx (s : State) (l : Nat) : Bool := decide (l < 96) && s.bitR (Reg.SAI_LANE_CFG l) 30

/-- SLOTS of a lane; two of a receiver (R325). -/
def State.laneSlots (s : State) (l : Nat) : Nat := if 96 ≤ l then 2 else s.fldR (Reg.SAI_LANE_CFG l) 0 5

/-- The ring entry of a lane or receiver for block `n`, and its size E (R325). -/
def State.hamperEntry (s : State) (l n : Nat) : Nat × Nat :=
  let e := 64 * ceilDiv (32 + 4 * s.laneSlots l * s.fmax (s.lanePair l)) 64
  let base := if 96 ≤ l then s.fldR (Reg.SAI_AES_RING_BASE (l - 96)) 0 15 else s.fldR (Reg.SAI_RING_BASE l) 0 15
  (0x06A80000 + 64 * base + n % 4 * e, e)

/-- A detector of R334: raised, and recorded at every onset or when its event bit sets from 0. -/
def State.saiRaise (s : State) (bit det : Nat) (always : Bool) (data : List Byte) : State :=
  let s1 := s.detBit det
  (if always || !s.bitR Reg.SAI_EVT bit then s1.note 0xB det data else s1).evt Reg.SAI_EVT bit

/-- Byte 0 (or 1) of R334 for a pair or receiver: group, or 0x80 + r. -/
def pairCode (i : Nat) : Byte := b8 (if 48 ≤ i then 0x80 + (i - 48) else i / 2)

/-- Detector 0x0A of a pair or receiver (R334). -/
def State.saiFrameErr (s : State) (bit kind i len : Nat) : State :=
  s.saiRaise bit 0x0A false ([b8 kind, pairCode i, b8 (if 48 ≤ i then 0 else i % 2), 0] ++ s.blkBytes ++ leBytes 2 len)

/-! ## Bridges of port channels (R169) -/

/-- The bridge channel that a graph ties to a port channel, by a PORT_IN (1) or PORT_OUT (4) node (R151). -/
def State.chBridge (s : State) (ty ch : Nat) : Option Nat :=
  match s.active 8 with
  | none => none
  | some g =>
    match nodeBus g ty ch with
    | none => none
    | some bus => ((nodesOf g 0xB).find? fun p => decide (p.2 = bus)).map (·.1)

/-- The bridges of a pair's or receiver's channels. -/
def State.pairBridges (s : State) (i : Nat) : List Nat :=
  if 48 ≤ i then (List.range 2).filterMap fun c => s.chBridge 1 (1536 + 2 * (i - 48) + c)
  else ((List.range 4).filter fun j => decide (s.lanePair (4 * (i / 2) + j) = i)).flatMap fun j =>
    let l := 4 * (i / 2) + j
    (List.range 16).filterMap fun sl => s.chBridge (if s.laneTx l then 4 else 1) (16 * l + sl)

/-- The bridges of a pair lose lock and ramp to zero (R169, R330). -/
def State.pairUnlock (s : State) (i : Nat) : State :=
  s.each (s.pairBridges i) fun s c =>
    if s.bitR (Reg.MIX_BRG_STAT c) 29 then
      let s := s.bridgeUnlock c
      s.setBridge c { s.bridge c with down := true, ramp := 0 }
    else s

/-- A pair or receiver gives its bridges no steady input: LOST, a rate change, or out of range (R330). -/
def State.unsteady (s : State) (i : Nat) : Bool :=
  s.bitR (pairStatReg i) 0 || s.bitR (pairStatReg i) 2 || s.bitR (pairStatReg i) 4

/-- BRIDGE_LOCK (R169): a configured bridge that a Trail slot has not taken, and whose pair is steady, locks; its output ramps up. -/
def execBridgeLock (ch : BitVec 7) (ratio : Word) (s : State) : Out :=
  s.event 0x700000 fun s =>
    let c := ch.toNat
    let r := Reg.MIX_BRG_STAT c
    let own := (List.range 52).filter fun i => (s.pairBridges i).contains c
    if s.bitR r 31 && !s.bitR r 29 && !s.bitR r 28 && !(s.bridge c).take && !(own.any s.unsteady) then
      (((s.setBit r 29 true).setReg (Reg.MIX_BRG_RATIO c) ratio).setBridge c { s.bridge c with lock := true, ramp := 0 }).each own
        fun s i => s.setPair i { s.pairSt i with lockP := (s.reg (pairPerReg i)).toNat }
    else s

/-- SAI_CKx_STAT or SAI_AES_STAT as it reads: DOMAIN of an enabled pair, and in domain A LOCK while a bridge of its channels is
locked (R335). -/
def State.pairStat (s : State) (i : Nat) : Word :=
  let w := s.reg (pairStatReg i)
  if !s.bitR (pairCfgReg i) 31 then w
  else
    let d := s.domOf i
    putFld (if d = 1 then putBit w 3 ((s.pairBridges i).any fun c => s.bitR (Reg.MIX_BRG_STAT c) 29) else w) 5 2 d

/-- The output sample of a bridge that leaves at instant `t`: what its converter makes of its input samples while it is locked or ramps down,
with the ramps of R168, R169 and R330; zero otherwise. -/
def State.bridgeSample (s : State) (c t : Nat) : State × Int :=
  let b := s.bridge c
  let x := sext 32 (Config.bridge (s.reg (Reg.MIX_BRG_RATIO c)) ((t : Int) - b.inpAt) b.inp).toNat
  if b.lock then
    (s.setBridge c { b with ramp := min 32 (b.ramp + 1) },
      if b.ramp < 32 then mulSat32 x ((((b.ramp + 1) * 2 ^ 22 / 32 : Nat)) : Int) 22 else x)
  else if b.down && decide (b.ramp < 32) then
    let s1 := s.setBridge c { b with ramp := b.ramp + 1 }
    (if b.take && decide (b.ramp = 31) then s1.bridgeTaken c else s1, mulSat32 x (((31 - b.ramp) * 2 ^ 22 / 32 : Nat) : Int) 22)
  else (s, 0)

/-- The output samples of an input bridge for block `n`. -/
def State.bridgeBlock (s : State) (c n : Nat) : State × List Int :=
  (List.range s.blk.b).foldl (fun (a : State × List Int) k =>
    let r := a.1.bridgeSample c (s.blk.t0 + (n * s.blk.b + k) * 1000000000 / s.blk.fr)
    (r.1, a.2 ++ [r.2])) (s, [])

/-! ## Masks and zero crossings (R323, R324) -/

/-- What a slot does at a frame: in the effective mask, live, frames waited, and the sample it carries. -/
structure SlotStep where
  eff : Bool
  live : Bool
  cnt : Nat
  out : Int

/-- A slot at a frame (R324): `want` is its bit of the target mask in force, `x` the sample, `last` the one before. -/
def slotStep (zxto : Nat) (want eff live : Bool) (cnt : Nat) (last x : Int) : SlotStep :=
  let eff' := if want then true else eff && live
  let cnt := if live = want || !eff then 0 else cnt
  let pass := decide (x = 0) || decide (last * x < 0) || decide (zxto ≤ cnt)
  if eff' && live != want then
    if pass then ⟨eff', want, 0, if want then x else 0⟩ else ⟨eff', live, cnt + 1, if live then x else 0⟩
  else ⟨eff', live, cnt, if eff' && live then x else 0⟩

/-- A lane's slots at a frame: the lane's memory, the effective mask and the samples the slots carry. -/
def State.laneFrame (s : State) (l : Nat) (x : List Int) : State × List Int :=
  let a := s.laneSt l
  let zx := s.fldR Reg.SAI_ZXTO 0 8
  let effR := if 96 ≤ l then 3 else s.fldR (Reg.SAI_MASK_EFF l) 0 16
  let n := s.laneSlots l
  let st := (List.range 16).map fun i =>
    let want := s.laneEn l && decide (i < n) && (decide (96 ≤ l) || a.tgt.testBit i)
    slotStep zx want (effR.testBit i) (a.live.testBit i) (nth a.cnt i 0) (nth a.lastX i 0) (nth x i 0)
  let bits (f : SlotStep → Bool) : Nat := ((st.zipIdx).map fun p => if f p.1 then 2 ^ p.2 else 0).foldl (· + ·) 0
  let s := s.setLane l { a with live := bits (·.live), cnt := st.map (·.cnt), lastX := (List.range 16).map fun i => nth x i 0, tgt := a.m1.getD a.tgt, m1 := a.m2, m2 := none }
  (if 96 ≤ l then s else s.setFld (Reg.SAI_MASK_EFF l) 0 16 (bits (·.eff)), st.map (·.out))

/-! ## Non-audio payloads (R328) -/

/-- The slots of a lane that R328 mutes: bits of pairs. -/
def State.naMute (s : State) (l : Nat) : Nat :=
  let m := if 96 ≤ l then (s.laneSt l).naAcc / 2 ^ 16 else s.fldR (Reg.SAI_MASK_EFF l) 16 16
  if (s.laneSt l).csMute then m ||| 3 else m

/-- The muted pairs of a lane change. A receiver keeps its own in the upper half of `naAcc`. -/
def State.setNaMute (s : State) (l m : Nat) : State :=
  let a := s.laneSt l
  let acc := a.naAcc % 2 ^ 16 ||| m
  if 96 ≤ l then s.setLane l { a with naAcc := acc + 2 ^ 16 * m }
  else (s.setFld (Reg.SAI_MASK_EFF l) 16 16 m).setLane l { a with naAcc := acc }

/-- A non-audio mute begins: counted, and detector 0x0B (R328, R334). -/
def State.naRaise (s : State) (l slot cause : Nat) : State :=
  (s.count Reg.SAI_NONAUDIO_COUNT 1).saiRaise 4 0x0B false
    ([b8 (if 96 ≤ l then 0x80 + (l - 96) else l), b8 slot, b8 cause, 0] ++ s.blkBytes)

/-- A burst preamble completes in pair `i` (R328). -/
def naHit (prev cur : List Nat) (i : Nat) : Bool :=
  let p (l : List Nat) (k : Nat) : Nat := nth l k 0
  (decide (p cur (2 * i) = 0xF872) && decide (p cur (2 * i + 1) = 0x4E1F)) ||
    (decide (p prev (2 * i) = 0xF872) && decide (p cur (2 * i) = 0x4E1F)) ||
    (decide (p prev (2 * i + 1) = 0xF872) && decide (p cur (2 * i + 1) = 0x4E1F))

/-- The watch of a lane at a frame: `top` is the 16 most significant bits of each slot. -/
def State.naWatch (s : State) (l : Nat) (top : List Nat) : State :=
  let a := s.laneSt l
  let en := if 96 ≤ l then s.bitR (Reg.SAI_AES_CFG (l - 96)) 27 else s.bitR (Reg.SAI_LANE_CFG l) 27
  let cnt := (List.range 8).map fun i => if naHit a.top top i || a.csMute then 0 else nth a.naCnt i 0 + 1
  let s := s.setLane l { a with top := top, naCnt := cnt }
  if !en then s else
    s.each (List.range 8) fun s i =>
      if naHit a.top top i then
        let m := s.naMute l
        let s := if m.testBit (2 * i) then s else s.naRaise l (2 * i) 1
        s.setNaMute l ((if (s.laneSt l).csMute && decide (96 ≤ l) then (s.laneSt l).naAcc / 2 ^ 16 else m) ||| 3 * 4 ^ i)
      else s

/-- NONAUDIO_RELEASE (R328): once 4,096 consecutive frames have passed without a preamble, the pair restarts under R324. -/
def execNonaudioRelease (l : BitVec 7) (i : BitVec 3) (s : State) : Out :=
  s.event 0x800000 fun s =>
    let l := l.toNat
    let a := s.laneSt l
    let own := if 96 ≤ l then a.naAcc / 2 ^ 16 else s.fldR (Reg.SAI_MASK_EFF l) 16 16
    let bits := 3 * 4 ^ i.toNat
    if l < 100 ∧ own.testBit (2 * i.toNat) ∧ a.csMute = false ∧ 4096 ≤ nth a.naCnt i.toNat 0 then
      let s := s.setNaMute l (own &&& (0xFFFF ^^^ bits))
      let a := s.laneSt l
      s.setLane l { a with live := a.live &&& (0xFFFF ^^^ bits) }
    else s

/-! ## Transmitted samples -/

/-- The index of the domain-R sample at instant `t`: one count over all trains, as the pilot takes it (R280), which a set of the time counter
does not move. -/
def State.rIndex (s : State) (t : Nat) : Nat := (rndDiv (((t : Int) - s.tim.ahead) * (s.blk.fr : Int)) 1000000000).toNat

/-- The index of the domain-R sample `i` of the train that leaves a port. -/
def State.rTrain (s : State) (i : Nat) : Nat := s.rIndex s.blk.t0 + 3 * s.blk.b + i

/-- A latched block of samples, if it is block `m`. -/
def latched (l : List (Nat × BusVal)) (m i j : Nat) : Option Int :=
  match l.find? fun p => decide (p.1 = busKey m i) && decide (p.2.blk = m) with
  | some p => some (nth p.2.smp j 0)
  | none => none

/-- A feed's output of a unit that holds h, at index `i` of the train: h, and from the ramp's start the ramp to `y` (R178,
R306, R308). -/
def holdRamp (h y : Int) (at_ : Option Nat) (i : Nat) : Int := match at_ with
  | none => h
  | some r => if i < r then h else if i - r < 32 then fadeMix h y (fadeW (i - r) 32) else y

/-- What the twin pair makes of a feed's output at index `i`: nothing of it in a standby or after a yield was taken, h while
frozen, the ramp of R308 after a takeover. `sub` is the feed's Trail substitute. -/
def State.twinOut (s : State) (f i : Nat) (y sub : Int) : Int :=
  let h := nth s.twin.hold f 0
  if s.pmode = 9 ∨ s.twin.silent then 0
  else if s.isFrozen then (if i < s.twin.at_ then y else holdRamp h sub s.twin.rampAt i)
  else
    match s.twin.live with
    | some l => if i < l then 0 else holdRamp h y (some l) i
    | none => y

/-- What a stream or fabric channel carries of a feed at index `i` (R308): h while frozen, and the ramp from the frozen
sample on after a yield was taken over. -/
def State.twinStr (s : State) (f i : Nat) (y sub : Int) : Int :=
  let h := nth s.twin.hold f 0
  if s.isFrozen then (if i < s.twin.at_ then y else holdRamp h sub s.twin.rampAt i)
  else
    match s.twin.strFrom with
    | some l => if i < l then y else holdRamp h y (some l) i
    | none => y

/-- What the twin pair makes of a feed's output `y` where no block of a train leaves: nothing of it in a standby or after a yield was
taken, h while frozen, and the ramp of R306 from h, which goes on in SAFE-HOLD. -/
def State.twinGap (s : State) (f : Nat) (y : Int) : Int :=
  let h := nth s.twin.hold f 0
  if s.pmode = 9 ∨ s.twin.silent then 0
  else
    match s.twin.rampNs with
    | some r =>
      let k := (s.gNow - r) * s.blk.fr / 1000000000
      if r ≤ s.gNow ∧ k < 32 then fadeMix h y (fadeW k 32) else y
    | none => if s.isFrozen then h else y

/-- Sample `j` that feed `f` puts out in this block: its block n − 3, or its Trail substitute (R29, R46); since a forced
switch of M_APP, the sample whose time it is (R480). -/
def State.feedOut (s : State) (f j : Nat) (src : List Int) : Int :=
  let m := s.blk.n - 3
  let idx := if s.running ∧ 3 ≤ s.blk.n ∧ s.blk.fb = none then s.rTrain (m * s.blk.b + j) else s.rIndex s.gNow
  let sub := s.addPilot f idx s.blk.fr (s.substitute f src)
  if s.blk.fb.isSome ∧ 3 ≤ s.blk.n then
    let i := m * s.blk.b + (s.gNow - s.snNs s.blk.n) * s.blk.fr / 1000000000
    s.twinOut f i ((s.mapped f i).getD sub) sub
  else if s.running ∧ 3 ≤ s.blk.n then
    s.twinOut f (m * s.blk.b + j) ((latched s.mix.ovrOut m f j).getD sub) sub
  else s.twinGap f sub

/-- Sample `j` that a graph PORT_OUT puts out in this block. -/
def State.portOutSample (s : State) (ch j : Nat) : Int :=
  let m := s.blk.n - 3
  if s.blk.fb.isSome ∧ 3 ≤ s.blk.n then
    let i := m * s.blk.b + (s.gNow - s.snNs s.blk.n) * s.blk.fr / 1000000000
    (latched s.mix.portOut (i / s.blk.b) ch (i % s.blk.b)).getD 0
  else if s.running ∧ 3 ≤ s.blk.n then (latched s.mix.portOut m ch j).getD 0 else 0

/-- What feed `f` has put out up to instant `t` of this block, newest first, before the twin pair's stage: the samples of its block and of the
one before it, or its Trail substitute. -/
def State.feedPast (s : State) (f t : Nat) (sub : Int) : List Int :=
  if s.running ∧ 3 ≤ s.blk.n then
    let j := min (s.blk.b - 1) ((t - s.snNs s.blk.n) * s.blk.fr / 1000000000)
    let one (m j : Nat) : List Int := ((List.range (j + 1)).map fun k => (latched s.mix.ovrOut m f k).getD sub).reverse
    one (s.blk.n - 3) j ++ (if 3 < s.blk.n then one (s.blk.n - 4) (s.blk.b - 1) else [sub])
  else [sub]

/-- A feed on a domain-A channel of rate `rate` at instant `t`, behind the conversion of R169: no BRIDGE node ties its converter. -/
def State.feedConv (s : State) (f rate t : Nat) (sub : Int) : Int :=
  sext 32 (Config.bridge (w32 (s.blk.fr * 2 ^ 16 / max 1 rate)) 0 (s.feedPast f t sub)).toNat

/-- The index, from sample 0 of block 0, of the sample that leaves at instant `t`. -/
def State.trainIx (s : State) (t : Nat) : Nat := (t - s.snNs 3) * s.blk.fr / 1000000000

/-- A feed on a domain-A lane of rate `rate` now. -/
def State.feedOutA (s : State) (f rate : Nat) (src : List Int) : Int :=
  let t := s.gNow
  let sub := s.addPilot f (s.rIndex t) s.blk.fr (s.substitute f src)
  let y := s.feedConv f rate t sub
  if s.running ∧ 3 ≤ s.blk.n then s.twinOut f (s.trainIx t) y sub else s.twinGap f y

/-- The sample of a transmit channel in frame `j` of this block (R319, R320). -/
def State.txSample (s : State) (ch dom j : Nat) (src : List Int) : State × Int :=
  let map := s.reg (Reg.SAI_TXMAP ch)
  let named := (match s.active 8 with | some g => (nodeBus g 4 ch).isSome | none => false)
  if s.pmode = 9 ∨ (bitOf map 31 = false ∧ named = false) then (s, 0)
  else if dom = 1 then
    (if bitOf map 31 then (s, s.feedOutA (fld map 0 9) (rateHz (s.fldR (pairCfgReg (s.lanePair (ch / 16))) 24 3)) src)
      else
        match s.chBridge 4 ch with
        | some c => s.bridgeSample c s.gNow
        | none => (s.draw, sext 32 s.freeNat))
  else (s, if bitOf map 31 then s.feedOut (fld map 0 9) j src else s.portOutSample ch j)

/-- The samples of a lane's slots, in ascending order. -/
def State.txSlots (s : State) (l dom j : Nat) (src : List Int) : Nat → Nat → State × List Int
  | 0, _ => (s, [])
  | n + 1, i =>
    let r := s.txSample (16 * l + i) dom j src
    let t := State.txSlots r.1 l dom j src n (i + 1)
    (t.1, r.2 :: t.2)

/-- A sample as `w` bits (R9, R318). -/
def slotWord (w : Nat) (x : Int) : Nat := toBits w (satN w (rndShift x (32 - w)))

/-- The first bit of slot `k`, in bit clocks after the frame starts (R317). -/
def slotAt (cfg : Word) (k : Nat) : Nat :=
  match fld cfg 22 2 with
  | 0 => if k = 0 then 1 else fld cfg 0 10 / 2 + 1
  | 1 => k * (fld cfg 0 10 / 2)
  | _ => (bitOf cfg 12).toNat + k * slotBits (fld cfg 20 2)

/-- The bits of a frame as bytes, its first bit clock first. -/
def frameBytes (cfg : Word) (v : Nat) : List Byte := let k := ceilDiv (fld cfg 0 10) 8; beBytes k (v * 2 ^ (8 * k - fld cfg 0 10))

/-- A lane sends a frame (R317): the bits of its data, each slot's most significant bit first at its place, then for each bit clock whether
the lane drives its pin: with HIZ only in the slots it uses. Where no slot lies the data is zero. -/
def State.sendFrame (s : State) (l w driven : Nat) (x : List Int) : State :=
  let cfg := s.pairCfg (s.lanePair l)
  let n := fld cfg 0 10
  let ks := (List.range 16).filter fun k => driven.testBit k && decide (slotAt cfg k + w ≤ n)
  let at_ (v k : Nat) : Nat := v * 2 ^ (n - slotAt cfg k - w)
  let data := (ks.map fun k => at_ (slotWord w (nth x k 0)) k).foldl (· + ·) 0
  let own := (ks.map fun k => at_ (2 ^ w - 1) k).foldl (· ||| ·) 0
  s.emit .audio l (frameBytes cfg data ++ frameBytes cfg (if s.bitR (Reg.SAI_LANE_CFG l) 28 then own else 2 ^ n - 1))

/-- A master pair drives FS over a frame (R317): its level at each bit clock, then 1 where the data is launched on the rising edge of
BCLK. -/
def State.sendFs (s : State) (i : Nat) : State :=
  let cfg := s.pairCfg i
  let n := fld cfg 0 10
  let h := n / 2
  let v := match fld cfg 22 2 with
    | 0 => 2 ^ h - 1
    | 1 => (2 ^ h - 1) * 2 ^ h
    | _ => 2 ^ (n - 1)
  if s.slaved i then s
  else s.emit .audio (128 + i) (frameBytes cfg (if bitOf cfg 14 then 2 ^ n - 1 - v else v) ++ [b8 (bitOf cfg 13).toNat])

/-! ## The Gauntlet lanes (R333, R170, R174) -/

/-- A Trail direct output entry's sample, from the domain-G sample that entered three samples before (R174). -/
def State.toutSample (s : State) (j : Nat) : Int :=
  let w := s.reg (Reg.GNT_TOUT j)
  let y := match s.sai.gsrc[3]? with
    | some g => trailOut (if bitOf w 30 then s.feedSel (fld w 0 9) g.at_ else (s.zbAt (fld w 0 9 % 256) g.at_).out) g.src
    | none => 0
  s.addPilot (384 + j) s.sai.gk 48000 y

/-- The four tone generators put out a sample each. -/
def State.tonesNext (s : State) : State × List Int :=
  let a := s.toneNext 0
  let b := a.1.toneNext 1
  let c := b.1.toneNext 2
  let d := c.1.toneNext 3
  (d.1, [a.2, b.2, c.2, d.2])

/-- Trail input slot `k` at the domain-G sample of instant `t` (R170): zero without a train, while GNT_TSLOT_EN does not route it, or in
samples that no graph node gives it; the graph's sample of 8 domain-G samples before where the crossing is plain (R36), otherwise
as its converter gives it. -/
def State.trailSlot (s : State) (k t : Nat) (given : Int) : Int :=
  if !s.running ∨ !s.bitR Reg.GNT_TSLOT_EN k then 0
  else
    let i := s.rIndex (t - 166667) - s.rIndex s.blk.t0
    let out (i : Nat) : Int := if i / s.blk.b < 3 then 0 else (latched s.mix.portOut (i / s.blk.b - 3) (0x8000 + k) (i % s.blk.b)).getD 0
    if s.plain then out i
    else if s.mix.portOut.isEmpty then given
    else sext 32 (Config.cross (s.bitR Reg.CLK_STATUS 11) ((t * s.blk.fr % 1000000000 : Nat) : Int)
      ((List.range 40).map fun d => out (i + 15 - d))).toNat

/-- A lane input of the Trail: the last sample of its slot while its entry is enabled and its pair is not LOST (R333). -/
def State.trailIn (s : State) (i : Nat) : Int :=
  let e := s.reg (Reg.GNT_TIN i)
  if bitOf e 31 && !s.bitR (pairStatReg (s.lanePair (88 + fld e 24 3))) 0 then Store.get (fun _ => (0 : Int)) s.sai.gin i else 0

/-- A domain-G sample enters the Trail: players, tones, lane inputs and Trail input slots; every source reads zero until Gauntlet
firmware runs (R170, R175). Then staged changes that are due apply (R173). -/
def State.trailSample (s : State) (given : List Int) : State :=
  let p := s.playersNext
  let r := p.1.tonesNext
  let t := match s.sai.gsrc with
    | g :: _ => max s.now (g.at_ + 20833)
    | [] => s.now
  let v (s : State) : List Int :=
    p.2 ++ r.2 ++ (List.range 32).map s.trailIn ++ (List.range 12).map fun k => s.trailSlot k t (nth given (52 + k) 0)
  let s1 := if s.gnt.phase = 0 then r.1 else s
  let x : GSample := ⟨t, if s.gnt.phase = 0 then v s1 else List.replicate 64 0⟩
  ({ s1 with sai := { s1.sai with gsrc := (x :: s1.sai.gsrc).take 128, gk := s1.sai.gk + 1 } } : State).trailSwitches

/-- A frame of a Gauntlet pair's receive lanes enters the Trail's lane inputs; `bad`: a frame of zeros. -/
def State.gntRx (s : State) (i : Nat) (bad : Bool) (w : Nat) (slots : List (List Word)) : State :=
  s.each (List.range 32) fun s k =>
    let e := s.reg (Reg.GNT_TIN k)
    let l := 88 + fld e 24 3
    if bitOf e 31 && s.laneEn l && !s.laneTx l && decide (s.lanePair l = i) then
      let v : Int := if bad then 0 else sext 32 ((nth (nth slots (l % 4) []) (fld e 16 4) 0).toNat <<< (32 - w))
      { s with sai := { s.sai with gin := Store.set (fun _ => (0 : Int)) s.sai.gin k v } }
    else s

/-- A Gauntlet pair that runs as master gives the domain-G samples their ticks. -/
def State.gntMaster (s : State) : Bool := [44, 45, 46, 47].any fun i => bitOf (s.pairCfg i) 31 && bitOf (s.pairCfg i) 30

/-- A frame of zeros stored, or a frame dropped, by the elastic buffer of a pair (R320). -/
def State.slipped (s : State) (i : Nat) : State := (s.saiFrameErr 3 3 i 0).count Reg.SAI_SLIP_COUNT 1

/-- Put the elastic buffer of a slaved Gauntlet pair. -/
def State.setGbuf (s : State) (i : Nat) (x : Bool × List (List (List Word))) : State :=
  { s with sai := { s.sai with gbuf := (i, x) :: s.sai.gbuf.filter fun e => decide (e.1 ≠ i) } }

/-- A frame enters the elastic buffer of a slaved Gauntlet pair, four frames deep (R333). -/
def State.gntPush (s : State) (i : Nat) (frame : List (List Word)) : State :=
  let (on, q) := ((s.sai.gbuf.find? fun e => decide (e.1 = i)).map (·.2)).getD (false, [])
  if 4 ≤ q.length then s.slipped i else s.setGbuf i (on || decide (2 ≤ q.length + 1), q ++ [frame])

/-- At a domain-G sample each elastic buffer that has been half full gives its oldest frame, or one of zeros (R333). -/
def State.gntPop (s : State) : State :=
  s.each s.sai.gbuf fun s e =>
    let w := slotBits (fld (s.pairCfg e.1) 20 2)
    match e.2 with
    | (false, _) => s
    | (true, []) => (s.slipped e.1).gntRx e.1 true w []
    | (true, f :: r) => (s.setGbuf e.1 (true, r)).gntRx e.1 false w f

/-- A frame of Gauntlet pair `i` begins the next domain-G sample, unless it is the pair's first frame since the last sample began. -/
def State.trailTick (s : State) (i : Nat) (given : List Int) : State :=
  let first := s.sai.gseen.isEmpty || s.sai.gseen.contains i
  let s1 := if first then s.gntPop.trailSample given else s
  { s1 with sai := { s1.sai with gseen := if first then [i] else i :: s1.sai.gseen } }

/-- A frame of a Gauntlet pair: its receive lanes feed GNT_TIN, its transmit lanes carry GNT_TOUT. Beside a master pair, a slaved one goes
through its elastic buffer; where every pair is slaved, the frames of the first give the ticks, and the buffer
drops the received frame and repeats the one sent (`slip` 1), or stores a frame of zeros before it (`slip` 2) (R320, R333). -/
def State.gauntletFrame (s : State) (i : Nat) (bad : Bool) (w slip : Nat) (slots : List (List Word)) (src : List Int) : State :=
  let s1 := if s.gntMaster then
      (if s.slaved i then s.gntPush i (if bad then [] else slots) else (s.gntRx i bad w slots).trailTick i src)
    else if slip = 1 then s
    else
      let t := if slip = 2 then (s.gntRx i true w slots).trailTick i src else s
      (t.gntRx i bad w slots).trailTick i src
  s1.each (List.range 4) fun s j =>
    let l := 4 * (i / 2) + j
    if !s.laneEn l || decide (s.lanePair l ≠ i) || !s.laneTx l then s
    else
      let x := (List.range (s.laneSlots l)).map fun sl =>
        match findIx 64 fun k => let e := s.reg (Reg.GNT_TOUT k); bitOf e 31 && decide (88 + fld e 24 3 = l) && decide (fld e 16 4 = sl) with
        | some k => s.toutSample k
        | none => 0
      s.sendFrame l w (2 ^ s.laneSlots l - 1) x

/-! ## Frames (R320 to R322, R325) -/

/-- The counts of the block that a frame belongs to: this one's, or fresh ones. -/
def PairSt.roll (p : PairSt) (nb : Nat) : PairSt := if p.cur.blk = nb then p else { p with last := p.cur, cur := { blk := nb } }

/-- A received frame is stored in the Hamper as frame `j` of block `nb`. -/
def State.storeFrame (s : State) (l nb j : Nat) (x : List Int) : State :=
  let n := s.laneSlots l
  if s.running ∧ (s.laneEn l ∨ (s.laneSt l).live ≠ 0) ∧ 0 < n then
    s.putArray ((s.hamperEntry l nb).1 + 32 + 4 * n * j) ((x.take n).flatMap fun v => leBytes 4 (toBits 32 v))
  else s

/-- Muted slots of a frame read zero. -/
def muted (m : Nat) (x : List Int) : List Int := x.zipIdx.map fun p => if m.testBit p.2 then 0 else p.1

/-- A received frame of a domain-A lane or receiver enters the bridges of its slots (R169, R320). -/
def State.laneBridges (s : State) (l : Nat) (y : List Int) : State :=
  if s.domOf (s.lanePair l) = 1 then
    s.each (List.range (s.laneSlots l)) fun s sl =>
      match s.chBridge 1 (if 96 ≤ l then 1536 + 2 * (l - 96) + sl else 16 * l + sl) with
      | some c => s.bridgeIn c s.now (nth y sl 0)
      | none => s
  else s

/-- A restarted lane carries zero until its block (R332). -/
def State.laneZero (s : State) (l : Nat) : Bool := s.running && decide (s.blk.n < (s.laneSt l).zeroTo)

/-- A lane that receives takes a frame; one that began before S0 is no block's (`keep` false, R322). -/
def State.rxLane (s : State) (l nb j w : Nat) (bad zero keep : Bool) (raw : List Word) : State :=
  let zero := zero || s.laneZero l
  let top := (List.range 16).map fun i => if bad then 0 else (nth raw i 0).toNat >>> (w - 16) % 65536
  let x : List Int := (List.range 16).map fun i => if bad || zero then 0 else sext 32 ((nth raw i 0).toNat <<< (32 - w))
  let s := s.naWatch l top
  let r := s.laneFrame l x
  let y := muted (r.1.naMute l) r.2
  (r.1.when keep fun s => s.storeFrame l nb j y).laneBridges l y

/-- A lane that transmits sends a frame; `rep`: the last one again (R320). -/
def State.txLane (s : State) (l j w dom : Nat) (zero rep : Bool) (src : List Int) : State :=
  let r := if rep then (s, (s.laneSt l).lastX) else s.txSlots l dom j src 16 0
  let t := r.1.laneFrame l (if zero || s.laneZero l then List.replicate 16 0 else r.2)
  let driven := if t.1.bitR (Reg.SAI_LANE_CFG l) 28 then t.1.fldR (Reg.SAI_MASK_EFF l) 0 16 else 2 ^ t.1.laneSlots l - 1
  if t.1.laneEn l ∨ (t.1.laneSt l).live ≠ 0 then t.1.sendFrame l w (driven ||| (t.1.laneSt l).live) t.2 else t.1

/-- The nominal period of a rate in CLK_PER ticks of 196.608 MHz (R19), UQ16.16. -/
def nomPeriod (rate : Nat) : Nat := 196608000 * 65536 / rate

/-- P of a slave pair is judged against its nominal rate, and that of a receiver against the rates it takes (R316, R330). -/
def State.rangeCheck (s : State) (i : Nat) (period : Word) : State :=
  let far (nom : Nat) : Bool := decide (100 * ((period.toNat : Int) - (nom : Int)).natAbs > nom)
  let out := if 48 ≤ i then (List.range 7).all fun c => far (nomPeriod (rateHz c)) else far (nomPeriod (rateHz (fld (s.pairCfg i) 24 3)))
  let s1 := s.setBit (pairStatReg i) 4 out
  if out && !s.bitR (pairStatReg i) 4 && decide (s.domOf i = 1) then s1.pairUnlock i else s1

/-- A frame of a pair that is LOST or changes its rate: whether it counts towards the 16 of a recovery (R330). -/
def State.recovery (s : State) (i bclks : Nat) (period : Word) : State :=
  if !s.bitR (pairStatReg i) 0 && !s.bitR (pairStatReg i) 2 then s
  else
    let cfg := s.pairCfg i
    let nom := nomPeriod (rateHz (fld cfg 24 3))
    let near := decide (200 * ((period.toNat : Int) - (nom : Int)).natAbs ≤ nom)
    let ok := decide (48 ≤ i) || (decide (bclks = fld cfg 0 10) && (!s.bitR (pairStatReg i) 2 || near))
    s.setPair i { s.pairSt i with good := if ok then (s.pairSt i).good + 1 else 0 }

/-- The receive lanes of a pair take a frame as frame `j` of block `nb`. -/
def State.rxFrame (s : State) (i nb j w : Nat) (bad zero keep : Bool) (slots : List (List Word)) : State :=
  s.each ((List.range 4).filter fun k => decide (s.lanePair (4 * (i / 2) + k) = i) && !s.laneTx (4 * (i / 2) + k)) fun s k =>
    s.rxLane (4 * (i / 2) + k) nb j w bad zero keep (nth slots k [])

/-- The transmit lanes of a pair send a frame: sample `j` of what leaves in block `nb`. -/
def State.txFrame (s : State) (i nb j w dom : Nat) (zero rep : Bool) (src : List Int) : State :=
  let s1 : State := { s with blk := { s.blk with n := nb } }
  let t := s1.each ((List.range 4).filter fun k => decide (s.lanePair (4 * (i / 2) + k) = i) && s.laneTx (4 * (i / 2) + k)) fun s k =>
    s.txLane (4 * (i / 2) + k) j w dom zero rep src
  { t with blk := s.blk }

/-- A received frame takes its place in a block of its pair: the time of frame 0, and the frames held (R325). -/
def State.frameIn (s : State) (i nb j w flags : Nat) (bad zero : Bool) (slots : List (List Word)) (t0 : Nat) : State :=
  let p := (s.pairSt i).roll nb
  let c : PairBlk := { p.cur with flags := p.cur.flags ||| flags }
  let c := if c.f = 0 then { c with tns := t0 % 2 ^ 32, tag := t0 / 2 ^ 32 % 16 } else c
  (s.setPair i { p with cur := if s.running then { c with f := j + 1 } else c }).rxFrame i nb j w bad zero true slots

/-- A frame start: a new configuration that waits for one begins (R332). -/
def State.newCfg (s : State) (i : Nat) : State :=
  match (s.pairSt i).old with
  | some (_, some t) => if t ≤ max s.now (s.snNs s.blk.n) then s.setPair i { s.pairSt i with old := none } else s
  | _ => s

/-- The place of the frame that ends on a synchronous slave pair, counted from S0, through its elastic buffer (R320); after a loss or a
restart the first frame that began in a block from which it carries samples again takes that block's first place. -/
def State.elasticAt (s : State) (i : Nat) : Option Nat :=
  let p := s.pairSt i
  if !s.running || !s.slaved i || decide (s.domOf i ≠ 0) then none
  else
    match p.cnt with
    | some c => some c
    | none => if p.zeroTo ≤ p.fs then some (p.fs * s.blk.b) else none

/-- The frame that ends on a pair (R320 to R322). -/
def State.saiFrame (s : State) (i bclks : Nat) (period : Word) (slip : Nat) (slots : List (List Word)) (src : List Int) : State :=
  let cfg := s.pairCfg i
  let st := pairStatReg i
  let slave := s.slaved i
  let s := (s.setReg (pairPerReg i) period).recovery i bclks period
  if s.bitR st 0 || (s.pairSt i).halt then s else
  let s := (if slave then s.rangeCheck i period else s).sendFs i
  let dom := s.domOf i
  let w := slotBits (fld cfg 20 2)
  let p0 := s.pairSt i
  let sync := slave && decide (dom = 0)
  let at_ := s.elasticAt i
  let nb := if !s.running then 0 else match at_ with
    | some c => c / s.blk.b
    | none => if dom = 1 then p0.fs else s.blk.n
  let held := (p0.roll nb).cur.f
  let j := match at_ with
    | some c => c % s.blk.b
    | none => held
  let ovfl := s.running && !sync && !p0.pre && decide (s.fmax i ≤ held)
  let bad := slave && decide (bclks ≠ fld cfg 0 10)
  let zero := s.running && decide (s.blk.n < p0.zeroTo)
  let fl := (if bad || ovfl then 2 else 0) + (if slip ≠ 0 then 8 else 0)
  let s := s.setPair i { p0.roll nb with
    cur := { (p0.roll nb).cur with flags := (p0.roll nb).cur.flags ||| fl }, fs := s.blk.n, fsT := s.int36, skip := false, pre := false }
  let s := s.setBit st 1 (bad || ovfl)
  let s := if bad || ovfl then (s.saiFrameErr 1 1 i bclks).count Reg.SAI_FS_ERR_COUNT 1 else s
  let s := if slip ≠ 0 && slave && decide (dom ≠ 1) && !(decide (44 ≤ i) && s.gntMaster) then s.slipped i else s
  if 44 ≤ i then (s.gauntletFrame i bad w (if slave then slip else 0) slots src).newCfg i
  else
    let out := zero || p0.skip || (s.running && decide (s.blk.n < p0.txTo))
    let s := s.txFrame i (match at_ with
      | some c => c / s.blk.b
      | none => s.blk.n) j w dom out (sync && decide (slip = 1)) src
    let s := if ovfl || p0.skip || (decide (dom = 0) && (decide (slip = 1) || zero)) || (sync && s.running && at_.isNone) then s
      else if p0.pre then s.rxFrame i nb j w bad zero false slots
      else if sync && decide (slip = 2) then
        match at_ with
        | some c => (s.frameIn i nb j w fl true zero [] p0.fsT).frameIn i ((c + 1) / s.blk.b) ((c + 1) % s.blk.b) w fl bad zero slots p0.fsT
        | none => s.frameIn i nb j w fl bad zero slots p0.fsT
      else s.frameIn i nb j w fl bad zero slots p0.fsT
    let s := s.setPair i { s.pairSt i with cnt := at_.map fun c => c + (if slip = 1 then 0 else if slip = 2 then 2 else 1) }
    (if dom = 0 && !bad then
      (s.when (!s.bitR st 3) fun s => s.setPair i { s.pairSt i with lockP := period.toNat }).setBit st 3 true
    else s).newCfg i

/-- SAI_FRAME (R320). -/
def execSaiFrame (k : BitVec 5) (pair : Bool) (bclks : Nat) (period : Word) (slip : BitVec 2) (slots : List (List Word)) (src : List Int)
    (s : State) : Out :=
  let i := 2 * k.toNat + pair.toNat
  s.event (pairCfgReg i) fun s =>
    if k.toNat < 24 ∧ bitOf (s.pairCfg i) 31 then s.saiFrame i bclks period slip.toNat slots src else s

/-- AES3_FRAME (R329): parity, channel status, the two slots and their non-audio watch. -/
def execAes3Frame (r : BitVec 2) (a b : BitVec 24) (perr : BitVec 2) (cs : Option Word) (period : Word) (s : State) : Out :=
  s.event 0x800000 fun s =>
    let i := 48 + r.toNat
    let l := 96 + r.toNat
    if !s.bitR (pairCfgReg i) 31 then s else
    let s := (s.setReg (pairPerReg i) period).recovery i 0 period
    if s.bitR (pairStatReg i) 0 then s else
    let s := s.rangeCheck i period
    let p0 := s.pairSt i
    let p := p0.roll (if s.running then p0.fs else 0)
    let p := if p.cur.f = 0 then { p with cur := { p.cur with tns := p0.fsT % 2 ^ 32, tag := p0.fsT / 2 ^ 32 % 16 } } else p
    let ovfl := s.running && !p0.pre && decide (s.fmax i ≤ p.cur.f)
    let p := { p with fs := s.blk.n, fsT := s.int36, pre := false
                      cur := { p.cur with flags := p.cur.flags ||| (if perr ≠ 0 then 0x20 else 0) ||| (if ovfl then 2 else 0) } }
    let s := s.setBit (pairStatReg i) 1 ovfl
    let s := if perr ≠ 0 then
        (s.count Reg.SAI_AES_PERR (popCount 2 perr.toNat)).saiFrameErr 5 4 i 0
      else s
    let s := match cs with
      | none => s
      | some w =>
        let s := s.setReg (Reg.SAI_AES_CS r.toNat) w
        let na := bitOf w 1 && s.bitR (pairCfgReg i) 27
        let x := s.laneSt l
        if na && !x.csMute then (s.setLane l { x with csMute := true, naAcc := x.naAcc ||| 3 }).naRaise l 0 2
        else if !na && x.csMute then
          s.setLane l { x with csMute := false, naCnt := List.replicate 8 0, naAcc := x.naAcc % 2 ^ 16 + 2 ^ 16 * (x.naAcc / 2 ^ 16 ||| 3) }
        else s
    let raw (v : BitVec 24) (bit : Nat) : Word := if perr.toNat.testBit bit then 0 else w32 v.toNat
    if ovfl then
      ((s.setPair i p).saiFrameErr 1 1 i 0).count Reg.SAI_FS_ERR_COUNT 1
    else
      let s := s.rxLane l p.cur.blk p.cur.f 24 false false (!p0.pre) [raw a 0, raw b 1]
      s.setPair i { p with cur := { p.cur with f := if s.running ∧ p0.pre = false then p.cur.f + 1 else p.cur.f } }

/-! ## Headers and received channels -/

/-- The counts of block `n` of a pair or receiver. -/
def PairSt.of (p : PairSt) (n : Nat) : PairBlk := if p.cur.blk = n then p.cur else if p.last.blk = n then p.last else { blk := n }

/-- Block `n` of a lane or receiver is complete: the header of its entry is written, BLOCK last (R325, R326). -/
def State.hamperHeader (s : State) (l n : Nat) : State :=
  let i := s.lanePair l
  let a := s.laneSt l
  let c := (s.pairSt i).of n
  let lost := s.bitR (pairStatReg i) 0 || (s.pairSt i).halt
  let na := a.naAcc % 2 ^ 16 ||| s.naMute l
  let fl := c.flags ||| lost.toNat ||| (if na ≠ 0 then 16 else 0)
  let e := (s.hamperEntry l n).1
  let bs := leBytes 2 c.f ++ leBytes 4 (if c.f = 0 then 0 else c.tns) ++ [b8 (if c.f = 0 then 0 else c.tag), b8 fl] ++
    leBytes 2 (s.laneSlots l) ++ leBytes 2 na ++ List.replicate 14 0
  let s := ((s.putArray (e + 6) bs).putArray e (leBytes 6 n)).setLane l { a with naAcc := a.naAcc / 2 ^ 16 * 2 ^ 16 }
  s.setReg (if 96 ≤ l then Reg.SAI_AES_RING_BLK (l - 96) else Reg.SAI_RING_BLK l) (w32 n)

/-- The headers of every receive lane and receiver for block `n`. -/
def State.hamperBlock (s : State) (n : Nat) : State :=
  s.each ((List.range 88 ++ [96, 97, 98, 99]).filter fun l => s.laneEn l && !s.laneTx l) fun s l =>
    s.hamperHeader l n

/-- The samples of a serial receive channel for block `n`: from the Hamper in domain R, through its bridge in domain A
(R319, R320, R169). -/
def State.rxSerial (s : State) (ch n : Nat) : State × List Int :=
  let b := s.blk.b
  let l := if ch < 1536 then ch / 16 else 96 + (ch - 1536) / 2
  let sl := if ch < 1536 then ch % 16 else ch % 2
  let i := s.lanePair l
  if !s.laneEn l || s.laneTx l || decide (s.laneSlots l ≤ sl) then (s, List.replicate b 0)
  else if s.domOf i = 0 then
    let f := ((s.pairSt i).of n).f
    let e := (s.hamperEntry l n).1
    (s, (List.range b).map fun k => if k < f then sext 32 (s.swz (e + 32 + 4 * s.laneSlots l * k + 4 * sl)).toNat else 0)
  else match s.chBridge 1 ch with
    | some c => s.bridgeBlock c n
    | none => (s, List.replicate b 0)

/-! ## Clock faults (R330, R331) -/

/-- SAI_CLOCK_STOP (R330): a slave pair or receiver stops, or P departs by more than 0.5 % from the period at lock. -/
def execSaiClockStop (aes : Bool) (k : BitVec 5) (pair : Bool) (rate : Bool) (s : State) : Out :=
  let i := if aes then 48 + k.toNat else 2 * k.toNat + pair.toNat
  s.event (pairCfgReg i) fun s =>
    let st := pairStatReg i
    let p := s.pairSt i
    let per := (s.reg (pairPerReg i)).toNat
    let moved := decide (p.lockP ≠ 0) && decide (p.lockP < 200 * ((per : Int) - (p.lockP : Int)).natAbs)
    let ok := (if aes then decide (k.toNat < 4) else decide (k.toNat < 24)) && s.bitR (pairCfgReg i) 31 && s.slaved i && !s.bitR st 0 &&
      (!rate || (moved && !s.bitR st 2))
    if !ok then s else
    let dom := s.domOf i
    let lost := !rate || decide (dom = 0)
    let s := s.setPair i { p with good := 0, cur := { p.cur with flags := p.cur.flags ||| (if lost then 1 else 0) ||| (if rate then 4 else 0) } }
    let s := if rate then ((s.saiFrameErr 2 2 i 0).count Reg.SAI_RATE_CHG_COUNT 1).setBit st 2 true else s
    let s := if lost then
        (((s.setBit st 0 true).setBit st 3 false).count Reg.SAI_LOST_COUNT 1).saiRaise 0 0x09 true
          ([pairCode i, b8 (if aes then 0 else pair.toNat), b8 (if aes then 3 else if rate then 2 else 1), 0] ++ s.blkBytes)
      else s
    let s := if 44 ≤ i ∧ i < 48 ∧ lost then
        { s with sai := { s.sai with gbuf := s.sai.gbuf.filter fun e => decide (e.1 ≠ i), gin := s.sai.gin.filter fun e => decide (s.lanePair (88 + fld (s.reg (Reg.GNT_TIN e.1)) 24 3) ≠ i) } }
      else s
    if dom = 1 then (s.setBit st 3 false).pairUnlock i else s

/-- SAI_CLOCK_RECOVER (R330, R331): after sixteen good frames in a row. Domain-R lanes and transmit lanes carry samples from the next
block on. -/
def execSaiClockRecover (aes : Bool) (k : BitVec 5) (pair : Bool) (s : State) : Out :=
  let i := if aes then 48 + k.toNat else 2 * k.toNat + pair.toNat
  s.event (pairCfgReg i) fun s =>
    let st := pairStatReg i
    let p := s.pairSt i
    if (s.bitR st 0 || s.bitR st 2) && decide (16 ≤ p.good) then
      let p1 : PairSt := if s.domOf i = 0 then { p with zeroTo := s.blk.n + 1, cnt := none } else { p with txTo := s.blk.n + 1 }
      ((s.setBit st 0 false).setBit st 2 false).setPair i { p1 with good := 0, fs := s.blk.n, fsT := s.int36 }
    else s

/-- SLOT_ZERO_CROSS_SWITCH (R324): a pending start or stop of a slot applies, where its last sample is zero or it has waited for the
SAI_ZXTO now in force; one that a frame's test let through has switched with that frame. -/
def execSlotZeroCrossSwitch (l : BitVec 7) (slot : BitVec 4) (s : State) : Out :=
  s.event 0x800000 fun s =>
    let l := l.toNat
    let i := slot.toNat
    let a := s.laneSt l
    let want := s.laneEn l && decide (i < s.laneSlots l) && a.tgt.testBit i
    if l < 88 ∧ s.bitR (Reg.SAI_MASK_EFF l) i ∧ a.live.testBit i ≠ want ∧
        (nth a.lastX i 0 = 0 ∨ s.fldR Reg.SAI_ZXTO 0 8 ≤ nth a.cnt i 0) then
      s.setLane l { a with live := a.live ^^^ 2 ^ i, cnt := putNth a.cnt i 0 }
    else s

/-- A write of SAI_MASK (R323): it waits for the next frame start, or for the one after. -/
def State.maskWrite (s : State) (l : Nat) (v : Word) (late : Bool) : State :=
  let a := s.laneSt l
  (s.setReg (Reg.SAI_MASK l) (v &&& 0xFFFF)).setLane l (if late then { a with m2 := some (fld v 0 16) } else { a with m1 := some (fld v 0 16) })

/-- SAI_MASK_WRITE (R323); lanes 88 to 95 are the Gauntlet's (R333). -/
def execSaiMaskWrite (ini : Initiator) (l : BitVec 7) (v : Word) (late : Bool) (s : State) : Out :=
  s.access ini (Reg.SAI_MASK l.toNat) fun s =>
    if 96 ≤ l.toNat then s
    else if 88 ≤ l.toNat then s.gwWrite ini (Reg.SAI_MASK l.toNat) fun s => s.maskWrite l.toNat v late
    else s.maskWrite l.toNat v late

/-- S0 of a train: every domain-R pair is recentred, its counts start at block 0, and a domain-R master off the grid of S0 (`off`) alters
its frame in progress, which is lost (R321). -/
def State.saiAlign (s : State) (off : Nat) : State :=
  s.each (List.range 52) fun s i =>
    let p := s.pairSt i
    let w := s.pairCfg i
    let cut := decide (i < 44) && off.testBit i && bitOf w 31 && bitOf w 30 && decide (s.domOf i = 0)
    s.setPair i { p with
      cur := {}, last := {}, fs := 0, zeroTo := 0, txTo := 0, skip := p.skip || cut, old := none, cnt := some 0
      pre := decide (s.domOf i = 1) && bitOf w 31 }

/-- A pair's or receiver's configuration word changes at a swap (R332): under a train that goes on (`live`) its lanes carry zero until Sm+2,
and it takes the new word at its first frame start two ticks after Sm; the bridges of a domain-A pair lose their lock. -/
def State.pairPut (s : State) (i : Nat) (v : Word) (m : Nat) (live : Bool) : State :=
  let w := s.reg (pairCfgReg i)
  if w = v then s
  else
    let p := s.pairSt i
    let s1 := (s.setReg (pairCfgReg i) v).when live fun s =>
      s.setPair i { p with zeroTo := m + 2, cnt := none, old := if bitOf w 31 then some (w, some (s.snNs m + 2000000000 / s.blk.fr)) else none }
    if pairDomain v = 1 ∨ 48 ≤ i then s1.pairUnlock i else s1

/-- A lane's configuration word changes at a swap (R332). -/
def State.lanePut (s : State) (l : Nat) (v : Word) (m : Nat) (live : Bool) : State :=
  if s.reg (Reg.SAI_LANE_CFG l) = v then s
  else (s.setReg (Reg.SAI_LANE_CFG l) v).when live fun s => s.setLane l { s.laneSt l with zeroTo := m + 2 }

/-- The pair whose configuration word a register is. -/
def pairOfReg (a : Nat) : Option Nat :=
  if 0x801000 ≤ a ∧ a < 0x801580 ∧ a % 64 < 8 then some (2 * ((a - 0x801000) / 64) + a % 64 / 4)
  else if 0x803000 ≤ a ∧ a < 0x803080 ∧ a % 32 = 0 then some (48 + (a - 0x803000) / 32) else none

/-- What a set whose train restarts brings in for the pairs waits for S0: until then each runs as before (R321). -/
def State.holdPairs (s old : State) : State :=
  s.each (List.range 44) fun s i =>
    let w := old.pairCfg i
    if bitOf w 31 ∧ s.reg (pairCfgReg i) ≠ w then s.setPair i { s.pairSt i with old := some (w, none) } else s

end Sys2Proof.Machine
end

