-- ==== Sys2Proof/Machine/Mailbox.lean ====
section
/-!
DEFINITION. The service mailboxes: doorbells, acknowledgements and the responses of service firmware (R547 to R549).
-/
namespace Sys2Proof.Machine

/-- A write to a busy mailbox channel is dropped and flagged (R547, R554). -/
def State.mbxErr (s : State) (ini : Initiator) (a : Nat) : State :=
  s.evtFirst Reg.HST_EVT 1 0x14 0x41 ([2, b8 (iniCode ini)] ++ leBytes 4 a)

/-- BUSY of a channel. -/
def State.mbxBusy (s : State) (c : Nat) : Bool := s.bitR Reg.HST_MBX_STAT c

/-- Word `i` of the request of a channel. -/
def State.mbxReq (s : State) (c i : Nat) : Word := s.reg (Reg.HST_MBX_REQ c i)

/-- Argument `i` of the request of a channel. -/
def State.mbxArg (s : State) (c i : Nat) : Nat := (s.mbxReq c (2 + i)).toNat

/-- Service firmware answers a busy channel with a status and results (R547, R548). -/
def State.respond (s : State) (c status : Nat) (res : List Word) : State :=
  if s.mbxBusy c then
    let res := res.take 14
    let s := s.setReg (Reg.HST_MBX_RSP c 0) (s.mbxReq c 0)
    let s := s.setReg (Reg.HST_MBX_RSP c 1) (w32 (status % 256 + 256 * res.length))
    let s := s.each res.zipIdx fun s p => s.setReg (Reg.HST_MBX_RSP c (2 + p.2)) p.1
    (s.setBit Reg.HST_MBX_STAT c false).setBit Reg.HST_MBX_STAT (8 + c) true
  else s

/-- A service operation runs when a busy channel requests it and service firmware can run. -/
def State.serve (s : State) (c svc op : Nat) (f : State → State) : State :=
  if s.appOn ∧ s.mbxBusy c ∧ (s.mbxReq c 0).toNat % 65536 = svc + 256 * op then f s else s

/-- A write of HST_MBX_DB (R547). -/
def State.mbxDb (s : State) (ini : Initiator) (v : Word) : State :=
  s.each (bitsOf 4 v.toNat) fun s c =>
    if s.mbxBusy c || s.bitR Reg.HST_MBX_STAT (8 + c) then s.mbxErr ini Reg.HST_MBX_DB else s.setBit Reg.HST_MBX_STAT c true

/-- HST_MBX_DB (R547). -/
def execHstMbxDb (ini : Initiator) (v : Word) (s : State) : Out := s.access ini Reg.HST_MBX_DB fun s => s.mbxDb ini v

/-- A write of HST_MBX_ACK (R547). -/
def State.mbxAck (s : State) (ini : Initiator) (v : Word) : State :=
  s.each (bitsOf 4 v.toNat) fun s c =>
    if s.mbxBusy c then s.mbxErr ini Reg.HST_MBX_ACK else s.setBit Reg.HST_MBX_STAT (8 + c) false

/-- HST_MBX_ACK (R547). -/
def execHstMbxAck (ini : Initiator) (v : Word) (s : State) : Out := s.access ini Reg.HST_MBX_ACK fun s => s.mbxAck ini v

/-- MAILBOX_RESPONSE (R547, R548): any answer that no other command gives. -/
def execMailboxResponse (c : BitVec 2) (status : BitVec 8) (res : List Word) (s : State) : Out :=
  .next (if s.appOn then s.respond c.toNat status.toNat res else s)

/-- Pending requests are answered NOT_RUNNING (R547). -/
def State.mbxRestart (s : State) : State := s.each (List.range 4) fun s c => s.respond c 5 []

/-- The service core restarts, and its firmware with it (R37, R547, R554). -/
def State.svcRestart (s : State) (reset : Bool) : State :=
  (((s.evt Reg.HST_EVT 4).note 0x14 0x40 [3, 0, 0, if reset then 2 else 1]).mbxRestart).setBit Reg.HST_STATUS 8 true

/-- SERVICE_FIRMWARE_RESTART (R547, R554). -/
def execServiceFirmwareRestart (reset : Bool) (s : State) : Out := .next (if s.appOn then s.svcRestart reset else s)

end Sys2Proof.Machine
end

