-- ==== Sys2Proof/Machine/Sensing.lean ====
section
/-!
DEFINITION. Sensing channels, pilot detectors, line supervision and the measurement service (R338 to R363).
-/
namespace Sys2Proof.Machine

/-! ## Groups (R339 to R347) -/

/-- Whether the Gauntlet claims a group (R340). -/
def State.claimed (s : State) (g : Nat) : Bool := decide (6 ≤ g) && s.bitR Reg.GNT_SNS_CLAIM (g - 6)

/-- The event of R360: `kind` 1 STUCK, 2 RING_LATE, 3 CKSTOP. -/
def State.snsEvt (s : State) (bit kind g ch : Nat) : State :=
  s.evtFirst Reg.SNS_EVT bit 0xC 0x41 ([b8 kind, b8 g, b8 ch, 0] ++ s.blkBytes)

/-- Groups wait for their next sensing tick to be reset (R346). -/
def State.snsSync (s : State) (mask : Nat) : State := { s with sns := { s.sns with pend := s.sns.pend ||| mask % 256 } }

/-- The domain-R groups. -/
def State.groupsR (s : State) : Nat := ((List.range 8).map fun g => if s.claimed g then 0 else 2 ^ g).foldl (· + ·) 0

/-- Outputs that stay invalid after a reset (R344). -/
def snsInvalid (cfg : Word) : Nat :=
  match fld cfg 28 2, bitOf cfg 27 with
  | 0, false => 72
  | 0, true => 38
  | 1, false => 40
  | 1, true => 20
  | _, _ => 0

/-- 48 kHz sensing ticks of a group after its last reset, by the time counter (R344). -/
def State.snsTicks (s : State) (g : Nat) : Nat := (s.now + 1 - Store.get (fun _ => 0) s.sns.tau g) * 48000 / 1000000000

/-- Outputs that a group whose decimators run has emitted since its last reset: output m of a 48 kHz chain at tick τ + m, of ÷3 at
τ + 3m + 2, and of a single-cycle window at the tick that closes it (R344, R345). -/
def State.snsOuts (s : State) (g : Nat) : Nat :=
  let cfg := s.reg (Reg.SNS_GRP_CFG g)
  if 2 ≤ fld cfg 28 2 then s.snsTicks g / (if bitOf cfg 30 then 10 else 20)
  else if bitOf cfg 27 then (s.snsTicks g + 1) / 3 else s.snsTicks g + 1

/-- SNS_GRP_STAT as it reads: INV_LEFT counts the outputs down (R361). -/
def State.snsGrpStat (s : State) (g : Nat) : Word :=
  let w := s.reg (Reg.SNS_GRP_STAT g)
  if bitOf w 2 then putFld w 8 8 (min 255 (snsInvalid (s.reg (Reg.SNS_GRP_CFG g)) - s.snsOuts g)) else w

/-- SNS_CH_STAT as it reads: VALID while the channel's current output is valid (R361). -/
def State.snsChStat (s : State) (c : Nat) : Word :=
  let cfg := s.reg (Reg.SNS_GRP_CFG (c / 16))
  putBit (s.reg (Reg.SNS_CH_STAT c)) 0
    (s.bitR (Reg.SNS_GRP_STAT (c / 16)) 2 && bitOf cfg (c % 16) && decide (snsInvalid cfg < s.snsOuts (c / 16)))

/-- What pin SNS_CK of a group carries (R339): not driven, held low, or a clock of so many Hz. -/
def State.snsCk (s : State) (g : Nat) : Option Nat :=
  if !s.pwr.good || decide (s.pmode = 11) then none
  else if !s.bitR (Reg.SNS_GRP_CFG g) 31 || s.bitR (Reg.SNS_GRP_STAT g) 3 then some 0
  else some (if s.bitR (Reg.SNS_GRP_CFG g) 30 then 6144000 else 3072000)

/-- The chains of a group lose every integrator, comb and FIR history, and its numbering restarts (R346); the runs of equal bits at the
inputs go on (R347). -/
def State.chainClear (s : State) (g : Nat) : State :=
  { s with sns := { s.sns with
    chain := s.sns.chain.map fun (e : Nat × ChainSt) => if e.1 / 16 = g then (e.1, { run := e.2.run, last := e.2.last }) else e
    pil := s.sns.pil.filter fun e => decide (e.1 / 16 ≠ g)
    gt := Store.set (fun _ => 0) s.sns.gt g 0 } }

/-- The sensing tick that is now, counted from S0 of the train. -/
def State.tickNow (s : State) : Nat := ((s.now - s.snNs 0) * 48000 + 500000000) / 1000000000

/-- A group writes a ring (R348). -/
def State.snsRing (s : State) (g : Nat) : Bool :=
  s.bitR (Reg.SNS_GRP_CFG g) 31 && !s.claimed g && decide (s.fldR (Reg.SNS_RING_DEPTH g) 0 16 ≠ 0)

/-- A sensing tick resets a group (R346). What its ring still takes of the ticks before goes through the chains as they were. -/
def State.groupReset (s : State) (g : Nat) : State :=
  let cfg := s.reg (Reg.SNS_GRP_CFG g)
  let inv := snsInvalid cfg
  let st := Reg.SNS_GRP_STAT g
  let s := { s with sns := { s.sns with pend := s.sns.pend &&& (255 - 2 ^ g), synced := s.sns.synced ||| 2 ^ g } }
  let s := (((s.setFld st 0 2 (if s.claimed g then 2 else 0)).setBit st 2 (bitOf cfg 31)).setBit st 3 false).setFld st 8 8
    (if bitOf cfg 31 then inv else 0)
  let s := { s with sns := { s.sns with
    lcfg := s.sns.lcfg.filter fun e => decide (e.1 / 8 ≠ g), tau := Store.set (fun _ => 0) s.sns.tau g s.now } }
  let s := if s.running && s.snsRing g && decide (0 < s.tickNow) then { s with sns := { s.sns with cuts := s.sns.cuts ++ [(g, s.tickNow)] } }
    else ({ s with sns := { s.sns with cuts := s.sns.cuts.filter fun e => decide (e.1 ≠ g) } } : State).chainClear g
  s.setBit Reg.SNS_STATUS g (bitOf cfg 31)

/-- Groups are reset at a tick: one reset is counted (R346). -/
def State.groupsReset (s : State) (gs : List Nat) : State :=
  if gs.isEmpty then s else ((s.each gs State.groupReset).count Reg.SNS_SYNC_COUNT 1).evt Reg.SNS_EVT 3

/-- S0 of a train restarts the divider of the sensing ticks, which resets every domain-R group at that tick (R341). -/
def State.snsTrain (s : State) : State :=
  if s.reach (Reg.SNS_GRP_CFG 0) then s.groupsReset ((List.range 8).filter fun g => !s.claimed g) else s

/-- GROUP_RESET (R346): the groups whose sensing tick this is and which a sync waits for; domain R ticks only while
ROOT runs. -/
def execGroupReset (groups : BitVec 8) (s : State) : Out :=
  .next (s.groupsReset ((bitsOf 8 groups.toNat).filter fun g =>
    s.sns.pend.testBit g && s.reach (Reg.SNS_GRP_CFG g) && (s.claimed g || s.rootUp)))

/-- SNS_SYNC_PIN (R346). -/
def execSnsSyncPin (s : State) : Out :=
  s.event Reg.SNS_CTL fun s => if s.bitR Reg.SNS_SYNC_CFG 0 then s.snsSync 255 else s

/-- A write of SNS_CTL (R346). -/
def State.snsCtl (s : State) (v : Word) : State := if bitOf v 0 then s.snsSync s.groupsR else s

/-- SNS_CTL_SYNC (R346). -/
def execSnsCtlSync (ini : Initiator) (v : Word) (s : State) : Out := s.access ini Reg.SNS_CTL fun s => s.snsCtl v

/-- A write of SNS_GRP_CTL (R346). -/
def State.snsGrpCtl (s : State) (g : Nat) (v : Word) : State := if bitOf v 0 then s.snsSync (2 ^ g) else s

/-- SNS_GRP_CTL_SYNC (R346); the Gauntlet's while claimed. -/
def execSnsGrpCtlSync (ini : Initiator) (g : BitVec 3) (v : Word) (s : State) : Out :=
  let a := Reg.SNS_GRP_CTL g.toNat
  s.access ini a fun s => if s.claimed g.toNat then s.gwWrite ini a fun s => s.snsGrpCtl g.toNat v else s.snsGrpCtl g.toNat v

/-- The domain-R clock of a group stops low (R339). -/
def State.snsStopOne (s : State) (g : Nat) : State :=
  let st := Reg.SNS_GRP_STAT g
  ((s.setBit st 3 true).setBit st 2 false).setBit Reg.SNS_STATUS g false |>.snsEvt 2 3 g 0xFF

/-- The domain-R sensing clocks stop low (R339). -/
def State.snsStop (s : State) : State :=
  s.each ((List.range 8).filter fun g => !s.claimed g && s.bitR (Reg.SNS_GRP_CFG g) 31) State.snsStopOne

/-- The claim changes: groups change domain and are reset at their next tick (R340); one that comes to domain R while ROOT is
unlocked or stopped finds its clock stopped (R339). -/
def State.claimSet (s : State) (v : Nat) : State :=
  let old := s.fldR Reg.GNT_SNS_CLAIM 0 2
  let s := (s.setReg Reg.GNT_SNS_CLAIM (w32 (v % 4))).setFld Reg.SNS_STATUS 8 2 v
  s.each ((List.range 2).filter fun i => old.testBit i != v.testBit i) fun s i =>
    let t := (s.setFld (Reg.SNS_GRP_STAT (6 + i)) 0 2 (if v.testBit i then 2 else 0)).snsSync (2 ^ (6 + i))
    if v.testBit i || s.rootUp || !s.bitR (Reg.SNS_GRP_CFG (6 + i)) 31 then t else t.snsStopOne (6 + i)

/-- They run again: each group is reset at its first tick (R339). -/
def State.snsRun (s : State) : State :=
  s.snsSync (((List.range 8).map fun g => if s.bitR (Reg.SNS_GRP_STAT g) 3 then 2 ^ g else 0).foldl (· + ·) 0)

/-- STUCK begins (R347). -/
def State.stuckOn (s : State) (c : Nat) : State :=
  let r := Reg.SNS_CH_STAT c
  if s.bitR (Reg.SNS_GRP_CFG (c / 16)) 31 && !s.bitR r 1 then
    ((s.setBit r 1 true).count Reg.SNS_STUCK_COUNT 1).snsEvt 0 1 (c / 16) c
  else s

/-- CHANNEL_STUCK (R347). -/
def execChannelStuck (c : BitVec 7) (s : State) : Out := s.event (Reg.SNS_CH_STAT c.toNat) fun s => s.stuckOn c.toNat

/-- STUCK_INPUT_CHANGE (R347). -/
def execStuckInputChange (c : BitVec 7) (s : State) : Out :=
  s.event (Reg.SNS_CH_STAT c.toNat) fun s => s.setBit (Reg.SNS_CH_STAT c.toNat) 1 false

/-- A read of SNS_COEF_DATA (R342, R361): the coefficient, and the next index. -/
def State.coefData (s : State) : State × Word :=
  let i := s.fldR Reg.SNS_COEF_ADDR 0 9
  (s.setReg Reg.SNS_COEF_ADDR (w32 (if i + 1 ≥ 287 then 0 else i + 1)),
    if i < 287 then w32 (toBits 32 (sext 24 (Config.snsCoef i).toNat)) else 0)

/-- SNS_COEF_DATA_READ. -/
def execSnsCoefDataRead (ini : Initiator) (s : State) : Out := s.readRow ini Reg.SNS_COEF_DATA State.coefData

/-! ## The decimation chain (R342 to R345) -/

/-- The product of two polynomials. -/
def polyMul (a b : List Int) : List Int :=
  (List.range (a.length + b.length - 1)).map fun k =>
    ((List.range (k + 1)).filter fun i => decide (i < a.length) && decide (k - i < b.length)).foldl (fun x i => x + nth a i 0 * nth b (k - i) 0) 0

/-- The impulse response of a CIC5 of ratio `r`: the fifth power of `r` ones. -/
def cicKernel (r : Nat) : List Int :=
  let box : List Int := List.replicate r 1
  let two := polyMul box box
  polyMul (polyMul two two) box

/-- A sum of products of a response and the newest samples. -/
def dotInt (h x : List Int) : Int := (h.zip x).foldl (fun a p => a + p.1 * p.2) 0

/-- A CIC5 output as Q1.31 (R343). -/
def cicQ31 (r : Nat) (c : Int) : Int := if r ≤ 32 then satN 32 (c * 2 ^ (31 - 5 * Nat.log2 r)) else satN 32 (rndShift c 9)

/-- The coefficients from index `i` on, `n` of them (R342). -/
def snsTaps (i n : Nat) : List Int := (List.range n).map fun k => sext 24 (Config.snsCoef (i + k)).toNat

/-- A FIR stage's output from its newest input samples (R343). -/
def snsFir (h x : List Int) : Int := satN 32 (rndShift (dotInt h x) 23)

/-- Bit clocks in a sensing tick, and the ratio of the CIC in MODE 0 and 1 (R342). -/
def snsClocks (cfg : Word) : Nat × Nat := if bitOf cfg 30 then (128, 32) else (64, 16)

/-- A channel's bits of a tick as ±1, newest first, from what its pin carries: the even channel's at the rising edges of SNS_CK, the
odd one's at the falling edges (R338). -/
def snsBits (n c : Nat) (v : Int) : List Int := ((List.range n).map fun k => if (v.toNat).testBit (2 * k + c % 2) then (1 : Int) else -1).reverse

/-- A channel's chain at a sensing tick in MODE 0 or 1: its memory, its 48 kHz output, and the output of the group. -/
def chainFine (cfg : Word) (x : ChainSt) (c : Nat) (v : Int) : ChainSt × Int × Option Int :=
  let (nb, r) := snsClocks cfg
  let lin := decide (fld cfg 28 2 = 0)
  let align := if lin then (if bitOf cfg 30 then 19 else 11) else 0
  let hist := (snsBits nb c v ++ x.bits).take (nb + align + 5 * r)
  let k := cicKernel r
  let cic (j : Nat) : Int := cicQ31 r (dotInt k (hist.drop (nb - (j + 1) * r + align)))
  let hb := snsTaps 0 31
  let h1 := (cic 1 :: cic 0 :: x.half).take 31
  let h2 := (cic 3 :: cic 2 :: h1).take 31
  let fin := (snsFir hb h2 :: snsFir hb h1 :: x.fin).take 127
  let y := snsFir (if lin then snsTaps 31 127 else snsTaps 158 63) fin
  let third := (y :: x.third).take 45
  let out := if !bitOf cfg 27 then some y
    else if x.n3 % 3 = 2 then some (snsFir (if lin then snsTaps 221 45 else snsTaps 266 21) third) else none
  ({ bits := hist, half := h2, fin := fin, third := third, n3 := x.n3 + 1, ticks := x.ticks + 1 }, y, out)

/-- A channel's chain at a sensing tick in MODE 2: the fifth CIC output of the window closes it (R345). -/
def chainSingle (cfg : Word) (x : ChainSt) (c : Nat) (v : Int) : ChainSt × Option Int :=
  let nb := (snsClocks cfg).1
  let bits := snsBits nb c v ++ x.bits
  if bits.length < 1280 then ({ x with bits := bits, ticks := x.ticks + 1 }, none)
  else ({ ticks := x.ticks + 1 }, some (cicQ31 256 (dotInt (cicKernel 256) bits)))

/-- The pilot detector takes a valid 48 kHz sample, STUCK or not (R350). -/
def PilWin.take (p : PilWin) (ci qi x : Int) (stuck : Bool) : PilWin :=
  let i := p.i + x * ci
  let q := p.q + x * qi
  let bad := p.bad || stuck
  if p.n = 4799 then { full := some (i, q, bad) } else { p with n := p.n + 1, i := i, q := q, bad := bad }

/-- Equal bits in a row at a channel's input after a tick's bits, newest first, with the run and the bit before them: the longest row in
the tick, the last one, and whether the input changed in the tick (R347). -/
def bitRun (bits : List Int) (last : Option Int) (run : Nat) : Nat × Nat × Bool :=
  let r := bits.reverse.foldl (fun (a : (Nat × Nat × Bool) × Option Int) b =>
    if a.2 = some b then ((max a.1.1 (a.1.2.1 + 1), a.1.2.1 + 1, a.1.2.2), some b) else ((a.1.1, 1, a.1.2.2 || a.2.isSome), some b))
    ((run, run, false), last)
  r.1

/-- STUCK follows the bits of a tick: it begins at 1,024 equal ones in a row and ends when the input changes; whether it held at any of
them. -/
def State.stuckBits (s : State) (c top run : Nat) (changed : Bool) : State × Bool :=
  let s1 := if 1024 ≤ top then s.stuckOn c else s
  let was := s1.bitR (Reg.SNS_CH_STAT c) 1
  (if changed ∧ run < 1024 ∧ was then s1.setBit (Reg.SNS_CH_STAT c) 1 false else s1, was)

/-- `rnd(2^23 × cos(5πj/6))`. -/
def pilotCos (j : Nat) : Int := rndDiv (sinTurn ((5 * j + 3) % 12) 12 * 2 ^ 23) (2 ^ 300)

/-- `rnd(2^23 × sin(5πj/6))`. -/
def pilotSin (j : Nat) : Int := rndDiv (sinTurn (5 * j % 12) 12 * 2 ^ 23) (2 ^ 300)

/-- A channel takes what its pin carries over a sensing tick: the output of its group's rate, if this tick emits one, and whether the
channel was STUCK. -/
def State.chainTick (s : State) (cfg : Word) (c : Nat) (v : Int) : State × Option Int × Bool :=
  let x := Store.get (fun _ => ({} : ChainSt)) s.sns.chain c
  let bits := snsBits (snsClocks cfg).1 c v
  let r := bitRun bits x.last x.run
  let (s0, stuck) := s.stuckBits c r.1 r.2.1 r.2.2
  let put (s : State) (y : ChainSt) : State :=
    { s with sns := { s.sns with chain := Store.set (fun _ => ({} : ChainSt)) s.sns.chain c { y with run := r.2.1, last := bits.head? } } }
  if 2 ≤ fld cfg 28 2 then
    let o := chainSingle cfg x c v
    (put s0 o.1, o.2, stuck)
  else
    let o := chainFine cfg x c v
    let s1 := put s0 o.1
    let first := if fld cfg 28 2 = 0 then 72 else 40
    if x.ticks < first then (s1, o.2.2, stuck)
    else
      let w := Store.get (fun _ => ({} : PilWin)) s.sns.pil c
      let w := w.take (pilotCos (w.n % 12)) (pilotSin (w.n % 12)) o.2.1 stuck
      ({ s1 with sns := { s1.sns with pil := Store.set (fun _ => ({} : PilWin)) s1.sns.pil c w } }, o.2.2, stuck)

/-- The channels of a group take what their eight pins carry over a sensing tick. Where this tick emits outputs: the 16 samples, zero for a
disabled channel and in an invalid output, whether they are valid, and the channels that are STUCK (R344, R347, R348). -/
def State.groupTick (s : State) (g : Nat) (row : List Int) : State × Option (List Int × Bool × Nat) :=
  let cfg := s.reg (Reg.SNS_GRP_CFG g)
  let t := Store.get (fun _ => 0) s.sns.gt g
  let r := (List.range 16).foldl (fun (a : State × List Int × Nat) c =>
    if bitOf cfg c then
      let q := a.1.chainTick cfg (16 * g + c) (nth row (c / 2) 0)
      (q.1, a.2.1 ++ [q.2.1.getD 0], a.2.2 ||| (if q.2.2 then 2 ^ c else 0))
    else (a.1, a.2.1 ++ [0], a.2.2)) (s, [], 0)
  let s1 : State := { r.1 with sns := { r.1.sns with gt := Store.set (fun _ => 0) r.1.sns.gt g (t + 1) } }
  let k := if bitOf cfg 27 then t / 3 else t
  let ok := decide (snsInvalid cfg ≤ k)
  (s1, if fld cfg 28 2 < 2 ∧ (bitOf cfg 27 = false ∨ t % 3 = 2) then some (if ok then r.2.1 else List.replicate 16 0, ok, r.2.2) else none)

/-- The outputs of a group over sensing ticks, the first of them tick `t0` of the train; a reset that falls on one of them clears the
chains before it. -/
def State.groupRun (s : State) (g t0 : Nat) (x : List (List Int)) : State × List (List Int × Bool × Nat) :=
  x.zipIdx.foldl (fun (a : State × List (List Int × Bool × Nat)) p =>
    let cut := a.1.sns.cuts.any fun e => decide (e.1 = g) && decide (e.2 ≤ t0 + p.2)
    let s := a.1.when cut fun s =>
      ({ s with sns := { s.sns with cuts := s.sns.cuts.filter fun e => !(decide (e.1 = g) && decide (e.2 ≤ t0 + p.2)) } } : State).chainClear g
    let q := s.groupTick g p.1
    (q.1, match q.2 with
      | some l => a.2 ++ [l]
      | none => a.2)) (s, [])

/-! ## Capture rings (R348, R349) -/

/-- Output rate of a group's configuration in Hz (R342). -/
def snsRate (cfg : Word) : Nat :=
  if fld cfg 28 2 = 2 then (if bitOf cfg 30 then 4800 else 2400) else if bitOf cfg 27 then 16000 else 48000

/-- SMAX and the entry size of a ring (R348). -/
def State.snsEntry (s : State) (g : Nat) : Nat × Nat :=
  let m := ceilDiv (s.blk.b * snsRate (s.reg (Reg.SNS_GRP_CFG g))) s.blk.fr
  (m, 64 * (m + 1))

/-- What an entry of block `n` gives a running job: its channels in group `g` take the captured samples, and those with one that is
invalid, STUCK or at full scale, or that an entry lacks, are ruled out (R357). -/
def State.jobTake (s : State) (g n : Nat) (late : Bool) (x : List (List Int × Bool × Nat)) : State :=
  let j := s.meas.job
  let cnt := if byteAt j 0 = 1 then leAt j 18 2 else leAt j 18 2 + 1
  let per := if byteAt j 0 = 1 then 48 * leAt j 12 4 + leAt j 32 4 else 2 ^ byteAt j 2 - 1
  let from_ := if byteAt j 0 = 1 then 36 else 36 + per
  let t0 := (n - (s.meas.n0 + 3)) * s.blk.b * 48000 / s.blk.fr
  if s.meas.phase ≠ 1 ∨ s.meas.wait.isSome ∨ n < s.meas.n0 + 3 then s
  else
    let rows := (x.zipIdx.filter fun p => decide (from_ ≤ t0 + p.2) && decide (t0 + p.2 < 36 + cnt * per)).map (·.1)
    let gone := late && decide (t0 < 36 + cnt * per) && decide (from_ ≤ t0 + 16)
    s.each ((List.range (byteAt j 3)).filter fun i => decide (byteAt j (24 + i) / 16 = g)) fun s i =>
      let c := byteAt j (24 + i) % 16
      let bad := gone || rows.any fun r => !r.2.1 || r.2.2.testBit c || decide (2 ^ 31 - 1 ≤ (nth r.1 c 0).natAbs)
      { s with meas := { s.meas with
        unfit := if bad then s.meas.unfit ||| 2 ^ i else s.meas.unfit
        cap := Store.set (fun _ => []) s.meas.cap i (Store.get (fun _ => []) s.meas.cap i ++ rows.map fun r => nth r.1 c 0) } }

/-- A ring entry is written: its samples, its header, and BLOCK last. -/
def State.entryWrite (s : State) (a : Nat) (head smp : List Byte) : State :=
  ((s.dramWriteParts .realtime (a + 32) smp).dramWriteParts .realtime (a + 6) (head.drop 6)).dramWriteParts .realtime a (head.take 6)

/-- The entry of block `n`, just complete: its samples, its header with BLOCK written last, or abandoned (R348, R349). -/
def State.ringEntry (s : State) (g n : Nat) (late : Bool) (tns : Nat) (rows : List (List Int × Bool × Nat)) : State :=
  let (smax, e) := s.snsEntry g
  let x := rows.take smax
  let f := x.length
  let inv := (x.takeWhile fun r => !r.2.1).length
  let stuck := x.foldl (fun m r => m ||| r.2.2) 0
  let flags := (s.sns.synced.testBit g).toNat + 2 * (x.any fun r => !r.2.1).toNat + 4 * (decide (stuck ≠ 0)).toNat +
    8 * (s.bitR (Reg.SNS_GRP_STAT g) 3).toNat
  let smp := x.flatMap fun r => r.1.flatMap fun v => leBytes 4 (toBits 32 v)
  let s := s.jobTake g n late rows
  if late then s.snsEvt 1 2 g 0xFF
  else
    let a := (s.reg (Reg.SNS_RING_BASE g)).toNat * 64 + n % s.fldR (Reg.SNS_RING_DEPTH g) 0 16 * e
    let head := leBytes 2 f ++ leBytes 4 tns ++ [b8 (tns / 2 ^ 32 % 16), b8 flags] ++ leBytes 2 inv ++ leBytes 2 stuck ++ List.replicate 14 0
    let s := s.release 4 (0x4900 + g) n (.ring a (leBytes 6 n ++ head) smp) fun s => s.entryWrite a (leBytes 6 n ++ head) smp
    { s with sns := { s.sns with synced := s.sns.synced &&& (255 - 2 ^ g) } }.setReg (Reg.SNS_RING_BLK g) (w32 n)

/-- RING_ENTRY_DONE (R348, R349): a group's chains form their outputs of what its pins carried. In a train, for a group with a ring, these
are the ticks of the block just complete, and its entry is written or abandoned; for any other group those since the last. -/
def execRingEntryDone (g : BitVec 3) (late : Bool) (tns : Nat) (x : List (List Int)) (s : State) : Out :=
  let g := g.toNat
  s.event (Reg.SNS_GRP_CFG g) fun s =>
    let ring := s.running && s.snsRing g
    if !s.bitR (Reg.SNS_GRP_CFG g) 31 || (ring && decide (s.blk.n = 0)) then s else
    let n := s.blk.n - 1
    let r := if s.bitR (Reg.SNS_GRP_STAT g) 3 then (s, []) else s.groupRun g (ceilDiv (n * s.blk.b * 48000) s.blk.fr) x
    if ring then r.1.ringEntry g n late tns r.2 else r.1

/-! ## Pilot detectors (R350, R351) -/

/-- The amplitude of a window, each operation in binary32 (R77, R350). -/
def pilotAmp (i q : Int) : Fl :=
  let x := Fl.ofInt f32 i 0
  let y := Fl.ofInt f32 q 0
  let r := Fl.sqrt f32 (Fl.add f32 (Fl.mul f32 x x) (Fl.mul f32 y y))
  Fl.div f32 (Fl.mul f32 (Fl.ofInt f32 2 0) r) (Fl.ofInt f32 4800 54)

/-- Arctangent series in fixed point of 300 bits. -/
def atanGo (x2 : Int) : Nat → Nat → Int → Int → Int
  | 0, _, _, acc => acc
  | k + 1, i, term, acc =>
    let t := -(term * x2 / 2 ^ 300)
    atanGo x2 k (i + 1) t (acc + t / ((2 * i + 1 : Nat) : Int))

/-- Halve an angle whose tangent is `r`, in fixed point of 300 bits. -/
def halfTan (r : Int) : Int := r * 2 ^ 300 / (2 ^ 300 + (isqrt (2 ^ 600 + (r * r).toNat) : Nat))

/-- The arctangent of `y / x`, for `0 ≤ y ≤ x` and `x > 0`, times 2^300. -/
def atanFix (y x : Int) : Int :=
  let r := (List.range 8).foldl (fun r _ => halfTan r) (y * 2 ^ 300 / x)
  256 * atanGo (r * r / 2 ^ 300) 30 1 r r

/-- `atan2(y, x)` times 2^300. -/
def atan2Fix (y x : Int) : Int :=
  let ay : Int := y.natAbs
  let ax : Int := x.natAbs
  let a := if ax = 0 ∧ ay = 0 then 0 else if ay ≤ ax then atanFix ay ax else piFix / 2 - atanFix ax ay
  let a := if x < 0 then piFix - a else a
  if y < 0 then -a else a

/-- PHASE of a window in 1/100 degree (R350). -/
def pilotPhase (i q : Int) : Int := rndDiv (atan2Fix (-q) i * 18000) piFix.toNat

/-- LEVEL of an amplitude in Q8.8 dBFS (R350). -/
def pilotLevel (a : Fl) : Int :=
  if a.isZero then -32768 else (Fl.mul f32 (Fl.ofRat f32 60205999 10000000) (Fl.log2 f32 a)).toFix 16 8

/-! ## Line supervision (R352, R353) -/

/-- A number as UQ16.16, half to even, saturating; not a number is 0 (R9). -/
def uq16 : Fl → Nat
  | .fin m e => min (2 ^ 32 - 1) (rndDiv (dyadic m (e + 16)).1 (dyadic m (e + 16)).2).toNat
  | .inf neg => if neg then 0 else 2 ^ 32 - 1
  | .nan => 0

/-- A UQ16.16 word in binary32. -/
def flU16 (w : Word) : Fl := Fl.ofInt f32 (w.toNat : Int) (-16)

/-- An angle in 1/100 degree wrapped to −18,000 .. 17,999. -/
def wrapDeg (d : Int) : Int := (d + 18000) % 36000 - 18000

/-- The record of detector 0x1E (R354). -/
def State.lineNote (s : State) (e kind : Nat) (z ph : Nat) : State :=
  let w := s.reg (Reg.SNS_LINE_CFG e)
  s.note 0xC 0x1E ([b8 e, b8 kind] ++ leBytes 2 (fld w 0 9) ++ leBytes 4 z ++ leBytes 2 ph)

/-- A raise of detector 0x1E: the Gauntlet sets GNT_FAULTS.LINE (R353). -/
def State.lineRaise (s : State) : State := (((s.detBit 0x1E).evt Reg.SNS_EVT 4).count Reg.SNS_LINE_RAISES 1).gntFault 3

/-- The six words of a line entry. -/
def State.lineWords (s : State) (e : Nat) : List Word :=
  [Reg.SNS_LINE_CFG e, Reg.SNS_LINE_VFS e, Reg.SNS_LINE_IFS e, Reg.SNS_LINE_LO e, Reg.SNS_LINE_HI e, Reg.SNS_LINE_VMIN e].map s.reg

/-- The words of a line entry in force from now on. -/
def State.lineTake (s : State) (e : Nat) : State :=
  { s with sns := { s.sns with lcfg := (s.sns.lcfg.filter fun p => decide (p.1 ≠ e)) ++ [(e, s.lineWords e)] } }

/-- A disabled entry holds STATE UNSUP and FAULT 0 (R353). -/
def State.lineOff (s : State) (e : Nat) : State :=
  let s1 := s.setFld (Reg.SNS_LINE_STAT e) 0 5 3
  { s1 with sns := { s1.sns with line := Store.set (fun _ => ((0, 0) : Nat × Nat)) s1.sns.line e (0, 0) } }

/-- A window of a line entry's channels is in progress: a valid sample of it has passed (R350). -/
def State.lineBusy (s : State) (e : Nat) : Bool :=
  let cfg := s.reg (Reg.SNS_GRP_CFG (e / 8))
  s.bitR (Reg.SNS_GRP_STAT (e / 8)) 2 && decide (fld cfg 28 2 < 2) && decide ((if fld cfg 28 2 = 0 then 72 else 40) ≤ s.snsTicks (e / 8))

/-- A change of a line entry's words applies from the next window (R361): the running one keeps the words of its start. -/
def State.lineWrite (s : State) (e : Nat) (f : State → State) : State :=
  let s1 := f (if s.lineBusy e && !(s.sns.lcfg.any fun p => decide (p.1 = e)) then s.lineTake e else s)
  if s.lineBusy e || s1.bitR (Reg.SNS_LINE_CFG e) 31 then s1 else s1.lineOff e

/-- A line entry's window ends (R352, R353): the entry's words are those of the window's start, and the present ones apply from the
next window (R361). -/
def State.lineJudge (s : State) (e : Nat) : State :=
  let ws := ((s.sns.lcfg.find? fun p => decide (p.1 = e)).map (·.2)).getD (s.lineWords e)
  let s := s.lineTake e
  let cfg := nth ws 0 0
  let st := Reg.SNS_LINE_STAT e
  if !bitOf cfg 31 then s.lineOff e else
  let pv := s.reg (Reg.SNS_PIL_LEVEL (2 * e))
  let pi := s.reg (Reg.SNS_PIL_LEVEL (2 * e + 1))
  let ok := bitOf pv 31 && bitOf pi 31
  let amp (c : Nat) : Fl := msFl (Store.get (fun _ => ((0, 0) : Int × Int)) s.sns.amp c)
  let av := Fl.mul f32 (amp (2 * e)) (flU16 (nth ws 1 0))
  let ai := Fl.mul f32 (amp (2 * e + 1)) (flU16 (nth ws 2 0))
  let z := if (amp (2 * e + 1)).isZero then 2 ^ 32 - 1 else uq16 (Fl.div f32 av ai)
  let ph := toBits 16 (wrapDeg (sext 16 (s.fldR (Reg.SNS_PIL_PHASE (2 * e)) 0 16) - sext 16 (s.fldR (Reg.SNS_PIL_PHASE (2 * e + 1)) 0 16)))
  let s := if ok then (s.setReg (Reg.SNS_LINE_Z e) (w32 z)).setFld st 16 16 ph else s
  let state := if !ok || decide (sfld pv 0 16 < sfld (nth ws 5 0) 0 16) then 3
    else if z < (nth ws 3 0).toNat then 1
    else if (nth ws 4 0).toNat < z then 2 else 0
  let s := s.setFld st 0 2 state
  let (bad, good) := Store.get (fun _ => ((0, 0) : Nat × Nat)) s.sns.line e
  let put (s : State) (p : Nat × Nat) : State :=
    { s with sns := { s.sns with line := Store.set (fun _ => ((0, 0) : Nat × Nat)) s.sns.line e p } }
  let n := max 1 (fld cfg 16 4)
  let fault := s.bitR st 4
  match state with
  | 3 => s
  | 0 =>
    if fault && decide (n ≤ good + 1) then ((put s (0, 0)).setBit st 4 false).lineNote e 3 z ph else put s (0, good + 1)
  | k =>
    if !fault && decide (n ≤ bad + 1) then (((put s (0, 0)).setBit st 4 true).lineNote e k z ph).lineRaise else put s (bad + 1, 0)

/-- A line entry's window ends, and the next begins, for which the entry may be disabled. -/
def State.lineWindow (s : State) (e : Nat) : State :=
  let t := s.lineJudge e
  if s.bitR (Reg.SNS_LINE_CFG e) 31 then t else t.lineOff e

/-- A full window of a channel is shown: LEVEL, WIN, VALID and PHASE, and the line of the pin once both its channels have it (R350 to
R352). -/
def State.pilotShow (s : State) (c : Nat) (i q : Int) (ok : Bool) : State :=
  let a := pilotAmp i q
  let win := (s.fldR (Reg.SNS_PIL_LEVEL c) 16 15 + 1) % 2 ^ 15
  let s := (s.setReg (Reg.SNS_PIL_LEVEL c) (w32 (2 ^ 31 * ok.toNat + 2 ^ 16 * win + toBits 16 (pilotLevel a)))).setReg
    (Reg.SNS_PIL_PHASE c) (w32 (toBits 16 (pilotPhase i q)))
  let s : State := { s with sns := { s.sns with
    amp := Store.set (fun _ => ((0, 0) : Int × Int)) s.sns.amp c (flMs a)
    pil := s.sns.pil.map fun (e : Nat × PilWin) => if e.1 = c then (e.1, { e.2 with full := none }) else e } }
  let e := c / 2
  if s.fldR (Reg.SNS_PIL_LEVEL (2 * e)) 16 15 = s.fldR (Reg.SNS_PIL_LEVEL (2 * e + 1)) 16 15 then s.lineWindow e else s

/-- SNS_PILOT_WINDOW (R350, R351): the chain of a channel takes what its pin carried (`x`) where no ring entry has given it, and a full window is
shown; one with a sample lost to a stopped clock (`valid` false) has VALID 0. -/
def execSnsPilotWindow (c : BitVec 7) (valid : Bool) (x : List Int) (s : State) : Out :=
  let c := c.toNat
  let g := c / 16
  s.event (Reg.SNS_PIL_LEVEL c) fun s =>
    let cfg := s.reg (Reg.SNS_GRP_CFG g)
    if !bitOf cfg 31 || !bitOf cfg (c % 16) || decide (2 ≤ fld cfg 28 2) || s.bitR (Reg.SNS_GRP_STAT g) 3 then s else
    let s1 := if s.running && s.snsRing g then s else s.each x fun s v => (s.chainTick cfg c v).1
    match (Store.get (fun _ => ({} : PilWin)) s1.sns.pil c).full with
    | none => s1
    | some (i, q, bad) => s1.pilotShow c i q (valid && !bad)

/-! ## The stimulus (R356) -/

/-- `ln 2 × 2^120`. -/
def ln2Fix : Int := 921350637599661305226344307672478455

/-- `log2 10 × 2^120`. -/
def log2TenFix : Int := 4415599823708732494820352040231157613

/-- Natural logarithm in binary64, correctly rounded. -/
def fln : Fl → Fl
  | .fin m e =>
    let l := Nat.log2 m.toNat
    let y := m.toNat * 2 ^ (240 - l)
    Fl.ofInt f64 (((e + l) * 2 ^ 100 + (log2Go 240 100 y 0 : Nat)) * ln2Fix) (-220)
  | x => x

/-- Sine in binary64 of an argument in radians, reduced to one turn. -/
def fsin : Fl → Fl
  | .fin m e =>
    let x := (dyadic m (e + 300)).1 / ((dyadic m (e + 300)).2 : Nat)
    let y := x % (2 * piFix)
    Fl.ofInt f64 (sinGo (y * y / 2 ^ 300) 90 1 y y) (-300)
  | _ => .nan

/-- An integer in binary64. -/
def fl64 (z : Int) : Fl := Fl.ofInt f64 z 0

/-- `10^(LEVEL ÷ 20)` for LEVEL in Q8.8 dB. -/
def levelAmp (level : Int) : Fl := exp2Fix f64 (level * log2TenFix / (20 * 256 * 2 ^ 20))

/-- A binary64 number as Q1.31 under R9. -/
def toQ31 (a : Fl) : Int := a.toFix 32 31

/-- Length of one period of the stimulus. -/
def stimPeriod (j : List Byte) : Nat :=
  if byteAt j 0 = 1 then 48 * leAt j 12 4 + leAt j 32 4 else 2 ^ byteAt j 2 - 1

/-- Periods the stimulus plays. -/
def stimCount (j : List Byte) : Nat := if byteAt j 0 = 1 then leAt j 18 2 else leAt j 18 2 + 1

/-- Sample `i` of a sweep (R356). -/
def sweepSample (j : List Byte) (i : Nat) : Int :=
  let ls := 48 * leAt j 12 4
  if ls ≤ i then 0 else
  let f1 := Fl.ofInt f64 (leAt j 4 4) (-4)
  let f2 := Fl.ofInt f64 (leAt j 8 4) (-4)
  let t := Fl.div f64 (fl64 (leAt j 12 4)) (fl64 1000)
  let l := fln (Fl.div f64 f2 f1)
  let twoPi := Fl.ofInt f64 (2 * piFix) (-300)
  let win (k : Nat) : Fl :=
    let y := fsin (Fl.div f64 (Fl.mul f64 (Fl.ofInt f64 piFix (-300)) (fl64 k)) (fl64 960))
    Fl.mul f64 y y
  let w := if i < 480 then win i else if ls - 481 < i then win (ls - 1 - i) else fl64 1
  let ex := Fl.exp f64 (Fl.div f64 (Fl.mul f64 (fl64 i) l) (Fl.mul f64 (fl64 48000) t))
  let ph := Fl.mul f64 (Fl.div f64 (Fl.mul f64 (Fl.mul f64 twoPi f1) t) l) (Fl.sub f64 ex (fl64 1))
  toQ31 (Fl.mul f64 (Fl.mul f64 (levelAmp (sext 16 (leAt j 16 2))) w) (fsin ph))

/-- The exponents below N of the polynomial of order `n` (R356). -/
def mlsTerms (n : Nat) : List Nat :=
  match n with
  | 14 => [5, 3, 1, 0]
  | 15 => [14, 0]
  | 16 => [15, 13, 4, 0]
  | 17 => [14, 0]
  | _ => [11, 0]

/-- Bit `i` of the sequence: the register holds b[i] to b[i + N − 1]. -/
def mlsGo (terms : List Nat) (n : Nat) : Nat → Nat → Nat
  | 0, r => r % 2
  | i + 1, r =>
    let x := (terms.map fun j => (r >>> j) % 2).foldl (· ^^^ ·) 0
    mlsGo terms n i (r / 2 + x * 2 ^ (n - 1))

/-- Sample `i` of an MLS (R356). -/
def mlsSample (j : List Byte) (i : Nat) : Int :=
  let n := byteAt j 2
  let a := levelAmp (sext 16 (leAt j 16 2))
  if mlsGo (mlsTerms n) n (i % (2 ^ n - 1)) (2 ^ n - 1) = 1 then toQ31 a else toQ31 a.neg

/-- Sample `i` of the stimulus, zero beyond its span. -/
def stimSample (j : List Byte) (i : Nat) : Int :=
  let p := stimPeriod j
  if stimCount j * p ≤ i then 0 else if byteAt j 0 = 1 then sweepSample j (i % p) else mlsSample j (i % p)

/-! ## The measurement service (R355 to R359) -/

/-- A job block breaks a limit of R355. -/
def State.jobBad (s : State) (j : List Byte) : Bool :=
  let kind := byteAt j 0
  let out (v lo hi : Nat) : Bool := decide (v < lo) || decide (hi < v)
  let lvl := sext 16 (leAt j 16 2)
  let irl := leAt j 32 4
  let maxTaps := s.fldR Reg.FIR_MAX_TAPS 0 13
  out kind 1 2 || decide (16 ≤ byteAt j 1) ||
    (if kind = 1 then decide (byteAt j 2 ≠ 0) || out (leAt j 4 4) 160 368000 || decide (leAt j 8 4 ≤ leAt j 4 4) ||
        decide (368000 < leAt j 8 4) || out (leAt j 12 4) 100 30000
      else out (byteAt j 2) 14 18 || decide (2 ^ byteAt j 2 - 1 < irl)) ||
    out (byteAt j 3) 1 8 || decide (lvl < -15360) || decide (0 < lvl) || out (leAt j 18 2) 1 16 || decide (383 < leAt j 20 2) ||
    nonZero j 22 2 || anyIx (byteAt j 3) (fun i => decide (127 < byteAt j (24 + i))) || out irl 1024 65536 ||
    ((byteAt j 1).testBit 1 && (out (leAt j 40 2) 16 maxTaps || decide (1 < byteAt j 42) || out (byteAt j 43) 1 24 ||
      decide (24 * 256 < leAt j 44 2) || decide (32 < leAt j 46 2))) ||
    nonZero j 52 4 || nonZero j 58 2

/-- SNS_MEAS_STAT follows the job. -/
def State.measStat (s : State) (active : Bool) (status : Nat) : State :=
  s.setReg Reg.SNS_MEAS_STAT (w32 (2 ^ 31 * active.toNat + 2 ^ 16 * status + leAt s.meas.job 20 2 % 512))

/-- Service firmware writes a byte of the job block. -/
def State.jobPut (s : State) (i : Nat) (bs : List Byte) : State := s.dramWriteParts .engine (s.meas.addr * 64 + i) bs

/-- The service asks for a mode (R51, R359). -/
def State.askMode (s : State) (code : Nat) : State :=
  let s1 := (s.setReg Reg.PWR_MODE_REQ (w32 code)).setBit Reg.PWR_MODE_STATUS 14 (decide (s.phase ≠ 0))
  { s1 with mode := { s.mode with req := some code, held := false } }

/-- A job ends: STATUS, its record, and RETURN's request (R359). -/
def State.measEnd (s : State) (status : Nat) : State :=
  let m := s.meas
  let s := (s.jobPut 56 [b8 status, b8 m.used]).measStat false status
  let s := s.note 0xC 0x42 ([b8 status, b8 m.used] ++ (m.job.drop 20).take 2 ++ leBytes 4 m.peak ++ leBytes 4 m.addr)
  let s := { s with meas := { m with phase := 0 } }
  if (byteAt m.job 1).testBit 3 then s.askMode 4 else s

/-- A running job ends early. -/
def State.measStop (s : State) (status : Nat) : State := if s.meas.phase = 0 then s else s.measEnd status

/-- ALARM starts in MEASURE: the stimulus is cut and the job ends (R50). -/
def State.measAlarm (s : State) : State :=
  if s.meas.phase = 0 then s else
  let tb := s.blk.b * 1000000000 / s.blk.fr
  let s := s.measEnd 3
  { s with meas := { s.meas with cut := some (s.now + tb) } }

/-- MEAS_START (R355, R549): a job is accepted, or refused at once. -/
def execMeasStart (c : BitVec 2) (s : State) : Out :=
  s.event Reg.SNS_MEAS_STAT fun s => s.serve c.toNat 4 1 fun s =>
    let addr := s.mbxArg c.toNat 0
    if s.usable < addr * 64 + 64 then s.respond c.toNat 2 []
    else if s.pmode ≠ 8 then s.respond c.toNat 4 []
    else if s.meas.phase ≠ 0 then (s.dramWrite .engine (addr * 64 + 56) [8]).respond c.toNat 3 []
    else
      let r := s.dramRead (addr * 64) 64 false
      let job := r.2.1
      let s := { r.1 with meas := { addr := addr, job := job, phase := 1 } }
      let s := s.respond c.toNat 0 []
      if s.jobBad job then s.measEnd 4
      else
        let t := s.now + 1000000
        let n0 := ceilDiv ((t - s.blk.t0) * s.blk.fr) (s.blk.b * 1000000000)
        let s : State := if s.running then { s with meas := { s.meas with n0 := max n0 (s.blk.n + 1) } }
          else { s with meas := { s.meas with wait := some t } }
        (s.jobPut 56 [1]).measStat true 1

/-- S0 of a train: the stimulus of a job that waits for one starts in its first block 1 ms or more after the job (R356). -/
def State.measTrain (s : State) : State :=
  match s.meas.wait with
  | some t => { s with meas := { s.meas with wait := none, n0 := ceilDiv ((t - s.blk.t0) * s.blk.fr) (s.blk.b * 1000000000) } }
  | none => s

/-- MEAS_STATUS (R549). -/
def execMeasStatus (c : BitVec 2) (s : State) : Out :=
  .next (s.serve c.toNat 4 2 fun s => s.respond c.toNat 0 [s.reg Reg.SNS_MEAS_STAT])

/-- Whether the stimulus still plays at an instant (R50). -/
def State.stimOn (s : State) (t : Nat) : Bool :=
  match s.meas.cut with
  | some c => decide (t < c)
  | none => decide (s.meas.phase = 1)

/-- The render signal of a feed for block `n`, with the stimulus in its place on FEED, and zeros on the others under
MUTE_OTHERS, while the stimulus spans the block (R356). -/
def State.measFeed (s : State) (f n : Nat) (r : List Int) : List Int :=
  let j := s.meas.job
  let span := stimCount j * stimPeriod j
  let i0 := (n - s.meas.n0) * s.blk.b
  if s.meas.phase = 0 ∧ s.meas.cut = none ∨ s.meas.wait.isSome ∨ n < s.meas.n0 ∨ span ≤ i0 then r
  else r.zipIdx.map fun p =>
    if !s.stimOn (s.outInstant n p.2) || decide (span ≤ i0 + p.2) then p.1
    else if f = leAt j 20 2 then stimSample j (i0 + p.2)
    else if (byteAt j 1).testBit 0 then 0 else p.1

/-- MEAS_CAPTURE_DONE (R357): the last capture tick passes. -/
def execMeasCaptureDone (s : State) : Out :=
  s.event Reg.SNS_MEAS_STAT fun s => if s.meas.phase = 1 then { s with meas := { s.meas with phase := 2 } } else s

/-- Channel CHi meets the settings R357 asks: MODE 0 without DIV3, and a ring of 64 entries or more. -/
def State.chFit (s : State) (i : Nat) : Bool :=
  let c := byteAt s.meas.job (24 + i)
  let cfg := s.reg (Reg.SNS_GRP_CFG (c / 16))
  decide (c < 128) && bitOf cfg 31 && bitOf cfg (c % 16) && decide (fld cfg 28 2 = 0) && !bitOf cfg 27 &&
    decide (64 ≤ s.fldR (Reg.SNS_RING_DEPTH (c / 16)) 0 16) && !s.claimed (c / 16)

/-- The index of the largest magnitude of a list of binary32 samples. -/
def irPeak (bs : List Byte) (n : Nat) : Nat :=
  ((List.range n).foldl (fun (a : Nat × Nat) i => let v := leAt bs (4 * i) 4 % 2 ^ 31; if a.2 < v then (i, v) else a) (0, 0)).1

/-- The captured repeats of entry `i`, added up sample by sample (R357). -/
def State.capSum (s : State) (i : Nat) : List Int :=
  let x := Store.get (fun _ => []) s.meas.cap i
  let p := stimPeriod s.meas.job
  (List.range p).map fun k => (List.range (x.length / max 1 p)).foldl (fun a r => a + nth x (r * p + k) 0) 0

/-- The response of entry `i` as it is written: how the service deconvolves the capture is free, to the bit (R357). -/
def State.respBytes (s : State) (i : Nat) : List Byte :=
  let x := s.capSum i
  (List.range (leAt s.meas.job 32 4)).flatMap fun k => leBytes 4 (Config.response s.meas.job x k).toNat

/-- The correction that the service designs from the responses of the channels used, in units of 2^-63; its design is free (R358). -/
def State.design (s : State) : List Int :=
  let xs := (bitsOf 8 s.meas.used).map s.capSum
  (List.range (leAt s.meas.job 40 2)).map fun k => Config.correction s.meas.job xs k

/-- Coefficients rounded to Q1.23 × 2^EXP (R9, R358). -/
def roundTaps (cs : List Int) (exp : Int) : List Int := cs.map fun c => rndShift c (40 + exp).toNat

/-- The smallest EXP from −8 to +8 for which every coefficient fits (R358). -/
def tapsExp (cs : List Int) : Int :=
  (((List.range 17).map fun (k : Nat) => (k : Int) - 8).find? fun e => (roundTaps cs e).all fun c => decide (satN 24 c = c)).getD 8

/-- MEAS_RESPONSES_DONE (R357): the responses of the used channels. -/
def execMeasResponsesDone (clean : BitVec 8) (s : State) : Out :=
  s.event Reg.SNS_MEAS_STAT fun s =>
    if s.meas.phase ≠ 2 then s else
    let j := s.meas.job
    let use := (List.range (byteAt j 3)).filter fun i => clean.toNat.testBit i && !s.meas.unfit.testBit i && s.chFit i
    let len := leAt j 32 4
    let base := leAt j 36 4 * 64
    let mask := (use.map (2 ^ ·)).foldl (· + ·) 0
    let s := { s with meas := { s.meas with used := mask } }
    match use with
    | [] => s.measEnd 5
    | _ :: _ =>
      let peak := irPeak (s.respBytes (use.headD 0)) len
      let s := s.each use fun s i => s.dramWriteParts .engine (base + 4 * len * i) (s.respBytes i)
      let s := ({ s with meas := { s.meas with peak := peak } }).jobPut 60 (leBytes 4 peak)
      if (byteAt j 1).testBit 1 then { s with meas := { s.meas with phase := 3 } } else s.measEnd 2

/-- MEAS_SYNTH_DONE (R358): the correction goes to the non-selected bank. -/
def execMeasSynthDone (s : State) : Out :=
  s.event Reg.SNS_MEAS_STAT fun s =>
    if s.meas.phase ≠ 3 then s else
    let j := s.meas.job
    let f := leAt j 20 2
    let taps := leAt j 40 2
    let x := 1 - s.firSel f
    let start := (bankOf s.reg f x).start
    let bad := decide (2621440 < start + taps) || s.firFading f || s.bitR Reg.FIR_STATUS 24 ||
      anyIx taps (fun k => s.coefLive (start + k))
    if bad then s.measEnd 6
    else
      let d := s.design
      let exp := tapsExp d
      let s := s.putArray (coefAddr start) ((roundTaps d exp).flatMap fun c => leBytes 3 (toBits 24 (satN 24 c)))
      let w0 := coefAddr start / 4
      let s := s.each (List.range ((coefAddr start + 3 * taps + 3) / 4 - w0)) fun s i => s.logWrite (4 * (w0 + i)) (s.swz (4 * (w0 + i)))
      let dw := if x = 0 then Reg.FIR_A f else Reg.FIR_B f
      let lenR := Reg.FIR_LEN f
      let s := s.firDescWrite dw (putFld (s.reg dw) 22 5 (toBits 5 exp))
      let s := s.firDescWrite lenR (putFld (s.reg lenR) (16 * x) 13 taps)
      let s := if (byteAt j 1).testBit 2 then s.fadeReqWrite (w32 f) else s
      s.measEnd 2

end Sys2Proof.Machine
end

