-- ==== Sys2Proof/Machine/Checks.lean ====
section
/-!
DEFINITION. The content checks of the sections of a configuration image: those of one section (step 2 of R250), and
those that read another section of the completed set, with the sections that are missing (step 4).
-/
namespace Sys2Proof.Machine

/-! ## Building checks -/

/-- The first failure of a list of checks. -/
def firstOf (l : List (Option Nat)) : Option Nat := l.findSome? id

/-- A check that names the payload field at `o`: its offset from the section header. -/
def bad (b : Bool) (o : Nat) : Option Nat := if b then some (32 + o) else none

/-- A check that names no field. -/
def badHd (b : Bool) : Option Nat := if b then some 0 else none

/-- A check of `n` items: the field of the first that fails. -/
def badIn (n : Nat) (f : Nat → Bool) (o : Nat → Nat) : Option Nat := (findIx n f).map fun i => 32 + o i

/-- Reserved bits of `k` bytes at `a`. -/
def rsv (p : List Byte) (a k mask : Nat) : Option Nat := bad (stray p a k mask) a

/-- Reserved bytes. -/
def zer (p : List Byte) (a n : Nat) : Option Nat := bad (nonZero p a n) a

/-- Reserved bits of `n` words at a stride. -/
def rsvs (p : List Byte) (a stride n mask : Nat) : Option Nat :=
  badIn n (fun i => stray p (a + stride * i) 4 mask) (fun i => a + stride * i)

/-- Reserved bytes of `n` items at a stride. -/
def zers (p : List Byte) (a stride n k : Nat) : Option Nat :=
  badIn n (fun i => nonZero p (a + stride * i) k) (fun i => a + stride * i)

/-! ## Modes (R44) -/

/-- Fr of a rendering mode. -/
def modeFr (m : Nat) : Nat := if m = 6 then 96000 else 48000

/-- B of a rendering mode. -/
def modeB (m : Nat) : Nat := match m with | 5 => 8 | 7 => 32 | _ => 16

/-- Object range of a rendering mode (R45). -/
def modeObj (m : Nat) : Nat := if m = 5 ∨ m = 6 then 256 else 512

/-- FIR_MAX_TAPS of a rendering mode (R127). -/
def modeTaps (m : Nat) : Nat := if m = 5 ∨ m = 6 then 2048 else 4096

/-! ## Sections on their own -/

/-- CLOCKPLAN (R485, R493). -/
def ownClock (p : List Byte) : Option Nat :=
  let mon := leAt p 4 4
  firstOf [badHd (decide (p.length ≠ 32)), bad (decide (leAt p 0 4 &&& 0x103F ≠ 0x103F)) 0,
    bad (decide (49152000 < leAt p 0xC 4)) 0xC, bad (decide (49152000 < leAt p 0x10 4)) 0x10,
    bad ((mon.testBit 3 && decide (leAt p 0xC 4 = 0)) || (mon.testBit 4 && decide (leAt p 0x10 4 = 0))) 4,
    bad (decide (leAt p 0x14 2 < 1600) || decide (4266 < leAt p 0x14 2)) 0x14,
    bad (decide (5 ≤ leAt p 8 4 % 8) || (decide (leAt p 8 4 % 8 = 3) && decide (21 < leAt p 8 4 / 256 % 32))) 8,
    rsv p 0 4 0x3FFF, rsv p 4 4 0x1F, rsv p 8 4 0x9F07, zer p 0x16 10]

/-- First pad byte and pads of a bank of PINMUX (R564). -/
def padBank : Nat → Nat × Nat
  | 0 => (0x28, 120)
  | 1 => (0xA0, 56)
  | 2 => (0xD8, 56)
  | 3 => (0x110, 20)
  | 4 => (0x124, 44)
  | _ => (0x150, 32)

/-- An entry of a bank's signal list that is RSVD (R559). -/
def padRsvd (b i : Nat) : Bool :=
  match b with
  | 2 => decide (i = 55)
  | 3 => decide (18 ≤ i)
  | 4 => decide (42 ≤ i)
  | 5 => decide (24 ≤ i)
  | _ => false

/-- A pin of a bank that the device never drives (R582). -/
def padInput (b i : Nat) : Bool :=
  match b with
  | 2 => decide (i = 54) || (decide (i < 54) && decide (i % 9 ≠ 0))
  | 3 => decide (i < 8)
  | 4 => (decide (32 ≤ i) && decide (i < 39)) || decide (i = 41)
  | 5 => [2, 11, 12, 22, 23].contains i
  | _ => false

/-- A check of every pad byte: the bank, the entry and its byte. -/
def pads (p : List Byte) (f : Nat → Nat → Nat → Bool) : Option Nat :=
  firstOf ((List.range 6).map fun b =>
    badIn (padBank b).2 (fun i => f b i (byteAt p ((padBank b).1 + i))) (fun i => (padBank b).1 + i))

/-- PINMUX (R566), against the bank levels the detector reads. -/
def ownPins (bank : List Nat) (p : List Byte) : Option Nat :=
  firstOf [bad (decide (leAt p 0 2 ≠ 6)) 0, badHd (decide (p.length ≠ 0x170)),
    badIn 6 (fun b => let v := leAt p (0x10 + 4 * b) 4 % 4; decide (v = 3) || decide (v ≠ nth bank b 0)) (fun b => 0x10 + 4 * b),
    pads p fun b _ x => decide (x % 4 = 3) && decide (leAt p (0x10 + 4 * b) 4 % 4 = 0),
    pads p fun _ _ x => decide (x / 8 % 4 = 3),
    pads p fun b i x => padRsvd b i && decide (x ≠ 0),
    pads p fun b i x => (padInput b i && decide (x % 8 ≠ 0)) || (decide (b = 5) && decide (22 ≤ i) && decide (i < 24) && decide (x / 8 % 4 ≠ 2)),
    zer p 2 14, rsvs p 0x10 4 6 3, pads p fun _ _ x => decide (32 ≤ x)]

/-- MODE (R245), against the header's MODE. -/
def ownMode (hdr : Nat) (p : List Byte) : Option Nat :=
  let m := byteAt p 0
  firstOf [badHd (decide (p.length ≠ 16)), bad (decide (m < 4) || decide (7 < m) || decide (m ≠ hdr)) 0,
    bad (decide (byteAt p 1 ≠ if modeFr m = 96000 then 2 else 1)) 1,
    bad (decide (byteAt p 2 ≠ match modeB m with | 8 => 1 | 16 => 2 | _ => 3)) 2,
    zer p 3 1, bad (decide (leAt p 4 2 ≠ modeObj m)) 4, zer p 6 10]

/-- Whether two ranges `[a, a + n)` and `[b, b + k)` meet. -/
def meet (a n b k : Nat) : Bool := decide (0 < n) && decide (0 < k) && decide (a < b + k) && decide (b < a + n)

/-- The first of `n` ranges that meets an earlier one. -/
def overlapIx (n : Nat) (r : Nat → Nat × Nat) : Option Nat :=
  findIx n fun i => anyIx i fun j => meet (r i).1 (r i).2 (r j).1 (r j).2

/-- MEMPLAN (R513), in a DRAM of `usable` bytes. -/
def ownMem (usable : Nat) (p : List Byte) : Option Nat :=
  let n := leAt p 0 2
  let r (i : Nat) : MemRegion := nth (memRegions p) i ⟨0, 0, 0, false⟩
  let kinds (k : Nat) : Nat := ((memRegions p).filter fun x => decide (x.kind = k)).length
  firstOf [bad (decide (16 < n)) 0, badHd (decide (p.length ≠ 16 + 16 * n)),
    badHd (decide (kinds 2 ≠ 1)), badHd (decide (1 < kinds 3) || decide (1 < kinds 4)),
    badIn n (fun i => decide ((r i).kind = 4) && decide ((r i).size ≠ 2 ^ 24)) (fun i => 20 + 16 * i),
    badIn n (fun i => decide (4 < (r i).kind)) (fun i => 24 + 16 * i),
    badIn n (fun i => decide ((r i).size = 0)) (fun i => 20 + 16 * i),
    (overlapIx n fun i => ((r i).base, (r i).size)).map fun i => 32 + 16 + 16 * i,
    badIn n (fun i => decide (usable < (r i).base + (r i).size + 2 ^ 27)) (fun i => 16 + 16 * i),
    zer p 3 13, badIn n (fun i => stray p (25 + 16 * i) 1 1) (fun i => 25 + 16 * i), zers p 26 16 n 6]

/-- SPEAKERS (R93). -/
def ownSpeakers (p : List Byte) : Option Nat :=
  let z := leAt p 2 2
  let m := leAt p 4 2
  let t := leAt p 6 2
  let tabO := 0x3020 + 16 * z + 48 * m
  let c := leAt p 8 4
  firstOf [bad (decide (leAt p 0 2 ≠ 384)) 0, bad (decide (256 < z)) 2, bad (decide (128 < m)) 4, bad (decide (1024 < t)) 6,
    badHd (decide (p.length ≠ tabO + 8 * t)),
    bad (decide (c < 200 * 2 ^ 22) || decide (500 * 2 ^ 22 < c)) 8,
    badIn 384 (fun f => decide (8 < byteAt p (0x20 + 32 * f + 18) % 16)) (fun f => 0x20 + 32 * f + 18),
    badIn t (fun i => let o := tabO + 8 * i
      decide (383 < leAt p o 2) || decide (383 < leAt p (o + 2) 2) ||
        (decide (383 < leAt p (o + 4) 2) && decide (leAt p (o + 4) 2 ≠ 0xFFFF))) (fun i => tabO + 8 * i),
    zer p 0x18 8,
    badIn 384 (fun f => stray p (0x20 + 32 * f + 18) 2 0x0F9F) (fun f => 0x20 + 32 * f + 18),
    badIn t (fun i => stray p (tabO + 8 * i + 6) 2 1) (fun i => tabO + 8 * i + 6)]

/-- RENDERPLAN (R125). -/
def ownRender (p : List Byte) : Option Nat :=
  let n := leAt p 0 2
  let app := n - 32
  firstOf [badHd (decide (p.length ≠ 0x4010)), bad (decide (2 ^ 18 ≤ leAt p 4 4)) 4, bad (decide (2 ^ 24 ≤ leAt p 8 4)) 8,
    badIn (512 - n) (fun i => nonZero p (0x10 + 32 * (n + i)) 32) (fun i => 0x10 + 32 * (n + i)),
    badIn app (fun o => let b := byteAt p (0x11 + 32 * o); decide (b / 32 % 4 = 3) || decide (b / 4 % 4 = 3)) (fun o => 0x11 + 32 * o),
    badIn app (fun o => descStray p (0x10 + 32 * o)) (fun o => 0x10 + 32 * o), zer p 2 2, zer p 0xC 4]

/-- A coefficient block of COEF: its offset, START and COUNT. -/
structure CoefBlk where
  off : Nat
  start : Nat
  count : Nat
deriving DecidableEq, Repr

/-- Up to `k` coefficient blocks from offset `o`. -/
def coefBlocks (p : List Byte) : Nat → Nat → List CoefBlk
  | 0, _ => []
  | k + 1, o =>
    if p.length < o + 8 then []
    else ⟨o, leAt p o 4 % 2 ^ 22, leAt p (o + 4) 4⟩ :: coefBlocks p k (o + 8 + up4 (3 * leAt p (o + 4) 4))

/-- The coefficient blocks of a COEF payload. -/
def coefAll (p : List Byte) : List CoefBlk := coefBlocks p (leAt p 4 4) 0x1810

/-- COEF (R149): `live` is where a block found a live coefficient, if one did (R142). -/
def ownCoef (live : Option Nat) (p : List Byte) : Option Nat :=
  let bs := coefAll p
  let b (i : Nat) : CoefBlk := nth bs i ⟨0, 0, 0⟩
  let size := (bs.map fun x => 8 + up4 (3 * x.count)).foldl (· + ·) 0x1810
  let d (f i : Nat) : Word := w32 (leAt p (0x10 + 16 * f + 4 * i) 4)
  let ovfl (f k : Nat) : Bool :=
    let len := fld (d f 2) (16 * k) 13
    let ex := sfld (d f k) 22 5
    decide (leAt p 2 2 < len) || decide (ex < -8) || decide (8 < ex) || decide (2621440 < fld (d f k) 0 22 + len)
  firstOf [bad (decide (leAt p 0 2 ≠ 384)) 0,
    bad (decide (65535 < leAt p 4 4)) 4, badHd (decide (bs.length ≠ leAt p 4 4) || decide (p.length ≠ size)),
    bad (decide (2000 < leAt p 8 2)) 8,
    badIn 384 (fun f => ovfl f 0 || ovfl f 1) (fun f => 0x10 + 16 * f),
    badIn bs.length (fun i => decide (2621440 < (b i).start + (b i).count)) (fun i => (b i).off),
    badIn bs.length (fun i => decide ((b i).count = 0)) (fun i => (b i).off + 4),
    (overlapIx bs.length fun i => ((b i).start, (b i).count)).map fun i => 32 + (b i).off,
    live, zer p 0xA 6, rsvs p 0x10 16 384 0x7FFFFFF, rsvs p 0x14 16 384 0x7FFFFFF, rsvs p 0x18 16 384 0x1FFF1FFF,
    rsvs p 0x1C 16 384 1,
    badIn bs.length (fun i => stray p (b i).off 4 0x3FFFFF) (fun i => (b i).off),
    badIn bs.length (fun i => nonZero p ((b i).off + 8 + 3 * (b i).count) (up4 (3 * (b i).count) - 3 * (b i).count))
      (fun i => (b i).off + 8 + 3 * (b i).count)]

/-! ## GRAPH (R213) -/

/-- A field of core entry `c` (R211). -/
def coreF (p : List Byte) (c i : Nat) : Nat := leAt p (0x10 + 16 * c + 2 * i) 2

/-- List entries of a graph. -/
def graphLists (p : List Byte) : Nat := leAt p 8 4

/-- Offset of the programs. -/
def graphProg (p : List Byte) : Nat := listOff p (graphLists p)

/-- Instructions of the cores below `c`. -/
def plenBelow (p : List Byte) (c : Nat) : Nat := ((List.range c).map fun i => coreF p i 0).foldl (· + ·) 0

/-- Initial data words of the cores below `c`. -/
def dinitBelow (p : List Byte) (c : Nat) : Nat := ((List.range c).map fun i => coreF p i 3).foldl (· + ·) 0

/-- Limit of a node's INDEX by its type (R151, R211). -/
def nodeIxOk (ty ix : Nat) : Bool :=
  match ty with
  | 1 => decide (ix < 5120)
  | 2 => decide (ix < 384)
  | 3 => decide (ix < 384)
  | 4 => if 0x8000 ≤ ix then decide (ix - 0x8000 < 12) else decide (ix < 5120)
  | 5 => decide (ix < 1024)
  | 6 => decide (ix < 4096)
  | 7 => decide (ix < 9216)
  | 8 => decide (ix < 1024)
  | 9 => decide (ix < 64)
  | 10 => decide (ix < 2048)
  | 11 => decide (ix < 128)
  | _ => false

/-- Slots of a table of a list entry. -/
def tableSlots (t : Nat) : Nat := nth [4096, 9216, 1024, 1024, 64, 64] t 0

/-- Words a list entry copies at a block size. -/
def copyWords (b : Nat) (e : ListEntry) : Nat := if e.kind ≤ 1 then b else nth [4, 8, 2, 2, 4, 256] e.table 0

/-- GRAPH on its own (R213); `old` is the active graph where R212 requires disjoint regions. -/
def ownGraph (old : Option (List Byte)) (p : List Byte) : Option Nat :=
  let nn := graphNodes p
  let ns := graphSegs p
  let nl := graphLists p
  let ty (i : Nat) : Nat := byteAt p (nodeOff i)
  let ix (i : Nat) : Nat := leAt p (nodeOff i + 2) 2
  let twice (i : Nat) : Bool := (decide (ty i = 2) || decide (ty i = 3)) && anyIx i fun j => decide (ty j = ty i) && decide (ix j = ix i)
  let so (i : Nat) : Nat := segOff p i
  firstOf [bad (decide (leAt p 0 2 ≠ 32)) 0, bad (decide (2048 < nn)) 2, bad (decide (4096 < ns)) 4, bad (decide (65535 < nl)) 8,
    badHd (decide (p.length ≠ graphProg p + 8 * plenBelow p 32 + 4 * dinitBelow p 32)),
    badIn 32 (fun c => decide (2048 < coreF p c 0) || decide (16384 < coreF p c 1 + coreF p c 2) || decide (coreF p c 2 < coreF p c 3))
      (fun c => 0x10 + 16 * c),
    (match old with
      | some q => badIn 32 (fun c => meet (coreF p c 1) (coreF p c 2) (coreF q c 1) (coreF q c 2)) (fun c => 0x10 + 16 * c)
      | none => none),
    badIn nn (fun i => decide (ty i = 0) || decide (11 < ty i)) nodeOff,
    badIn nn twice (fun i => nodeOff i + 2),
    badIn nn (fun i => !nodeIxOk (ty i) (ix i)) (fun i => nodeOff i + 2),
    badIn nn (fun i => decide (2047 < leAt p (nodeOff i + 4) 2)) (fun i => nodeOff i + 4),
    badIn ns (fun i => decide (31 < byteAt p (so i))) so,
    badIn ns (fun i => decide (coreF p (byteAt p (so i)) 0 ≤ leAt p (so i + 2) 2)) (fun i => so i + 2),
    badIn ns (fun i => !([2, 3, 0xFF].contains (byteAt p (so i + 1)))) (fun i => so i + 1),
    badIn ns (fun i => decide (nl < leAt p (so i + 6) 2 + leAt p (so i + 8) 2)) (fun i => so i + 6),
    badIn ns (fun i => decide (nn < leAt p (so i + 10) 2 + leAt p (so i + 12) 2) || decide (leAt p (so i + 12) 2 = 0)) (fun i => so i + 10),
    badIn ns (fun i => decide (leAt p (so i + 16) 4 = 0) || decide (786432 < leAt p (so i + 16) 4)) (fun i => so i + 16),
    badIn nl (fun i => let e := listEntry p i; decide (3 < e.kind) || decide (5 < e.table) || (decide (e.kind ≤ 1) && decide (e.table ≠ 0)))
      (listOff p),
    badIn nl (fun i => let e := listEntry p i; decide (e.kind = 1) && decide (0x7C0 ≤ e.id) && decide (e.id < 0x800)) (fun i => listOff p i + 2),
    badIn nl (fun i => let e := listEntry p i; decide ((if e.kind ≤ 1 then 2048 else tableSlots e.table) ≤ e.id)) (fun i => listOff p i + 2),
    zer p 6 2, zer p 0xC 4, zers p 0x18 16 32 8,
    badIn nn (fun i => nonZero p (nodeOff i + 1) 1 || nonZero p (nodeOff i + 6) 2) nodeOff,
    badIn ns (fun i => nonZero p (so i + 14) 2 || nonZero p (so i + 20) 4) so,
    badIn nl (fun i => nonZero p (listOff p i + 6) 2) (listOff p)]

/-- MIXPARAM (R183, R185). -/
def ownMix (p : List Byte) : Option Nat :=
  let g := leAt p 0 2
  let q := leAt p 2 2
  let d := leAt p 4 2
  let m := leAt p 6 2
  let y := byteAt p 8
  let go := 0x3020
  let qo := go + 16 * g
  let dl := qo + 32 * q
  let mo := dl + 8 * d
  let yo := mo + 8 * m
  firstOf [bad (decide (4096 < g)) 0, bad (decide (9216 < q)) 2, bad (decide (1024 < d)) 4, bad (decide (1024 < m)) 6,
    bad (decide (64 < y)) 8, badHd (decide (p.length ≠ yo + 1040 * y)),
    bad (decide (2000 < leAt p 0xA 2)) 0xA, bad (decide (2000 < leAt p 0xE 2)) 0xE, bad (decide (2000 < leAt p 0x10 2)) 0x10,
    badIn m (fun i => decide (8 < leAt p (mo + 8 * i) 4 / 4 % 16)) (fun i => mo + 8 * i),
    badIn d (fun i => decide (16383 < leAt p (dl + 8 * i) 4)) (fun i => dl + 8 * i),
    badIn 384 (fun f => decide (10000 < leAt p (0x28 + 32 * f) 2)) (fun f => 0x28 + 32 * f),
    badIn 384 (fun f => decide (2000 < leAt p (0x2A + 32 * f) 2)) (fun f => 0x2A + 32 * f),
    badIn y (fun i => decide (2000 < leAt p (yo + 1040 * i) 4 / 65536 % 4096)) (fun i => yo + 1040 * i),
    zer p 9 1, zer p 0xD 1, zer p 0x12 14,
    rsvs p 0x20 32 384 0x7FFFFFFF, rsvs p 0x24 32 384 0x7FFFFFFF, rsvs p 0x2C 32 384 3, zers p 0x30 32 384 16,
    rsvs p go 16 g 0x03FFFFFF, zers p (go + 4) 16 g 12, zers p (qo + 20) 32 q 12, zers p (dl + 4) 8 d 4,
    rsvs p mo 8 m 0x3F, zers p (mo + 4) 8 m 4, rsvs p yo 1040 y 0x0FFF0FFF, zers p (yo + 4) 1040 y 12,
    badIn y (fun i => anyIx 256 fun j => stray p (yo + 1040 * i + 16 + 4 * j) 4 0xFFFFFF) (fun i => yo + 1040 * i + 16)]

/-! ## SCHED (R237) -/

/-- The successors a template names. -/
def tplSucc (p : List Byte) (t : Nat) : List Nat :=
  ((List.range 4).map fun j => leAt p (16 + 32 * t + 20 + 2 * j) 2).filter fun x => decide (x ≠ 0xFFFF)

/-- The templates that name `t` as successor. -/
def tplPreds (p : List Byte) (n t : Nat) : List Nat := (List.range n).filter fun u => (tplSucc p u).contains t

/-- The templates that `k` rounds of removing those without remaining predecessors leave. -/
def tplLeft (p : List Byte) (n : Nat) : Nat → List Nat → List Nat
  | 0, l => l
  | k + 1, l => tplLeft p n k (l.filter fun t => l.any fun u => (tplSucc p u).contains t)

/-- SCHED on its own. -/
def ownSched (p : List Byte) : Option Nat :=
  let n := leAt p 0 2
  let o (t : Nat) : Nat := 16 + 32 * t
  let cls (t : Nat) : Nat := byteAt p (o t) % 16
  let trig (t : Nat) : Nat := byteAt p (o t) / 16
  let items (t : Nat) : Nat := leAt p (o t + 28) 2
  let feed (t : Nat) : Nat := leAt p (o t + 18) 2
  firstOf [bad (decide (256 < n)) 0, badHd (decide (p.length ≠ 16 + 32 * n)),
    badIn n (fun t => decide (7 < cls t) || decide (3 < trig t)) o,
    badIn n (fun t => decide (512 < items t)) (fun t => o t + 28),
    badIn n (fun t => decide (leAt p (o t + 12) 3 = 0)) (fun t => o t + 12),
    badIn n (fun t => decide (byteAt p (o t + 3) ≠ 0xFF) && decide ((classSlots (cls t)).2 ≤ byteAt p (o t + 3))) (fun t => o t + 3),
    badIn n (fun t => decide (4 ≤ cls t) && anyIx (items t) fun i => !jobCode (cls t) (leAt p (o t + 30) 2 + i)) (fun t => o t + 30),
    badIn n (fun t => decide (feed t < 0xFFFE) && decide (384 < feed t + items t)) (fun t => o t + 18),
    badIn n (fun t => decide (trig t = 3) && decide (feed t ≠ 0xFFFE)) (fun t => o t + 18),
    badIn n (fun t => (tplSucc p t).any fun x => decide (n ≤ x)) (fun t => o t + 20),
    badIn n (fun t => decide (byteAt p (o t + 16) % 16 ≠ (tplPreds p n t).length)) (fun t => o t + 16),
    badIn n (fun t => (byteAt p (o t + 1)).testBit 4 &&
      ((tplPreds p n t).any fun a => (tplPreds p n t).any fun b => decide (items a ≠ items b))) (fun t => o t + 1),
    badHd (!(tplLeft p n n (List.range n)).isEmpty),
    zer p 2 14,
    badIn n (fun t => stray p (o t + 1) 1 0x1F || nonZero p (o t + 4) 6 || decide (leAt p (o t + 10) 2 ≠ t) ||
      nonZero p (o t + 15) 1 || stray p (o t + 16) 1 0xF || nonZero p (o t + 17) 1) o]

/-! ## PORTS (R316, R317, R337) -/

/-- Offset of a pair's configuration word. -/
def pairOff (i : Nat) : Nat := 0x10 + 4 * i

/-- A pair's configuration word; pair `2 × group + pair`. -/
def pairWord (p : List Byte) (i : Nat) : Word := w32 (leAt p (pairOff i) 4)

/-- An enabled pair breaks a rule of R316 or R317 that needs no other section. -/
def pairBad (w : Word) : Bool :=
  let fb := fld w 0 10
  let rate := rateHz (fld w 24 3)
  let fmt := fld w 22 2
  let width := slotBits (fld w 20 2)
  let fs := fld w 15 5
  let master := bitOf w 30
  let src := fld w 28 2
  decide (fld w 24 3 = 7) || decide (fmt = 3) || decide (fld w 20 2 = 3) || decide (src = 3) ||
  (master && decide (src ≠ 0) && bitOf w 27) ||
  decide (fb < 32) || decide (512 < fb) || decide (fs < 2) || decide (16 < fs) ||
  (master && decide (src = 0) && decide (24576000 % (fb * rate) ≠ 0)) ||
  decide (24576000 < fb * rate) ||
  (decide (fmt < 2) && (decide (fs ≠ 2) || decide (fb % 2 = 1))) ||
  decide (fb < fs * width + (if fmt = 0 then 1 else if fmt = 2 then fld w 12 1 else 0))

/-- A word of lane `l`: 0 configuration, 1 mask, 2 ring base, 3 spill base, 4 spill size. -/
def laneWord (p : List Byte) (l i : Nat) : Word := w32 (leAt p (0xC0 + 32 * l + 4 * i) 4)

/-- A word of receiver `r`: 0 configuration, 1 ring base, 2 spill base, 3 spill size. -/
def aesWord (p : List Byte) (r i : Nat) : Word := w32 (leAt p (0xBC0 + 16 * r + 4 * i) 4)

/-- The pair of a lane by its configuration word. -/
def lanePairW (l : Nat) (w : Word) : Nat := 2 * (l / 4) + (bitOf w 29).toNat

/-- Number of TXMAP entries. -/
def txMaps (p : List Byte) : Nat := leAt p 4 2

/-- Whether the completed PORTS section makes a serial channel a transmit channel (R319). -/
def laneDir (ports : Option (List Byte)) (ch : Nat) : Bool :=
  match ports with
  | some p => bitOf (laneWord p (ch / 16) 0) 30
  | none => false

/-- Whether a channel is a receive channel of the set (R213). -/
def rxChannel (ports : Option (List Byte)) (ch : Nat) : Bool :=
  if ch < 1408 then !laneDir ports ch
  else (decide (1536 ≤ ch) && decide (ch < 1544)) || (decide (2048 ≤ ch) && decide (ch < 3072)) || (decide (4096 ≤ ch) && decide (ch < 4608))

/-- Whether a channel is a transmit channel of the set (R213). -/
def txChannel (ports : Option (List Byte)) (ch : Nat) : Bool :=
  if ch < 1408 then laneDir ports ch
  else (decide (3072 ≤ ch) && decide (ch < 4096)) || (decide (4608 ≤ ch) && decide (ch < 5120))

/-- PORTS on its own. -/
def ownPorts (p : List Byte) : Option Nat :=
  let n := txMaps p
  let lw (l : Nat) : Word := laneWord p l 0
  let tx (c : Nat) : Word := w32 (leAt p (0xC00 + 4 * c) 4)
  firstOf [bad (decide (leAt p 0 2 ≠ 22)) 0, bad (decide (leAt p 2 2 ≠ 88)) 2, bad (decide (1408 < n)) 4,
    badHd (decide (p.length ≠ 0xC00 + 4 * n)),
    badIn 44 (fun i => bitOf (pairWord p i) 31 && pairBad (pairWord p i)) pairOff,
    badIn 88 (fun l => bitOf (lw l) 31 &&
      (!bitOf (pairWord p (lanePairW l (lw l))) 31 || decide (fld (pairWord p (lanePairW l (lw l))) 15 5 < fld (lw l) 0 5))) (fun l => 0xC0 + 32 * l),
    badIn n (fun c => bitOf (tx c) 31 && decide (383 < fld (tx c) 0 9)) (fun c => 0xC00 + 4 * c),
    badIn n (fun c => bitOf (tx c) 31 && !laneDir (some p) c) (fun c => 0xC00 + 4 * c),
    zer p 7 9, rsvs p 0x10 4 44 0xFFFFF3FF, rsvs p 0xC0 32 88 0xF800001F, rsvs p 0xC4 32 88 0xFFFF, rsvs p 0xC8 32 88 0x7FFF,
    rsvs p 0xD0 32 88 0xFFFF, zers p 0xD4 32 88 12, rsvs p 0xBC0 16 4 0x88000000, rsvs p 0xBC4 16 4 0x7FFF, rsvs p 0xBCC 16 4 0xFFFF,
    rsvs p 0xC00 4 n 0x800001FF]

/-! ## NET, FABRIC, TWIN, SENSE and METERS -/

/-- Packet time of a stream entry's word 0 in samples of its rate (R377). -/
def streamP (w : Word) : Nat := nth [6, 12, 16, 48] (fld w 26 2) 6 * (if bitOf w 28 then 2 else 1)

/-- Bytes of a transmit packet on the wire, from destination address to FCS (R379, R391). -/
def packetLen (w : Word) (epoch : Bool) : Nat :=
  14 + 20 + 8 + 12 + streamP w * fld w 0 7 * (if bitOf w 29 then 3 else 2) + 4 + (if epoch then 8 else 0) + (if bitOf w 25 then 4 else 0)

/-- Packets per second of a stream. -/
def packetRate (w : Word) : Nat := nth [8000, 4000, 3000, 1000] (fld w 26 2) 8000

/-- NET on its own (R391). -/
def ownNet (p : List Byte) : Option Nat :=
  let nr := leAt p 2 2
  let nt := leAt p 4 2
  let nm := leAt p 6 2
  let eo (s : Nat) : Nat := 0xD0 + 64 * s
  let w (s i : Nat) : Word := w32 (leAt p (eo s + 4 * i) 4)
  let en (s : Nat) : Bool := bitOf (w s 0) 31
  let base (s : Nat) : Nat := fld (w s 1) 0 10
  let ch (s : Nat) : Nat := fld (w s 0) 0 7
  let epoch := decide (leAt p 8 4 / 256 % 16 ≠ 0)
  let pw (k i : Nat) : Word := w32 (leAt p (0x10 + 96 * k + 4 * i) 4)
  let mo := eo (nr + nt)
  let m (c : Nat) : Word := w32 (leAt p (mo + 4 * c) 4)
  let pt (s : Nat) : Nat := (bitOf (w s 0) 30).toNat
  let load (k : Nat) : Nat := ((List.range nt).map fun t =>
    let s := nr + t
    if en s && decide (pt s = k) then (packetLen (w s 0) epoch + 20) * 8 * packetRate (w s 0) else 0).foldl (· + ·) 0
  let buf (s : Nat) : Nat × Nat := (fld (w s 11) 0 14 * 64, if en s then fld (w s 12) 0 14 * ch s * 4 else 0)
  let share (s lo : Nat) : Bool := en s && anyIx (s - lo) fun j => en (lo + j) && meet (base s) (ch s) (base (lo + j)) (ch (lo + j))
  firstOf [bad (decide (leAt p 0 2 ≠ 2)) 0, bad (decide (128 < nr)) 2, bad (decide (128 < nt)) 4, bad (decide (1024 < nm)) 6,
    badHd (decide (p.length ≠ mo + 4 * nm)),
    badIn 2 (fun k => decide ((pw k 3).toNat % 2 ^ 14 < 1518) || decide (9216 < (pw k 3).toNat % 2 ^ 14)) (fun k => 0x1C + 96 * k),
    badIn (nr + nt) (fun s => en s && (decide (ch s = 0) || decide (64 < ch s))) eo,
    badIn (nr + nt) (fun s => en s && decide (1024 < base s + ch s)) (fun s => eo s + 4),
    badIn nr (fun s => share s 0) (fun s => eo s + 4), badIn nt (fun t => share (nr + t) nr) (fun t => eo (nr + t) + 4),
    badIn nt (fun t => let s := nr + t; en s && decide (fld (pw (pt s) 3) 0 14 < packetLen (w s 0) epoch)) (fun t => eo (nr + t)),
    badHd (anyIx 2 fun k => decide ((if bitOf (pw k 0) 1 then 900000000 else 9000000000) < load k)),
    badIn nr (fun s => en s && decide (fld (w s 12) 0 14 < fld (w s 10) 0 16 + streamP (w s 0))) (fun s => eo s + 40),
    badIn (nr + nt) (fun s => en s && decide (786432 < (buf s).1 + (buf s).2)) (fun s => eo s + 44),
    (overlapIx (nr + nt) buf).map fun s => 32 + eo s + 44,
    badIn nm (fun c => bitOf (m c) 31 && decide (383 < fld (m c) 0 9)) (fun c => mo + 4 * c),
    rsv p 8 4 0xF01, rsv p 0xC 4 0xFFFF,
    badIn 2 (fun k => stray p (0x10 + 96 * k) 4 0xFF || stray p (0x18 + 96 * k) 4 0xFFFF || stray p (0x1C + 96 * k) 4 0x3FFF ||
      (anyIx 8 fun i => stray p (0x2C + 96 * k + 4 * i) 4 0x8000FFFF) || nonZero p (0x4C + 96 * k) 36) (fun k => 0x10 + 96 * k),
    badIn (nr + nt) (fun s => stray p (eo s) 4 0xFF00007F || stray p (eo s + 4) 4 0x3FF || stray p (eo s + 36) 4 0x00FF3F7F ||
      stray p (eo s + 40) 4 0xFFFF || stray p (eo s + 44) 4 0x3FFF || stray p (eo s + 48) 4 0x3FFF || nonZero p (eo s + 52) 12) eo,
    rsvs p mo 4 nm 0x800001FF]

/-- A BVL_SUB entry of a FABRIC section; entries beyond NSUB are zero. -/
def fabSub (p : List Byte) (o : Nat) : Word := if o < leAt p 2 2 then w32 (leAt p (0x70 + 4 * o) 4) else 0

/-- Whether a FABRIC section publishes an object. -/
def fabPub (p : List Byte) (o : Nat) : Bool := (byteAt p (0x30 + o / 8)).testBit (o % 8)

/-- FABRIC on its own (R435). -/
def ownFabric (p : List Byte) : Option Nat :=
  let ns := leAt p 2 2
  let nt := leAt p 4 2
  let nr := leAt p 6 2
  let tabO := 0x70 + 4 * ns
  let ro := tabO + 4 * nt
  let t (c : Nat) : Word := w32 (leAt p (tabO + 4 * c) 4)
  firstOf [bad (decide (leAt p 0 2 ≠ 6)) 0, bad (decide (512 < ns)) 2, bad (decide (512 < nt)) 4, bad (decide (512 < nr)) 6,
    badHd (decide (p.length ≠ ro + 4 * nr)), bad (decide (leAt p 8 4 / 2 % 4 = 3)) 8,
    badIn ns (fun o => fabPub p o && bitOf (fabSub p o) 31) (fun o => 0x70 + 4 * o),
    badIn nt (fun c => bitOf (t c) 31 && decide (383 < fld (t c) 0 9)) (fun c => tabO + 4 * c),
    rsv p 8 4 0x3FF00F, rsv p 0xC 4 0xFFFF, rsvs p 0x10 4 6 1, rsvs p 0x70 4 ns 0x803F01FF, rsvs p tabO 4 nt 0xC03F01FF,
    rsvs p ro 4 nr 0x803F01FF]

/-- TWIN (R314). -/
def ownTwin (p : List Byte) : Option Nat :=
  let hb := byteAt p 2
  firstOf [badHd (decide (p.length ≠ 32)), bad (decide (leAt p 0 2 = 0)) 0, bad (!hb.testBit 0 || decide (16 ≤ hb)) 2,
    bad (decide (15 < byteAt p 3)) 3, bad (decide (2000 < leAt p 4 2)) 4,
    bad ((hb.testBit 2 || hb.testBit 3) && !(byteAt p 8).testBit 0) 8, rsv p 0xE 1 1, zer p 0xF 17]

/-- A group word of SENSE: 0 configuration, 1 ring base, 2 ring depth. -/
def snsWord (p : List Byte) (g i : Nat) : Word := w32 (leAt p (0x10 + 16 * g + 4 * i) 4)

/-- SENSE on its own (R363). -/
def ownSense (p : List Byte) : Option Nat :=
  let n := leAt p 2 2
  let lo (e : Nat) : Nat := 0x90 + 24 * e
  let cfg (g : Nat) : Word := snsWord p g 0
  let dep (g : Nat) : Nat := (snsWord p g 2).toNat
  firstOf [bad (decide (leAt p 0 2 ≠ 8)) 0, bad (decide (64 < n)) 2, badHd (decide (p.length ≠ 0x90 + 24 * n)),
    badIn 8 (fun g => decide (fld (cfg g) 28 2 = 3) || (bitOf (cfg g) 27 && decide (fld (cfg g) 28 2 = 2))) (fun g => 0x10 + 16 * g),
    badIn 8 (fun g => (decide (1 ≤ dep g) && decide (dep g ≤ 3)) || (decide (dep g ≠ 0) && decide (fld (cfg g) 28 2 = 2))) (fun g => 0x18 + 16 * g),
    badIn 8 (fun g => decide (6 ≤ g) && bitOf (cfg g) 30) (fun g => 0x10 + 16 * g),
    badIn n (fun e => decide (383 < leAt p (lo e) 4 % 512)) lo,
    badIn n (fun e => decide (leAt p (lo e + 16) 4 < leAt p (lo e + 12) 4)) (fun e => lo e + 12),
    rsv p 4 4 0xF3, zer p 8 8,
    badIn 8 (fun g => stray p (0x10 + 16 * g) 4 0xF800FFFF || stray p (0x18 + 16 * g) 4 0xFFFF || nonZero p (0x1C + 16 * g) 4) (fun g => 0x10 + 16 * g),
    badIn n (fun e => stray p (lo e) 4 0x800F01FF || stray p (lo e + 20) 4 0xFFFF) lo]

/-- METERS on its own (R184, R185). -/
def ownMeters (p : List Byte) : Option Nat :=
  let n := leAt p 0 2
  let pt (m : Nat) : Nat := leAt p (20 + 8 * m) 4 / 65536 % 8
  let ix (m : Nat) : Nat := leAt p (20 + 8 * m) 2
  firstOf [bad (decide (2048 < n)) 0, badHd (decide (p.length ≠ 16 + 8 * n)),
    badIn n (fun m => decide (5 ≤ pt m) || (decide (1 ≤ pt m) && decide (pt m ≤ 3) && decide (383 < ix m))) (fun m => 20 + 8 * m),
    zer p 2 14, rsvs p 16 8 n 0x8FFF3FFF, rsvs p 20 8 n 0x7FFFF]

/-! ## The completed set (R250 step 4) -/

/-- The sections of a completed set by type. -/
abbrev SetView := Nat → Option (List Byte)

/-- A check of a section that may be absent. -/
def onSect (v : SetView) (ty : Nat) (f : List Byte → Option Nat) : Option (Nat × Nat) :=
  match v ty with
  | some p => (f p).map fun o => (ty, o)
  | none => none

/-- The channels that a graph's PORT_OUT nodes name. -/
def graphOuts (v : SetView) : List Nat :=
  match v 8 with
  | some g => (nodesOf g 4).filterMap fun x => if x.1 < 0x8000 then some x.1 else none
  | none => []

/-- The KIND 1 regions of a set's MEMPLAN hold a range. -/
def inRealTime (v : SetView) (a n : Nat) : Bool :=
  match v 4 with
  | some m => (memRegions m).any fun r => decide (r.kind = 1) && decide (r.base ≤ a) && decide (a + n ≤ r.base + r.size)
  | none => false

/-- A Hamper ring of a PORTS section: base, entry size, spill base, spill entries, and the offset of its words. -/
structure RingRow where
  base : Nat
  e : Nat
  spill : Nat
  size : Nat
  off : Nat
deriving DecidableEq, Repr

/-- The enabled rings of a PORTS section at a mode (R322, R325). -/
def portRings (p : List Byte) (mode : Nat) : List RingRow :=
  let b := modeB mode
  let fr := modeFr mode
  let e (slots fmax : Nat) : Nat := 64 * ceilDiv (32 + 4 * slots * fmax) 64
  ((List.range 88).filterMap fun l =>
    let w := laneWord p l 0
    let pr := pairWord p (lanePairW l w)
    let fmax := if bitOf pr 27 then b else ceilDiv (rateHz (fld pr 24 3) * b) fr + 1
    if bitOf w 31 && !bitOf w 30 then
      some ⟨fld (laneWord p l 2) 0 15 * 64, e (fld w 0 5) fmax, (laneWord p l 3).toNat * 64, fld (laneWord p l 4) 0 16, 0xC8 + 32 * l⟩
    else none) ++
  ((List.range 4).filterMap fun r =>
    if bitOf (aesWord p r 0) 31 then
      some ⟨fld (aesWord p r 1) 0 15 * 64, e 2 (ceilDiv (192000 * b) fr + 1), (aesWord p r 2).toNat * 64, fld (aesWord p r 3) 0 16, 0xBC4 + 16 * r⟩
    else none)

/-- The PORTS checks that read another section (R337). -/
def crossPorts (v : SetView) (mode : Nat) (p : List Byte) : Option Nat :=
  let rings := portRings p mode
  let r (i : Nat) : RingRow := nth rings i ⟨0, 0, 0, 0, 0⟩
  let hz (src : Nat) : Nat := match v 1 with | some c => leAt c (8 + 4 * src) 4 | none => 0
  firstOf [
    badIn 44 (fun i => let w := pairWord p i
      bitOf w 31 && ((bitOf w 27 && decide (rateHz (fld w 24 3) ≠ modeFr mode)) ||
        (bitOf w 30 && (decide (fld w 28 2 = 1) || decide (fld w 28 2 = 2)) &&
          (decide (hz (fld w 28 2) % (fld w 0 10 * rateHz (fld w 24 3)) ≠ 0))))) pairOff,
    badIn rings.length (fun i => decide (1572864 < (r i).base + 4 * (r i).e)) (fun i => (r i).off),
    (overlapIx rings.length fun i => ((r i).base, 4 * (r i).e)).map fun i => 32 + (r i).off,
    badIn rings.length (fun i => decide (0 < (r i).size) && !inRealTime v (r i).spill ((r i).size * (r i).e)) (fun i => (r i).off + 4),
    badIn (txMaps p) (fun c => (byteAt p (0xC03 + 4 * c)).testBit 7 && (graphOuts v).contains c) (fun c => 0xC00 + 4 * c)]

/-- The GRAPH checks that read another section (R213). -/
def crossGraph (v : SetView) (mode : Nat) (p : List Byte) : Option Nat :=
  let ports := v 0xB
  let so (i : Nat) : Nat := segOff p i
  let post := postBuses p
  let src (o : Nat) : Nat := match v 6 with | some r => leAt r (0x12 + 32 * o) 2 % 2048 | none => 0x800
  firstOf [
    badIn (graphNodes p) (fun i =>
      let ty := byteAt p (nodeOff i)
      let ix := leAt p (nodeOff i + 2) 2
      (decide (ty = 1) && !rxChannel ports ix) || (decide (ty = 4) && decide (ix < 0x8000) && !txChannel ports ix)) (fun i => nodeOff i + 2),
    badHd (anyIx (modeObj mode - 32) fun o => decide (src o < 0x7C0) && post.contains (src o)),
    badIn (graphSegs p) (fun i => (segLists p i).any fun e =>
      let c := byteAt p (so i)
      decide (e.addr < coreF p c 1) || decide (coreF p c 1 + coreF p c 2 < e.addr + copyWords (modeB mode) e)) (fun i => so i + 6)]

/-- The FABRIC checks that read another section (R435). -/
def crossFabric (v : SetView) (mode : Nat) (p : List Byte) : Option Nat :=
  let app := modeObj mode - 32
  let fed (o : Nat) : Bool := match v 6 with | some r => (byteAt r (0x10 + 32 * o)).testBit 0 && (byteAt r (0x11 + 32 * o)).testBit 7 | none => false
  let tabO := 0x70 + 4 * leAt p 2 2
  firstOf [bad (decide (leAt p 8 4 / 2 % 4 = 2) && (v 0xE).isSome) 8,
    badIn 512 (fun o => decide (app ≤ o) && fabPub p o) (fun o => 0x30 + o / 8),
    badIn (leAt p 2 2) (fun o => decide (app ≤ o) && bitOf (fabSub p o) 31) (fun o => 0x70 + 4 * o),
    badIn app (fun o => fed o && !bitOf (fabSub p o) 31) (fun o => 0x70 + 4 * o),
    badIn (leAt p 4 2) (fun c => (byteAt p (tabO + 4 * c + 3)).testBit 7 && (graphOuts v).contains (4608 + c)) (fun c => tabO + 4 * c)]

/-- The SENSE checks that read another section (R363). -/
def crossSense (v : SetView) (mode : Nat) (p : List Byte) : Option Nat :=
  let e (g : Nat) : Nat := 64 * (ceilDiv (modeB mode * snsRate (snsWord p g 0)) (modeFr mode) + 1)
  let ring (g : Nat) : Nat × Nat := ((snsWord p g 1).toNat * 64, e g * fld (snsWord p g 2) 0 16)
  firstOf [badIn 8 (fun g => decide (0 < (ring g).2) && !inRealTime v (ring g).1 (ring g).2) (fun g => 0x14 + 16 * g),
    (overlapIx 8 ring).map fun g => 32 + 0x14 + 16 * g]

/-- The NET checks that read another section (R391). -/
def crossNet (v : SetView) (p : List Byte) : Option Nat :=
  let nr := leAt p 2 2
  let nt := leAt p 4 2
  let eo (t : Nat) : Nat := 0xD0 + 64 * (nr + t)
  let w (t i : Nat) : Word := w32 (leAt p (eo t + 4 * i) 4)
  let us := match v 0xE with | some t => leAt t 4 2 | none => 0
  let rate (t : Nat) : Nat := if bitOf (w t 0) 28 then 96000 else 48000
  let mo := 0xD0 + 64 * (nr + nt)
  firstOf [badIn nt (fun t => (v 0xE).isSome && bitOf (w t 0) 31 &&
      decide (fld (w t 12) 0 14 * 1000000 < us * rate t + streamP (w t 0) * 1000000)) (fun t => eo t + 48),
    badIn (leAt p 6 2) (fun c => (byteAt p (mo + 4 * c + 3)).testBit 7 && (graphOuts v).contains (3072 + c)) (fun c => mo + 4 * c)]

/-- The first failure of the checks that read another section, in ascending type: type and offset from its header. -/
def crossBad (v : SetView) : Option (Nat × Nat) :=
  let mode := match v 3 with | some p => byteAt p 0 | none => 4
  let hz (p : List Byte) (src : Nat) : Bool := match v 0xB with
    | some q => decide (leAt p (8 + 4 * src) 4 = 0) && anyIx 44 fun i => let w := pairWord q i
        bitOf w 31 && bitOf w 30 && decide (fld w 28 2 = src)
    | none => false
  [onSect v 1 (fun p => firstOf [bad ((v 0xE).isSome && !(byteAt p 1).testBit 3) 0, bad (hz p 1) 0xC, bad (hz p 2) 0x10]),
    onSect v 4 (fun p => badIn (leAt p 0 2) (fun i => decide (byteAt p (24 + 16 * i) = 2) &&
      decide (leAt p (20 + 16 * i) 4 * 64 < modeObj mode * 393216)) (fun i => 20 + 16 * i)),
    onSect v 6 (fun p => firstOf [bad (decide (leAt p 0 2 ≠ modeObj mode)) 0,
      badIn (modeObj mode - 32) (fun o => (match v 5 with | some s => decide (leAt s 4 2 ≤ byteAt p (0x1D + 32 * o)) | none => false)) (fun o => 0x1D + 32 * o)]),
    onSect v 7 (fun p => bad (decide (leAt p 2 2 ≠ modeTaps mode)) 2),
    onSect v 8 (crossGraph v mode),
    onSect v 0xA (fun p => badIn (leAt p 0 2) (fun t => let o := 16 + 32 * t
      decide (byteAt p o % 16 = 1) &&
        (match v 8 with | some g => decide (graphSegs g < leAt p (o + 30) 2 + max 1 (leAt p (o + 28) 2)) | none => true)) (fun t => 16 + 32 * t + 30)),
    onSect v 0xB (crossPorts v mode), onSect v 0xC (crossNet v), onSect v 0xD (crossFabric v mode), onSect v 0xF (crossSense v mode),
    onSect v 0x10 (fun p => badIn (leAt p 0 2) (fun m => decide (leAt p (20 + 8 * m) 4 / 65536 % 8 = 4) &&
      !rxChannel (v 0xB) (leAt p (20 + 8 * m) 2)) (fun m => 20 + 8 * m))].findSome? id

/-- The completed set of an image's sections over the active ones (R239). -/
def completeSet (carried active : List Section) : List Section :=
  carried ++ active.filter fun x => !(carried.any fun c => decide (c.ty = x.ty))

/-- The view of a list of sections. -/
def setView (l : List Section) : SetView := fun ty => (l.find? fun x => decide (x.ty = ty)).map (·.body)

/-- Bytes of a set in the store (R247). -/
def setSize (l : List Section) : Nat := (l.map fun x => 32 + up16 x.body.length).foldl (· + ·) 0

/-- Step 4 of R250. -/
def postCheck (active : List Section) (secs : List ImgSect) : Option ImgErr :=
  let car := secs.map (·.sec)
  let all := completeSet car active
  let stop := secs.foldl (fun m x => max m (x.at_ + 32 + up16 x.sec.body.length)) 64
  let at_ (ty o : Nat) : Nat := match secs.find? fun x => decide (x.sec.ty = ty) with | some x => x.at_ + o | none => stop
  let need := [1, 2, 3, 4] ++ (if active.isEmpty then [5, 6, 8, 10] else [])
  let missing := (List.range 17).find? fun ty => need.contains ty && !(car.any fun x => decide (x.ty = ty))
  match crossBad (setView all) with
  | some (ty, o) => some ⟨6, ty, at_ ty o⟩
  | none =>
    match missing with
    | some ty => some ⟨7, ty, stop⟩
    | none => if 67108864 < setSize all then some ⟨8, 0, stop⟩ else none

end Sys2Proof.Machine
end

