-- ==== Sys2Proof/Machine/Mac.lean ====
section
/-!
DEFINITION. The Ethernet ports (R364 to R376): frames by length, check and class, rings and descriptors, segmentation,
counters, timestamps and the FCS window.
-/
namespace Sys2Proof.Machine

/-! ## Counters, events and links -/

/-- `n` big-endian bytes from byte `i`. -/
def beAt (bs : List Byte) (i n : Nat) : Nat := beNat ((bs.drop i).take n)

/-- A port. -/
def State.macP (s : State) (p : Nat) : MacPort := nth s.mac.ports p {}

/-- Put a port. -/
def State.setMacP (s : State) (p : Nat) (x : MacPort) : State :=
  { s with mac := { s.mac with ports := putNth s.mac.ports p x } }

/-- Counter `i` of a port goes up by `k`, saturating (R12, R373). -/
def State.macCnt (s : State) (p i k : Nat) : State :=
  let x := s.macP p
  s.setMacP p { x with cnt := Store.set (fun _ => 0) x.cnt i (satU 64 (Store.get (fun _ => 0) x.cnt i + k)) }

/-- A MAC_EVT bit sets. -/
def State.macEvt (s : State) (p bit : Nat) : State := s.evt (Reg.MAC_EVT p) bit

/-- The link of a port is up (R365). -/
def State.linkOn (s : State) (p : Nat) : Bool := s.bitR (Reg.MAC_STATUS p) 0

/-- Ring descriptors of a ring: 2^SIZE, SIZE 4 to 12 (R368). -/
def State.ringLen (s : State) (p q : Nat) : Nat := 2 ^ (max 4 (min 12 (s.fldR (Reg.MAC_RING_SIZE p q) 0 4)))

/-- Device position of a ring. -/
def State.ringHead (s : State) (p q : Nat) : Nat := s.fldR (Reg.MAC_RING_HEAD p q) 0 12 % s.ringLen p q

/-- Software position of a ring. -/
def State.ringTail (s : State) (p q : Nat) : Nat := s.fldR (Reg.MAC_RING_TAIL p q) 0 12 % s.ringLen p q

/-- Descriptors that wait in a ring. -/
def State.ringUsed (s : State) (p q : Nat) : Nat :=
  (s.ringTail p q + s.ringLen p q - s.ringHead p q) % s.ringLen p q

/-- The link state changes: its bit, its event and its record (R365, R387). -/
def State.linkSet (s : State) (p : Nat) (up : Bool) : State :=
  if s.linkOn p = up then s
  else
    let s1 := ((s.setBit (Reg.MAC_STATUS p) 0 up).macEvt p 0).note 0x0D 0x40
      [b8 p, b8 up.toNat, b8 (s.fldR (Reg.MAC_CTL p) 1 1)]
    if up then s1 else (s1.macCnt p 30 1).macCnt p 56 (s1.ringUsed p 0 + s1.ringUsed p 2)

/-- LINK_UP (R365): block lock or synchronisation with no fault, and auto-negotiation complete where it is used. -/
def execLinkUp (p : Bool) (s : State) : Out :=
  s.event (Reg.MAC_CTL p.toNat) fun s =>
    let c := s.reg (Reg.MAC_CTL p.toNat)
    if bitOf c 0 then
      (s.setReg (Reg.MAC_STATUS p.toNat) (w32 ((s.linkOn p.toNat).toNat + 2 * (bitOf c 1 && bitOf c 2).toNat + 8))).linkSet p.toNat true
    else s

/-- LINK_DOWN (R365). -/
def execLinkDown (p : Bool) (st : BitVec 4) (s : State) : Out :=
  s.event (Reg.MAC_CTL p.toNat) fun s =>
    (s.setReg (Reg.MAC_STATUS p.toNat) (w32 ((s.linkOn p.toNat).toNat + 4 * st.toNat))).linkSet p.toNat false

/-- A port that its control disables loses its link; the first FCS window starts when a port is enabled (R386). -/
def State.macSync (s : State) : State :=
  s.each [0, 1] fun s p =>
    if s.bitR (Reg.MAC_CTL p) 0 then
      if (s.macP p).winAt.isSome then s else s.setMacP p { s.macP p with winErr := 0, winOk := 0, winAt := some s.now }
    else (s.linkSet p false).setMacP p { (s.linkSet p false).macP p with winAt := none }

/-- The level of SFP_TXDIS[p] (R364): TXDIS, and high while the port is disabled. -/
def State.sfpTxDis (s : State) (p : Nat) : Bool := s.bitR (Reg.MAC_CTL p) 6 || !s.bitR (Reg.MAC_CTL p) 0

/-! ## Timestamps (R374 to R376) -/

/-- The signed nanoseconds of MAC_TS_LAT applied to a time-counter value. -/
def tsAdd (t : Nat) (lat : Int) : Nat := (((t : Int) + lat) % 2 ^ 36).toNat

/-- A timestamp of a direction joins its queue, or is discarded at a full one; the result says whether it was queued. -/
def State.tsPush (s : State) (p : Nat) (tx : Bool) (sfd id : Nat) : State × Bool :=
  let x := s.macP p
  let t := tsAdd sfd (sfld (s.reg (Reg.MAC_TS_LAT p)) (if tx then 16 else 0) 16)
  let e : TsEnt := { ns := t % 2 ^ 32, tag := t / 2 ^ 32, id := id % 65536 }
  let q := if tx then x.tsTx else x.tsRx
  if q.length < 64 then
    ((s.setMacP p (if tx then { x with tsTx := x.tsTx ++ [e] } else { x with tsRx := x.tsRx ++ [e] })).macCnt p (if tx then 51 else 26) 1,
      true)
  else
    let s1 := (s.macCnt p (if tx then 52 else 27) 1).countFld (Reg.MAC_TS_OVF p) (if tx then 16 else 0) 16 1
    ((s1.evtFirst (Reg.MAC_EVT p) 2 0x0D 0x13 ([b8 p, b8 tx.toNat] ++ leBytes 2 (id % 65536))).when
      (!s1.bitR (Reg.MAC_EVT p) 2) fun s => s.detBit 0x13, false)

/-- A read of MAC_TSQ_x_LO: the oldest entry goes, its tag and ID in the HI register (R376). -/
def State.tsRead (s : State) (p : Nat) (tx : Bool) : State × Word :=
  let x := s.macP p
  let hi := if tx then Reg.MAC_TSQ_TX_HI p else Reg.MAC_TSQ_RX_HI p
  match if tx then x.tsTx else x.tsRx with
  | [] => (s.setReg hi 0, 0)
  | e :: r =>
    ((s.setMacP p (if tx then { x with tsTx := r } else { x with tsRx := r })).setReg hi
      (w32 (2 ^ 31 + e.tag * 2 ^ 16 + e.id)), w32 e.ns)

/-- TSQ_READ. -/
def execTsqRead (ini : Initiator) (p tx : Bool) (s : State) : Out :=
  s.readRow ini (Reg.MAC_TSQ_RX_LO p.toNat) fun s => s.tsRead p.toNat tx

/-! ## Snapshot (R373) -/

/-- A write of MAC_SNAP: every counter is copied, and with CLR the live ones restart. -/
def State.macSnap (s : State) (p : Nat) (v : Word) : State :=
  if bitOf v 0 then
    let x := s.macP p
    let s1 := s.each (List.range 64) fun s i =>
      let c := Store.get (fun _ => 0) x.cnt i
      (s.setReg (Reg.MAC_STAT_LO p i) (w32 c)).setReg (Reg.MAC_STAT_HI p i) (w32 (c / 2 ^ 32))
    if bitOf v 1 then s1.setMacP p { x with cnt := [] } else s1
  else s

/-- MAC_SNAP (R373). -/
def execMacSnap (ini : Initiator) (p : Bool) (s : State) : Out :=
  s.access ini (Reg.MAC_SNAP p.toNat) fun s => s.macSnap p.toNat 1

/-- MAC_SNAP_CLR (R373): CLR is written with SNAP. -/
def execMacSnapClr (ini : Initiator) (p : Bool) (s : State) : Out :=
  s.access ini (Reg.MAC_SNAP p.toNat) fun s => s.macSnap p.toNat 3

/-- At `now`, `d` ns have passed since `at_`; a counter that was set back counts as past it. -/
def elapsed (now at_ d : Nat) : Bool := decide (at_ + d ≤ now) || decide (now < at_)

/-- FCS_WINDOW (R386): WIN ms have passed since the window began; it is judged against THR and the next one follows. -/
def execFcsWindow (p : Bool) (s : State) : Out :=
  s.event (Reg.MAC_FCS_CFG p.toNat) fun s =>
    let p := p.toNat
    let x := s.macP p
    let c := s.reg (Reg.MAC_FCS_CFG p)
    let from_ := x.winAt.getD s.now
    let len := fld c 16 16 * 1000000
    if !s.bitR (Reg.MAC_CTL p) 0 || decide (len = 0) || !elapsed s.now from_ len then s
    else
      let s1 := s.setMacP p { x with winErr := 0, winOk := 0, winAt := some (if s.now < from_ + len then s.now else from_ + len) }
      if fld c 0 16 ≤ x.winErr then
        (s1.macEvt p 1).raiseDet 0x12 0x0D ([b8 p] ++ leBytes 4 (satU 32 x.winErr) ++ leBytes 4 (satU 32 x.winOk))
      else s1

/-! ## Parsing (R367) -/

/-- The one's-complement sum of big-endian 16-bit words, an odd last byte filled with zero. -/
def onesSum : List Byte → Nat → Nat
  | [], acc => acc
  | [a], acc => let t := acc + a.toNat * 256; t % 65536 + t / 65536
  | a :: b :: r, acc => let t := acc + a.toNat * 256 + b.toNat; onesSum r (t % 65536 + t / 65536)

/-- The checksum that makes a sum come out. -/
def ipSum (bs : List Byte) : Nat := 65535 - onesSum bs 0 % 65536

/-- What parsing finds of a frame without its FCS: the tag, EtherType and its offset, the IP version (0 none) with header
offset and length, protocol, transport offset and length, and the checks. -/
structure Parsed where
  tag : Option Nat := none
  ety : Nat := 0
  l3 : Nat := 14
  ver : Nat := 0
  hlen : Nat := 0
  proto : Nat := 0
  l4 : Nat := 0
  l4len : Nat := 0
  ipOk : Bool := true
  l4ok : Option Bool := none
deriving DecidableEq, Repr

/-- The pseudo-header of a transport checksum. -/
def pseudo (f : List Byte) (x : Parsed) : List Byte :=
  (if x.ver = 4 then (f.drop (x.l3 + 12)).take 8 else (f.drop (x.l3 + 8)).take 32) ++
    (if x.ver = 4 then [0, b8 x.proto] ++ beBytes 2 x.l4len else beBytes 4 x.l4len ++ [0, 0, 0, b8 x.proto])

/-- The transport checksum passes; none where there is no UDP or TCP, or UDP over IPv4 without a checksum. -/
def l4Check (f : List Byte) (x : Parsed) : Option Bool :=
  let seg := (f.drop x.l4).take x.l4len
  if x.ver = 0 ∨ (x.proto ≠ 6 ∧ x.proto ≠ 17) then none
  else if x.proto = 17 ∧ x.ver = 4 ∧ beAt f (x.l4 + 6) 2 = 0 then none
  else some (decide (onesSum (pseudo f x ++ seg) 0 % 65536 = 65535) && decide (seg.length = x.l4len))

/-- Parse a frame without its FCS: Ethernet II, one 802.1Q tag, IPv4 with options, IPv6 without extension headers. -/
def parseFrame (f : List Byte) : Parsed :=
  let e0 := beAt f 12 2
  let tag := if e0 = 0x8100 then some (beAt f 14 2) else none
  let l3 := if e0 = 0x8100 then 18 else 14
  let ety := if e0 = 0x8100 then beAt f 16 2 else e0
  let v := byteAt f l3 / 16
  if ety = 0x0800 ∧ v = 4 ∧ 5 ≤ byteAt f l3 % 16 then
    let h := 4 * (byteAt f l3 % 16)
    let x : Parsed := { tag := tag, ety := ety, l3 := l3, ver := 4, hlen := h, proto := byteAt f (l3 + 9), l4 := l3 + h
                        l4len := beAt f (l3 + 2) 2 - h, ipOk := decide (onesSum ((f.drop l3).take h) 0 % 65536 = 65535) }
    { x with l4ok := l4Check f x }
  else if ety = 0x86DD ∧ v = 6 then
    let x : Parsed := { tag := tag, ety := ety, l3 := l3, ver := 6, hlen := 40, proto := byteAt f (l3 + 6), l4 := l3 + 40
                        l4len := beAt f (l3 + 4) 2 }
    { x with l4ok := l4Check f x }
  else { tag := tag, ety := ety, l3 := l3 }

/-- UDP was parsed. -/
def Parsed.udp (x : Parsed) : Bool := decide (x.ver ≠ 0) && decide (x.proto = 17)

/-- The UDP destination port. -/
def udpDst (f : List Byte) (x : Parsed) : Nat := beAt f (x.l4 + 2) 2

/-- An event frame (R374): a 1588 message of type 0 to 3. -/
def eventFrame (f : List Byte) (x : Parsed) : Bool :=
  (decide (x.ety = 0x88F7) && decide (byteAt f x.l3 % 16 ≤ 3)) ||
    (x.udp && decide (udpDst f x = 319) && decide (byteAt f (x.l4 + 8) % 16 ≤ 3))

/-- The station address of a port, in the order of the wire. -/
def State.macAddr (s : State) (p : Nat) : List Byte :=
  leBytes 4 (s.reg (Reg.MAC_ADDR_LO p)).toNat ++ leBytes 2 (s.fldR (Reg.MAC_ADDR_HI p) 0 16)

/-- The address filter (R367). -/
def State.macFilter (s : State) (p : Nat) (da : List Byte) : Bool :=
  let h := crc32 da / 2 ^ 26
  s.bitR (Reg.MAC_CTL p) 3 || decide (da = s.macAddr p) || decide (da = List.replicate 6 (0xFF : Byte)) ||
    ((byteAt da 0).testBit 0 &&
      s.bitR (if h < 32 then Reg.MAC_MCHASH_LO p else Reg.MAC_MCHASH_HI p) (h % 32))

/-- The service takes a frame: PTP, SAP or an enabled MAC_SVC_PORT (R367). -/
def State.svcFrame (s : State) (p : Nat) (f : List Byte) (x : Parsed) : Bool :=
  decide (x.ety = 0x88F7) || (x.udp && (decide (udpDst f x = 319) || decide (udpDst f x = 320) || decide (udpDst f x = 9875) ||
    (List.range 8).any fun i => let w := s.reg (Reg.MAC_SVC_PORT p i); bitOf w 31 && decide (fld w 0 16 = udpDst f x)))

/-- HB_DEST of the active TWIN section. -/
def State.hbDest (s : State) : Option (List Byte) := (s.active 0xE).map fun t => (t.drop 8).take 6

/-! ## Rings (R368, R371) -/

/-- An address of service-core memory: as BAR0 gives it, or counted from its start. -/
def svcAddr (a : Nat) : Nat := if 0x06700000 ≤ a ∧ a < 0x06900000 then a else 0x06700000 + a % 0x200000

/-- Bytes that a port reads for ring `q`. -/
def State.ringRead (s : State) (q a n : Nat) : State × List Byte :=
  if q < 2 then
    let r := s.dramRead a n false
    (r.1, r.2.1)
  else (s.scrub (svcAddr a) n, s.sramBytes (svcAddr a) n)

/-- Bytes that a port writes for ring `q`. -/
def State.ringWrite (s : State) (q a : Nat) (bs : List Byte) : State :=
  if q < 2 then s.dramWriteParts .engine a bs else s.putArray (svcAddr a) bs

/-- Address of a descriptor of a ring. -/
def State.ringDesc (s : State) (p q i : Nat) : Nat := (s.reg (Reg.MAC_RING_BASE p q)).toNat * 64 + 32 * i

/-- The device's position moves on. -/
def State.ringStep (s : State) (p q : Nat) : State :=
  s.setReg (Reg.MAC_RING_HEAD p q) (w32 ((s.ringHead p q + 1) % s.ringLen p q))

/-- A write of MAC_RING_TAIL; one that would pass the head is ignored (R368). -/
def State.tailWrite (s : State) (p q : Nat) (v : Word) : State :=
  let n := s.ringLen p q
  let t := v.toNat % 4096 % n
  let room := (s.ringHead p q + n - s.ringTail p q) % n
  if room ≠ 0 ∧ room < (t + n - s.ringTail p q) % n then s.macEvt p 5
  else s.setReg (Reg.MAC_RING_TAIL p q) (w32 t)

/-- MAC_RING_TAIL_WRITE (R368). -/
def execMacRingTailWrite (ini : Initiator) (p : Bool) (q : BitVec 2) (v : Word) (s : State) : Out :=
  s.access ini (Reg.MAC_RING_TAIL p.toNat q.toNat) fun s => s.tailWrite p.toNat q.toNat v

/-- A receive ring takes a frame: buffer, then the descriptor with byte 24 last; a full ring drops it (R368, R371). -/
def State.ringTake (s : State) (p q : Nat) (f : List Byte) (x : Parsed) (trunc fcsBad tsOk tsLost : Bool) : State :=
  let n := s.ringLen p q
  if !s.bitR (Reg.MAC_CTL p) 7 || decide (s.ringUsed p q ≤ 1) then (s.macCnt p 18 1).macEvt p 3
  else
    let d := s.ringDesc p q (s.ringHead p q % n)
    let r := s.ringRead q d 8
    let buf := leNat r.2
    let strip := s.bitR (Reg.MAC_CTL p) 5 && x.tag.isSome
    let f1 := if strip then f.take 12 ++ f.drop 16 else f
    let f2 := f1.take (s.fldR (Reg.MAC_RING_BUF p q) 0 14)
    let fl := trunc.toNat + 2 * fcsBad.toNat + 4 * strip.toNat + 8 * (!x.ipOk).toNat + 16 * (decide (x.l4ok = some false)).toNat +
      32 * (decide (x.l4ok = some true)).toNat + 64 * tsOk.toNat + 128 * tsLost.toNat
    let s1 := r.1.ringWrite q buf f2
    let s2 := s1.ringWrite q (d + 8) (leBytes 2 f2.length ++ [b8 fl, 0] ++ leBytes 2 (if strip then x.tag.getD 0 else 0) ++
      leBytes 2 ((s.macP p).rxId % 65536) ++ List.replicate 8 0)
    (s2.ringWrite q (d + 24) ([0x80] ++ List.replicate 7 0)).ringStep p q

/-! ## Transmission (R369, R370, R372) -/

/-- The size bin of a frame: 0 for 64 bytes to 6 for 1,519 and more. -/
def sizeBin (n : Nat) : Nat :=
  if n ≤ 64 then 0 else if n ≤ 127 then 1 else if n ≤ 255 then 2 else if n ≤ 511 then 3 else if n ≤ 1023 then 4
  else if n ≤ 1518 then 5 else 6

/-- Address kind of a frame: 0 unicast, 1 multicast, 2 broadcast. -/
def castOf (f : List Byte) : Nat :=
  if f.take 6 = List.replicate 6 (0xFF : Byte) then 2 else if (byteAt f 0).testBit 0 then 1 else 0

/-- A frame leaves: padding, FCS, counters. -/
def State.sendFrameOn (s : State) (p : Nat) (f : List Byte) : State :=
  let g := f ++ List.replicate (60 - f.length) 0
  let n := g.length + 4
  let s1 := s.when (decide (f.length < 60)) fun s => s.macCnt p 54 1
  ((((s1.macCnt p 32 1).macCnt p 33 n).macCnt p (34 + castOf g) 1).macCnt p (37 + sizeBin n) 1).emit .ethFrame p
    (g ++ leBytes 4 (crc32 g))

/-- Replace bytes of a frame from byte `i`. -/
def patch (f : List Byte) (i : Nat) (bs : List Byte) : List Byte := f.take i ++ bs ++ f.drop (i + bs.length)

/-- The frame with an IPv4 header checksum. -/
def withIpSum (f : List Byte) (x : Parsed) : List Byte :=
  let g := patch f (x.l3 + 10) [0, 0]
  patch g (x.l3 + 10) (beBytes 2 (ipSum ((g.drop x.l3).take x.hlen)))

/-- Offset of the transport checksum. -/
def l4SumAt (x : Parsed) : Nat := x.l4 + (if x.proto = 17 then 6 else 16)

/-- The frame with a transport checksum; a UDP checksum of zero is sent as all ones. -/
def withL4Sum (f : List Byte) (x : Parsed) : List Byte :=
  let g := patch f (l4SumAt x) [0, 0]
  let c := ipSum (pseudo g x ++ (g.drop x.l4).take x.l4len)
  patch g (l4SumAt x) (beBytes 2 (if x.proto = 17 ∧ c = 0 then 65535 else c))

/-- Segment `i` of `n` of a TCP send of MSS bytes (R370). -/
def lsoSegment (f : List Byte) (x : Parsed) (mss i n : Nat) : List Byte :=
  let th := 4 * (byteAt f (x.l4 + 12) / 16)
  let hd := f.take (x.l4 + th)
  let pay := ((f.drop (x.l4 + th)).drop (i * mss)).take mss
  let g := hd ++ pay
  let fl := byteAt f (x.l4 + 13)
  let fl := if i + 1 = n then fl else fl &&& 0xF6
  let fl := if i = 0 then fl else fl &&& 0x7F
  let g := patch g (x.l4 + 4) (beBytes 4 ((beAt f (x.l4 + 4) 4 + i * mss) % 2 ^ 32))
  let g := patch g (x.l4 + 13) [b8 fl]
  let g := if x.ver = 4 then
      patch (patch g (x.l3 + 2) (beBytes 2 (x.hlen + th + pay.length))) (x.l3 + 4) (beBytes 2 ((beAt f (x.l3 + 4) 2 + i) % 65536))
    else patch g (x.l3 + 4) (beBytes 2 (th + pay.length))
  let y := parseFrame g
  let g := if x.ver = 4 then withIpSum g y else g
  withL4Sum g y

/-- The tag inserted behind the addresses. -/
def withTag (f : List Byte) (tci : Nat) : List Byte := f.take 12 ++ [0x81, 0x00] ++ beBytes 2 tci ++ f.drop 12

/-- Why a transmit descriptor is rejected, as its STATUS (R369). -/
def State.txReject (s : State) (p : Nat) (d f : List Byte) (x : Parsed) : Option Nat :=
  let len := leAt d 8 4 % 2 ^ 18
  let fl := byteAt d 14
  let lso := fl.testBit 0
  let mss := leAt d 12 2
  let max := s.fldR (Reg.MAC_MAXLEN p) 0 14
  let hdr := x.l4 + 4 * (byteAt f (x.l4 + 12) / 16)
  let tcp := decide (x.ver ≠ 0) && decide (x.proto = 6)
  let l4 := decide (x.ver ≠ 0) && (decide (x.proto = 6) || decide (x.proto = 17))
  if len = 0 ∨ (lso = false ∧ max < len + 4) then some 2
  else if lso ∧ (mss = 0 ∨ max < hdr + min mss (len - hdr) + 4 + (if fl.testBit 3 then 4 else 0)) then some 3
  else if (lso && !tcp) || (fl.testBit 1 && decide (x.ver ≠ 4)) || (fl.testBit 2 && !l4) then some 4
  else if 2 ^ 18 ≤ leAt d 8 4 ∨ 32 ≤ fl ∨ byteAt d 15 ≠ 0 ∨ leAt d 18 2 ≠ 0 ∨ leAt d 25 7 ≠ 0 then some 5
  else none

/-- The frames a descriptor sends. -/
def txFrames (d f : List Byte) (x : Parsed) : List (List Byte) :=
  let fl := byteAt d 14
  let tag (g : List Byte) : List Byte := if fl.testBit 3 then withTag g (leAt d 16 2) else g
  if fl.testBit 0 then
    let mss := leAt d 12 2
    let pay := f.length - (x.l4 + 4 * (byteAt f (x.l4 + 12) / 16))
    let n := max 1 (ceilDiv pay mss)
    (List.range n).map fun i => tag (lsoSegment f x mss i n)
  else
    let g := if fl.testBit 1 then withIpSum f x else f
    [tag (if fl.testBit 2 then withL4Sum g x else g)]

/-- The ring whose turn it is: host and service take turns, one frame each (R372). -/
def State.txRing (s : State) (p : Nat) : Option Nat :=
  let order := if (s.macP p).turn then [2, 0] else [0, 2]
  order.find? fun q => decide (0 < s.ringUsed p q)

/-- The device takes the next transmit descriptor of a port (R369). -/
def State.txTake (s : State) (p q sfd : Nat) (held : Bool) : State :=
  let da := s.ringDesc p q (s.ringHead p q)
  let r := s.ringRead q da 32
  let d := r.2
  let len := leAt d 8 4 % 2 ^ 18
  let rf := r.1.ringRead q (leAt d 0 8) len
  let f := rf.2
  let x := parseFrame f
  let s1 := rf.1.setMacP p { rf.1.macP p with turn := decide (q = 0) }
  let fin (s : State) (st : Nat) : State := (s.ringWrite q (da + 24) [b8 (0x80 + st)]).ringStep p q
  match s1.txReject p d f x with
  | some st => fin ((s1.macCnt p 47 1).macEvt p 4) st
  | none =>
    let fs := txFrames d f x
    let fl := byteAt d 14
    let s2 := s1.when held fun s => s.macCnt p 55 1
    let s3 := s2.each fs fun s g => (s.sendFrameOn p g).when (fl.testBit 3) fun s => s.macCnt p 44 1
    let s4 := s3.when (fl.testBit 0) fun s => (s.macCnt p 45 1).macCnt p 46 fs.length
    fin (s4.when (fl.testBit 4) fun s => (s.tsPush p true sfd (leAt d 20 4)).1) 1

/-- TX_DESCRIPTOR (R369): with the link up and the rings on, a descriptor that waits is taken. -/
def execTxDescriptor (p : Bool) (sfd : BitVec 36) (held : Bool) (s : State) : Out :=
  s.event (Reg.MAC_CTL p.toNat) fun s =>
    if s.linkOn p.toNat && s.bitR (Reg.MAC_CTL p.toNat) 7 && s.bitR (Reg.MAC_CTL p.toNat) 0 then
      match s.txRing p.toNat with
      | some q => s.txTake p.toNat q sfd.toNat held
      | none => s
    else s

end Sys2Proof.Machine
end

