-- ==== Sys2Proof/Machine/Stream.lean ====
section
/-!
DEFINITION. The stream engine (R377 to R385): media time, receive buffers with underruns and EPOCHs (shared with the
fabric's receive channels, R428), RTP packets in both directions; the judgement of a received frame (R366, R367).
-/
namespace Sys2Proof.Machine

/-! ## Media time (R378) -/

/-- M0: the media time of T0 at a rate. -/
def State.media0 (s : State) (rate : Nat) : Nat := (rndDiv ((s.blk.t0 * rate : Nat) : Int) 1000000000).toNat

/-- The current media time at a rate. -/
def State.mediaNow (s : State) (rate : Nat) : Nat := s.now * rate / 1000000000

/-- The number congruent to `v` modulo 2^32 that lies nearest `c`. -/
def nearest32 (v c : Nat) : Int :=
  let d := ((v : Int) - (c : Int)) % 2 ^ 32
  (c : Int) + (if d < 2 ^ 31 then d else d - 2 ^ 32)

/-- EPOCH `a` is lower than `b` in serial-number arithmetic (R309). -/
def epochLt (a b : Nat) : Bool := decide (0 < (b + 65536 - a) % 65536) && decide ((b + 65536 - a) % 65536 < 32768)

/-! ## Receive buffers (R382 to R384) -/

/-- What became of a packet: samples accepted, late and early, and whether its EPOCH was too low. -/
structure RxRes where
  took : Bool := false
  late : Bool := false
  early : Bool := false
  low : Bool := false
deriving DecidableEq, Repr

/-- Samples of a packet enter a buffer: `need` is the oldest media time still needed, `come` says whether the input
instant of a media time has come, `e` the EPOCH it carries. -/
def RxBuf.put (b : RxBuf) (depth need : Nat) (come : Nat → Bool) (e : Option Nat) (smp : List (Int × List Int)) : RxBuf × RxRes :=
  let ep := e.getD b.epoch
  if !b.fresh && epochLt ep b.epoch then (b, { low := true })
  else
    let b0 := { b with epoch := ep, fresh := false }
    smp.foldl (fun (a : RxBuf × RxRes) x =>
      let m := x.1.toNat
      if x.1 < (need : Int) then (a.1, { a.2 with late := true })
      else if need + depth ≤ m then (a.1, { a.2 with early := true })
      else
        match a.1.held.find? fun h => decide (h.1 = m) with
        | some h =>
          if decide (h.2.1 = ep) || come m then (a.1, { a.2 with took := true })
          else ({ a.1 with held := Store.set (fun _ => (0, ([] : List Int))) a.1.held m (ep, x.2) }, { a.2 with took := true })
        | none => ({ a.1 with held := Store.set (fun _ => (0, ([] : List Int))) a.1.held m (ep, x.2) }, { a.2 with took := true }))
      (b0, {})

/-- One sample instant leaves a buffer (R383): the samples, and whether it was missing. -/
def RxBuf.take (b : RxBuf) (m chans holdMax : Nat) : RxBuf × List Int × Bool :=
  let h := (b.h ++ List.replicate (chans - b.h.length) 0).take chans
  match b.held.find? fun x => decide (x.1 = m) with
  | some x =>
    let up := if holdMax < b.miss then 0 else b.up
    let v := (x.2.2 ++ List.replicate (chans - x.2.2.length) 0).take chans
    let y := if up < 32 then v.map fun s => mulSat32 s (((up + 1) * 2 ^ 22 / 32 : Nat) : Int) 22 else v
    ({ b with held := b.held.filter fun q => decide (m < q.1), h := y, miss := 0, up := min 32 (up + 1) }, y, false)
  | none =>
    let miss := b.miss + 1
    let k := miss - holdMax - 1
    let y := if miss ≤ holdMax then h
      else if k < 32 then h.map fun s => mulSat32 s (((31 - k) * 2 ^ 22 / 32 : Nat) : Int) 22
      else List.replicate chans 0
    ({ b with held := b.held.filter fun q => decide (m < q.1), h := h, miss := miss }, y, true)

/-- What a run of sample instants made of a buffer: its samples, how many were missing, how many of these were held or
ramped, and whether the stream was LOST at any of them. -/
structure RxRun where
  buf : RxBuf
  smp : List (List Int) := []
  missed : Nat := 0
  held : Nat := 0
  lost : Bool := false
deriving DecidableEq, Repr

/-- Sample instants from `m` upward leave a buffer (R383). -/
def RxBuf.run (b : RxBuf) (chans holdMax : Nat) : Nat → Nat → RxRun
  | 0, _ => { buf := b }
  | n + 1, m =>
    let r := b.take m chans holdMax
    let t := RxBuf.run r.1 chans holdMax n (m + 1)
    let out := r.2.2 && decide (holdMax + 32 < r.1.miss)
    { t with smp := r.2.1 :: t.smp, missed := t.missed + r.2.2.toNat, held := t.held + (r.2.2 && !out).toNat, lost := t.lost || out }

/-- The buffer's stream is LOST. -/
def RxBuf.isLost (b : RxBuf) (holdMax : Nat) : Bool := decide (holdMax + 32 < b.miss)

/-! ## Stream entries (R389) -/

/-- Word `i` of receive stream `t`. -/
def State.rxW (s : State) (t i : Nat) : Word := s.reg (Reg.STR_RX t i)

/-- Word `i` of transmit stream `t`. -/
def State.txW (s : State) (t i : Nat) : Word := s.reg (Reg.STR_TX t i)

/-- Rate of a stream. -/
def strRate (w : Word) : Nat := if bitOf w 28 then 96000 else 48000

/-- Channels of a stream. -/
def strChans (w : Word) : Nat := fld w 0 7

/-- A receive stream's buffer. -/
def State.rxBuf (s : State) (t : Nat) : RxBuf := Store.get (fun _ => ({} : RxBuf)) s.mac.rx t

/-- Put a receive stream's buffer. -/
def State.setRxBuf (s : State) (t : Nat) (b : RxBuf) : State :=
  { s with mac := { s.mac with rx := Store.set (fun _ => ({} : RxBuf)) s.mac.rx t b } }

/-- A transmit stream's buffer. -/
def State.txBuf (s : State) (t : Nat) : TxBuf := Store.get (fun _ => ({} : TxBuf)) s.mac.tx t

/-- Put a transmit stream's buffer. -/
def State.setTxBuf (s : State) (t : Nat) (b : TxBuf) : State :=
  { s with mac := { s.mac with tx := Store.set (fun _ => ({} : TxBuf)) s.mac.tx t b } }

/-- The stream engine and a stream run. -/
def State.strOn (s : State) (w : Word) : Bool := s.bitR Reg.STR_CTL 0 && bitOf w 31

/-- A bit of STR_EVT sets; the first setting is recorded (R387). -/
def State.strEvt (s : State) (bit t : Nat) : State :=
  s.evtFirst Reg.STR_EVT bit 0x0D 0x41 ([b8 (bit + 1), b8 t] ++ s.blkBytes)

/-- The first media time of block `n` of a stream of a rate, less LINK_OFFSET, and how many sample instants the block
takes (R382): B in domain R; otherwise those whose input instant lies in the block. -/
def State.strSpan (s : State) (rate lo n : Nat) : Int × Nat :=
  if rate = s.blk.fr then ((s.media0 rate + n * s.blk.b : Nat) - (lo : Int), s.blk.b)
  else
    let at_ (k : Nat) : Nat := ceilDiv ((s.blk.t0 * s.blk.fr + k * s.blk.b * 1000000000) * rate) (1000000000 * s.blk.fr)
    ((at_ n : Int) - (lo : Int), at_ (n + 1) - at_ n)

/-- The oldest media time a stream still needs. -/
def State.strNeed (s : State) (rate lo : Nat) : Nat :=
  if s.running then (s.strSpan rate lo (match s.sch.cap with | some c => c + 1 | none => 0)).1.toNat
  else s.mediaNow rate - lo

/-- Block `n` of receive stream `t` is captured: underruns count and set their bits (R383). -/
def State.strCapture (s : State) (t n : Nat) : State × List (List Int) :=
  let w := s.rxW t 0
  let sp := s.strSpan (strRate w) (s.rxW t 10).toNat n
  let hold := s.fldR Reg.STR_HOLD_MAX 0 16
  let r := (s.rxBuf t).run (strChans w) hold sp.2 sp.1.toNat
  let was := s.bitR (Reg.STR_RX_STAT t) 0
  let s1 := (s.setRxBuf t r.buf).setReg (Reg.STR_RX_STAT t) (w32 ((r.buf.isLost hold).toNat + r.buf.epoch * 65536))
  let s2 := s1.when (decide (0 < r.missed)) fun s => (s.count (Reg.STR_RX_HELD t) r.held).strEvt 0 t
  (s2.when (r.lost && !was) fun s => s.strEvt 5 t, r.smp)

/-- EPOCH_TIMEOUT (R384): no packet of the highest EPOCH came for 10 ms; the stream accepts the next packet whatever its EPOCH. -/
def execEpochTimeout (t : BitVec 7) (s : State) : Out :=
  s.event Reg.STR_CTL fun s =>
    if s.strOn (s.rxW t.toNat 0) && elapsed s.now (s.rxBuf t.toNat).seen 10000000 then s.setRxBuf t.toNat { s.rxBuf t.toNat with fresh := true } else s

/-! ## Received packets (R381) -/

/-- The receive stream that a frame of a port matches. -/
def State.strMatch (s : State) (p : Nat) (f : List Byte) (x : Parsed) : Option Nat :=
  if x.ver = 4 ∧ x.proto = 17 then
    findIx 128 fun t =>
      let w := s.rxW t 0
      s.strOn w && decide ((bitOf w 30).toNat = p) && decide (beAt f (x.l3 + 16) 4 = (s.rxW t 2).toNat) &&
        decide (udpDst f x = fld (s.rxW t 4) 0 16) && (!bitOf w 24 || decide (beAt f (x.l3 + 12) 4 = (s.rxW t 3).toNat))
  else none

/-- The EPOCH element of a one-byte header extension (R380, R381). -/
def epochElem (id : Nat) : Nat → List Byte → Option Nat
  | 0, _ => none
  | k + 1, bs =>
    match bs with
    | [] => none
    | b :: r =>
      if b = 0 then epochElem id k r
      else if b.toNat / 16 = 15 then none
      else if b.toNat / 16 = id ∧ 0 < id then some (beNat (r.take 2))
      else epochElem id k (r.drop (b.toNat % 16 + 1))

/-- An audio sample of `k` big-endian bytes as Q1.31. -/
def rtpSample (k : Nat) (bs : List Byte) : Int := sext 32 (beNat (bs.take k) * 2 ^ (32 - 8 * k))

/-- The stream engine takes a matching packet. -/
def State.strPacket (s : State) (p t : Nat) (f : List Byte) (x : Parsed) : State :=
  let w := s.rxW t 0
  let k := if bitOf w 29 then 3 else 2
  let r := (f.drop (x.l4 + 8)).take (x.l4len - 8)
  let b0 := byteAt r 0
  let cc := b0 % 16
  let o1 := 12 + 4 * cc
  let ext := b0.testBit 4
  let xl := if ext then 4 * beAt r (o1 + 2) 2 else 0
  let pay := r.drop (o1 + (if ext then 4 + xl else 0))
  let row := strChans w * k
  let note (s : State) (c bit : Nat) : State := (s.macCnt p c 1).strEvt bit t
  let drop (s : State) (c bit : Nat) : State := (note s c bit).count (Reg.STR_RX_DROP t) 1
  if decide (x.l4ok = some false) || decide (b0 / 64 ≠ 2) || decide (byteAt r 1 % 128 ≠ fld (s.rxW t 9) 0 7) ||
      decide (row = 0) || decide (pay.length % row ≠ 0) then drop s 22 3
  else
    let id := s.fldR Reg.STR_CTL 8 4
    let e := if ext ∧ beAt r o1 2 = 0xBEDE then epochElem id xl ((r.drop (o1 + 4)).take xl) else none
    let rate := strRate w
    let lo := (s.rxW t 10).toNat % 65536
    let m0 := nearest32 ((beAt r 4 4 + 2 ^ 32 - (s.rxW t 8).toNat) % 2 ^ 32) (s.mediaNow rate)
    let smp : List (Int × List Int) := (List.range (pay.length / row)).map fun (i : Nat) =>
      (m0 + (i : Int), (List.range (strChans w)).map fun (c : Nat) => rtpSample k (pay.drop (i * row + c * k)))
    let need := s.strNeed rate lo
    let b1 := if elapsed s.now (s.rxBuf t).seen 10000000 then { s.rxBuf t with fresh := true } else s.rxBuf t
    let q := b1.put (fld (s.rxW t 12) 0 14) need (fun m => decide ((m + lo) * 1000000000 / rate ≤ s.now)) e smp
    let s1 := (s.setRxBuf t (if q.2.low then q.1 else { q.1 with seen := s.now })).setFld (Reg.STR_RX_STAT t) 16 16 q.1.epoch
    if q.2.low then drop s1 23 4
    else
      let s2 := s1.when q.2.late fun s => note s 20 1
      let s3 := (s2.when q.2.early fun s => note s 21 2).when (q.2.late || q.2.early) fun s => s.count (Reg.STR_RX_DROP t) 1
      s3.when q.2.took fun s => s.macCnt p 19 1

/-! ## Transmitted packets (R379, R380, R385) -/

/-- The samples a transmit port channel takes of block `n`: its mapped feed's output or a graph PORT_OUT's. -/
def State.portBlock (s : State) (ch : Nat) (map : Word) (n : Nat) : List Int :=
  if bitOf map 31 then busAt s.mix.ovrOut s.blk.b n (fld map 0 9) else busAt s.mix.portOut s.blk.b n ch

/-- What the twin pair makes of a channel's sample at index `i` of the train (R308). -/
def State.twinChan (s : State) (map : Word) (i : Nat) (y : Int) : Int :=
  if bitOf map 31 then s.twinStr (fld map 0 9) i y (s.substitute (fld map 0 9) (s.gsrcAt 0)) else y

/-- Block `n` has left the port mapper: the samples of each domain-R stream enter its buffer (R379). -/
def State.strTxBlock (s : State) (n : Nat) : State :=
  s.each ((List.range 128).filter fun t => s.strOn (s.txW t 0) && decide (strRate (s.txW t 0) = s.blk.fr)) fun s t =>
    let w := s.txW t 0
    let base := fld (s.txW t 1) 0 10
    let chans := (List.range (strChans w)).map fun c =>
      s.portBlock (3072 + base + c) (s.reg (Reg.STR_TXMAP ((base + c) % 1024))) n
    let m := s.media0 s.blk.fr + (n + 3) * s.blk.b
    let new := (List.range s.blk.b).map fun k => (m + k, chans.map fun l => nth l k 0)
    let b := s.txBuf t
    s.setTxBuf t { b with smp := (b.smp.filter fun q => decide (m + s.blk.b < q.1 + max 96 (fld (s.txW t 12) 0 14) + 96)) ++ new }

/-- The bytes of a sample of a stream's encoding. -/
def encSample (k : Nat) (v : Int) : List Byte := beBytes k (toBits 32 v / 2 ^ (32 - 8 * k))

/-- A stream packet (R379, R380): identification, fragment bits and the use of a UDP checksum are free values. -/
def State.rtpPacket (s : State) (p t j : Nat) (smp : List (List Int)) : State × List Byte :=
  let w := s.txW t 0
  let k := if bitOf w 29 then 3 else 2
  let id := s.fldR Reg.STR_CTL 8 4
  let ep := s.fldR Reg.TWN_EPOCH 0 16
  let m := j * streamP w
  let w9 := s.txW t 9
  let pay := smp.flatMap fun row => row.flatMap (encSample k)
  let rtp := [b8 (0x80 + (if 0 < id then 0x10 else 0)), b8 (fld w9 0 7)] ++ beBytes 2 ((j + fld (s.txW t 10) 0 16) % 65536) ++
    beBytes 4 ((m + (s.txW t 8).toNat) % 2 ^ 32) ++ beBytes 4 (s.txW t 7).toNat ++
    (if 0 < id then [0xBE, 0xDE, 0, 1, b8 (id * 16 + 1)] ++ beBytes 2 ep ++ [0] else []) ++ pay
  let fr := s.freeNat
  let udp := beBytes 2 (fld (s.txW t 4) 16 16) ++ beBytes 2 (fld (s.txW t 4) 0 16) ++ beBytes 2 (rtp.length + 8) ++ [0, 0] ++ rtp
  let ip := [0x45, b8 (fld w9 8 6 * 4)] ++ beBytes 2 (20 + udp.length) ++ beBytes 2 (fr % 65536) ++
    beBytes 2 (fr / 65536 % 2 * 2 ^ 14) ++ [b8 (fld w9 16 8), 17, 0, 0] ++ beBytes 4 (s.reg (Reg.MAC_IPV4 p)).toNat ++
    beBytes 4 (s.txW t 2).toNat
  let da := leBytes 4 (s.txW t 5).toNat ++ leBytes 2 (fld (s.txW t 6) 0 16)
  let f := da ++ s.macAddr p ++ [0x08, 0x00] ++ ip ++ udp
  let x := parseFrame f
  let f1 := withIpSum f x
  let f2 := if fr / 131072 % 2 = 1 then withL4Sum f1 x else f1
  (s.draw, if bitOf w 25 then withTag f2 (fld (s.txW t 6) 16 16) else f2)

/-- A packet of a stream goes out on port `p`, or is discarded with the link down (R365). -/
def State.strSendOn (s : State) (p t j : Nat) (smp : List (List Int)) : State :=
  if s.linkOn p then
    let r := s.rtpPacket p t j smp
    let s1 := (r.1.macCnt p 48 1).when (bitOf (s.txW t 0) 25) fun s => s.macCnt p 44 1
    s1.sendFrameOn p r.2
  else s.macCnt p 50 1

/-- A packet of a stream goes out on the port its entry names. -/
def State.strSend (s : State) (t j : Nat) (smp : List (List Int)) : State := s.strSendOn (bitOf (s.txW t 0) 30).toNat t j smp

/-- The block that gives packet `j` of a stream its last sample (R379). -/
def State.packetBlk (s : State) (t j : Nat) : Nat :=
  let rate := strRate (s.txW t 0)
  let m := ((j + 1) * streamP (s.txW t 0) - 1) * s.blk.fr / rate
  (m - s.media0 s.blk.fr) / s.blk.b - 3

/-- A packet whose last sample has left goes out: at once on the port of the slot where its job runs, with its job, or on the port of
its entry where no job of its block is left (R219). -/
def State.packetOut (s : State) (t j : Nat) (smp : List (List Int)) : State :=
  let n := s.packetBlk t j
  match s.sch.run.find? fun x => decide (97 ≤ x.slot) && decide (x.arg = t) && decide (x.blk = n) && x.fin.isNone with
  | some x => s.strSendOn (x.slot - 97) t j smp
  | none => s.release 7 t n (.packet t j smp) fun s => s.strSend t j smp

/-- BACKLOG_US of the active TWIN section. -/
def State.backlogUs (s : State) : Nat := match s.active 0xE with
  | some t => leAt t 4 2
  | none => 0

/-- The rows of packet `j` of a stream as it sends them. -/
def State.twinRows (s : State) (t j : Nat) (smp : List (List Int)) : List (List Int) :=
  let w := s.txW t 0
  let base := fld (s.txW t 1) 0 10
  let m0 := s.media0 s.blk.fr + 3 * s.blk.b
  smp.zipIdx.map fun r => r.1.zipIdx.map fun y =>
    let m := (j * streamP w + r.2) * s.blk.fr / strRate w
    if m < m0 then y.1 else s.twinChan (s.reg (Reg.STR_TXMAP ((base + y.2) % 1024))) (m - m0) y.1

/-- What a feed on a stream carries at instant `t` without a render output: its Trail substitute with the pilot (R46, R56, R280); the
crossed sample is a free value where no domain-G sample was framed. -/
def State.subOut (s : State) (f t : Nat) : State × Int :=
  let u : Int := (t : Int) - 1000000
  let q : State × Int := match s.feedSel f (s.gInst u) with
    | none => (s, 0)
    | some p => (s.draw, satN 32 (rndShift (s.crossIn p.1 u (sext 32 s.freeNat) * p.2) 22))
  (q.1, s.addPilot f (s.rIndex t) s.blk.fr q.2)

/-- The row of media time `m` that no block holds: the Trail substitutes of its mapped feeds, zero in graph channels. -/
def State.subRow (s : State) (t m : Nat) : State × List Int :=
  let base := fld (s.txW t 1) 0 10
  (List.range (strChans (s.txW t 0))).foldl (fun (a : State × List Int) c =>
    let map := s.reg (Reg.STR_TXMAP ((base + c) % 1024))
    let q := if bitOf map 31 then a.1.subOut (fld map 0 9) (m * 1000000000 / s.blk.fr) else (a.1, 0)
    (q.1, a.2 ++ [q.2])) (s, [])

/-- The samples of packet `j` of a stream, where each has left the port mapper, with the Trail substitutes where no block gives
them (the gap of a restart, the fill of a train, a mode without one); a domain-A stream's come out of the bridge of a PORT_OUT, or from
the conversion of the feed mapped there. -/
def State.packetSamples (s : State) (t j : Nat) : State × Option (List (List Int)) :=
  let w := s.txW t 0
  let n := streamP w
  let row (m : Nat) : Option (List Int) := ((s.txBuf t).smp.find? fun q => decide (q.1 = m)).map (·.2)
  if strRate w = s.blk.fr then
    if ((List.range n).all fun i => (row (j * n + i)).isSome) || decide ((j + 1) * n * 1000000000 ≤ s.gNow * s.blk.fr) then
      let r := (List.range n).foldl (fun (a : State × List (List Int)) i =>
        match row (j * n + i) with
        | some l => (a.1, a.2 ++ [l])
        | none =>
          let q := a.1.subRow t (j * n + i)
          (q.1, a.2 ++ [q.2])) (s, [])
      (r.1, some r.2)
    else (s, none)
  else if (j + 1) * n * 1000000000 ≤ s.now * strRate w then
    let base := fld (s.txW t 1) 0 10
    let r := (List.range n).foldl (fun (a : State × List (List Int)) i =>
      let t := (j * n + i) * 1000000000 / strRate w
      let one := (List.range (strChans w)).foldl (fun (b : State × List Int) c =>
        let map := s.reg (Reg.STR_TXMAP ((base + c) % 1024))
        if bitOf map 31 then
          let q := b.1.subOut (fld map 0 9) t
          (q.1, b.2 ++ [q.1.feedConv (fld map 0 9) (strRate w) t q.2])
        else
          match b.1.chBridge 4 (3072 + base + c) with
          | some br => let y := b.1.bridgeSample br t; (y.1, b.2 ++ [y.2])
          | none => (b.1, b.2 ++ [0])) (a.1, [])
      (one.1, a.2 ++ [one.2])) (s, [])
    (r.1, some r.2)
  else (s, none)

/-- STREAM_PACKET_SEND (R379, R385): a packet whose last sample has left is sent, or withheld and kept in STANDBY. -/
def execStreamPacketSend (t : BitVec 7) (j : Nat) (s : State) : Out :=
  s.event Reg.STR_CTL fun s =>
    let t := t.toNat
    let w := s.txW t 0
    if !s.strOn w then s
    else
      match s.packetSamples t j with
      | (_, none) => s
      | (s1, some smp) =>
        if s1.pmode = 9 then
          let b := s1.txBuf t
          (s1.setTxBuf t { b with kept := (b.kept.filter fun q => decide (s1.now ≤ q.2.1 + s1.backlogUs * 1000)) ++ [(j, s1.now, smp)] }).macCnt
            (bitOf w 30).toNat 49 1
        else if s1.twin.silent then s1
        else s1.packetOut t j (s1.twinRows t j smp)

/-! ## A received frame (R366, R367) -/

/-- Where a frame that R366 does not drop goes. -/
inductive FrameTo where
  | stream (t : Nat)
  | twin
  | pause
  | filtered
  | ring (q : Nat)
deriving DecidableEq, Repr

/-- The class of a frame (R367). -/
def State.frameTo (s : State) (p : Nat) (f : List Byte) (x : Parsed) : FrameTo :=
  match s.strMatch p f x with
  | some t => .stream t
  | none =>
    if x.ety = 0x88B5 ∧ s.hbDest = some (f.take 6) then .twin
    else if x.ety = 0x8808 ∧ beAt f x.l3 2 = 1 then .pause
    else if !s.macFilter p (f.take 6) then .filtered
    else if s.svcFrame p f x then .ring 3 else .ring 1

/-- A received frame but for what the twin engine does with one of its own: the second result is what follows that one's header. One
with a bad FCS that is kept goes where a good one does; a truncated one is for rings alone (R366). A frame that meets an
uncorrectable word of the buffers is dropped (R37). -/
def State.macReceive (s : State) (p : Nat) (frame : List Byte) (sfd : Nat) : State × Option (List Byte) :=
  let n := frame.length
  let max := s.fldR (Reg.MAC_MAXLEN p) 0 14
  if !s.bitR (Reg.MAC_CTL p) 0 || !s.linkOn p then (s, none) else
  let s := s.macCnt p 31 n
  if n < 64 then (s.macCnt p 6 1, none)
  else
    let trunc := decide (max < n)
    let f := if trunc then frame.take max else frame.take (n - 4)
    let fcs := trunc || decide (crc32 (frame.take (n - 4)) = leNat (frame.drop (n - 4)))
    let x := parseFrame f
    let s := s.setMacP p { s.macP p with rxId := (s.macP p).rxId + 1 }
    let s := if trunc then s.macCnt p 7 1
      else
        let s := (((s.macCnt p 0 1).macCnt p 1 n).macCnt p (2 + castOf f) 1).macCnt p (8 + sizeBin n) 1
        let s := s.when x.tag.isSome fun s => s.macCnt p 15 1
        s.setMacP p { s.macP p with winOk := (s.macP p).winOk + 1 }
    let s := if fcs then s else (s.macCnt p 5 1).setMacP p { (s.macCnt p 5 1).macP p with winErr := (s.macP p).winErr + 1 }
    if !fcs && !s.bitR (Reg.MAC_CTL p) 4 then (s, none)
    else if s.arrayBad 8 then (s.arraySweep 8, none)
    else
      let s := s.when (decide (x.l4ok = some false)) fun s => s.macCnt p 24 1
      let s := s.when (!x.ipOk) fun s => s.macCnt p 25 1
      let ev := eventFrame f x
      let ts := if ev then s.tsPush p false sfd (s.macP p).rxId else (s, false)
      let s := ts.1
      match s.frameTo p f x with
      | .stream t => (if trunc then s else s.strPacket p t f x, none)
      | .twin => if trunc then (s, none) else (s.macCnt p 28 1, some (f.drop x.l3))
      | .pause => (s.macCnt p 16 1, none)
      | .filtered => (s.macCnt p 17 1, none)
      | .ring q => (s.ringTake p q f x trunc (!fcs) (ev && ts.2) (ev && !ts.2), none)

end Sys2Proof.Machine
end

