-- ==== Sys2Proof/Machine/Bvl.lean ====
section
/-!
DEFINITION. The Bievo fabric (R411 to R432): links with their retry, port states, beacons and routes, identity,
forwarding, objects, channels, probes, and the requesting side of remote access.
-/
namespace Sys2Proof.Machine

/-! ## Flits (R411, R412) -/

/-- A flit's KIND. -/
def flitKind (f : List Byte) : Nat := byteAt f 0 % 16

/-- A flit's traffic class. -/
def flitTc (f : List Byte) : Nat := byteAt f 0 / 16 % 4

/-- The SRC entry `2 × node + seat` of a flit. -/
def flitSrc (f : List Byte) : Nat := 2 * (byteAt f 2 % 64) + (byteAt f 2 / 64 % 2)

/-- The DST entry of a flit. -/
def flitDst (f : List Byte) : Nat := 2 * (byteAt f 1 % 64) + (byteAt f 1 / 64 % 2)

/-- A broadcast flit. -/
def flitBcast (f : List Byte) : Bool := (byteAt f 1).testBit 7

/-- The payload of a flit. -/
def flitPay (f : List Byte) : List Byte := (f.drop 8).take (min 64 (byteAt f 5 % 128))

/-- The first 72 bytes of a flit of one message, but for SEQ, ACK and NAK: DST as its byte. -/
def mkFlit (kind tc dst src ttl xtra : Nat) (pay : List Byte) : List Byte :=
  [b8 (kind + 16 * tc), b8 dst, b8 (src % 128), 0, 0, b8 (128 + pay.length), b8 ttl, b8 xtra] ++ padTo 64 pay

/-! ## Ports and identity (R414, R416) -/

/-- A port. -/
def State.bvlP (s : State) (p : Nat) : BvlPort := nth s.bvl.ports p {}

/-- Put a port. -/
def State.setBvlP (s : State) (p : Nat) (x : BvlPort) : State :=
  { s with bvl := { s.bvl with ports := putNth s.bvl.ports p x } }

/-- STATE of a port: 0 DOWN, 1 TRAIN, 2 HELLO, 3 UP, 4 ISOLATE. -/
def State.portState (s : State) (p : Nat) : Nat := s.fldR (Reg.PORT_STAT p) 0 3

/-- A port is enabled: its own EN and the fabric's. -/
def State.portEn (s : State) (p : Nat) : Bool := s.bitR Reg.BVL_CTL 0 && s.bitR (Reg.PORT_CTL p) 0

/-- The ports that are UP. -/
def State.portsUp (s : State) : List Nat := (List.range 6).filter fun p => decide (s.portState p = 3)

/-- The peer of a port, node and seat as R431 gives them. -/
def State.peerByte (s : State) (p : Nat) : Byte :=
  b8 (s.fldR (Reg.PORT_STAT p) 8 6 + 64 * s.fldR (Reg.PORT_STAT p) 14 1)

/-- The own entry `2 × node + seat`, while the node is VALID. -/
def State.ownEntry (s : State) : Option Nat :=
  if s.bitR Reg.BVL_NODE 7 then some (2 * s.fldR Reg.BVL_NODE 0 6 + s.strap.seat.toNat) else none

/-- The SRC byte of this device. -/
def State.ownByte (s : State) : Nat := s.fldR Reg.BVL_NODE 0 6 + 64 * s.strap.seat.toNat

/-- The device may send and forward traffic: VALID and without CONFLICT (R416, R417). -/
def State.mayTalk (s : State) : Bool := s.bitR Reg.BVL_NODE 7 && !s.bitR Reg.BVL_NODE 8

/-- The unit is duty or unpaired. -/
def State.dutyOrLone (s : State) : Bool := (s.active 0xE).isNone || s.bitR Reg.TWN_STATUS 1

/-- A record of R432, code 0x40. -/
def State.bvlNote (s : State) (kind port v : Nat) (peer : Byte) : State :=
  s.note 0x0E 0x40 ([b8 kind, b8 port, b8 v, peer] ++ s.blkBytes)

/-- A bit of BVL_EVT whose first setting is recorded (R432, code 0x41). -/
def State.bvlEvt (s : State) (bit kind ix : Nat) : State :=
  s.evtFirst Reg.BVL_EVT bit 0x0E 0x41 ([b8 kind] ++ leBytes 2 ix ++ [0] ++ s.blkBytes)

/-- STATE changes without a detector: recorded (R432). -/
def State.portTo (s : State) (p st : Nat) : State :=
  if s.portState p = st then s
  else let s1 := s.setFld (Reg.PORT_STAT p) 0 3 st
       s1.bvlNote 1 p st (s1.peerByte p)

/-! ## Transmission (R413, R421) -/

/-- A flit leaves on a lane with its SEQ, ACK, NAK and CRC; NAK stands in one header only (R413). -/
def State.flitOut (s : State) (p seq : Nat) (f : List Byte) : State :=
  let x := s.bvlP p
  let h := patch (f.take 72) 0 [b8 (byteAt f 0 % 64 + 64 * x.nak.toNat)]
  let g := patch h 3 [b8 seq, b8 x.seqRx]
  (s.emit .flit p (g ++ leBytes 4 (crc32 g))).setBvlP p { x with nak := false }

/-- An IDLE flit carries ACK and NAK. -/
def State.idleOut (s : State) (p : Nat) : State := s.flitOut p (s.bvlP p).seqTx (mkFlit 0 1 0 s.ownByte 0 0 [])

/-- The class that takes the next slot (R421), if a flit waits. -/
def BvlPort.pick (x : BvlPort) : Option Nat :=
  if !x.qa.isEmpty && decide ((x.hist.filter id).length < 32) then some 0
  else if !x.qc.isEmpty then some 1
  else if !x.qb.isEmpty then some 2
  else if !x.qa.isEmpty then some 0 else none

/-- One waiting flit of a class goes out, while the window of 32 has room. -/
def State.sendOne (s : State) (p : Nat) : State :=
  let x := s.bvlP p
  if 32 ≤ x.unacked.length ∨ s.portState p ≠ 3 then s
  else
    match x.pick with
    | none => s
    | some c =>
      let f := ((if c = 0 then x.qa else if c = 1 then x.qc else x.qb).head?).getD []
      let y := { x with
        qa := if c = 0 then x.qa.drop 1 else x.qa, qc := if c = 1 then x.qc.drop 1 else x.qc
        qb := if c = 2 then x.qb.drop 1 else x.qb, seqTx := (x.seqTx + 1) % 256
        unacked := x.unacked ++ [patch f 3 [b8 x.seqTx]], hist := (decide (c = 0) :: x.hist).take 64, nak := false }
      (s.flitOut p x.seqTx f).setBvlP p y

/-- Waiting flits go out while the window has room. -/
def State.sendAll (s : State) (p : Nat) : State := s.each (List.range 32) fun s _ => s.sendOne p

/-- A flit joins a port's queue of its class and goes out when its turn comes. -/
def State.bvlQueue (s : State) (p : Nat) (f : List Byte) : State :=
  let x := s.bvlP p
  (s.setBvlP p (match flitTc f with
    | 0 => { x with qa := x.qa ++ [f] }
    | 1 => { x with qc := x.qc ++ [f] }
    | _ => { x with qb := x.qb ++ [f] })).sendAll p

/-- A resend round: every unacknowledged flit from the oldest goes out again (R413). -/
def State.resend (s : State) (p : Nat) : State :=
  let x := s.bvlP p
  ((s.setBvlP p { x with rounds := x.rounds + 1 }).count (Reg.PORT_RETRY p) 1).each x.unacked fun s f => s.flitOut p (byteAt f 3) f

/-! ## Routes (R418, R419, R423) -/

/-- Hops to an entry over a port: one more than the count received, unreachable above 8. -/
def State.hopsVia (s : State) (e p : Nat) : Nat :=
  let h := nth (s.bvlP p).vec e 15
  if h ≤ 7 then h + 1 else 15

/-- The best route to an entry: hops and port; the own entry is at 0 hops. -/
def State.bestRoute (s : State) (e : Nat) : Nat × Nat :=
  if s.ownEntry = some e then (if s.bitR Reg.BVL_NODE 8 then (15, 7) else (0, 7))
  else
    s.portsUp.foldl (fun (b : Nat × Nat) p => if s.hopsVia e p < b.1 then (s.hopsVia e p, p) else b) (15, 7)

/-- The route port to an entry, from the table. -/
def State.routePort (s : State) (e : Nat) : Option Nat :=
  let p := s.fldR (Reg.BVL_ROUTE (e / 2)) (8 * (e % 2)) 3
  if p < 6 then some p else none

/-- Hops to an entry, from the table. -/
def State.routeHops (s : State) (e : Nat) : Nat := s.fldR (Reg.BVL_ROUTE (e / 2)) (8 * (e % 2) + 4) 4

/-- Whether the peer at an entry reports DUTY. -/
def State.peerDuty (s : State) (e : Nat) : Bool :=
  s.portsUp.any fun p => (s.bvlP p).duty && decide (2 * s.fldR (Reg.PORT_STAT p) 8 6 + s.fldR (Reg.PORT_STAT p) 14 1 = e)

/-- The time parent's port (R423): the first hop to the lowest pair of TIME_PRIO below 15 and identity; none where this
device is the root or no candidate is known. -/
def State.timeParent (s : State) : Option Nat :=
  let own := match s.ownEntry with
    | some e => if s.fldR Reg.BVL_CTL 12 4 < 15 then [(s.fldR Reg.BVL_CTL 12 4 * 128 + e, none)] else []
    | none => []
  let peers := s.portsUp.filterMap fun p =>
    if (s.bvlP p).prio < 15 then
      let e := 2 * s.fldR (Reg.PORT_STAT p) 8 6 + s.fldR (Reg.PORT_STAT p) 14 1
      some ((s.bvlP p).prio * 128 + e, s.routePort e)
    else none
  ((own ++ peers).foldl (fun (b : Option (Nat × Option Nat)) c =>
    match b with
    | some x => if c.1 < x.1 then some c else b
    | none => some c) none).bind (·.2)

/-- A change of time parent is a path-delay step where the fabric is the servo's source (R402, R423). -/
def State.parentSync (s : State) : State :=
  let t := s.timeParent
  if t = s.bvl.parent then s
  else
    let s1 := { s with bvl := { s.bvl with parent := t } }
    if s1.bitR Reg.TIM_SERVO_STAT 31 && decide (s1.fldR Reg.TIM_SERVO_STAT 4 3 = 4) then
      if s1.servo = 1 ∨ s1.servo = 2 then ((s1.servoHold 8).evt Reg.TIM_EVT 4).timNote 3 0
      else if s1.servo = 3 ∧ 0 < s1.fldR Reg.TIM_SERVO_STAT 8 4 then ((s1.setFld Reg.TIM_SERVO_STAT 8 4 8).evt Reg.TIM_EVT 4).timNote 3 0
      else s1
    else s1

/-- The own vector as it is advertised on port `p`: entries whose route uses that port are unreachable (R418). -/
def State.vectorFor (s : State) (p : Nat) : List Byte :=
  let e (i : Nat) : Nat :=
    let r := s.bestRoute i
    if r.2 = p then 15 else r.1
  (List.range 64).map fun i => b8 (e (2 * i) + 16 * e (2 * i + 1))

/-- A beacon goes out on a port (R418): with a SEQ while it is UP, directly in HELLO and ISOLATE. -/
def State.beaconOut (s : State) (p : Nat) : State :=
  let xtra := s.dutyOrLone.toNat + 2 * (decide (s.fldR Reg.BVL_CTL 1 2 = 2)).toNat + 16 * s.fldR Reg.BVL_CTL 12 4
  let f := mkFlit 1 1 0 s.ownByte 0 xtra (s.vectorFor p)
  if s.portState p = 3 then s.bvlQueue p f
  else if s.portState p = 2 ∨ s.portState p = 4 then s.flitOut p 0 f else s

/-- The routing table follows the vectors; a change is counted, and each UP port sends a beacon (R418, R419). -/
def State.routes (s : State) : State :=
  let word (d : Nat) : Word :=
    let a := s.bestRoute (2 * d)
    let b := s.bestRoute (2 * d + 1)
    w32 (a.2 + 16 * a.1 + 256 * b.2 + 4096 * b.1 + 65536 * (s.peerDuty (2 * d)).toNat + 131072 * (s.peerDuty (2 * d + 1)).toNat)
  let chg := (List.range 64).filter fun d => decide (fld (word d) 0 16 ≠ s.fldR (Reg.BVL_ROUTE d) 0 16)
  let s1 := s.each (List.range 64) fun s d => s.setReg (Reg.BVL_ROUTE d) (word d)
  let s2 := match chg with
    | [] => s1
    | d :: _ => ((s1.count Reg.BVL_ROUTE_CHG chg.length).bvlEvt 2 1 d).each s1.portsUp fun s p => s.beaconOut p
  s2.parentSync

/-! ## Forwarding (R420) -/

/-- A flit from this device, or one that held up a broken link, goes toward its destination. -/
def State.bvlSend (s : State) (f : List Byte) : State :=
  if !s.mayTalk then s
  else if flitBcast f then s.each s.portsUp fun s p => s.bvlQueue p f
  else match s.routePort (flitDst f) with
    | some p => s.bvlQueue p f
    | none => s

/-- The flits of a job of class 6 (R219). -/
def State.flitJob (s : State) (code blk : Nat) (fs : List (List Byte)) : State :=
  s.release 6 code blk (.flits fs) fun s => s.each fs State.bvlSend

/-- A flit that arrived on port `p` is forwarded and delivered (R420). -/
def State.flitIn (s : State) (p : Nat) (f : List Byte) : State :=
  let here := s.ownEntry = some (flitDst f) ∧ flitBcast f = false
  let s1 := if here ∨ flitBcast f then { s with bvl := { s.bvl with inbox := s.bvl.inbox ++ [⟨p, f⟩] } } else s
  if here ∨ !s1.mayTalk then s1
  else
    let g := patch f 6 [b8 (byteAt f 6 % 16 + 1)]
    let outs := if flitBcast f then
        (if s1.routePort (flitSrc f) = some p then s1.portsUp.filter fun q => decide (q ≠ p) else [])
      else (match s1.routePort (flitDst f) with
        | some q => [q]
        | none => [])
    if outs.isEmpty then s1
    else if 8 < byteAt f 6 % 16 + 1 then s1.count Reg.BVL_TTL_DROP 1
    else s1.each outs fun s q => s.bvlQueue q g

/-- A port goes DOWN: routes are recomputed, and the flits it held go out again (R414, R420). -/
def State.portDown (s : State) (p : Nat) : State :=
  let x := s.bvlP p
  let s1 := (s.setFld (Reg.PORT_STAT p) 0 3 0).setBvlP p { tsq := x.tsq, wait := x.wait }
  let s2 := { s1 with bvl := { s1.bvl with inbox := s1.bvl.inbox.filter fun e => decide (e.port ≠ p) || decide (flitKind e.flit ≠ 1) } }
  if s.portState p = 3 then s2.routes.each ((x.unacked ++ x.qc ++ x.qa ++ x.qb).filter fun f => decide (1 < flitKind f)) State.bvlSend
  else s2.routes

/-- An UP port fails: detector 0x15, then DOWN (R414, R431). -/
def State.portFail (s : State) (p cause : Nat) : State :=
  if s.portState p = 3 then
    (((s.count (Reg.PORT_DOWN p) 1).evt Reg.BVL_EVT 0).raiseDet 0x15 0x0E
      ([b8 p, b8 cause, s.peerByte p, b8 (s.portState p)] ++ s.blkBytes)).portDown p
  else s

/-- 16 rounds without an acknowledgement exhaust the retry (R413, R414). -/
def State.retryCheck (s : State) (p : Nat) : State :=
  if 16 ≤ (s.bvlP p).rounds then
    ((s.evt Reg.BVL_EVT 1).raiseDet 0x14 0x0E ([b8 p, 3, s.peerByte p, b8 (s.portState p)] ++ s.blkBytes)).portFail p 3
  else s

/-- RETRY_TIMEOUT (R413): ACK has not advanced for 2 µs while flits are outstanding. -/
def execRetryTimeout (p : BitVec 3) (s : State) : Out :=
  s.event (Reg.PORT_CTL p.toNat) fun s =>
    if s.portState p.toNat = 3 ∧ (s.bvlP p.toNat).unacked ≠ [] then (s.resend p.toNat).retryCheck p.toNat else s

/-- The acknowledgement of an accepted header: flits below ACK are done, and NAK asks for a round (R413). -/
def State.ackIn (s : State) (p ack : Nat) (nak : Bool) : State :=
  let x := s.bvlP p
  let done := x.unacked.findIdx? fun f => decide (byteAt f 3 = ack)
  let k := match done with
    | some i => i
    | none => if ack = x.seqTx then x.unacked.length else 0
  let s1 := s.setBvlP p { x with unacked := x.unacked.drop k, rounds := if 0 < k then 0 else x.rounds }
  let s2 := if nak && decide ((s1.bvlP p).unacked ≠ []) then (s1.resend p).retryCheck p else s1
  s2.sendAll p

/-- FLIT_RECEIVE (R413): a flit in sequence with a good CRC is taken; another is discarded with a NAK. -/
def execFlitReceive (p : BitVec 3) (flit : List Byte) (s : State) : Out :=
  s.event (Reg.PORT_CTL p.toNat) fun s =>
    let p := p.toNat
    let st := s.portState p
    if p ≥ 6 ∨ st < 2 then s
    else if s.arrayBad 11 then
      let t := s.arraySweep 11
      if st = 3 then (t.setBvlP p { t.bvlP p with nak := true }).idleOut p else t
    else
      let x := s.bvlP p
      let good := decide (flit.length = 76) && decide (crc32 (flit.take 72) = leNat (flit.drop 72))
      let k := flitKind flit
      if !good then
        let s1 := s.count (Reg.PORT_CRC p) 1
        if st = 3 then (s1.setBvlP p { x with nak := true }).idleOut p else s1
      else if st ≠ 3 then
        (if k = 1 then { s with bvl := { s.bvl with inbox := s.bvl.inbox ++ [⟨p, flit⟩] } } else s)
      else if k = 0 then s.ackIn p (byteAt flit 4) ((byteAt flit 0).testBit 6)
      else if byteAt flit 3 ≠ x.seqRx then (s.setBvlP p { x with nak := true }).idleOut p
      else
        let s1 := s.setBvlP p { x with nak := false, seqRx := (x.seqRx + 1) % 256 }
        let s2 := (s1.ackIn p (byteAt flit 4) ((byteAt flit 0).testBit 6)).idleOut p
        if k = 1 then { s2 with bvl := { s2.bvl with inbox := s2.bvl.inbox ++ [⟨p, flit⟩] } }
        else if 2 ≤ k ∧ k ≤ 7 then s2.flitIn p flit else s2

/-- The oldest flit of a kind taken in on a port leaves the inbox. -/
def State.takeFlit (s : State) (p kind : Nat) : Option (State × List Byte) :=
  match s.bvl.inbox.findIdx? fun e => decide (e.port = p) && decide (flitKind e.flit = kind) with
  | none => none
  | some i =>
    some ({ s with bvl := { s.bvl with inbox := s.bvl.inbox.take i ++ s.bvl.inbox.drop (i + 1) } },
      (nth s.bvl.inbox i ⟨0, []⟩).flit)

/-! ## Port states (R414) -/

/-- PORT_SIGNAL_DETECT: an enabled port that is DOWN and waits for nothing enters TRAIN. -/
def execPortSignalDetect (p : BitVec 3) (s : State) : Out :=
  s.event (Reg.PORT_CTL p.toNat) fun s =>
    if s.portEn p.toNat && decide (s.portState p.toNat = 0) && !(s.bvlP p.toNat).wait then s.portTo p.toNat 1 else s

/-- PORT_NEW_ATTEMPT: 10 ms after a fall from TRAIN or HELLO, with a signal present. -/
def execPortNewAttempt (p : BitVec 3) (s : State) : Out :=
  s.event (Reg.PORT_CTL p.toNat) fun s =>
    if s.portEn p.toNat && decide (s.portState p.toNat = 0) && (s.bvlP p.toNat).wait then
      (s.setBvlP p.toNat { s.bvlP p.toNat with wait := false }).portTo p.toNat 1
    else s

/-- BLOCK_LOCK_HELD: TRAIN ends in HELLO, and beacons go out. -/
def execBlockLockHeld (p : BitVec 3) (s : State) : Out :=
  s.event (Reg.PORT_CTL p.toNat) fun s =>
    if s.portState p.toNat = 1 then ((s.setBvlP p.toNat { s.bvlP p.toNat with good := 0 }).portTo p.toNat 2).beaconOut p.toNat else s

/-- PORT_TRAIN_TIMEOUT: 10 ms in TRAIN and HELLO without reaching UP. -/
def execPortTrainTimeout (p : BitVec 3) (s : State) : Out :=
  s.event (Reg.PORT_CTL p.toNat) fun s =>
    let p := p.toNat
    if s.portState p = 1 ∨ s.portState p = 2 then (s.setBvlP p { s.bvlP p with wait := true }).portTo p 0 else s

/-- LOCK_LOST: block lock lost for 1 µs while UP. -/
def execLockLost (p : BitVec 3) (s : State) : Out := s.event (Reg.PORT_CTL p.toNat) fun s => s.portFail p.toNat 1

/-- BEACON_TIMEOUT: three beacon intervals without a beacon while UP. -/
def execBeaconTimeout (p : BitVec 3) (s : State) : Out := s.event (Reg.PORT_CTL p.toNat) fun s => s.portFail p.toNat 2

/-- BEACON_SEND (R418). -/
def execBeaconSend (p : BitVec 3) (s : State) : Out :=
  s.event (Reg.PORT_CTL p.toNat) fun s => if s.portEn p.toNat then s.beaconOut p.toNat else s

/-- The device is in conflict: it drops a discovered node, or sets CONFLICT (R417). -/
def State.conflict (s : State) (p : Nat) : State :=
  let own := s.ownByte
  if s.fldR Reg.BVL_CTL 1 2 = 2 then
    let s1 := (((s.setFld Reg.BVL_NODE 0 6 0).setBit Reg.BVL_NODE 7 false).evt Reg.BVL_EVT 3).bvlNote 2 p own (s.peerByte p)
    { s1 with bvl := { s1.bvl with found := false, backoff := true } }
  else if s.bitR Reg.BVL_NODE 8 then s
  else ((s.setBit Reg.BVL_NODE 8 true).evt Reg.BVL_EVT 3).bvlNote 2 p own (s.peerByte p)

/-- BEACON_RECEIVE (R414, R417, R419): the oldest beacon taken in on a port. -/
def execBeaconReceive (p : BitVec 3) (s : State) : Out :=
  s.event (Reg.PORT_CTL p.toNat) fun s =>
    let p := p.toNat
    match s.takeFlit p 1 with
    | none => s
    | some (s, f) =>
      let st := s.portState p
      let was := (s.fldR (Reg.PORT_STAT p) 8 6, s.fldR (Reg.PORT_STAT p) 14 1)
      let now := (flitSrc f / 2, flitSrc f % 2)
      let pay := (f.drop 8).take 64
      let vec := (List.range 128).map fun e => byteAt pay (e / 2) / (if e % 2 = 0 then 1 else 16) % 16
      let x := s.bvlP p
      let s1 := ((s.setFld (Reg.PORT_STAT p) 8 6 now.1).setFld (Reg.PORT_STAT p) 14 1 now.2).setBvlP p
        { x with vec := vec, duty := (byteAt f 7).testBit 0, prio := byteAt f 7 / 16, good := x.good + 1 }
      let s2 := if st = 2 then
          (if s.ownEntry = some (flitSrc f) then s1.portTo p 4
          else if 3 ≤ x.good + 1 then
            (s1.setBvlP p { s1.bvlP p with seqTx := 0, seqRx := 0, nak := false, unacked := [], rounds := 0, hist := [] }).portTo p 3
          else s1)
        else if st = 4 ∧ was ≠ now then s1.portTo p 0 else s1
      let hit : Bool := match s2.ownEntry with
        | some e => decide (nth vec e 15 ≤ 8)
        | none => false
      let s3 := if hit then s2.conflict p else s2
      if s3.portState p = 3 ∨ s3.reg Reg.BVL_NODE ≠ s.reg Reg.BVL_NODE then s3.routes else s3

/-! ## Identity (R416, R417) -/

/-- Whether the node was discovered. -/
def State.setFound (s : State) (b : Bool) : State := { s with bvl := { s.bvl with found := b } }

/-- The node of ID_SRC 0 and 1, and the enables: each port that is no longer enabled goes DOWN. A node that was not discovered is not
known with ID_SRC 2. -/
def State.bvlSync (s : State) : State :=
  let src := if s.bitR Reg.CFG_STATUS 3 then s.fldR Reg.BVL_CTL 1 2 else 0
  let s1 := s.setBit Reg.BVL_NODE 6 s.strap.seat
  let s2 := if !s1.bitR Reg.BVL_CTL 0 then (s1.setReg Reg.BVL_NODE (w32 (64 * s.strap.seat.toNat))).setFound false
    else if src = 2 then (if s1.bvl.found then s1 else (s1.setFld Reg.BVL_NODE 0 6 0).setBit Reg.BVL_NODE 7 false)
    else ((s1.setFld Reg.BVL_NODE 0 6 (if src = 1 then s.fldR Reg.BVL_CTL 16 6 else s.strap.node)).setBit Reg.BVL_NODE 7 true).setFound false
  let s3 := s2.each (List.range 6) fun s p =>
    if s.portEn p || decide (s.portState p = 0) then s
    else (s.portDown p).bvlNote 1 p 0 (s.peerByte p)
  if s3.reg Reg.BVL_NODE = s.reg Reg.BVL_NODE then s3 else s3.routes

/-- The lowest node that no received beacon shows reachable. -/
def State.freeNode (s : State) : Option Nat :=
  findIx 64 fun d => !(s.portsUp.any fun p => decide (nth (s.bvlP p).vec (2 * d) 15 ≤ 8) || decide (nth (s.bvlP p).vec (2 * d + 1) 15 ≤ 8))

/-- A discovering device without a node takes the lowest free one. -/
def State.discover (s : State) : State :=
  if s.bitR Reg.BVL_CTL 0 && decide (s.fldR Reg.BVL_CTL 1 2 = 2) && s.bitR Reg.CFG_STATUS 3 && !s.bitR Reg.BVL_NODE 7 &&
      !s.portsUp.isEmpty then
    match s.freeNode with
    | some d => (((s.setFld Reg.BVL_NODE 0 6 d).setBit Reg.BVL_NODE 7 true).setFound true).routes
    | none => s
  else s

/-- NODE_DISCOVERY (R416): the first port has been UP for 1 ms; after a conflict the node is taken at the end of the wait of R417. -/
def execNodeDiscovery (s : State) : Out := s.event Reg.BVL_CTL fun s => if s.bvl.backoff then s else s.discover

/-- CONFLICT_BACKOFF (R417): 1 ms + BVL_UID_LO[7:0] × 10 µs after the node was dropped. -/
def execConflictBackoff (s : State) : Out :=
  s.event Reg.BVL_CTL fun s => if s.bvl.backoff then ({ s with bvl := { s.bvl with backoff := false } } : State).discover else s

/-- CONFLICT_CLEAR (R417). -/
def execConflictClear (s : State) : Out :=
  s.event Reg.BVL_CTL fun s => if s.bitR Reg.BVL_NODE 8 then (s.setBit Reg.BVL_NODE 8 false).routes else s

/-! ## Measurements and probes (R415, R423) -/

/-- LATENCY_MEASURE (R415). -/
def execLatencyMeasure (p : BitVec 3) (tx rx : BitVec 16) (dly : Word) (s : State) : Out :=
  s.event (Reg.PORT_CTL p.toNat) fun s =>
    if s.portState p.toNat = 3 then
      (s.setReg (Reg.PORT_LAT p.toNat) (w32 (tx.toNat + 65536 * rx.toNat))).setReg (Reg.PORT_DLY p.toNat) dly
    else s

/-- A probe's timestamp joins the queue of its port, or is lost to a full one. -/
def State.probeTs (s : State) (p : Nat) (dep : Bool) (t id : Nat) : State :=
  let x := s.bvlP p
  if x.tsq.length < 64 then
    s.setBvlP p { x with tsq := x.tsq ++ [{ ns := t % 2 ^ 32, tag := t / 2 ^ 32, id := id, dep := dep }] }
  else s.count Reg.BVL_TS_OVF 1

/-- PROBE (R423): a probe goes out with free contents, or the oldest one taken in on a port is timestamped. -/
def execProbe (p : BitVec 3) (dep : Bool) (t : BitVec 36) (id : BitVec 16) (s : State) : Out :=
  s.event (Reg.PORT_CTL p.toNat) fun s =>
    let p := p.toNat
    if s.portState p ≠ 3 ∨ s.mayTalk = false then s
    else if dep then
      let f := mkFlit 6 1 (byteAt [s.peerByte p] 0) s.ownByte 0 0 ((List.range 64).map fun i => b8 (s.freeNat / 256 ^ i))
      (s.draw.bvlQueue p f).probeTs p true t.toNat id.toNat
    else
      match s.takeFlit p 6 with
      | some (s1, _) => s1.probeTs p false t.toNat id.toNat
      | none => s

/-- A read of PORT_TSQ_LO. -/
def State.portTsRead (s : State) (p : Nat) : State × Word :=
  let x := s.bvlP p
  match x.tsq with
  | [] => (s.setReg (Reg.PORT_TSQ_HI p) 0, 0)
  | e :: r => ((s.setBvlP p { x with tsq := r }).setReg (Reg.PORT_TSQ_HI p)
      (w32 (2 ^ 31 + e.dep.toNat * 2 ^ 30 + e.tag * 2 ^ 16 + e.id)), w32 e.ns)

/-- PORT_TSQ_READ (R423). -/
def execPortTsqRead (ini : Initiator) (p : BitVec 3) (s : State) : Out :=
  s.readRow ini (Reg.PORT_CTL p.toNat) fun s => s.portTsRead p.toNat

/-! ## Objects (R422, R424, R425) -/

/-- The due instant of block `n` in whole nanoseconds (R22). -/
def State.dueNs (s : State) (n : Nat) : Nat := s.blk.t0 + n * s.blk.b * 1000000000 / s.blk.fr

/-- BTAG of block `n` (R422). -/
def State.btag (s : State) (n : Nat) : Nat := s.dueNs n / 1024 % 65536

/-- The local block of a BTAG, among n − 2 to n + 2 around the current one. -/
def State.btagBlock (s : State) (t : Nat) : Option Nat :=
  if s.running then ((List.range 5).map fun i => s.blk.n + i - 2).find? fun n => decide (s.btag n = t) && decide (s.blk.n ≤ n + 2) else none

/-- A subscriber. -/
def State.sub (s : State) (o : Nat) : SubSt := Store.get (fun _ => ({} : SubSt)) s.bvl.subs o

/-- Put a subscriber. -/
def State.setSub (s : State) (o : Nat) (x : SubSt) : State :=
  { s with bvl := { s.bvl with subs := Store.set (fun _ => ({} : SubSt)) s.bvl.subs o x } }

/-- A Q1.23 sample of three bytes as Q1.31. -/
def q31Of (bs : List Byte) : Int := sample24 bs * 256

/-- The objects that subscribe to object `ob` of node `nd`. -/
def State.subscribers (s : State) (nd ob : Nat) : List Nat :=
  (List.range s.mode.objects).filter fun o => let w := s.reg (Reg.BVL_SUB o); bitOf w 31 && decide (fld w 16 6 = nd) && decide (fld w 0 9 = ob)

/-- A subscriber takes a flit of block `n`: position, samples, and the near ring once the block is whole; a flit of a block that
counts as missing is discarded (R425). -/
def State.subTake (s : State) (o n i : Nat) (pay : List Byte) : State :=
  let x := s.sub o
  if x.missing.contains n then s
  else if x.done.contains n || x.parts.any (fun q => decide (q.1 = n) && decide (q.2.1 = i)) then s.count Reg.BVL_DUP 1
  else
    let smp := (List.range (min 16 ((pay.length - 16) / 3))).map fun k => q31Of (pay.drop (16 + 3 * k))
    let parts := (x.parts.filter fun q => decide (n < q.1 + 5)) ++ [(n, i, smp)]
    let need := ceilDiv s.blk.b 16
    let pos : Nat × (Word × Word × Word) := (o, (w32 (leAt pay 4 4), w32 (leAt pay 8 4), w32 (leAt pay 12 4)))
    let newest := (x.done ++ x.missing).all fun d => decide (d ≤ n)
    let s1 := if newest then { s with geo := { s.geo with fab := pos :: s.geo.fab.filter fun e => decide (e.1 ≠ o) } } else s
    if (List.range need).all fun j => parts.any fun q => decide (q.1 = n) && decide (q.2.1 = j) then
      let all := (List.range need).flatMap fun j => match parts.find? fun q => decide (q.1 = n) && decide (q.2.1 = j) with
        | some q => q.2.2
        | none => []
      let l := blockOf s.blk.b all
      let y := if x.gap then l.zipIdx.map fun p => mulSat32 p.1 (((p.2 + 1) * 2 ^ 22 / s.blk.b : Nat) : Int) 22 else l
      (s1.objWrite o n y).setSub o { parts := parts.filter fun q => decide (q.1 ≠ n), done := (n :: x.done).take 8
                                     missing := x.missing, last := l.getLast?.getD 0, gap := false }
    else s1.setSub o { x with parts := parts }

/-- OBJECT_FLIT (R425): the oldest OBJECT flit of a port reaches its subscribers; a STANDBY unit takes its near rings from
the twin record instead. -/
def execObjectFlit (p : BitVec 3) (s : State) : Out :=
  s.event (Reg.PORT_CTL p.toNat) fun s =>
    match s.takeFlit p.toNat 2 with
    | none => s
    | some (s, f) =>
      let pay := flitPay f
      match s.subscribers (flitSrc f / 2) (leAt pay 0 2 % 512) with
      | [] => s
      | os =>
        match s.btagBlock (leAt pay 2 2) with
        | none => (s.count Reg.BVL_MISALIGN 1).bvlEvt 6 4 0
        | some n => if s.pmode = 9 then s else s.each os fun s o => s.subTake o n (byteAt f 7) pay

/-- OBJECT_LATE (R425): at Sn+1 + Tb ÷ 2 block n of a subscribed object has not arrived; it ramps out, then is zero. -/
def execObjectLate (o : BitVec 9) (s : State) : Out :=
  s.event Reg.BVL_CTL fun s =>
    let o := o.toNat
    let x := s.sub o
    let n := s.blk.n - 1
    if !s.running || decide (s.blk.n = 0) || !s.subscribed o || x.done.contains n || x.missing.contains n || decide (s.pmode = 9) then s
    else
      let l := (List.range s.blk.b).map fun k =>
        if x.gap then 0 else mulSat32 x.last (((s.blk.b - 1 - k) * 2 ^ 22 / s.blk.b : Nat) : Int) 22
      (((s.objWrite o n l).setSub o { x with parts := x.parts.filter fun q => decide (q.1 ≠ n), missing := (n :: x.missing).take 8, gap := true }).count
        Reg.BVL_OBJ_LATE 1).bvlEvt 4 2 o

/-- The position bytes used for block `n` of an object, from its state entry or the one before it. -/
def State.posBytes (s : State) (o n : Nat) : List Byte :=
  let cur := s.sramBytes (objStAddr o) 32
  let old := Store.get (fun _ => ([] : List Byte)) s.geo.prev o
  (if leAt cur 22 6 = n ∨ leAt old 22 6 ≠ n then cur else old).take 12

/-- OBJECT_PUBLISH (R424): the OBJECT flits of one published object for the block in stage 2; STANDBY sends none. -/
def execObjectPublish (o : BitVec 9) (s : State) : Out :=
  s.event Reg.BVL_CTL fun s =>
    let o := o.toNat
    if !s.bitR (Reg.BVL_PUB (o / 32)) (o % 32) || !s.bitR Reg.BVL_CTL 0 || !s.running || decide (s.blk.n = 0) || decide (s.pmode = 9) || s.twin.silent then s
    else
      let n := s.blk.n - 1
      s.flitJob o n ((List.range (ceilDiv s.blk.b 16)).map fun i =>
        let k := min 16 (s.blk.b - 16 * i)
        let smp := (List.range k).flatMap fun j => leBytes 3 (toBits 24 (s.nearSample o ((n * s.blk.b + 16 * i + j : Nat) : Int)))
        mkFlit 2 0 0x80 s.ownByte 0 i (leBytes 2 o ++ leBytes 2 (s.btag n) ++ s.posBytes o n ++ smp))

/-! ## Channels (R426 to R428) -/

/-- A receive channel's buffer. -/
def State.fabRx (s : State) (c : Nat) : RxBuf := Store.get (fun _ => ({} : RxBuf)) s.bvl.rx c

/-- Put a receive channel's buffer. -/
def State.setFabRx (s : State) (c : Nat) (b : RxBuf) : State :=
  { s with bvl := { s.bvl with rx := Store.set (fun _ => ({} : RxBuf)) s.bvl.rx c b } }

/-- Samples of a CHANNEL flit enter a receive channel (R428): late ones and copies are counted; 10 ms without a flit of the highest
EPOCH let any EPOCH in (R384). -/
def State.chanTake (s : State) (c m i ep : Nat) (smp : List Int) : State :=
  let at_ (k : Nat) : Nat := m * s.blk.b + 16 * i + k
  let need := (match s.sch.cap with | some x => x + 1 | none => 0) * s.blk.b
  let b0 := s.fabRx c
  let b := if elapsed s.now b0.seen 10000000 then { b0 with fresh := true } else b0
  let dup := (List.range smp.length).filter fun k => b.held.any fun h => decide (h.1 = at_ k) && decide (h.2.1 = ep)
  let late := (List.range smp.length).filter fun k => decide (at_ k < need)
  let r := b.put (16 * s.blk.b) need (fun t => decide (t < s.blk.n * s.blk.b)) (some ep) (smp.zipIdx.map fun x => ((at_ x.2 : Nat), [x.1]))
  let s1 := (s.setFabRx c (if r.2.low then b0 else { r.1 with seen := s.now })).when (decide (0 < dup.length)) fun s => s.count Reg.BVL_DUP dup.length
  s1.when (!r.2.low && decide (0 < late.length)) fun s => (s.count Reg.BVL_CH_LATE late.length).bvlEvt 5 3 c

/-- CHANNEL_FLIT (R428): the oldest CHANNEL flit of a port reaches the channels that name it. -/
def execChannelFlit (p : BitVec 3) (s : State) : Out :=
  s.event (Reg.PORT_CTL p.toNat) fun s =>
    match s.takeFlit p.toNat 3 with
    | none => s
    | some (s, f) =>
      let pay := flitPay f
      let cs := (List.range 512).filter fun c => let w := s.reg (Reg.BVL_RXCH c)
        bitOf w 31 && decide (fld w 16 6 = flitSrc f / 2) && decide (fld w 0 9 = leAt pay 0 2 % 512)
      if cs.isEmpty then s
      else
        match s.btagBlock (leAt pay 2 2) with
        | none => (s.count Reg.BVL_MISALIGN 1).bvlEvt 6 4 0
        | some m => s.each cs fun s c => s.chanTake c m (byteAt f 7) (leAt pay 4 2)
            ((List.range (min 16 ((pay.length - 8) / 3))).map fun k => q31Of (pay.drop (8 + 3 * k)))

/-- Block `n` of a receive channel is captured, under BVL_HOLD_MAX. -/
def State.fabCapture (s : State) (c n : Nat) : State × List Int :=
  let r := (s.fabRx c).run 1 (s.fldR Reg.BVL_HOLD_MAX 0 16) s.blk.b (n * s.blk.b)
  (s.setFabRx c r.buf, r.smp.map fun l => nth l 0 0)

/-- The samples that a transmit channel takes of block `n`. -/
def State.chanBlock (s : State) (c n : Nat) : List Int := s.portBlock (4608 + c) (s.reg (Reg.BVL_TXCH c) &&& 0xBFFFFFFF) n

/-- The CHANNEL flits of transmit channel `c` for block `n`: to both reachable seats of a node, or broadcast (R427). -/
def State.chanFlits (s : State) (c n ep : Nat) (smp : List Int) : List (List Byte) :=
  let w := s.reg (Reg.BVL_TXCH c)
  let l := smp.zipIdx.map fun y => s.twinChan w (n * s.blk.b + y.2) y.1
  let dsts := if bitOf w 30 then [0x80] else
    ([0, 1].filter fun e => (s.routePort (2 * fld w 16 6 + e)).isSome).map fun e => fld w 16 6 + 64 * e
  dsts.flatMap fun d => (List.range (ceilDiv s.blk.b 16)).map fun i =>
    mkFlit 3 0 d s.ownByte 0 i (leBytes 2 c ++ leBytes 2 (s.btag (n + 3)) ++ leBytes 2 ep ++ [0, 0] ++
      ((l.drop (16 * i)).take 16).flatMap q23Bytes)

/-- Transmit channels in use. -/
def State.txChans (s : State) : List Nat :=
  (List.range 512).filter fun c => bitOf (s.reg (Reg.BVL_TXCH c)) 31 ||
    (match s.active 8 with
      | some g => (nodeBus g 4 (4608 + c)).isSome
      | none => false)

/-- Block `n` has left the port mapper: its CHANNEL flits go out, or are kept in STANDBY for BACKLOG_US (R307, R427). -/
def State.bvlTxBlock (s : State) (n : Nat) : State :=
  if !s.bitR Reg.BVL_CTL 0 then s
  else
    s.each s.txChans fun s c =>
      if s.pmode = 9 then
        { s with bvl := { s.bvl with kept := (s.bvl.kept.filter fun k => decide (s.now ≤ k.1 + s.backlogUs * 1000)) ++ [(s.now, c, n, s.chanBlock c n)] } }
      else if s.twin.silent then s
      else s.flitJob (0x1000 + c) n (s.chanFlits c n (s.fldR Reg.TWN_EPOCH 0 16) (s.chanBlock c n))

/-! ## Remote access: the requester (R429) -/

/-- A write of BVL_RRA_CMD with GO: the request goes out unless the slot is busy or no route leads there. -/
def State.rraGo (s : State) (k : Nat) (wr : Bool) (node seat : Nat) : State :=
  let st := Reg.BVL_RRA_STAT k
  if s.bitR st 31 then s
  else
    let n := (nth s.bvl.rraCnt k 0 + 1) % 64
    let tag := k + 4 * n
    let s1 := { s with bvl := { s.bvl with rraCnt := putNth s.bvl.rraCnt k n, rraWr := putNth s.bvl.rraWr k wr } }
    if (s1.routePort (2 * node + seat)).isNone || !s1.mayTalk then s1.setReg st (w32 (3 + 256 * tag))
    else
      (s1.setReg st (w32 (2 ^ 31 + 256 * tag))).bvlSend (mkFlit 4 1 (node + 64 * seat) s1.ownByte 0 0
        (leBytes 4 (s.reg (Reg.BVL_RRA_ADDR k)).toNat ++ leBytes 4 (s.reg (Reg.BVL_RRA_DATA k)).toNat ++ [b8 wr.toNat, b8 tag]))

/-- RRA_READ (R429). -/
def execRraRead (ini : Initiator) (k : BitVec 2) (node : BitVec 6) (seat : Bool) (s : State) : Out :=
  s.access ini (Reg.BVL_RRA_CMD k.toNat) fun s => s.rraGo k.toNat false node.toNat seat.toNat

/-- RRA_WRITE (R429). -/
def execRraWrite (ini : Initiator) (k : BitVec 2) (node : BitVec 6) (seat : Bool) (s : State) : Out :=
  s.access ini (Reg.BVL_RRA_CMD k.toNat) fun s => s.rraGo k.toNat true node.toNat seat.toNat

/-- RRA_RESPONSE (R429): the response of a busy slot's own TAG gives RESULT, and the data of a read. -/
def execRraResponse (p : BitVec 3) (s : State) : Out :=
  s.event (Reg.PORT_CTL p.toNat) fun s =>
    match s.takeFlit p.toNat 5 with
    | none => s
    | some (s, f) =>
      let pay := flitPay f
      let tag := byteAt pay 9
      let k := tag % 4
      let st := Reg.BVL_RRA_STAT k
      if s.bitR st 31 && decide (s.fldR st 8 8 = tag) then
        let s1 := s.setReg st (w32 (byteAt pay 8 % 16 + 256 * tag))
        if byteAt pay 8 % 16 = 0 ∧ nth s.bvl.rraWr k false = false then s1.setReg (Reg.BVL_RRA_DATA k) (w32 (leAt pay 4 4)) else s1
      else s

/-- RRA_TIMEOUT (R429): 100 µs without a response. -/
def execRraTimeout (k : BitVec 2) (s : State) : Out :=
  s.event (Reg.BVL_RRA_STAT k.toNat) fun s =>
    let st := Reg.BVL_RRA_STAT k.toNat
    if s.bitR st 31 then s.setReg st (w32 (1 + 256 * s.fldR st 8 8)) else s

end Sys2Proof.Machine
end

