-- ==== Sys2Proof/Machine/CfgLoad.lean ====
section
/-!
DEFINITION. The configuration image at work (R142 to R144, R238 to R260): loads, their outcome and failure, what each
section loads at a swap, the judgement of an armed swap, the periodic check, and the application key slots.
-/
namespace Sys2Proof.Machine

/-! ## Status (R260) -/

/-- SHADOW: 0 EMPTY, 1 WAIT_GO, 2 LOADING, 3 VALID, 4 INVALID. -/
def State.shadowSt (s : State) : Nat := s.fldR Reg.CFG_STATUS 0 3

/-- Put SHADOW. -/
def State.setShadow (s : State) (v : Nat) : State := s.setFld Reg.CFG_STATUS 0 3 v

/-- ACTIVE: the active set is VALID. -/
def State.activeOk (s : State) : Bool := s.bitR Reg.CFG_STATUS 3

/-- SWAP_ARMED. -/
def State.armed (s : State) : Bool := s.bitR Reg.CFG_STATUS 4

/-- An armed swap is no longer armed. -/
def State.disarm (s : State) : State :=
  { s with cfg := { s.cfg with force := false, cut := false, forced := false } }.setFld Reg.CFG_STATUS 4 2 0

/-- A record of R259. -/
def State.cfgNote (s : State) (kind m last : Nat) : State :=
  s.note 0x13 0x40 ([b8 kind] ++ leBytes 4 (s.reg Reg.CFG_SHADOW_ID).toNat ++ leBytes 6 m ++ [b8 last])

/-! ## The source and its check (R246 to R250) -/

/-- CFG_LOAD_CTL as data byte 3 of R258 gives it. -/
def State.srcByte (s : State) : Nat :=
  match s.cfg.loading with
  | some (0, e) => 16 * e
  | some (k, _) => k + 16 * s.fldR Reg.CFG_LOAD_CTL 4 2
  | none => s.fldR Reg.CFG_LOAD_CTL 0 2 + 16 * s.fldR Reg.CFG_LOAD_CTL 4 2

/-- The bytes of the load's source, the directory's TOTAL and the first byte that cannot be read (R248, R250). -/
def State.loadSource (s : State) : List Byte × Option Nat × Option Nat :=
  let total (rd : Nat → Nat → List Byte) (a : Nat) : Nat := min 67108864 (leAt (rd a 64) 8 4)
  match s.cfg.loading with
  | some (0, e) =>
    let d := dirEntry (s.bootBytes 0 64) e
    (s.bootBytes d.1 (total s.bootBytes d.1), some d.2.1, none)
  | some (1, a) => (s.bootBytes a (total s.bootBytes a), none, none)
  | some (_, a) =>
    let n := max 64 (total s.dramBytes a)
    (s.dramBytes a n, none, (((s.badIn a n).filter (·.double)).map fun b => b.unit * 64 - a).min?)
  | none => ([], none, none)

/-- Byte 0 of the store region that the active set uses, or of the other. -/
def State.regionBase (s : State) (other : Bool) : Nat := s.storeBase + 2 ^ 26 * (if other then 1 - s.cfg.region else s.cfg.region)

/-- The swap of an image's MODE to a running train, or to one that a forced switch of M_APP has stopped, is a restart (R255, R480). -/
def State.restartsTo (s : State) (mode : Nat) : Bool :=
  (s.running || s.blk.fb.isSome) && (decide (modeFr mode ≠ s.blk.fr) || decide (modeB mode ≠ s.blk.b))

/-- The checks of a section that read no other section (R250). -/
def State.ownBad (s : State) (hdr : Nat) (x : Section) : Option Nat :=
  match x.ty with
  | 1 => ownClock x.body
  | 2 => ownPins s.strap.bank x.body
  | 3 => ownMode hdr x.body
  | 4 => ownMem s.usable x.body
  | 5 => ownSpeakers x.body
  | 6 => ownRender x.body
  | 7 => ownCoef s.cfg.coefBad x.body
  | 8 => ownGraph (if s.restartsTo hdr || (s.running && decide (s.pmode = 9) && decide (s.syncOf = 0)) then none else s.active 8) x.body
  | 9 => ownMix x.body
  | 10 => ownSched x.body
  | 11 => ownPorts x.body
  | 12 => ownNet x.body
  | 13 => ownFabric x.body
  | 14 => ownTwin x.body
  | 15 => ownSense x.body
  | _ => ownMeters x.body

/-- The set that is active: one that a restart is bringing in, or the one that plays; none once the check of R256 has failed. It is
what a load inherits from (R239). -/
def State.inherits (s : State) : List Section :=
  if !s.activeOk then [] else if s.cfg.coming.isEmpty then s.cfg.active else s.cfg.coming

/-- The sections of the active store region that hold an uncorrectable DRAM word: type, and the offset of the word in the section. -/
def State.badSections (s : State) : List (Nat × Nat) :=
  let bad := (s.badIn (s.regionBase false) (2 ^ 26)).filter (·.double)
  (s.inherits.foldl (fun (a : Nat × List (Nat × Nat)) x =>
    let len := 32 + up16 x.body.length
    (a.1 + len, a.2 ++ ((bad.find? fun b => decide (b.unit * 64 < a.1 + len) && decide (a.1 < b.unit * 64 + 64)).map fun b =>
      (x.ty, b.unit * 64 - a.1)).toList)) (s.regionBase false, [])).2

/-- How an application image is checked. An uncorrectable word of an inherited section ends the load where it is copied from the
store, after the checks of the completed set. -/
def State.appChk (s : State) (dirTotal readErr : Option Nat) : ImgChk :=
  { kind := 1, slots := s.fuse.app, dirTotal := dirTotal, readErr := readErr, own := s.ownBad, post := fun secs =>
      let stop := secs.foldl (fun m x => max m (x.at_ + 32 + up16 x.sec.body.length)) 64
      (postCheck s.inherits secs).or
        ((s.badSections.find? fun b => !(secs.any fun x => decide (x.sec.ty = b.1))).map fun b => ⟨0xC, b.1, stop⟩) }

/-- The payload of the stream's COEF section as far as it can be read, where the loader reaches it: every section before it and its own
header pass their checks. `readErr` is the first byte of the stream that a read beyond the stored errors fails at. -/
def State.coefReached (s : State) (readErr : Option Nat) : Option (List Byte) :=
  let src := s.loadSource
  let err := src.2.2.or readErr
  let c : ImgChk := { s.appChk src.2.1 err with halt := 7 }
  let img := src.1
  match imgHeader c (img.take 64) with
  | some _ => none
  | none =>
    match imgSections c img (byteAt img 7) (leAt img 8 4) (leAt img 12 2) 18 64 0 [] with
    | .error e =>
      if e.code = 0x10 then
        let p := (img.drop (e.off + 32)).take (leAt img (e.off + 4) 4)
        some (match err with
          | some o => if e.off + 32 ≤ o then p.take (o - (e.off + 32)) else p
          | none => p)
      else none
    | .ok _ => none

/-! ## Coefficients during a load (R142) -/

/-- COEF_PEND. -/
def State.setCoefPend (s : State) (b : Bool) : State := s.setBit Reg.FIR_STATUS 24 b

/-- The coefficient blocks enter the pool in section order as they stream in, up to one that lies outside the pool or the section,
or that meets a live coefficient. -/
def State.coefWrite (s : State) (p : List Byte) : List CoefBlk → State
  | [] => s
  | b :: r =>
    if 2621440 < b.start + b.count ∨ p.length < b.off + 8 + 3 * b.count then s
    else if (List.range b.count).any fun i => s.coefLive (b.start + i) then
      { s with cfg := { s.cfg with coefBad := some (32 + b.off) } }
    else (s.putArray (coefAddr b.start) ((p.drop (b.off + 8)).take (3 * b.count))).coefWrite p r

/-- The loader reaches the COEF section: COEF_PEND sets, waiting fades are discarded, and the blocks are written, as far as the stream
can be read. -/
def State.coefPend (s : State) (readErr : Option Nat) : State :=
  if s.cfg.coefDone || s.shadowSt ≠ 2 then s
  else
    match s.coefReached readErr with
    | none => s
    | some p =>
      (({ s with cfg := { s.cfg with coefDone := true } }.setCoefPend true).fadesDiscard).coefWrite p (coefAll p)

/-- COEF_PEND_SET (R142). -/
def execCoefPendSet (s : State) : Out := s.event Reg.CFG_STATUS fun s => s.coefPend none

/-! ## Loads (R249 to R251) -/

/-- CFG_LOAD_DONE moves on while a load runs: how far the stream has come is a free value, which never falls and never passes the
end of the source. -/
def State.loadProgress (s : State) : State :=
  if s.shadowSt = 2 then
    (s.setReg Reg.CFG_LOAD_DONE (w32 (min s.loadSource.1.length ((s.reg Reg.CFG_LOAD_DONE).toNat + s.freeNat)))).draw
  else s

/-- A read of CFG_LOAD_DONE (R260). -/
def State.loadDoneRead (s : State) : State × Word := (s.loadProgress, s.loadProgress.reg Reg.CFG_LOAD_DONE)

/-- What the shadow set held is gone, and with it an armed swap and COEF_PEND (R142, R251). Values that SW writes put there go with a
VALID set alone (R251), and else wait for the next swap (R10). -/
def State.shadowGone (s : State) (st : Nat) : State :=
  let t := ((s.setShadow st).disarm).setCoefPend false
  { t with
    shadowRegs := if s.shadowSt = 3 then [] else t.shadowRegs
    cfg := { t.cfg with loading := none, shadow := [], carried := [], coefDone := false, coefBad := none } }

/-- A load fails: the shadow set is INVALID, and everything else R251 states. -/
def State.loadFails (s : State) (code ty off id : Nat) : State :=
  let d := [1, b8 code, b8 ty, b8 s.srcByte] ++ leBytes 4 off ++ leBytes 4 id
  let s1 := ((s.shadowGone 4).setFld Reg.CFG_STATUS 8 8 ty).setFld Reg.CFG_STATUS 16 4 code
  let s2 := (((s1.setReg Reg.CFG_ERR_OFFSET (w32 off)).evt Reg.CFG_EVT 1).count Reg.CFG_LOAD_FAIL 1).raiseDet 0x18 0x13 d
  { s2 with mode := { s2.mode with load := if s.pmode = 3 then some false else s2.mode.load } }

/-- A load starts from a source: what the shadow set held is discarded (R251). -/
def State.loadStart (s : State) (src : Nat) : State :=
  let x := if src = 0 then s.fldR Reg.CFG_LOAD_CTL 4 2 else (s.reg Reg.CFG_LOAD_ADDR).toNat * 64
  let s1 := (s.shadowGone 2).setReg Reg.CFG_LOAD_DONE 0
  let s2 : State := { s1 with cfg := { s1.cfg with loading := some (src, x) }, mode := { s1.mode with load := none } }
  let dir := s.bootBytes 0 64
  if src = 0 ∧ !(dirOk dir && dirValid dir x) then s2.loadFails 0xC 0 0 0 else s2

/-- A write of CFG_LOAD_GO (R249, R251). -/
def State.loadGo (s : State) : State :=
  let src := s.fldR Reg.CFG_LOAD_CTL 0 2
  if s.shadowSt = 2 ∨ src = 3 then (s.setFld Reg.CFG_STATUS 16 4 0xF).evt Reg.CFG_EVT 1 else s.loadStart src

/-- CFG_LOAD_GO. -/
def execCfgLoadGo (ini : Initiator) (s : State) : Out := s.access ini Reg.CFG_LOAD_GO State.loadGo

/-- Entry to LOAD acts on the shadow set as it stands (R249). -/
def State.loadEntry (s : State) : State :=
  let src := s.fldR Reg.CFG_LOAD_CTL 0 2
  if s.shadowSt = 2 then s
  else if s.shadowSt = 3 then { s with mode := { s.mode with load := some true } }
  else if src ≤ 1 then s.loadStart src
  else if src = 2 then s.setShadow 1
  else s.loadFails 0xC 0 0 0

/-- A section as the store holds it. -/
def storeBytes (x : Section) : List Byte :=
  [b8 x.ty, 1, 0, 0] ++ leBytes 4 x.body.length ++ leBytes 4 x.crc.toNat ++ List.replicate 20 0 ++
    padTo (up16 x.body.length) x.body

/-- The set in type order. -/
def sortSet (l : List Section) : List Section := (List.range 17).flatMap fun t => l.filter fun x => decide (x.ty = t)

/-- A core's initial data; the rest of its region is zero (R191, R212). -/
def State.putData (s : State) (p : List Byte) (c : Nat) : State :=
  let dt := graphProg p + 8 * plenBelow p 32 + 4 * dinitBelow p c
  s.putArray (coreData c (coreF p c 1)) (padTo (4 * coreF p c 2) ((p.drop dt).take (4 * coreF p c 3)))

/-- A core's program in a half. -/
def State.putProg (s : State) (p : List Byte) (half c : Nat) : State :=
  s.putArray (coreProg c half 0) ((p.drop (graphProg p + 8 * plenBelow p c)).take (8 * coreF p c 0))

/-- A core's program and initial data. -/
def State.putCore (s : State) (p : List Byte) (half c : Nat) : State := (s.putProg p half c).putData p c

/-- Two graphs' data regions meet on a core. -/
def regionsMeet (p g : List Byte) (c : Nat) : Bool :=
  decide (coreF p c 1 < coreF g c 1 + coreF g c 2) && decide (coreF g c 1 < coreF p c 1 + coreF p c 2)

/-- The loader places each core's program in the half that the active graph does not use, and its initial data in the core's region;
a region that meets the active one, which R212 permits where no program runs on beside it, waits for the swap or restart (R186). -/
def State.placeGraph (s : State) (p : List Byte) : State :=
  let g := (s.active 8).getD []
  let t := s.each (List.range 32) fun s c =>
    let s1 := s.putProg p (1 - s.half) c
    if regionsMeet p g c then s1 else s1.putData p c
  { t with cfg := { t.cfg with placed := true } }

/-- A VALID shadow set's programs are placed, but not while a route fade still runs the older program in that half (assumption 64), nor
while a restart is bringing in a set whose programs may wait there. -/
def State.placeShadow (s : State) : State :=
  match s.cfg.shadow.find? fun x => decide (x.ty = 8) with
  | some x => if s.cfg.carried.contains 8 ∧ !s.cfg.placed ∧ s.mix.route.isNone ∧ s.shadowSt = 3 ∧ s.cfg.coming.isEmpty then s.placeGraph x.body else s
  | none => s

/-- The load in progress ends by what its source holds: the set is VALID, or the first failure stands. -/
def State.loadEnd (s : State) (readErr : Option Nat) : State × Option Bool :=
  if s.shadowSt ≠ 2 ∨ s.cfg.loading = none then (s, none)
  else
    let s := s.coefPend readErr
    let src := s.loadSource
    match imgCheck (s.appChk src.2.1 (src.2.2.or readErr)) src.1 with
    | .error e => (s.loadProgress.loadFails e.code e.ty e.off (leAt src.1 16 4), some false)
    | .ok secs =>
      let car := secs.map (·.sec)
      let all := sortSet (completeSet car s.inherits)
      let s1 := s.dramWrite .loader (s.regionBase true) (all.flatMap storeBytes)
      let s2 := (((s1.setShadow 3).evt Reg.CFG_EVT 0).setReg Reg.CFG_SHADOW_ID (w32 (leAt src.1 16 4))).setReg Reg.CFG_LOAD_DONE
        (w32 (leAt src.1 8 4))
      (({ s2 with
        cfg := { s2.cfg with loading := none, shadow := all, carried := car.map (·.ty), placed := s2.cfg.placed && !s2.cfg.coming.isEmpty }
        mode := { s2.mode with load := if s.pmode = 3 then some true else s2.mode.load } } : State).placeShadow, some true)

/-- The flash is free for the loader, or the source is DRAM (R550). -/
def State.loadMay (s : State) : Bool :=
  match s.cfg.loading with
  | some (2, _) => s.dramReady
  | some _ => s.dramReady && !s.cfg.ospiBusy
  | none => false

/-- ALARM starts in LOAD mode: a load that runs stops with ABORT, and the shadow set becomes INVALID whatever it held (R48, R251).
The record names IMAGE_ID once the stream has passed the image header. -/
def State.loadAbort (s : State) : State :=
  let t : State :=
    if s.shadowSt = 2 then
      let p := s.loadProgress
      p.loadFails 0xD 0 0 (if 64 ≤ (p.reg Reg.CFG_LOAD_DONE).toNat then leAt s.loadSource.1 16 4 else 0)
    else if s.shadowSt = 1 ∨ s.shadowSt = 3 then s.shadowGone 4
    else s
  { t with mode := { t.mode with load := none } }

/-! ## The modes (R44, R45) -/

/-- The parameters of a rendering mode: Fr, B, objects in the index range, far slots and taps. -/
structure ModeRow where
  fr : Nat
  b : Nat
  objects : Nat
  far : Nat
  taps : Nat
deriving DecidableEq, Repr

/-- The table of R44. -/
def modeRow : Nat → ModeRow
  | 5 => ⟨48000, 8, 256, 12288, 2048⟩
  | 6 => ⟨96000, 16, 256, 12288, 2048⟩
  | 7 => ⟨48000, 32, 512, 98304, 4096⟩
  | 8 => ⟨48000, 16, 512, 6144, 4096⟩
  | _ => ⟨48000, 16, 512, 24576, 4096⟩

/-- MODE of a set. -/
def modeOf (l : List Section) : Nat := match l.find? fun x => decide (x.ty = 3) with
  | some x => byteAt x.body 0
  | none => 0

/-- Where an address of a Gauntlet object's entries goes when the range moves from `old` to `new` objects. -/
def gntMoved (old new a : Nat) : Nat :=
  if objStAddr 0 ≤ a ∧ a < trajAddr 0 0 ∨ a < objStAddr 0 then a + 32 * new - 32 * old else a + 384 * new - 384 * old

/-- The Gauntlet objects move with the top of the range (R86): descriptor, trajectory queue and state, and so does a standby's copy
of their entries (R297). -/
def State.moveGnt (s : State) (new : Nat) : State :=
  let old := s.mode.range
  if old = new then s
  else
    let s1 := s.each (List.range 32) fun s i =>
      let g := old - 32 + i
      let g' := new - 32 + i
      let d := s.sramBytes (objAddr g) 32
      let q := s.sramBytes (trajAddr g 0) 384
      let x := s.sramBytes (objStAddr g) 32
      let s2 := ((s.putArray (objAddr g') d).putArray (trajAddr g' 0) q).putArray (objStAddr g') x
      ((s2.putArray (objAddr g) (List.replicate 32 0)).putArray (trajAddr g 0) (List.replicate 384 0)).putArray
        (objStAddr g) (List.replicate 32 0)
    { s1 with
      mode := { s1.mode with range := new }
      twin := { s1.twin with gobj := s1.twin.gobj.map fun c => (gntMoved old new c.1, c.2) } }

/-! ## What the sections load (R253) -/

/-- A word of a payload. -/
def pw (p : List Byte) (o : Nat) : Word := w32 (leAt p o 4)

/-- Registers at a stride take the words of a payload. -/
def State.putRegs (s : State) (n : Nat) (reg : Nat → Nat) (val : Nat → Word) : State :=
  s.each (List.range n) fun s i => s.setReg (reg i) (val i)

/-- Table bytes that host writes reach, and the engine's copy during a freeze (R64). -/
def State.putTable (s : State) (a : Nat) (bs : List Byte) : State :=
  let s1 := s.putArray a bs
  { s1 with geo := { s1.geo with last := Store.putBytes sramDef s1.geo.last a bs } }

/-- CLK_EN takes a value: bit 13 is fixed, the sensing clocks of groups not claimed follow bit 6, and the DRAM controller bit 12
(R485). -/
def State.clkEnPut (s : State) (v : Nat) : State :=
  (s.setReg Reg.CLK_EN (w32 ((v ||| 0x2000) &&& 0x3FFF))).dramGate (s.bitR Reg.CLK_EN 12)

/-- CLK_MON_EN takes a value: the bits of XA and XB read 1, and a monitor whose bit is 0 is not armed (R477). -/
def State.monEnPut (s : State) (v : Word) : State :=
  let w := (v &&& 0x1F) ||| 3
  let s1 := s.setReg Reg.CLK_MON_EN w
  let s2 := (s1.when (!bitOf w 3) fun s => s.setBit Reg.CLK_STATUS 2 false).when (!bitOf w 4) fun s => s.setBit Reg.CLK_STATUS 3 false
  { s2 with clk := { s2.clk with rootArmed := s2.clk.rootArmed && bitOf w 2 } }

/-- CLOCKPLAN (R492). -/
def State.applyClock (s : State) (p : List Byte) : State :=
  let s1 := ((s.clkEnPut (leAt p 0 4)).monEnPut (pw p 4)).setReg Reg.CLK_FTRIM_CFG (pw p 8)
  { s1 with clk := { s1.clk with mclkHz := (leAt p 0xC 4, leAt p 0x10 4), drate := leAt p 0x14 2 } }

/-- MEMPLAN (R512). -/
def State.applyMem (s : State) (p : List Byte) : State :=
  let mir := match (memRegions p).find? fun r => decide (r.kind = 4) with
    | some r => r.base / 64
    | none => 0
  ((s.setReg Reg.DRC_IDLE (w32 (byteAt p 2))).setReg Reg.REC_MIR_BASE (w32 mir)).recMirrorAll

/-- SPEAKERS (R92): entries beyond a count are zero. -/
def State.applySpeakers (s : State) (p : List Byte) : State :=
  let z := leAt p 2 2
  let m := leAt p 4 2
  let t := leAt p 6 2
  let s1 := (((s.setReg Reg.GEO_C (pw p 8)).setReg Reg.GEO_ORG_X (pw p 0xC)).setReg Reg.GEO_ORG_Y (pw p 0x10)).setReg
    Reg.GEO_ORG_Z (pw p 0x14)
  (((s1.putTable 0x06FB8000 ((p.drop 0x20).take 12288)).putTable 0x06FBC800 (padTo 4096 ((p.drop 0x3020).take (16 * z)))).putTable
    0x06FBB000 (padTo 6144 ((p.drop (0x3020 + 16 * z)).take (48 * m)))).putTable 0x06FBD800
    (padTo 8192 ((p.drop (0x3020 + 16 * z + 48 * m)).take (8 * t)))

/-- RENDERPLAN (R92, R124): descriptors of Gauntlet objects are ignored; the objects stand at the top of the image's range (R86). -/
def State.applyRender (s : State) (p : List Byte) : State :=
  let n := leAt p 0 2
  let s1 := (s.setReg Reg.RND_HOP_THR (pw p 4)).setReg Reg.RND_STEP_MIN (pw p 8)
  (s1.putTable 0x06F80000 ((p.drop 0x10).take (32 * (n - 32)))).putTable (0x06F80000 + 32 * n) ((p.drop (0x10 + 32 * n)).take (32 * (512 - n)))

/-- Every feed's VALID clears at a swap (R141). -/
def State.gdClearAll (s : State) : State := s.each (List.range 384) State.gdClear

/-- COEF (R144, R148): descriptors, SEL and FIR_FADE from the stage-3 work of block `m`. -/
def State.applyCoef (s : State) (p : List Byte) (m : Nat) (train : Bool) : State :=
  let old := s.regs.filter fun e => decide (0x501000 ≤ e.1) && decide (e.1 < 0x503000)
  let s0 := if train then { s with fir := { s.fir with oldRegs := (s.fir.oldRegs.filter fun e => decide (m < e.1 + 4)) ++ [(m, old, s.fir.fades)] } } else s
  let s1 := (s0.each s0.fir.fades fun s f =>
    (s.setBit (Reg.FIR_FST f.feed) 1 false).when (f.cut.isNone && decide (0 < f.k)) fun s => (s.count Reg.FIR_FADES_DONE 1).evt Reg.FIR_EVT 4)
  let s2 := { s1 with fir := { s1.fir with fades := [] } }.setReg Reg.FIR_FADE (w32 (leAt p 8 2))
  (s2.each (List.range 384) fun s f =>
    let o := 0x10 + 16 * f
    (((s.setReg (Reg.FIR_A f) (pw p o)).setReg (Reg.FIR_B f) (pw p (o + 4))).setReg (Reg.FIR_LEN f) (pw p (o + 8))).setFld
      (Reg.FIR_FST f) 0 1 (byteAt p (o + 12) % 2)).firStatus

/-- The bridge channels that a graph ties (R151, R180): one whose port or direction changes starts without lock. -/
def State.bridgePlan (s : State) (g : Option (List Byte)) : State :=
  let ties := match g with
    | some g => nodesOf g 0xB
    | none => []
  s.each (List.range 128) fun s c =>
    let r := Reg.MIX_BRG_STAT c
    let new : Word := match ties.find? fun t => decide (t.1 = c) with
      | none => 0
      | some t =>
        match (nodesOf (g.getD []) 1).find? fun x => decide (x.2 = t.2), (nodesOf (g.getD []) 4).find? fun x => decide (x.2 = t.2) with
        | some x, _ => w32 (2 ^ 31 + x.1)
        | none, some x => w32 (2 ^ 31 + 2 ^ 30 + x.1)
        | none, none => w32 (2 ^ 31)
    if (s.reg r &&& 0xC000FFFF) = new then s
    else
      let pre := decide (116 ≤ c) && s.bitR Reg.GNT_TSLOT_EN (c - 116) && bitOf new 31
      ((s.setReg r (new ||| (if pre then 0x10000000 else 0))).setReg (Reg.MIX_BRG_RATIO c) 0).setBridge c {}

/-- Cores halted by a memory error are rewritten from the active graph and released (R188). -/
def State.releaseCores (s : State) (g : Option (List Byte)) (half : Nat) : State :=
  match g with
  | none => s
  | some p => s.each ((List.range 32).filter fun c => s.halted c) fun s c =>
      let s1 := (s.setBit Reg.SCR_HALTED c false).setFld (Reg.SCR_CORE_STAT c) 9 2 0
      (s1.setCore c {}).putCore p half c

/-- MIX_STATUS follows the route fade at block `n` (R180). -/
def State.routeStatus (s : State) (n : Nat) : State :=
  let left := match s.mix.route with
    | some r => r.stop - n
    | none => 0
  s.setReg Reg.MIX_STATUS (w32 (left % 65536 + 65536 * (decide (0 < left)).toNat +
    131072 * (s.running && (s.active 8).isSome).toNat))

/-- The read-only state words of the slots that graph programs use: the mixer tables without Brim. -/
def slotState (a : Nat) : Bool :=
  (decide (a < 0x06EDC000) || decide (0x06EDF000 ≤ a)) && (match mixRow? a with
    | some r => r.ro.contains ((a - r.lo) % r.size / 4)
    | none => false)

/-- GRAPH (R165, R212): the half changes, and a train that goes on runs both programs for K blocks: the old one with its words and
state, the new one from zero state. Blocks in flight keep the programs they began with. -/
def State.applyGraph (s : State) (p : List Byte) (old : Option (List Byte)) (m : Nat) (fade : Bool) (k : Nat) : State :=
  let h := 1 - s.half
  let g := old.getD []
  let ro := s.sram.filter fun e => decide (0x06E80000 ≤ e.1) && decide (e.1 < 0x06EF8000)
  let s0 := if s.cfg.placed then s.each ((List.range 32).filter (regionsMeet p g)) fun s c => s.putData p c
    else s.each (List.range 32) fun s c => s.putCore p h c
  let s1 : State := if fade then { s0 with
      sram := Store.clear slotState s0.sram
      mix := { s0.mix with route := some { m := m, k := k, graph := g, half := s.half, live := s.mix.live, gains := s.mix.gains, ro := ro }, route2 := s.mix.route
                           busOld := s.mix.bus, busOld2 := s.mix.busOld, gains := [] }
      cores := s0.cores.map fun (c : Nat × CoreSt) =>
        (c.1, { c.2 with task := c.2.task.map fun (t : CoreTask) => { t with age := min 2 (t.age + 1) } }) }
    else { s0 with mix := { s0.mix with route := none, route2 := none } }
  let s2 : State := s1.each (List.range 32) fun s c => s.setFld (Reg.SCR_CORE_STAT c) 8 1 h
  ({ s2 with cfg := { s2.cfg with placed := false } } : State).bridgePlan (some p)

/-- Tables of MIXPARAM: base address, bytes of an entry, entries, bytes of an entry in the payload, read-only words. -/
structure MixTab where
  base : Nat
  size : Nat
  slots : Nat
  row : Nat
  ro : List Nat
  off : Nat
  n : Nat

/-- The tables of a MIXPARAM payload (R183). -/
def mixTabs (p : List Byte) : List MixTab :=
  let g := leAt p 0 2
  let q := leAt p 2 2
  let d := leAt p 4 2
  let x := leAt p 6 2
  let y := byteAt p 8
  let o1 := 0x3020 + 16 * g
  let o2 := o1 + 32 * q
  let o3 := o2 + 8 * d
  let o4 := o3 + 8 * x
  [⟨0x06E80000, 16, 4096, 16, [1], 0x3020, g⟩, ⟨0x06E90000, 32, 9216, 32, [], o1, q⟩, ⟨0x06ED8000, 8, 1024, 8, [1], o2, d⟩,
    ⟨0x06EDA000, 8, 1024, 8, [1], o3, x⟩, ⟨0x06EDC000, 32, 384, 32, [4], 0x20, 384⟩, ⟨0x06EF0000, 16, 64, 1040, [1], o4, y⟩]

/-- The bytes of a table: read-only words keep what `cur` holds where the program goes on, and GR_MIN of Brim always does (R160). -/
def MixTab.bytes (t : MixTab) (p cur : List Byte) (keep : Bool) : List Byte :=
  (List.range t.slots).flatMap fun i =>
    (List.range (t.size / 4)).flatMap fun w =>
      if t.ro.contains w then (if keep || decide (t.base = 0x06EDC000) then (cur.drop (t.size * i + 4 * w)).take 4 else [0, 0, 0, 0])
      else if i < t.n then padTo 4 ((p.drop (t.off + t.row * i + 4 * w)).take 4) else [0, 0, 0, 0]

/-- MIXPARAM (R164, R183): the tables, in force from block `m`; with a new graph their state starts from zero. Gain slots
retarget. -/
def State.applyMix (s : State) (p : List Byte) (m : Nat) (train keep : Bool) : State :=
  let s0 := s.when train fun s => s.mixKeep m
  let s1 := (((s0.setReg Reg.MIX_RAMP (w32 (leAt p 0xA 2))).setReg Reg.MIX_ZXTO (w32 (byteAt p 0xC))).setReg Reg.MIX_AUTO_RAMP
    (w32 (leAt p 0xE 2))).setReg Reg.MIX_ROUTE_FADE (w32 (leAt p 0x10 2))
  let tabs := mixTabs p
  let s2 := s1.each tabs fun s t => s.putArray t.base (t.bytes p (s.sramBytes t.base (t.size * t.slots)) keep)
  let y := nth tabs 5 ⟨0, 0, 0, 0, [], 0, 0⟩
  let s3 := s2.putArray 0x06EE0000 ((List.range 64).flatMap fun i =>
    padTo 1024 (if i < y.n then (p.drop (y.off + 1040 * i + 16)).take 1024 else []))
  let curves := (List.range (256 * y.n)).filterMap fun i =>
    let v := pw p (y.off + 1040 * (i / 256) + 16 + 4 * (i % 256))
    if v = 0 then none else some (0x06EE0000 + 4 * i, v)
  let words := tabs.flatMap fun t =>
    (List.range t.slots).flatMap fun i => (List.range (t.size / 4)).filterMap fun w =>
      let v := if i < t.n then pw p (t.off + t.row * i + 4 * w) else 0
      if t.ro.contains w ∨ v = 0 then none else some (t.base + t.size * i + 4 * w, v)
  let live := (words.filter fun e => decide (e.1 < 0x06EE0000)) ++ curves ++ words.filter fun e => decide (0x06EE0000 ≤ e.1)
  let now := live.filter fun e => gainWord e.1
  let gone := ((s.mix.live.filter fun e => gainWord e.1).filter fun e => !(now.any fun x => decide (x.1 = e.1))).map fun e => (e.1, (0 : Word))
  let s4 := if train then s3.gainWords m (if keep then (now ++ gone).filter fun e => decide (s.mixLive e.1 ≠ e.2) else now) else s3
  { s4 with mix := { s4.mix with live := live, pend := [] } }

/-- SCHED (R237) of a swap at block `m`: the templates; blocks below `m` that still wait for their bank keep the old ones
(R222). -/
def State.applySched (s : State) (p : List Byte) (old : List Byte) (m : Nat) : State :=
  { s with sch := { s.sch with oldTpl := s.sch.oldTpl ++ (if s.sch.bankWait.isEmpty then [] else [(m, old)]) } }.putArray 0x06FE6000 (padTo 8192 ((p.drop 16).take (32 * leAt p 0 2)))

/-- PORTS (R323, R332, R336): a pair, lane or receiver whose configuration changes restarts under a train that goes on. -/
def State.applyPorts (s : State) (p : List Byte) (m : Nat) (live : Bool) : State :=
  let s1 := s.setReg Reg.SAI_ZXTO (w32 (byteAt p 6))
  let s2 := s1.each (List.range 44) fun s i => s.pairPut i (pairWord p i) m live
  let s3 := s2.each (List.range 88) fun s l =>
    let s1 := (((s.lanePut l (laneWord p l 0) m live).setReg (Reg.SAI_RING_BASE l) (laneWord p l 2)).setReg
      (Reg.SAI_SPILL_BASE l) (laneWord p l 3)).setReg (Reg.SAI_SPILL_SIZE l) (laneWord p l 4)
    if s1.reg (Reg.SAI_MASK l) = laneWord p l 1 then s1 else s1.maskWrite l (laneWord p l 1) false
  let s4 := s3.each (List.range 4) fun s r =>
    (((s.pairPut (48 + r) (aesWord p r 0) m live).setReg (Reg.SAI_AES_RING_BASE r) (aesWord p r 1)).setReg
      (Reg.SAI_AES_SPILL_BASE r) (aesWord p r 2)).setReg (Reg.SAI_AES_SPILL_SIZE r) (aesWord p r 3)
  s4.putRegs 1408 Reg.SAI_TXMAP fun c => if c < txMaps p then pw p (0xC00 + 4 * c) else 0

/-- NET (R390); a stream whose entry changes starts with an empty buffer. -/
def State.applyNet (s : State) (p : List Byte) : State :=
  let nr := leAt p 2 2
  let nt := leAt p 4 2
  let nm := leAt p 6 2
  let mo := 0xD0 + 64 * (nr + nt)
  let s1 := (s.setReg Reg.STR_CTL (pw p 8)).setReg Reg.STR_HOLD_MAX (pw p 0xC)
  let s2 := s1.each [0, 1] fun s q =>
    let o := 0x10 + 96 * q
    let s1 := ((((((s.setReg (Reg.MAC_CTL q) (pw p o)).setReg (Reg.MAC_ADDR_LO q) (pw p (o + 4))).setReg (Reg.MAC_ADDR_HI q) (pw p (o + 8))).setReg
      (Reg.MAC_MAXLEN q) (pw p (o + 12))).setReg (Reg.MAC_TS_LAT q) (pw p (o + 16))).setReg (Reg.MAC_FCS_CFG q) (pw p (o + 20))).setReg
      (Reg.MAC_IPV4 q) (pw p (o + 24))
    s1.putRegs 8 (Reg.MAC_SVC_PORT q) fun i => pw p (o + 28 + 4 * i)
  let s3 := s2.each (List.range 128) fun s t =>
    let w (i : Nat) : Word := if t < nr then pw p (0xD0 + 64 * t + 4 * i) else 0
    if (List.range 16).all fun i => decide (s.reg (Reg.STR_RX t i) = w i) then s else (s.putRegs 16 (Reg.STR_RX t) w).setRxBuf t {}
  let s4 := s3.each (List.range 128) fun s t =>
    let w (i : Nat) : Word := if t < nt then pw p (0xD0 + 64 * (nr + t) + 4 * i) else 0
    if (List.range 16).all fun i => decide (s.reg (Reg.STR_TX t i) = w i) then s else (s.putRegs 16 (Reg.STR_TX t) w).setTxBuf t {}
  (s4.putRegs 1024 Reg.STR_TXMAP fun c => if c < nm then pw p (mo + 4 * c) else 0).macSync

/-- FABRIC (R434). -/
def State.applyFabric (s : State) (p : List Byte) : State :=
  let ns := leAt p 2 2
  let nt := leAt p 4 2
  let nr := leAt p 6 2
  let s1 := (((s.setReg Reg.BVL_CTL (pw p 8)).setReg Reg.BVL_HOLD_MAX (pw p 0xC)).setReg Reg.BVL_RRA_ALLOW_LO (pw p 0x28)).setReg
    Reg.BVL_RRA_ALLOW_HI (pw p 0x2C)
  let s2 := ((s1.putRegs 6 Reg.PORT_CTL fun q => pw p (0x10 + 4 * q)).putRegs 16 Reg.BVL_PUB fun i => pw p (0x30 + 4 * i))
  let s3 := s2.putRegs 512 Reg.BVL_SUB fun o => if o < ns then pw p (0x70 + 4 * o) else 0
  let s4 := s3.putRegs 512 Reg.BVL_TXCH fun c => if c < nt then pw p (0x70 + 4 * (ns + c)) else 0
  s4.putRegs 512 Reg.BVL_RXCH fun c => if c < nr then pw p (0x70 + 4 * (ns + nt + c)) else 0

/-- SENSE (R362): the entries of claimed groups and of their line entries are not loaded; a changed group is reset. -/
def State.applySense (s : State) (p : List Byte) : State :=
  let n := leAt p 2 2
  let s1 := s.setReg Reg.SNS_SYNC_CFG (pw p 4)
  let s2 := s1.each ((List.range 8).filter fun g => !s.claimed g) fun s g =>
    let chg := decide (s.reg (Reg.SNS_GRP_CFG g) ≠ snsWord p g 0)
    let s1 := ((s.setReg (Reg.SNS_GRP_CFG g) (snsWord p g 0)).setReg (Reg.SNS_RING_BASE g) (snsWord p g 1)).setReg
      (Reg.SNS_RING_DEPTH g) (snsWord p g 2)
    s1.when chg fun s => s.snsSync (2 ^ g)
  s2.each ((List.range 64).filter fun e => !s.claimed (e / 8)) fun s e =>
    let w (i : Nat) : Word := if e < n then pw p (0x90 + 24 * e + 4 * i) else 0
    s.lineWrite e fun s =>
      if e < n then (((((s.setReg (Reg.SNS_LINE_CFG e) (w 0)).setReg (Reg.SNS_LINE_VFS e) (w 1)).setReg (Reg.SNS_LINE_IFS e) (w 2)).setReg
        (Reg.SNS_LINE_LO e) (w 3)).setReg (Reg.SNS_LINE_HI e) (w 4)).setReg (Reg.SNS_LINE_VMIN e) (w 5)
      else s.setBit (Reg.SNS_LINE_CFG e) 31 false

/-- METERS (R184): words 2 and 3; EN is 0 beyond the count. -/
def State.applyMeters (s : State) (p : List Byte) : State :=
  let n := leAt p 0 2
  s.each (List.range 2048) fun s m =>
    if m < n then s.putArray (meterAddr m + 8) (padTo 8 ((p.drop (16 + 8 * m)).take 8))
    else if bitOf (s.sw (meterAddr m + 8)) 31 then s.putWord (meterAddr m + 8) (putBit (s.sw (meterAddr m + 8)) 31 false) else s

/-! ## A swap takes effect (R251 to R259, R292) -/

/-- PLAN_CRC (R292). -/
def State.planCrc (s : State) : State :=
  s.setReg Reg.TWN_PLAN_CRC (w32 (crc32 ([3, 4, 5, 6, 7, 8, 9, 10, 16].flatMap fun t => leBytes 4 (s.reg (Reg.CFG_SECT_CRC (t - 1))).toNat)))

/-- The swap at block `m`: events and identity; the shadow set waits to be applied, and SHADOW is EMPTY. -/
def State.swapTake (s : State) (m : Nat) : State :=
  let kind := if s.cfg.forced then 2 else 1
  let s1 := (s.cfgNote kind m 0).when s.cfg.forced fun s => s.evt Reg.CFG_EVT 5
  let s2 := (({ s1 with cfg := { s1.cfg with swapBlk := m } } : State).count Reg.CFG_SWAPS 1).evt Reg.CFG_EVT 2
  let s3 := ((s2.setReg Reg.CFG_ACTIVE_ID (s2.reg Reg.CFG_SHADOW_ID)).setShadow 0).disarm.setBit Reg.CFG_STATUS 3 true
  let s4 := s3.each (List.range 16) fun s i =>
    s.setReg (Reg.CFG_SECT_CRC i) (match s3.cfg.shadow.find? fun x => decide (x.ty = i + 1) with
      | some x => x.crc
      | none => 0)
  { s4.planCrc.setCoefPend false with
    shadowRegs := []
    cfg := { s4.cfg with coming := s4.cfg.shadow, comingCar := s4.cfg.carried, comingRegs := s4.shadowRegs, shadow := [], carried := []
                         region := 1 - s4.cfg.region, coefDone := false, coefBad := none } }

/-- Registers take their reset values. -/
def State.unset (s : State) (l : List Nat) : State := s.each l fun s a => s.setReg a (regReset a)

/-- A block whose section is missing from a set that came in while none was active is in its reset configuration (R239). -/
def State.unconf (s : State) (t : Nat) : State :=
  let strs (f : Nat → Nat → Nat) : List Nat := (List.range 128).flatMap fun i => (List.range 16).map (f i)
  let at_ (n : Nat) (f : Nat → Nat) : List Nat := (List.range n).map f
  match t with
  | 7 =>
    let s1 := (s.fadesEnd.resetRange 0x501000 (0x501000 + 16 * 384)).unset [Reg.FIR_FADE]
    s1.firStatus
  | 9 => (s.applyMix [] 0 false false).unset [Reg.MIX_RAMP, Reg.MIX_ZXTO, Reg.MIX_AUTO_RAMP, Reg.MIX_ROUTE_FADE]
  | 11 =>
    let s1 := s.unset (Reg.SAI_ZXTO :: at_ 22 Reg.SAI_CKA_CFG ++ at_ 22 Reg.SAI_CKB_CFG ++ at_ 88 Reg.SAI_LANE_CFG ++ at_ 88 Reg.SAI_MASK ++
      at_ 88 Reg.SAI_RING_BASE ++ at_ 88 Reg.SAI_SPILL_BASE ++ at_ 88 Reg.SAI_SPILL_SIZE ++ at_ 4 Reg.SAI_AES_CFG ++
      at_ 4 Reg.SAI_AES_RING_BASE ++ at_ 4 Reg.SAI_AES_SPILL_BASE ++ at_ 4 Reg.SAI_AES_SPILL_SIZE ++ at_ 1408 Reg.SAI_TXMAP)
    { s1 with sai := { s1.sai with
      pairs := s1.sai.pairs.filter fun p => decide (44 ≤ p.1) && decide (p.1 < 48)
      lanes := s1.sai.lanes.filter fun p => decide (88 ≤ p.1) && decide (p.1 < 96) } }
  | 12 =>
    let mac (f : Nat → Nat) : List Nat := [f 0, f 1]
    let s1 := s.unset ([Reg.STR_CTL, Reg.STR_HOLD_MAX] ++ mac Reg.MAC_CTL ++ mac Reg.MAC_ADDR_LO ++ mac Reg.MAC_ADDR_HI ++ mac Reg.MAC_MAXLEN ++
      mac Reg.MAC_TS_LAT ++ mac Reg.MAC_FCS_CFG ++ mac Reg.MAC_IPV4 ++ at_ 8 (Reg.MAC_SVC_PORT 0) ++ at_ 8 (Reg.MAC_SVC_PORT 1) ++
      strs Reg.STR_RX ++ strs Reg.STR_TX ++ at_ 1024 Reg.STR_TXMAP)
    { s1 with mac := { s1.mac with rx := [], tx := [] } }
  | 13 => s.unset ([Reg.BVL_CTL, Reg.BVL_HOLD_MAX, Reg.BVL_RRA_ALLOW_LO, Reg.BVL_RRA_ALLOW_HI] ++ at_ 6 Reg.PORT_CTL ++ at_ 16 Reg.BVL_PUB ++
      at_ 512 Reg.BVL_SUB ++ at_ 512 Reg.BVL_TXCH ++ at_ 512 Reg.BVL_RXCH)
  | 15 =>
    let s1 := (s.unset [Reg.SNS_SYNC_CFG]).each ((List.range 8).filter fun g => !s.claimed g) fun s g =>
      (s.unset [Reg.SNS_GRP_CFG g, Reg.SNS_RING_BASE g, Reg.SNS_RING_DEPTH g]).snsSync (2 ^ g)
    s1.each ((List.range 64).filter fun e => !s.claimed (e / 8)) fun s e =>
      s.lineWrite e fun s =>
        s.unset [Reg.SNS_LINE_CFG e, Reg.SNS_LINE_VFS e, Reg.SNS_LINE_IFS e, Reg.SNS_LINE_LO e, Reg.SNS_LINE_HI e, Reg.SNS_LINE_VMIN e]
  | 16 => s.applyMeters []
  | _ => s

/-- An SW write of the shadow set takes effect (R253): the configuration words of pairs, lanes and sensing groups as in a section of their
own (R332, R340, R346). -/
def State.swReg (s : State) (m : Nat) (live : Bool) (a : Nat) (v : Word) : State :=
  match pairOfReg a with
  | some i => s.pairPut i v m live
  | none =>
    if 0x802000 ≤ a ∧ a < 0x802B00 ∧ a % 32 = 0 then s.lanePut ((a - 0x802000) / 32) v m live
    else if 0x900100 ≤ a ∧ a < 0x900200 then
      let g := (a - 0x900100) / 32
      if s.claimed g then s
      else (s.setReg a v).when (decide (a % 32 = 0 ∧ s.reg a ≠ v)) fun s => s.snsSync (2 ^ g)
    else s.setReg a v

/-- The set that came in is in force: what each section of the completed set loads (COEF and GRAPH only where the image carries
them: R144, R212), then the SW writes of the shadow set (R253). `train`: a train runs on across block `m`. -/
def State.swapApply (s : State) (m : Nat) (train : Bool) : State :=
  let new := s.cfg.coming
  let car := s.cfg.comingCar
  let old := s.active 8
  let sect (t : Nat) : Option (List Byte) :=
    if car.contains t || !([7, 8].contains t) then (new.find? fun x => decide (x.ty = t)).map (·.body) else none
  let on (s : State) (t : Nat) (f : State → List Byte → State) : State := match sect t with
    | some p => f s p
    | none => s
  let half0 := s.half
  let ext (s : State) : Option (Nat × Nat) := (s.regionOf 3).map fun r => (r.base, r.size)
  let a0 : State := { s with cfg := { s.cfg with active := new, coming := [], comingCar := [], comingRegs := [] } }
  let e0 : State := if ext a0 = ext s then a0 else { a0 with gnt := { a0.gnt with ext := [], extCopy := false } }
  let e1 := e0.when s.cfg.active.isEmpty fun s => s.each ([7, 9, 11, 12, 13, 15, 16].filter fun t => !(new.any fun x => decide (x.ty = t))) State.unconf
  let s0 := if train then e1 else e1.moveGnt (modeRow (modeOf new)).objects
  let ms := match sect 9 with
    | some p => leAt p 0x10 2
    | none => s.fldR Reg.MIX_ROUTE_FADE 0 11
  let k := ceilDiv (min 2000 ms * s.blk.fr) (1000 * s.blk.b)
  let s1 := on (on (on (on s0 1 State.applyClock) 4 State.applyMem) 5 State.applySpeakers) 6 State.applyRender
  let s2 := on s1 7 fun s p => s.applyCoef p m train
  let s3 := on s2 8 fun s p => s.applyGraph p old m train k
  let s4 := match sect 9 with
    | some p => s3.applyMix p m train (train && !car.contains 8)
    | none => if train && car.contains 8 then s3.gainWords m s3.mix.live else s3
  let s5 := on (on s4 10 fun t p => t.applySched p (s.templates m) m) 11 fun s p => s.applyPorts p m train
  let s6 := on (on (on (on s5 12 State.applyNet) 13 State.applyFabric) 15 State.applySense) 16 State.applyMeters
  let s7 := s6.each s.cfg.comingRegs fun s e => s.swReg m train e.1 e.2
  let s8 := (s7.macSync.bvlSync.gdClearAll).releaseCores (s7.active 8) (if car.contains 8 then 1 - half0 else half0)
  s8.routeStatus m

/-- A structural section differs in LENGTH or CRC (R254). -/
def State.structDiff (s : State) : Bool :=
  [1, 2, 4].any fun t =>
    match s.cfg.shadow.find? fun x => decide (x.ty = t), s.cfg.active.find? fun x => decide (x.ty = t) with
    | some a, some b => decide (a.crc ≠ b.crc) || decide (a.body.length ≠ b.body.length)
    | none, none => false
    | _, _ => true

/-- The MODE of the shadow set. -/
def State.shadowMode (s : State) : Nat := match s.cfg.shadow.find? fun x => decide (x.ty = 3) with
  | some x => byteAt x.body 0
  | none => 0

/-- The MODE of the active set. -/
def State.activeMode (s : State) : Nat := match s.active 3 with
  | some p => byteAt p 0
  | none => 0

/-- A refusal of R254 at block `m`. -/
def State.swapRefuse (s : State) (err m : Nat) : State :=
  let s1 := ((s.setFld Reg.CFG_STATUS 24 4 err).evt Reg.CFG_EVT 3).cfgNote 3 m err
  if err = 1 then s1 else s1.disarm

/-- What becomes of an armed swap at a boundary. -/
inductive SwapAct where
  | wait
  | refuse (err : Nat)
  | defer
  | go
  | restart
deriving DecidableEq, Repr

/-- A route fade still runs at Sn: until the stage 3 of its last block is over (R143, R166, and the example of R255). -/
def State.routeAt (s : State) (n : Nat) : Bool := match s.mix.route with
  | some r => decide (0 < r.k) && decide (n < r.m + r.k + 2)
  | none => false

/-- The judgement of an armed swap at block `n` of a train, or without one (R253 to R255). -/
def State.swapJudge (s : State) (n : Nat) : SwapAct :=
  let p := s.phase
  if !s.armed || s.shadowSt ≠ 3 || (decide (3 ≤ p) && decide (p ≤ 6)) || (decide (s.pmode = 9) && decide (s.syncOf ≠ 0)) then .wait
  else if s.pmode = 8 ∧ s.shadowMode ≠ 4 then .refuse 3
  else if s.running && decide (s.pmode = 9) then .restart
  else if s.restartsTo s.shadowMode then .restart
  else if !s.running then .go
  else if !s.cfg.cut && (s.routeAt n || (s.cfg.carried.contains 7 && s.fir.fades.any fun f => decide (0 < f.k))) then .defer
  else if s.structDiff then .refuse 2
  else .go

/-- FORCE cuts every fade that defers the swap, at block `n`: from it on the new bank or program plays alone (R143, R166); the record
of FORCED names the lowest feed (R146). The swap is a forced one if at least one fade had a block left to cut (R255). -/
def State.cutFades (s : State) (n : Nat) : State :=
  let on (f : FadeSt) : Bool := s.cfg.carried.contains 7 && decide (n < f.n0 + f.k)
  let cutF := s.fir.fades.filter on
  let s1 := { s with
    fir := { s.fir with fades := s.fir.fades.map fun (f : FadeSt) => if on f then { f with cut := some n } else f }
    mix := { s.mix with route := s.mix.route.map fun (r : RouteSt) => if n < r.stop then { r with cut := some n } else r }
    cfg := { s.cfg with
      cut := true
      forced := !cutF.isEmpty || (match s.mix.route with
        | some r => decide (n < r.stop)
        | none => false) } }
  s1.when (!cutF.isEmpty) fun s => s.firEvt 5 4 ((cutF.map (·.feed)).foldl min 0x1FF) n

/-- An armed swap at the boundary of block `n` of a train, when it is no restart: applied, refused, deferred or forced. -/
def State.swapBlock (s : State) (n : Nat) : State :=
  match s.swapJudge n with
  | .refuse e => s.swapRefuse e n
  | .defer =>
    let s1 := s.setBit Reg.CFG_STATUS 5 true
    if s.cfg.force then s1.cutFades n else s1
  | .go => (s.swapTake n).swapApply n true
  | _ => s

/-- The route fade at Sn: its end, and its status (R165); a replaced program's results are kept for the blocks still below its swap. -/
def State.routeBlock (s : State) (n : Nat) : State :=
  let past (r : Option RouteSt) : Bool := match r with
    | some r => decide (r.m + r.k + 3 ≤ n)
    | none => true
  let s1 : State := if past s.mix.route2 then { s with mix := { s.mix with route2 := none, busOld2 := [] } } else s
  match s1.mix.route with
  | none => s1.routeStatus n
  | some r =>
    let s2 := if n = r.stop then s1.evt Reg.MIX_EVT 2 else s1
    let s3 : State := if past s2.mix.route then { s2 with mix := { s2.mix with route := none, busOld := [] } } else s2
    s3.placeShadow.routeStatus n

/-- SWAP_DEFERRED: an armed swap that could take effect waits for fades (R255). -/
def State.deferSync (s : State) : State := s.setBit Reg.CFG_STATUS 5 (decide (s.swapJudge s.blk.n = .defer))

/-- A write of CFG_SWAP (R253, R255), ignored on a standby that follows the record (R301). -/
def State.swapWrite (s : State) (v : Word) : State :=
  if s.pmode = 9 ∧ s.syncOf ≠ 0 then s else
  let s1 := if bitOf v 0 && !s.armed then
      (if s.shadowSt = 2 ∨ s.shadowSt = 3 then s.setBit Reg.CFG_STATUS 4 true else s.swapRefuse 1 0)
    else s
  (if bitOf v 1 && s1.armed then { s1 with cfg := { s1.cfg with force := true } } else s1).deferSync

/-- LOAD_SUCCESS (R251): the image has streamed in and every check passes. -/
def execLoadSuccess (s : State) : Out :=
  s.event Reg.CFG_STATUS fun s =>
    if s.loadMay then
      (match s.loadEnd none with
      | (s1, some true) => s1.deferSync
      | _ => s)
    else s

/-- LOAD_FAIL (R251): a check fails, or the source cannot be read. -/
def execLoadFail (readErr : Option Nat) (s : State) : Out :=
  s.event Reg.CFG_STATUS fun s =>
    if s.loadMay then
      (match s.loadEnd readErr with
      | (s1, some false) => s1
      | _ => s)
    else s

/-- CFG_SWAP_ARM (R253). -/
def execCfgSwapArm (ini : Initiator) (force : Bool) (s : State) : Out :=
  s.access ini Reg.CFG_SWAP fun s => s.swapWrite (if force then 3 else 1)

/-- CFG_SWAP_FORCE (R255). -/
def execCfgSwapForce (ini : Initiator) (s : State) : Out := s.access ini Reg.CFG_SWAP fun s => s.swapWrite 2

/-! ## The periodic check (R256) -/

/-- PERIODIC_CHECK_START. -/
def execPeriodicCheckStart (s : State) : Out :=
  s.event Reg.CFG_STATUS fun s =>
    if s.activeOk && decide (s.fldR Reg.CFG_CHECK_PERIOD 0 16 ≠ 0) then s.setBit Reg.CFG_STATUS 6 true else s

/-- One section of the pass: read from the store, and its CRC computed again. The first failure stands: its type, the offset in the
section (its header for a CRC mismatch), and whether the read failed. -/
def State.checkSection (a : State × Nat × Option (Nat × Nat × Bool)) (x : Section) : State × Nat × Option (Nat × Nat × Bool) :=
  let len := 32 + up16 x.body.length
  let bad := ((a.1.badIn a.2.1 len).filter (·.double)).map fun b => b.unit * 64 - a.2.1
  let r := a.1.dramRead a.2.1 len false
  let res : Option (Nat × Nat × Bool) :=
    if !r.2.2 then some (x.ty, bad.min?.getD 0, true)
    else if w32 (crc32 ((r.2.1.drop 32).take x.body.length)) = x.crc then none else some (x.ty, 0, false)
  (r.1, a.2.1 + len, a.2.2.or res)

/-- A pass over the active store region: what it found wrong first. -/
def State.checkPass (s : State) : State × Option (Nat × Nat × Bool) :=
  let r := s.inherits.foldl State.checkSection (s, s.regionBase false, none)
  (r.1, r.2.2)

/-- The active set becomes NONE: no section has a CRC any more (R256, R260). What still plays until the train has run out stays. -/
def State.activeNone (s : State) : State :=
  let s1 := ((s.setBit Reg.CFG_STATUS 3 false).each (List.range 16) fun s i => s.setReg (Reg.CFG_SECT_CRC i) 0).planCrc
  if s1.running then s1 else { s1 with cfg := { s1.cfg with active := [], coming := [], comingCar := [], comingRegs := [] } }

/-- PERIODIC_CHECK_DONE: a pass ends; a failure makes the active set NONE, and in a rendering mode leads to SAFE-HOLD. `bad` is what
the pass met beyond the stored errors of the state: bytes that were disturbed in the devices, or that could not be read. -/
def execPeriodicCheckDone (bad : Option (BitVec 8 × Nat × Bool)) (s : State) : Out :=
  s.event Reg.CFG_STATUS fun s =>
    if !s.bitR Reg.CFG_STATUS 6 then s
    else
      let p := (s.setBit Reg.CFG_STATUS 6 false).checkPass
      let res := p.2.or (bad.map fun b => (b.1.toNat, b.2.1, b.2.2))
      match (if p.1.activeOk then res else none) with
      | none => p.1
      | some (ty, off, rd) =>
        let d := [2, if rd then 0x0C else 0x05, b8 ty, b8 p.1.srcByte] ++ leBytes 4 off ++ leBytes 4 (p.1.reg Reg.CFG_ACTIVE_ID).toNat
        let s2 := (((p.1.count Reg.CFG_CHECK_FAIL 1).evt Reg.CFG_EVT 4).raiseDet 0x18 0x13 d).activeNone
        s2.when (renders s2.pmode) fun s => s.fatal 0x18

/-! ## Application key slots (R257) -/

/-- A fuse operation runs. -/
def State.fuseBusy (s : State) : Bool := s.fuse.busy.isSome

/-- A write of CFG_FUSE_CTL. -/
def State.fuseCtl (s : State) (v : Word) : State :=
  let slot := fld v 0 2
  let k := nth s.fuse.app slot {}
  let rev := bitOf v 31
  let prog := bitOf v 30
  let last := ((s.fuse.app.filter fun x => x.hash.isSome && !x.revoked).length ≤ 1) && !k.revoked
  let ok := decide (s.pmode = 10) && decide (fld v 8 8 = 0xA5) && !s.fuseBusy && (rev != prog) &&
    (if prog then k.hash.isNone else k.hash.isSome && !last)
  if !rev && !prog then s
  else if ok then
    let h := BitVec.ofNat 256 (leNat ((List.range 8).flatMap fun i => leBytes 4 (s.reg (Reg.CFG_FUSE_HASH i)).toNat))
    { s with fuse := { s.fuse with busy := some (.app slot (if prog then some h else none)) } }
  else s.evt Reg.CFG_EVT 6

/-- CFG_FUSE_PROGRAM (R257). -/
def execCfgFuseProgram (ini : Initiator) (slot : BitVec 2) (confirm : BitVec 8) (s : State) : Out :=
  s.access ini Reg.CFG_FUSE_CTL fun s => s.fuseCtl (w32 (2 ^ 30 + confirm.toNat * 256 + slot.toNat))

/-- CFG_FUSE_REVOKE (R257). -/
def execCfgFuseRevoke (ini : Initiator) (slot : BitVec 2) (confirm : BitVec 8) (s : State) : Out :=
  s.access ini Reg.CFG_FUSE_CTL fun s => s.fuseCtl (w32 (2 ^ 31 + confirm.toNat * 256 + slot.toNat))

/-- A key slot after an operation. -/
def KeySlot.after (k : KeySlot) (h : Option (BitVec 256)) : KeySlot :=
  match h with
  | some _ => { k with hash := h }
  | none => { k with revoked := true }

/-- FUSE_DONE (R257, R286): the operation is complete and recorded. -/
def execFuseDone (s : State) : Out :=
  .next <|
    match s.fuse.busy with
    | none => s
    | some (.app slot h) =>
      let s1 := { s with fuse := { s.fuse with busy := none, app := putNth s.fuse.app slot ((nth s.fuse.app slot {}).after h) } }
      s1.note 0x13 0x40 ([if h.isSome then 4 else 5] ++ List.replicate 10 0 ++ [b8 slot])
    | some (.gnt slot h) =>
      let s1 := { s with fuse := { s.fuse with busy := none, gnt := putNth s.fuse.gnt slot ((nth s.fuse.gnt slot {}).after h) } }
      s1.note 0x13 0x40 ([if h.isSome then 4 else 5] ++ List.replicate 10 0 ++ [b8 slot])

end Sys2Proof.Machine
end

