-- ==== Sys2Proof/Machine/Twin.lean ====
section
/-!
DEFINITION. Twin Pairs as far as one unit alone carries it (R290 to R298, R304, R311): seat and duty, the record it
sends, heartbeats, the link's lanes, and the records of detectors 0x16 and 0x17.
-/
namespace Sys2Proof.Machine

/-! ## State of the pair (R291, R292, R302) -/

/-- SYNC changes: its event and its record. -/
def State.setSync (s : State) (v : Nat) : State :=
  if s.syncOf = v then s
  else ((s.setFld Reg.TWN_STATUS 3 2 v).evt Reg.TWN_EVT 3).twinNote 6 0

/-- What a standby keeps of the record goes. -/
def State.dropRecord (s : State) : State :=
  { s with twin := { s.twin with bulk := [], kept := [], gobj := [], cWait := [], aWait := [], aGot := [], lastC := none, lastA := none } }

/-- The partner is no longer duty, or this unit no longer is: DUAL ends (R311). -/
def State.dualEnd (s : State) : State :=
  if s.bitR Reg.TWN_STATUS 6 then (s.setBit Reg.TWN_STATUS 6 false).twinNote 5 0 else s

/-- SEAT, DUTY and SYNC follow the strap and the mode: a paired unit is duty in 0x4 to 0x8, until a yield of its own was
taken over; SYNC reads NONE outside STANDBY, and the duty unit's MEASURE is followed only there (R292). -/
def State.twinSync (s : State) : State :=
  let m := s.pmode
  let d := s.twinSect.isSome && decide (4 ≤ m) && decide (m ≤ 8) && !s.twin.silent
  let s1 := (s.setBit Reg.TWN_STATUS 0 s.strap.seat).setBit Reg.TWN_STATUS 1 d
  let s2 : State := if m = 9 then s1 else (let t := (s1.setSync 0).dropRecord; { t with twin := { t.twin with measure := false } })
  let s3 := s2.when (!d) State.dualEnd
  if d then s3
  else if m = 9 ∨ !renders m then
    { s3.setBit Reg.TWN_STATUS 2 false with
      twin := { s3.twin with yield := none, silent := false, rampAt := none, live := none, strFrom := none, log := [], held := [] } }
  else s3

/-- The device drives the outputs that are undriven without PWR_GOOD and in THERMOS (R270, R291, R515). -/
def State.driven (s : State) : Bool := s.pwr.good && decide (s.pmode ≠ 0)

/-- TWIN_DUTY (R291); none: undriven. -/
def State.twinDutyPin (s : State) : Option Bool := if s.driven then some (s.isDuty && !s.isFrozen) else none

/-- FLT_OUT[k] (R270); none: undriven. -/
def State.fltPin (s : State) (k : Nat) : Option Bool := if s.driven then some (s.bitR Reg.GNT_FLT_OUT k) else none

/-- The partner admits a request for STANDBY (R292). -/
def State.partnerQualifies (s : State) : Bool :=
  s.twinSect.isSome && s.twin.last.isSome && s.bitR Reg.TWN_PARTNER 0 &&
    (s.bitR Reg.TWN_PARTNER 5 != s.strap.seat) && decide (s.twin.crc = (s.reg Reg.TWN_PLAN_CRC).toNat)

/-- The partner's heartbeat reports DUTY. -/
def State.partnerDuty (s : State) : Bool := s.twin.last.isSome && s.bitR Reg.TWN_PARTNER 0

/-- STANDBY is entered: SYNC goes from NONE to TABLES. -/
def State.standbyEnter (s : State) : State :=
  let s1 := (s.setSync 0).dropRecord
  if s1.twin.crc = (s1.reg Reg.TWN_PLAN_CRC).toNat then s1.setSync 1 else s1

/-! ## The record that a duty unit sends (R295, R296, R300, R301) -/

/-- OUT_CRC of a block whose deadline has passed, with its late flag, once the unit has Brim outputs for it. -/
def State.outCrc (s : State) (n : Nat) (late : Bool) : State :=
  if s.twinSect.isNone then s
  else
    let c := crc32 ((List.range 384).flatMap fun f => (busAt s.mix.brimOut s.blk.b n f).flatMap fun v => leBytes 4 (toBits 32 v))
    { s with twin := { s.twin with crcs := ((n, (c, late)) :: s.twin.crcs).take 8 } }

/-- The OUT_CRC and late flag kept of a block. -/
def State.crcOf (s : State) (n : Nat) : Option (Nat × Bool) := (s.twin.crcs.find? fun c => decide (c.1 = n)).map (·.2)

/-- SEL of every feed, 48 bytes. -/
def State.selVector (s : State) : List Byte :=
  (List.range 48).map fun i => b8 ((List.range 8).foldl (fun a k => a + 2 ^ k * s.firSel (8 * i + k)) 0)

/-- C(n) of a duty unit leaves at Sn with the log of the block; the log starts again. -/
def State.sendControl (s : State) (n : Nat) (restart swap : Bool) : State :=
  if !s.isDuty then s
  else
    let fab := s.geo.fab
    let pay := leBytes 6 (s.blk.t0 / 1000000000) ++ leBytes 4 (s.blk.t0 % 1000000000) ++
      leBytes 4 (if swap then (s.reg Reg.CFG_ACTIVE_ID).toNat else 0) ++ [0, 0] ++ (if restart then s.selVector else []) ++
      leBytes 2 fab.length ++
      (fab.flatMap fun e => leBytes 2 e.1 ++ [0, 0] ++ leBytes 4 e.2.1.toNat ++ leBytes 4 e.2.2.1.toNat ++ leBytes 4 e.2.2.2.toNat) ++
      s.twin.log.flatMap fun e => leBytes 4 e.1 ++ leBytes 4 e.2.toNat
    let o := if 3 ≤ n then s.crcOf (n - 3) else none
    let flags := restart.toNat + 2 * swap.toNat + 4 * ((o.map (·.2)).getD false).toNat
    let s1 := s.twinJob 0 n (s.twinFrame 1 flags n ((o.map (·.1)).getD 0) pay)
    let s2 : State := { s1 with twin := { s1.twin with recBlk := n } }
    let s3 := if (s2.reg Reg.TWN_CTRL_PEAK).toNat < pay.length then s2.setReg Reg.TWN_CTRL_PEAK (w32 pay.length) else s2
    { s3 with twin := { s3.twin with log := [] } }

/-! ## The record check (R302, R311) -/

/-- Detector 0x17 of kind `kind` on a frame of kind `fk`. -/
def State.recCheck (s : State) (kind fk blk : Nat) : State :=
  ((s.count Reg.TWN_REC_BAD 1).evt Reg.TWN_EVT 5).raiseDet 0x17 0xF ([b8 kind, b8 fk, 0, 0] ++ leBytes 6 blk ++ [0, 0])

/-! ## Heartbeats out (R304) -/

/-- The heartbeat frame of this unit. -/
def State.hbFrame (s : State) : List Byte := s.twinFrame 5 s.twinFlags s.blkNum s.twin.seq []

/-- A heartbeat leaves on a path; HB_VLAN gives VID and PCP of its tag (R313). -/
def State.hbOut (s : State) (path : Nat) : State :=
  match path with
  | 0 => s.emit .heartbeat 0 s.hbFrame
  | 1 =>
    if s.isFrozen ∨ s.twin.yield.isSome then s
    else { s.emit .heartbeat 1 [b8 (!s.twin.pin).toNat] with twin := { s.twin with pin := !s.twin.pin } }
  | _ =>
    let p := path - 2
    match s.twinSect with
    | none => s
    | some t =>
      if !s.linkOn p then s
      else
        let vlan := leAt t 6 2
        let tci := vlan % 2 ^ 12 + vlan / 2 ^ 12 % 8 * 2 ^ 13
        let f := (t.drop 8).take 6 ++ s.macAddr p ++ [0x88, 0xB5] ++ s.hbFrame
        let s1 := (s.when (vlan.testBit 15) fun s => s.macCnt p 44 1).macCnt p 53 1
        s1.sendFrameOn p (if vlan.testBit 15 then withTag f tci else f)

/-- HEARTBEAT_SEND (R304): a heartbeat on each path of HB_PATHS. -/
def execHeartbeatSend (s : State) : Out :=
  s.event Reg.TWN_CMD fun s =>
    if s.twinSect.isNone then s
    else s.each s.hbPaths State.hbOut |> fun s => { s with twin := { s.twin with seq := (s.twin.seq + 1) % 2 ^ 32 } }

/-! ## The link's lanes (R293) -/

/-- TWIN_LANE_LOSS (R293): the link goes on with one lane. -/
def execTwinLaneLoss (s : State) : Out := s.event Reg.TWN_CMD fun s => s.setBit Reg.TWN_STATUS 12 false

/-- TWIN_LANE_RETURN (R293): both lanes are up. -/
def execTwinLaneReturn (s : State) : Out := s.event Reg.TWN_CMD fun s => s.setBit Reg.TWN_STATUS 12 true

end Sys2Proof.Machine
end

