-- ==== Sys2Proof/Machine/Modes.lean ====
section
/-!
DEFINITION. The mode controller (Operating Modes): the records and registers of a transition, requests and their
refusals, the stop of a train, restarts, the arming of a train, and the causes that act at a boundary in the order of
R52.
-/
namespace Sys2Proof.Machine

/-! ## Parameters of a mode (R44) -/

/-- The MODE that STANDBY follows: of the set that a swap brings in, or of the active one. -/
def State.nextMode (s : State) : Nat := if s.cfg.coming.isEmpty then s.activeMode else modeOf s.cfg.coming

/-- The parameters a mode runs with: STANDBY's are the duty unit's. -/
def State.rowFor (s : State) (m : Nat) : ModeRow := modeRow (if m = 9 then (if s.twin.measure then 8 else s.nextMode) else m)

/-- A fault, a request for 0xB or an unusable Gauntlet leads to SAFE-HOLD from these modes (R51). -/
def faultModes (m : Nat) : Bool := decide (m = 3) || renders m

/-! ## Transitions (R51, R58, R59) -/

/-- PHASE. -/
def State.setPhase (s : State) (p : Nat) : State := s.setFld Reg.PWR_MODE_STATUS 8 3 p

/-- A transition is recorded and shown in PWR_MODE_CAUSE (R58). -/
def State.modeNote (s : State) (dest cause det : Nat) : State :=
  let m := s.pmode
  (s.setReg Reg.PWR_MODE_CAUSE (w32 (m + 16 * dest + 256 * cause + 4096 * (if cause = 5 then det else 0)))).note 2 0x40
    ([b8 m, b8 dest, b8 cause, b8 det] ++ s.blkBytes ++ [0, 0])

/-- MAINTAIN is left: injection bits clear but for the proof-test set, and the test multiplexer is off (R48, R51, R450). -/
def State.leaveMaintain (s : State) : State :=
  ((s.setReg Reg.INT_INJ0 (s.reg Reg.INT_INJ0 &&& 0x2E000000)).setReg Reg.INT_INJ1 0).setBit Reg.INT_TM_CTL 0 false

/-- The DRAM service of a mode (R503). -/
def State.modeDram (s : State) (m : Nat) : State :=
  if m = 2 ∨ m = 11 then s.dramLow else if 3 ≤ m then s.dramFull else s

/-- The cell entries of objects 256 to 511 are unused in the 256-object modes, and read zero (R98). -/
def State.unusedCells (s : State) : State :=
  { s with
    sram := Store.clear (fun a => decide (0x069C0000 ≤ a) && decide (a < 0x06A80000)) s.sram
    rnd := { s.rnd with cells := s.rnd.cells.filter fun e => decide (e.1 < 98304) } }

/-- PWR_MODE and TARGET take a mode, with everything that follows from it: FIR_MAX_TAPS is the limit of the mode (R147), and
what WAKE W2 or LOAD has left undone goes with them. `sync` is the SYNC that STANDBY begins with, where R306 or R310 give it. DESIGN
CHOICE (assumption 91): FIR_MAX_TAPS is 4,096 in a mode without a limit of its own. -/
def State.setModeSync (s : State) (dest : Nat) (sync : Option Nat) : State :=
  let old := s.pmode
  let s1 := ((s.setFld Reg.PWR_MODE_STATUS 0 4 dest).setFld Reg.PWR_MODE_STATUS 4 4 dest).setReg Reg.FIR_MAX_TAPS (w32 (s.rowFor dest).taps)
  if old = dest then s1.twinSync
  else
    let s2 := ({ s1 with mode := { s1.mode with w2 := none, load := none } }.evt Reg.PWR_MODE_EVT 0).when (decide (dest = 11)) fun s => s.evt Reg.PWR_MODE_EVT 3
    let s3 := (s2.when (decide (old = 10)) State.leaveMaintain).when (decide (old = 8)) fun s => s.measStop 7
    let s4 := ((s3.alarmSync.fltSync.modeDram dest).twinSync).when (renders dest && decide ((s.rowFor dest).objects = 256)) State.unusedCells
    s4.when (decide (dest = 9)) fun s => match sync with
      | some v => s.dropRecord.setSync v
      | none => s.standbyEnter

/-- A mode is entered as the table of R51 has it. -/
def State.setMode (s : State) (dest : Nat) : State := s.setModeSync dest none

/-- The mode changes and the train, with a restart of it that runs, goes on (R51, R305, R306): PHASE stays. -/
def State.modeOnTrain (s : State) (dest cause : Nat) (sync : Option Nat) : State :=
  let s1 := (s.modeNote dest cause 0).setModeSync dest sync
  { s1 with mode := { s1.mode with stop := s1.mode.stop.map fun (x : StopInfo) => if renders x.dest then { x with dest := dest } else x } }

/-- A transition without a train: recorded, and made at once; a fault's entry to SAFE-HOLD signals the Gauntlet (R444). -/
def State.goMode (s : State) (dest cause det : Nat) : State :=
  let s1 := ((s.modeNote dest cause det).setMode dest).setPhase 0
  s1.when (decide (dest = 11) && decide (cause = 5)) State.appFault

/-- A request is refused: REQ_ERR, its event and its record. -/
def State.refuseReq (s : State) (err : Nat) : State :=
  let m := s.pmode
  ((s.setFld Reg.PWR_MODE_STATUS 16 4 err).evt Reg.PWR_MODE_EVT 2).note 2 0x40
    ([b8 m, b8 m, 0, b8 err] ++ s.blkBytes ++ [0, 0])

/-- PENDING. -/
def State.setPending (s : State) (b : Bool) : State := s.setBit Reg.PWR_MODE_STATUS 14 b

/-- A request is held under R49. -/
def State.holdReq (s : State) (code : Nat) : State :=
  { (s.evt Reg.PWR_MODE_EVT 4).setPending true with mode := { s.mode with req := some code, held := true } }

/-! ## The train: arming, stopping and restarting (R23, R54) -/

/-- The first block whose Tn lies ahead on the time counter (R22, R24). -/
def State.nextTm (s : State) : Nat := ((s.now + 1 - s.blk.t0) * s.blk.fr + s.blk.b * 1000000000 - 1) / (s.blk.b * 1000000000)

/-- The sequencer is armed once the preparation has ended, the DRAM is ready and M_APP is not on FOSC (R23, R480, R505); after an
automatic start the service sees to the comparator (R528). A realigned train resumes at the next Tm instead (R24). -/
def State.tryArm (s : State) : State :=
  if renders s.pmode ∧ s.phase = 4 ∧ !s.blk.prep ∧ !s.blk.armed ∧ s.blk.next.isNone ∧ !s.running ∧ s.dramReady ∧ !s.bitR Reg.CLK_STATUS 10 then
    if s.blk.realign then { s with blk := { s.blk with realign := false, next := some s.nextTm } } else
    let r := s.rowFor s.pmode
    let s1 : State := { s with blk := { s.blk with armed := true, fr := r.fr, b := r.b }, mode := { s.mode with objects := r.objects } }
    if !s1.mode.auto then s1
    else if s1.servo = 1 ∨ s1.servo = 3 then { s1 with mode := { s1.mode with auto := false, autoWait := true } }
    else s1.armStart (decide (s1.servo = 0))
  else s

/-- A mode with a train is entered from one without: the train is armed (R51). DESIGN CHOICE (assumption 61): only a restart clears
what a train leaves, so one started from TRAIL finds the cell state and the rings of the last train. -/
def State.enterRender (s : State) (code cause : Nat) : State :=
  (((s.modeNote code cause 0).setMode code).setPhase 4).tryArm

/-- An armed train that has not started is given up. -/
def State.disarmTrain (s : State) : State :=
  { s with blk := { s.blk with armed := false, prep := false, realign := false, next := none, fb := none }, mode := { s.mode with autoWait := false, auto := false } }

/-- The train stops at block `m` (R54 steps 1 to 3). -/
def State.stopAt (s : State) (m dest cause det : Nat) (restart realign : Bool) : State :=
  let s1 := ((s.modeNote dest cause det).setPhase 3).setFld Reg.PWR_MODE_STATUS 4 4 dest
  let s2 := s1.when restart fun s => ((s.count Reg.PWR_RESTART_COUNT 1).evt Reg.PWR_MODE_EVT 1).moveGnt (s.rowFor dest).objects
  { s2 with mode := { s2.mode with stop := some ⟨m, dest, cause, restart, realign⟩ } }

/-- The bytes that a restart clears (R54): delay store, FIR history, cell state, and read-only words of the mixer tables. -/
def restartClears (a : Nat) : Bool :=
  (decide (0x04000000 ≤ a) && decide (a < 0x05000000)) || (decide (0x05800000 ≤ a) && decide (a < 0x05C80000)) ||
    (decide (0x06900000 ≤ a) && decide (a < 0x06A80000)) ||
    (match mixRow? a with
      | some r => r.ro.contains ((a - r.lo) % r.size / 4)
      | none => false)

/-- What a train leaves behind is cleared: cells, history, Brim and dynamics, delay store and far tier; the cores' data
regions are written again from the image (R54, R191). -/
def State.clearRender (s : State) : State :=
  let far (a : Nat) : Bool := s.regions.any fun r => decide (r.kind = 2) && decide (r.base ≤ a) && decide (a < r.base + r.size)
  let s1 : State := { s with
    sram := Store.clear restartClears s.sram
    dram := if s.dramReady then Store.clear far s.dram else s.dram
    drc := if s.dramReady then { s.drc with bad := s.drc.bad.filter fun b => !far (b.unit * 64) } else s.drc
    sramBad := s.sramBad.filter fun b => !([0, 2, 6].contains b.array)
    rnd := {}
    fir := { s.fir with next := [], part := [], oldRegs := [], stopped := [], cycles := 0 }
    mix := { s.mix with bus := [], busOld := [], busOld2 := [], brimG := [], route := none, route2 := none, portIn := [], gains := [], firOut := [], brimOut := [], ovrOut := [], lateLast := []
                        outBlk := none, portOut := [], liveHist := [] }
    geo := { s.geo with snaps := [], stopped := [], prev := [], desc := [] }
    cores := s.cores.map fun (c : Nat × CoreSt) => (c.1, if s.halted c.1 then c.2 else {}) }
  match s1.active 8 with
  | some g => s1.each (List.range 32) fun s c => s.putData g c
  | none => s1

/-- The end of a train at Sm+3, without the mode that follows (R54 step 3, R140): tasks of its last blocks leave nothing behind, and
MIX_STATUS shows no program that runs (R180), and what enters an output bridge is zero. DESIGN CHOICE (assumption 91): a stop without a restart ends fades as a restart does. -/
def State.endTrain (s : State) : State :=
  let s1 := (((s.fadesEnd.fadesDiscard).schStop.setBit Reg.RND_BLK_STATUS 0 false).setReg Reg.MIX_STATUS 0).ovrStop
  { s1 with
    mode := { s1.mode with stop := none }
    blk := { s1.blk with armed := false, next := none, lateRun := 0 }
    fir := { s1.fir with oldRegs := [], part := [], stopped := [] }
    mix := { s1.mix with bridges := s1.mix.bridges.map fun (e : Nat × BridgeSt) =>
      (e.1, if s1.bitR (Reg.MIX_BRG_STAT e.1) 30 then e.2 else { e.2 with inp := [] }) }
    twin := { s1.twin with live := none, strFrom := none, cWait := [], aWait := [], aGot := [] } }

/-- A set whose shadow was taken at Sm is in force (R255), or the active set that failed is gone (R256). -/
def State.settleSets (s : State) : State :=
  if !s.activeOk then { s with cfg := { s.cfg with active := [], coming := [], comingCar := [], comingRegs := [] } }
  else if !s.cfg.coming.isEmpty then (s.swapApply 0 false).placeShadow else s

/-- The train has run out at Sm+3: the new mode, or the preparation of a restart (R54 steps 3 and 4). -/
def State.gapStart (s : State) (st : StopInfo) : State :=
  let s0 := (s.measStop 7).endTrain
  let s1 := s0.settleSets
  if st.restart then
    let s2 := (((s1.holdPairs s0).setMode st.dest).setPhase 4).clearRender
    { s2 with blk := { s2.blk with prep := true, realign := st.realign, base := 0 } }
  else
    let s2 := (s1.setMode st.dest).setPhase 0
    s2.when (decide (st.dest = 11) && decide (st.cause = 5)) State.appFault

/-- A restart where no train runs: its steps from 4 on (R54). -/
def State.restartIdle (s : State) (dest cause det : Nat) : State :=
  let s1 := ((s.modeNote dest cause det).count Reg.PWR_RESTART_COUNT 1).evt Reg.PWR_MODE_EVT 1
  let s0 := (s1.measStop 7).disarmTrain.endTrain
  let s2 := ((s0.settleSets.holdPairs s0).moveGnt (s.rowFor dest).objects).setMode dest
  let s3 := (s2.setPhase 4).clearRender
  { s3 with blk := { s3.blk with prep := true, base := 0 } }

/-- A transition from a mode with a train, or at once where the train does not run. -/
def State.goOrStop (s : State) (dest cause det : Nat) (restart : Bool) : State :=
  if s.running then s.stopAt s.blk.n dest cause det restart false
  else if restart then s.restartIdle dest cause det
  else if s.blk.fb.isSome then (s.disarmTrain.endTrain.settleSets).goMode dest cause det
  else (s.disarmTrain).goMode dest cause det

/-- RESTART_PREP_DONE (R54): the sequencer arms the new train. -/
def execRestartPrepDone (s : State) : Out :=
  .next (if s.appOn ∧ s.blk.prep then ({ s with blk := { s.blk with prep := false } } : State).tryArm else s)

/-! ## Requests (R49, R51, R53, R292) -/

/-- Whether R51 or a sentence below it says what a request does in a mode. -/
def reqKnown (m code : Nat) : Bool :=
  match m with
  | 2 => decide (code = 0) || (decide (4 ≤ code) && decide (code ≤ 10)) || decide (code = 3)
  | 3 => decide (code = 11)
  | 10 | 11 => decide (code = 2) || decide (code = 3)
  | 1 => true
  | 0 => false
  | _ => decide (code = 2) || decide (code = 11) || decide (code = 0) || decide (code = 3) || decide (code = 10) ||
      (decide (4 ≤ code) && decide (code ≤ 9) && decide (code ≠ m))

/-- Contacts asserted: debounced inputs, and a pair as its even one, which keeps its last action while the two are equal (R275). -/
def State.contactsOn (s : State) : List Nat :=
  (List.range 8).filter fun i =>
    if s.bitR Reg.GNT_ALM_CFG (16 + i / 2) then decide (i % 2 = 0) && nth s.gnt.acted i false else nth s.gnt.deb i false

/-- SLEEP_OK: QUIET, no contact asserted, no player or tone running, no open record. -/
def State.sleepOk (s : State) : Bool :=
  decide (s.astate = 0) && s.contactsOn.isEmpty && s.log.opened.isNone && !(s.gnt.tones.any fun t => t.run) &&
    !((List.range 16).any fun p => s.bitR (Reg.GNT_PLY_STAT p) 31)

/-- PLAN_CRC of a set (R292). -/
def planOf (l : List Section) : Nat :=
  crc32 ([3, 4, 5, 6, 7, 8, 9, 10, 16].flatMap fun t => leBytes 4 (match l.find? fun x => decide (x.ty = t) with
    | some x => x.crc.toNat
    | none => 0))

/-- The partner admits STANDBY with a set: its TWIN section, DUTY, the other seat and an equal PLAN_CRC. -/
def State.admitStandby (s : State) (l : List Section) : Bool :=
  (l.any fun x => decide (x.ty = 0xE)) && s.partnerDuty && (s.bitR Reg.TWN_PARTNER 5 != s.strap.seat) && decide (s.twin.crc = planOf l)

/-- A request for 0x4 to 0x7 is one for STANDBY on a paired unit whose partner is duty. -/
def State.asStandby (s : State) (l : List Section) (code : Nat) : Nat :=
  if 4 ≤ code ∧ code ≤ 7 ∧ s.partnerDuty ∧ (l.any fun x => decide (x.ty = 0xE)) then 9 else code

/-- A code matches a set's MODE; 0x8 needs BALANCED (R45, R51). -/
def codeMatches (l : List Section) (code : Nat) : Bool := decide (modeOf l = (if code = 8 then 4 else code))

/-- LOAD is entered for a request (R51, R249). -/
def State.enterLoad (s : State) (code : Nat) : State :=
  let s1 := ((s.goMode 3 0 0).setFld Reg.PWR_MODE_STATUS 4 4 code)
  s1.loadEntry

/-- A mode that failed to come: the request is refused, and the device goes back to TRAIL (R51, R58). -/
def State.backToTrail (s : State) (err : Nat) : State := (s.refuseReq err).goMode 2 0 0

/-- A request for a rendering mode acted on with a VALID active set; `back`: at the end of WAKE W2. DESIGN CHOICE (assumption 62):
where WAKE W2 ends with a VALID active set that does not match the request, the device goes back to TRAIL with REQ_ERR
MODE_MISMATCH, as LOAD does. -/
def State.enterActive (s : State) (code : Nat) (back : Bool) : State :=
  let c := s.asStandby s.cfg.active code
  let no (s : State) (err : Nat) : State := if back then s.backToTrail err else s.refuseReq err
  if c = 9 then (if s.admitStandby s.cfg.active then s.enterRender 9 0 else no s 6)
  else if codeMatches s.cfg.active c then s.enterRender c 0
  else no s (if back then 4 else 1)

/-- A request in TRAIL. The transition to THERMOS is recorded at its acceptance, while the recorder can still write (R58, R525). -/
def State.reqTrail (s : State) (code : Nat) : State :=
  if code = 0 then
    if !s.contactsOn.isEmpty || !s.pwr.vbat then s.refuseReq 1
    else if !s.sleepOk then s.refuseReq 5
    else
      let s1 := (s.note 2 0x40 ([b8 2] ++ List.replicate 11 0)).setFld Reg.PWR_MODE_STATUS 4 4 0
      { s1.recCommitOpen with mode := { s.mode with sleep := 1 } }
  else if code = 10 then s.goMode 10 0 0
  else if !s.drc.trained then
    if s.alarm then (s.refuseReq 2).holdReq code
    else
      let s1 := s.modeNote 1 0 0
      let s2 := (((s1.setMode 1).setFld Reg.PWR_MODE_STATUS 4 4 code).setPhase 2)
      { s2 with mode := { s2.mode with w2 := none } }
  else if !s.activeOk then (if s.alarm then (s.refuseReq 2).holdReq code else s.enterLoad code)
  else s.enterActive code false

/-- A request in a mode with a train. DESIGN CHOICE (assumption 62): a request for 0x8 in SWIFT, WIDE or DEEP is refused with
MODE_MISMATCH, as one for another rendering mode is. -/
def State.reqRender (s : State) (code : Nat) : State :=
  let m := s.pmode
  if code = 2 ∨ code = 11 then s.goOrStop code 0 0 false
  else if (m = 4 ∧ code = 8) ∨ (m = 8 ∧ code = 4) then s.goOrStop code 0 0 true
  else
    let c := s.asStandby s.cfg.active code
    if c = 9 ∧ 4 ≤ m ∧ m ≤ 7 then (if s.admitStandby s.cfg.active then s.goMode 9 0 0 else s.refuseReq 6)
    else if 4 ≤ c ∧ c ≤ 8 ∧ c ≠ m then s.refuseReq 4
    else s.refuseReq 1

/-- REQ_ERR of a request that the mode it is made in does not decide: GNT_VETO while the Gauntlet is unusable (R268), ALARM for the
modes that R49 names, and else ILLEGAL. -/
def State.reqErr (s : State) (code : Nat) : Nat :=
  if 4 ≤ code ∧ code ≤ 9 ∧ s.bitR Reg.GNT_STATUS 4 then 5
  else if s.alarm && [0, 1, 3, 8, 10].contains code then 2 else 1

/-- The device acts on a request at a boundary. -/
def State.evalReq (s : State) (code : Nat) : State :=
  let m := s.pmode
  let s : State := { s.setPending false with mode := { s.mode with req := none } }
  let err := s.reqErr code
  if err ≠ 1 then s.refuseReq err
  else if m = 2 then (if code ≠ 3 ∧ reqKnown 2 code then s.reqTrail code else s.refuseReq 1)
  else if m = 3 then (if code = 11 then s.goMode 11 0 0 else s.refuseReq 1)
  else if m = 10 ∨ m = 11 then (if code = 2 then s.goMode 2 0 0 else s.refuseReq 1)
  else if renders m then s.reqRender code
  else s.refuseReq 1

/-- A record of R531. -/
def State.pwrNote (s : State) (kind wake : Nat) : State :=
  s.note 2 0x41 ([b8 kind, b8 wake] ++ leBytes 4 (s.reg Reg.PWR_SEC).toNat ++ List.replicate 6 0)

/-- An entry to THERMOS is given up before PWR_EN falls (R525). -/
def State.sleepAbort (s : State) : State :=
  if s.mode.sleep = 1 then
    { ((s.setFld Reg.PWR_MODE_STATUS 4 4 s.pmode).evt Reg.PWR_EVT 7).pwrNote 8 0 with mode := { s.mode with sleep := 0 } }
  else s

/-- A write of PWR_MODE_REQ (R51, R53, R59): a code that no row knows is refused at once unless a transition is in
progress; any other waits for the boundary. A write of THERMOS commits the open record (R460). -/
def State.request (s : State) (ini : Initiator) (code : Nat) : State :=
  let s0 := s.sleepAbort
  let s1 := (s0.setReg Reg.PWR_MODE_REQ (w32 code)).when (decide (code = 0)) State.recCommitOpen
  let s2 : State := { s1.setPending false with mode := { s1.mode with req := none, held := false, auto := s1.mode.auto && decide (ini = Initiator.service) } }
  if s2.phase = 0 then
    if code = 1 ∨ 12 ≤ code ∨ !reqKnown s2.pmode code then s2.refuseReq (s2.reqErr code)
    else { s2 with mode := { s2.mode with req := some code } }
  else { s2.setPending true with mode := { s2.mode with req := some code } }

/-- A request row: a write of PWR_MODE_REQ. -/
def State.requestRow (s : State) (ini : Initiator) (code : Nat) : Out := s.access ini Reg.PWR_MODE_REQ fun s => s.request ini code

/-- REQUEST_THERMOS (R51, R525). -/
def execRequestThermos (ini : Initiator) (s : State) : Out := s.requestRow ini 0

/-- REQUEST_WAKE (R59). -/
def execRequestWake (ini : Initiator) (s : State) : Out := s.requestRow ini 1

/-- REQUEST_TRAIL (R51). -/
def execRequestTrail (ini : Initiator) (s : State) : Out := s.requestRow ini 2

/-- REQUEST_LOAD (R51). -/
def execRequestLoad (ini : Initiator) (s : State) : Out := s.requestRow ini 3

/-- REQUEST_BALANCED (R51). -/
def execRequestBalanced (ini : Initiator) (s : State) : Out := s.requestRow ini 4

/-- REQUEST_SWIFT (R51). -/
def execRequestSwift (ini : Initiator) (s : State) : Out := s.requestRow ini 5

/-- REQUEST_WIDE (R51). -/
def execRequestWide (ini : Initiator) (s : State) : Out := s.requestRow ini 6

/-- REQUEST_DEEP (R51). -/
def execRequestDeep (ini : Initiator) (s : State) : Out := s.requestRow ini 7

/-- REQUEST_MEASURE (R51). -/
def execRequestMeasure (ini : Initiator) (s : State) : Out := s.requestRow ini 8

/-- REQUEST_STANDBY (R292). -/
def execRequestStandby (ini : Initiator) (s : State) : Out := s.requestRow ini 9

/-- REQUEST_MAINTAIN (R51). -/
def execRequestMaintain (ini : Initiator) (s : State) : Out := s.requestRow ini 10

/-- REQUEST_SAFE_HOLD (R57). -/
def execRequestSafeHold (ini : Initiator) (s : State) : Out := s.requestRow ini 11

/-- REQUEST_RESERVED (R59). -/
def execRequestReserved (ini : Initiator) (code : BitVec 2) (s : State) : Out := s.requestRow ini (12 + code.toNat)

/-! ## ALARM (R47 to R50) -/

/-- ALARM starts: the effects of R48 and R50. -/
def State.alarmStart (s : State) : State :=
  let s1 := s.alarmSync.sleepAbort
  let m := s1.pmode
  if m = 8 then s1.measAlarm
  else if m = 3 ∨ m = 10 ∨ (m = 1 ∧ s1.phase = 2) then
    let s2 := s1.when (decide (m = 3)) State.loadAbort
    { s2 with mode := { s2.mode with alarmFx := true, w2 := none } }
  else s1

/-- ALARM ends: a held request may act (R49). -/
def State.alarmEnd (s : State) : State := { s.alarmSync with mode := { s.mode with held := false } }

/-- The effect of an ALARM start at its boundary (R48, R49). -/
def State.alarmAct (s : State) : State :=
  let m := s.pmode
  let s0 : State := { s with mode := { s.mode with alarmFx := false } }
  if m = 3 ∨ m = 10 ∨ (m = 1 ∧ s.phase = 2) then
    let code := s.fldR Reg.PWR_MODE_STATUS 4 4
    let s1 := if m ≠ 10 ∧ s0.mode.req.isNone then
        (if s.astate = 1 ∨ s.astate = 2 then s0.holdReq code
         else { s0.setPending true with mode := { s0.mode with req := some code } })
      else s0
    s1.goMode 2 4 0
  else s0

/-! ## WAKE W2 and LOAD (R51) -/

/-- WAKE W2 ends. -/
def State.w2End (s : State) (ok : Bool) : State :=
  let code := s.fldR Reg.PWR_MODE_STATUS 4 4
  let s1 : State := { s with mode := { s.mode with w2 := none } }
  if !ok then s1.backToTrail 7
  else if s1.activeOk then s1.enterActive code true
  else s1.enterLoad code

/-- LOAD ends on the result of the load. -/
def State.loadDone (s : State) (ok : Bool) : State :=
  let code := s.fldR Reg.PWR_MODE_STATUS 4 4
  let s1 : State := { s with mode := { s.mode with load := none } }
  if !ok then s1.backToTrail 3
  else
    let c := s1.asStandby s1.cfg.shadow code
    if c = 9 ∧ !s1.admitStandby s1.cfg.shadow then s1.backToTrail 6
    else if c ≠ 9 ∧ !codeMatches s1.cfg.shadow c then s1.backToTrail 4
    else ((s1.swapTake 0).swapApply 0 false).enterRender c 0

/-! ## Boundaries (R52) -/

/-- CFG_SWAP and then a request. -/
def State.swapOrReq (s : State) : State :=
  let req (s : State) : State := match s.mode.req with
    | some code => if s.mode.held ∨ s.phase ≠ 0 ∨ s.pmode = 1 then s else s.evalReq code
    | none => s
  match (if s.pmode = 1 ∨ s.pmode = 3 then SwapAct.wait else s.swapJudge s.blk.n) with
  | .restart =>
    let dest := if s.pmode = 9 then 9 else s.shadowMode
    (s.swapTake (if s.running then s.blk.n else 0)).goOrStop dest 3 0 true
  | .go => if s.running then (s.swapBlock s.blk.n).twinSync else ((s.swapTake 0).swapApply 0 false).twinSync
  | .refuse _ | .defer => req (s.swapBlock (if s.running then s.blk.n else 0))
  | .wait => req s

/-- The causes behind a fault: a realign, an ALARM effect, a twin's restart, the ends of WAKE W2 and LOAD, and the others. -/
def State.lesserCause (s : State) (realign : Bool) : State :=
  if realign && s.running then s.stopAt s.blk.n s.pmode 9 0 true true
  else if s.mode.alarmFx then s.alarmAct
  else
    match s.mode.twin with
    | some c => ({ s with mode := { s.mode with twin := none } }).goOrStop (if s.pmode ≠ 9 then s.pmode else if s.twin.measure then 8 else s.nextMode) c 0 true
    | none =>
      match (if s.pmode = 1 then s.mode.w2 else none), (if s.pmode = 3 then s.mode.load else none) with
      | some ok, _ => s.w2End ok
      | none, some ok => s.loadDone ok
      | none, none => s.swapOrReq

/-- The first of the causes that wait acts, in the order of R52; a realign follows a fault. -/
def State.boundary (s : State) (realign : Bool) : State :=
  let fault := match s.mode.fault with
    | some d => some d
    | none => if s.bitR Reg.GNT_STATUS 4 ∧ (s.twin.yield.isNone ∨ s.twin.rampAt.isSome) then some 0 else none
  let s0 : State := { s with mode := { s.mode with fault := none } }
  if s.mode.stop.isSome then s
  else
    match fault with
    | some d => if faultModes s.pmode then s0.goOrStop 11 5 d false else s0.lesserCause realign
    | none => s0.lesserCause realign

/-- The next 1 ms boundary: a whole number of milliseconds that has not acted yet. -/
def State.msNext (s : State) : Nat :=
  let t := (s.now + 999999) / 1000000 * 1000000
  if s.mode.lastMs = some t then t + 1000000 else t

/-- MS_BOUNDARY (R52): 1 ms boundaries count where no train runs. -/
def execMsBoundary (s : State) : Out :=
  let a := s.advanceTo s.msNext
  let s1 : State := { a with mode := { a.mode with lastMs := some s.msNext } }
  .next (if s1.held || s1.running then s1 else s1.boundary false)

end Sys2Proof.Machine
end

