-- ==== Sys2Proof/Machine/Clocks.lean ====
section
/-!
DEFINITION. Clock generation and supervision (R473 to R493): locks, monitors, forced switches and returns, the block
enables and the FOSC trim.
-/
namespace Sys2Proof.Machine

/-! ## Records (R489, R490) -/

/-- A record of R490. -/
def State.clkNote (s : State) (kind mux : Nat) : State := s.note 3 0x40 ([b8 kind, b8 mux, 0, 0] ++ s.blkBytes ++ [0, 0])

/-- A bit of CLK_EVT whose first setting is recorded (R490). -/
def State.clkRefuse (s : State) (bit kind : Nat) : State :=
  s.evtFirst Reg.CLK_EVT bit 3 0x40 ([b8 kind, 0, 0, 0] ++ s.blkBytes ++ [0, 0])

/-- The data of R489. -/
def State.clkData (s : State) (kind mask : Nat) : List Byte :=
  [b8 kind, b8 mask, b8 ((s.bitR Reg.CLK_STATUS 9).toNat + 2 * (s.bitR Reg.CLK_FTRIM 16).toNat), b8 (s.fldR Reg.CLK_FTRIM 2 8)] ++
    s.blkBytes ++ leBytes 2 (s.fldR Reg.CLK_FTRIM_ERR 0 16)

/-- A detector of this chapter is raised. -/
def State.clkRaise (s : State) (det kind mask : Nat) : State := s.raiseDet det 3 (s.clkData kind mask)

/-- A trip is counted; FORCED sets where it moved a multiplexer. -/
def State.clkTrip (s : State) (forced : Bool) : State :=
  (s.count Reg.CLK_FB_COUNT 1).when forced fun s => s.evt Reg.CLK_EVT 0

/-! ## The DRAM hold (R506) -/

/-- The controller repays its debts and holds its devices in self-refresh with their contents. -/
def State.dramHold (s : State) : State :=
  if s.service = 1 ∨ s.service = 2 then
    { (s.setReg Reg.DRC_DEBT 0).setFld Reg.DRC_STATUS 1 2 3 with drc := { s.drc with heldSvc := s.service } }
  else s

/-- It takes its service up again; full service begins with initialisation where segments were lost (R505). -/
def State.dramUnhold (s : State) : State :=
  if s.service = 3 ∧ s.drc.heldSvc = 1 ∧ s.drc.lost ≠ 0 then { s.dramFull with drc := { s.dramFull.drc with heldSvc := 0 } }
  else if s.service = 3 then { s.setFld Reg.DRC_STATUS 1 2 s.drc.heldSvc with drc := { s.drc with heldSvc := 0 } } else s

/-- SELF_REFRESH_HOLD_END (R506): DPLL has held lock for 10 µs; a power-fail warning holds the controller longer (R519). -/
def execSelfRefreshHoldEnd (s : State) : Out :=
  .next (if s.bitR Reg.CLK_STATUS 5 ∧ !s.bitR Reg.PWR_STATUS 8 then s.dramUnhold else s)

/-! ## M_APP (R480 to R482) -/

/-- M_APP changes to FOSC: the sequencer stops, a duty unit that may yield freezes, and a transition that waited for Sm+3
is complete (R480, R481). -/
def State.appForced (s : State) : State :=
  if s.bitR Reg.CLK_STATUS 10 then s
  else
    let s1 := (s.setBit Reg.CLK_STATUS 10 true).snsStop.servoLost
    if s1.running then
      let s2 := s1.when s1.yieldMay fun s => s.freeze 7
      let k := match s2.mix.outBlk with
        | some m => m + 1
        | none => 0
      let s3 : State := (s2.setBit Reg.RND_BLK_STATUS 0 false).schStop
      let s4 : State := { s3 with blk := { s3.blk with next := none, armed := false, fb := some (k, true) } }
      match s4.mode.stop with
      | some st => s4.gapStart st
      | none => s4
    else { s1.disarmTrain with mode := s1.mode }

/-- A train that a forced switch stopped, or that waited, is restarted from step 4 of R54 (R482). -/
def State.appRestart (s : State) : State :=
  let m := s.pmode
  let s1 := ((s.modeNote m 5 7).count Reg.PWR_RESTART_COUNT 1).evt Reg.PWR_MODE_EVT 1
  let s2 := (((s1.measStop 7).disarmTrain.endTrain.settleSets).setPhase 4).clearRender
  { s2 with blk := { s2.blk with prep := true, base := 0 } }

/-- APP_RETURN (R482): XA_OK, and ROOT has held LOCK for 100 µs. -/
def execAppReturn (s : State) : Out :=
  .next (if s.bitR Reg.CLK_STATUS 10 ∧ s.bitR Reg.CLK_STATUS 0 ∧ s.bitR Reg.CLK_STATUS 4 then
      let s1 := ((s.setBit Reg.CLK_STATUS 10 false).clkNote 1 0).snsRun
      if renders s1.pmode then s1.appRestart else s1
    else s)

/-- ROOT_RELOCK_TIMEOUT (R57): 2 ms after the switch, M_APP is still on FOSC. -/
def execRootRelockTimeout (s : State) : Out :=
  .next (if s.bitR Reg.CLK_STATUS 10 ∧ !s.clk.rootHeld then s.fatal 7 else s)

/-! ## M_GNT and M_DPLL (R265, R475, R483) -/

/-- M_GNT changes to FOSC: GNT_FAULTS.CLK. -/
def State.gntForced (s : State) : State :=
  if s.bitR Reg.CLK_STATUS 11 then s else (s.setBit Reg.CLK_STATUS 11 true).gntFault 7

/-- GPLL_RETURN (R265): GPLL has stayed locked for 10 ms, at a domain-G sample boundary. The first one after PWR_GOOD ends no
fallback, and is not recorded. -/
def execGpllReturn (s : State) : Out :=
  .next (if s.bitR Reg.CLK_STATUS 11 ∧ s.bitR Reg.CLK_STATUS 8 ∧ s.bitR Reg.CLK_STATUS 0 then
    (s.setBit Reg.CLK_STATUS 11 false).when (!s.gnt.powerOn) fun s => s.clkNote 1 1 else s)

/-- DPLL_RETURN (R483): XA has run for 10 ms. -/
def execDpllReturn (s : State) : Out :=
  .next (if s.bitR Reg.CLK_STATUS 12 ∧ s.bitR Reg.CLK_STATUS 0 then
    ((s.setBit Reg.CLK_STATUS 12 false).clkNote 1 2).dramHold else s)

/-! ## Locks (R474) -/

/-- The CLK_STATUS bit of a PLL's lock. -/
def lockBit : Pll → Nat
  | .root => 4
  | .dpll => 5
  | .spllE => 6
  | .spllF => 7
  | .gpll => 8

/-- PLL_LOCK (R474); ROOT's first lock after PWR_GOOD moves M_APP from FOSC to ROOT (R527), and a lock of ROOT
starts the sensing clocks that its loss stopped (R339). -/
def execPllLock (p : Pll) (s : State) : Out :=
  let s1 := s.setBit Reg.CLK_STATUS (lockBit p) true
  .next (if !s.pwr.good then s else match p with
    | .root =>
      if s1.clk.rootHeld then
        (({ s1 with clk := { s1.clk with rootHeld := false, rootStop := false } } : State).setBit Reg.CLK_STATUS 10 false).snsRun
      else
        ({ s1 with clk := { s1.clk with rootStop := false } } : State).snsRun
    | _ => s1)

/-- PLL_UNLOCK (R474): ROOT forces M_APP while its monitor is armed, and GPLL forces M_GNT (R475). -/
def execPllUnlock (p : Pll) (s : State) : Out :=
  .next (if !s.bitR Reg.CLK_STATUS (lockBit p) then s
    else
      let s1 := (s.setBit Reg.CLK_STATUS (lockBit p) false).evt Reg.CLK_EVT 1
      match p with
      | .root =>
        let force := s1.clk.rootArmed && !s1.bitR Reg.CLK_STATUS 10
        let s2 := s1.clkRaise 7 2 force.toNat
        if force then (s2.evt Reg.CLK_EVT 0).appForced else s2.snsStop.servoLost
      | .gpll => if s1.bitR Reg.CLK_STATUS 11 then s1 else (s1.evt Reg.CLK_EVT 0).gntForced
      | _ => s1)

/-! ## Start-up and FOSC (R473, R478, R527) -/

/-- FOSC_READY: FOSC comes within ±3 %; the boot ROM of the Gauntlet starts and the application side leaves the start-up
reset, on FOSC until ROOT locks; domain G runs from FOSC until GPLL has been locked for 10 ms (R265). -/
def execFoscReady (s : State) : Out :=
  .next (if s.bitR Reg.CLK_STATUS 9 ∨ !s.pwr.good then s
    else
      let s1 := ((s.setBit Reg.CLK_STATUS 9 true).setBit Reg.CLK_STATUS 10 (!s.bitR Reg.CLK_STATUS 4)).setBit Reg.CLK_STATUS 11 true
      let s2 : State := { s1 with
        pwr := { s1.pwr with appHold := false }
        gnt := if s1.gnt.phase = 1 then { s1.gnt with phase := 2 } else s1.gnt }
      s2)

/-- FOSC_NOT_READY (R478): FOSC is not ready 200 µs after a monitor's trip; detector 0x08 with kind 6, whose record follows once the
Gauntlet runs. -/
def execFoscNotReady (s : State) : Out :=
  .next (if s.bitR Reg.CLK_STATUS 9 ∨ !s.pwr.good ∨ s.fldR Reg.CLK_STATUS 10 4 = 0 then s
    else
      let s1 := (s.detBit 8).evt Reg.CLK_EVT 2
      { s1 with clk := { s1.clk with fosc6 := true }, pwr := { s1.pwr with appHold := true } })

/-- The record of R478 once the Gauntlet runs. -/
def State.foscRecord (s : State) : State :=
  if s.clk.fosc6 then ({ s with clk := { s.clk with fosc6 := false } } : State).note 3 8 (s.clkData 6 0) else s

/-! ## Monitors (R477, R483, R484) -/

/-- XA_MONITOR_TRIP: M_APP, M_GNT and M_DPLL are forced. -/
def execXaMonitorTrip (s : State) : Out :=
  .next (if !s.bitR Reg.CLK_STATUS 0 then s
    else
      let mask := (!s.bitR Reg.CLK_STATUS 10).toNat + 2 * (!s.bitR Reg.CLK_STATUS 11).toNat + 4 * (!s.bitR Reg.CLK_STATUS 12).toNat
      let s1 := ((s.setBit Reg.CLK_STATUS 0 false).clkTrip (decide (mask ≠ 0))).clkRaise 5 1 mask
      let s2 := s1.appForced.gntForced
      if s2.bitR Reg.CLK_STATUS 12 then s2 else (s2.setBit Reg.CLK_STATUS 12 true).dramHold)

/-- A Bievo port loses its lock. -/
def State.portLost (s : State) (p : Nat) : State :=
  let st := s.portState p
  if st = 3 then s.portFail p 1
  else if st = 1 ∨ st = 2 then (s.setBvlP p { s.bvlP p with wait := true }).portTo p 0
  else if st = 4 then s.portTo p 0
  else s

/-- Every Ethernet port, Bievo port and Twin link lane loses lock (R483, R521). -/
def State.linksDown (s : State) : State :=
  let s1 := s.each [0, 1] fun s p => s.linkSet p false
  (s1.each (List.range 6) State.portLost).setBit Reg.TWN_STATUS 12 false

/-- XB_MONITOR_TRIP (R483): M_SDS is forced to XA, and every link retrains. -/
def execXbMonitorTrip (s : State) : Out :=
  .next (if !s.bitR Reg.CLK_STATUS 1 then s
    else
      let mask := 8 * (!s.bitR Reg.CLK_STATUS 13).toNat
      let s1 := ((s.setBit Reg.CLK_STATUS 1 false).clkTrip (decide (mask ≠ 0))).clkRaise 6 1 mask
      if mask = 0 then s1 else (s1.setBit Reg.CLK_STATUS 13 true).linksDown)

/-- ROOT_MONITOR_TRIP: M_APP is forced. -/
def execRootMonitorTrip (s : State) : Out :=
  .next (if !s.clk.rootArmed then s
    else
      let mask := (!s.bitR Reg.CLK_STATUS 10).toNat
      let s1 := (s.clkTrip (decide (mask ≠ 0))).clkRaise 7 1 mask
      ({ s1 with clk := { s1.clk with rootArmed := false, rootStop := true } } : State).appForced)

/-- The master pairs of G0 to G21 that take AUD_MCLKn. -/
def State.mclkPairs (s : State) (n : Nat) : List Nat :=
  (List.range 44).filter fun i =>
    let c := s.reg (pairCfgReg i)
    bitOf c 31 && bitOf c 30 && decide (fld c 28 2 = 1 + n)

/-- A RATE of the 44.1 kHz family. -/
def rate441 (c : Nat) : Bool := decide (c = 1) || decide (c = 3) || decide (c = 5)

/-- A pair of the input changes its clock: one of the 48 kHz family restarts, one of the 44.1 kHz family stops or comes back
(R484); a master pair is never LOST (R330), and the entries of a stopped one say so. -/
def State.mclkPair (s : State) (lost : Bool) (i : Nat) : State :=
  let p := s.pairSt i
  if rate441 (s.fldR (pairCfgReg i) 24 3) ∧ lost then
    let s1 := s.setPair i { p with halt := true, cur := { p.cur with flags := p.cur.flags ||| 1 } }
    if s.domOf i = 1 then s1.pairUnlock i else s1
  else s.setPair i { p with skip := true, halt := false }

/-- MCLK_MONITOR_TRIP (R484). -/
def execMclkMonitorTrip (n : Bool) (s : State) : Out :=
  let k := n.toNat
  .next (if !s.bitR Reg.CLK_STATUS (2 + k) then s
    else
      let s1 := (s.setBit Reg.CLK_STATUS (2 + k) false).count Reg.CLK_FB_COUNT 1
      if s1.bitR Reg.CLK_STATUS (14 + k) then s1
      else
        let s2 := (((s1.setBit Reg.CLK_STATUS (14 + k) true).evt Reg.CLK_EVT 0).evt Reg.CLK_EVT 3).clkNote 2 (4 + k)
        s2.each (s2.mclkPairs k) fun s i => s.mclkPair true i)

/-- MCLK_RETURN (R484): the input runs and its monitor is armed again. -/
def execMclkReturn (n : Bool) (s : State) : Out :=
  let k := n.toNat
  .next (if s.bitR Reg.CLK_STATUS (14 + k) ∧ s.bitR Reg.CLK_STATUS (2 + k) then
      let s1 := (s.setBit Reg.CLK_STATUS (14 + k) false).clkNote 1 (4 + k)
      s1.each (s1.mclkPairs k) fun s i => s.mclkPair false i
    else s)

/-- MONITOR_ARM (R477): 16 consecutive periods, while its bit of CLK_MON_EN is 1 and its input is used; ROOT's show that it runs. -/
def execMonitorArm (m : Monitor) (s : State) : Out :=
  .next (if !s.pwr.good then s else match m with
    | .xa => s.setBit Reg.CLK_STATUS 0 true
    | .xb => s.setBit Reg.CLK_STATUS 1 true
    | .root => { s with clk := { s.clk with rootArmed := s.clk.rootArmed || s.bitR Reg.CLK_MON_EN 2, rootStop := false } }
    | .mclk0 => if s.bitR Reg.CLK_MON_EN 3 ∧ 0 < s.clk.mclkHz.1 then s.setBit Reg.CLK_STATUS 2 true else s
    | .mclk1 => if s.bitR Reg.CLK_MON_EN 4 ∧ 0 < s.clk.mclkHz.2 then s.setBit Reg.CLK_STATUS 3 true else s)

/-- MUX_HUNG (R476): a switch of M_MCLK0 or M_MCLK1 has waited 1 ms for a stopped clock that no armed monitor covers. -/
def execMuxHung (mux : BitVec 3) (s : State) : Out :=
  let i := mux.toNat
  .next (if (i = 4 ∨ i = 5) ∧ !s.bitR Reg.CLK_MUX_STAT (8 + i) ∧ !s.bitR Reg.CLK_STATUS (i - 2) then
      (((s.setBit Reg.CLK_MUX_STAT i true).setBit Reg.CLK_MUX_STAT (8 + i) true).evt Reg.CLK_EVT 4).clkNote 3 i
    else s)

/-- A write of CLK_CMD (R483). -/
def State.clkCmd (s : State) (v : Word) : State :=
  if !bitOf v 0 then s
  else if !s.bitR Reg.CLK_STATUS 1 then s.clkRefuse 6 5
  else if s.bitR Reg.CLK_STATUS 13 then ((s.setBit Reg.CLK_STATUS 13 false).clkNote 1 3).linksDown
  else s

/-- SDS_RETURN (R483). -/
def execSdsReturn (ini : Initiator) (s : State) : Out := s.access ini Reg.CLK_CMD fun s => s.clkCmd 1

/-! ## Block enables (R485) -/

/-- The bits of CLK_EN that a write of 0 may not clear now. -/
def State.enFixed (s : State) : Nat :=
  (if s.running then 0x3F else 0) ||| (if s.twinSect.isSome then 0x800 else 0) |||
    (if s.pmode = 2 ∨ s.pmode = 10 ∨ s.pmode = 11 then 0 else 0x1000)

/-- A write of CLK_EN: refused bits keep their value, and the others apply. -/
def State.clkEn (s : State) (v : Word) : State :=
  let keep := w32 s.enFixed &&& s.reg Reg.CLK_EN &&& (v ^^^ 0xFFFFFFFF)
  (s.clkEnPut (v ||| keep).toNat).when (decide (keep ≠ 0)) fun s => s.clkRefuse 5 4

/-- CLK_EN_WRITE (R485). -/
def execClkEnWrite (ini : Initiator) (v : Word) (s : State) : Out := s.access ini Reg.CLK_EN fun s => s.clkEn v

/-! ## The FOSC trim (R487, R488) -/

/-- A write of CLK_FTRIM: CODE is accepted in MAINTAIN while MANUAL is 1. -/
def State.trimCode (s : State) (v : Word) : State :=
  if s.pmode = 10 ∧ s.bitR Reg.CLK_FTRIM_CFG 15 then s.setFld Reg.CLK_FTRIM 0 10 (fld v 0 10) else s.clkRefuse 6 5

/-- FOSC_TRIM_CODE_WRITE (R488). -/
def execFoscTrimCodeWrite (ini : Initiator) (v : Word) (s : State) : Out := s.access ini Reg.CLK_FTRIM fun s => s.trimCode v

/-- The count a window expects. -/
def trimExpect (ref : Nat) : Nat := if ref = 4 then 98304000 else 98304

/-- The code after a window of `n` counts. -/
def trimNext (code e n : Nat) : Nat :=
  let d := max (-8) (min 8 (rndDiv (((e : Int) - n) * 16384) e))
  (min (max ((code : Int) + d) 0) 1023).toNat

/-- TRIM_WINDOW (R487, R488): a window that completes gives the error, the lock and, unless MANUAL is 1, the next code; one
whose reference failed is discarded. -/
def execTrimWindow (count : Nat) (lost : Bool) (s : State) : Out :=
  let ref := s.fldR Reg.CLK_FTRIM_CFG 0 3
  .next (if ref = 0 ∨ 4 < ref then s
    else if lost then s.setBit Reg.CLK_FTRIM 17 true
    else
      let e := trimExpect ref
      let err := ((e : Int) - count).natAbs
      let locked := s.bitR Reg.CLK_FTRIM 16
      let inside := decide (err * 4096 ≤ e)
      let good := if inside then min 4 (s.clk.goodRun + 1) else 0
      let bad := if inside then 0 else min 4 (s.clk.badRun + 1)
      let lock := if good = 4 then true else if bad = 4 then false else locked
      let man := s.bitR Reg.CLK_FTRIM_CFG 15
      let code := if man then s.fldR Reg.CLK_FTRIM 0 10 else trimNext (s.fldR Reg.CLK_FTRIM 0 10) e count
      let s1 := (((s.setBit Reg.CLK_FTRIM 17 false).setBit Reg.CLK_FTRIM 16 lock).setFld Reg.CLK_FTRIM 0 10 code).setReg
        Reg.CLK_FTRIM_ERR (w32 (toBits 16 (satN 16 (rndDiv (((count : Int) - e) * 1000000) e))))
      let far := locked && decide (e < 200 * err)
      let limit := !man && (decide (code = 0) || decide (code = 1023))
      let s2 : State := { s1 with clk := { s1.clk with goodRun := good, badRun := bad, range := far || limit } }
      if (far || limit) && !s.clk.range then (s2.evt Reg.CLK_EVT 2).clkRaise 8 (if far then 4 else 5) 0 else s2)

end Sys2Proof.Machine
end

