-- ==== Sys2Proof/Machine/Power.lean ====
section
/-!
DEFINITION. Power, reset and start-up (R514 to R532): the power-on signal, RESET_N and the critical hold, the power-fail
warning, supply and temperature supervision, the Thermos island, and the end of an entry to THERMOS.
-/
namespace Sys2Proof.Machine

/-! ## The power-on signal (R516, R520, R527) -/

/-- The island's registers (R532). -/
def isIsland (a : Nat) : Bool := decide (0x100300 ≤ a) && decide (a < 0x100380)

/-- A state in which only the island, the flashes, the fuses, the straps and the DRAM cells are left. -/
def State.unpowered (s : State) : State :=
  { pending := s.pending, out := s.out, freeCtr := s.freeCtr, gflash := s.gflash, boot := s.boot, dram := s.dram
    gnt := { cnt := s.gnt.cnt, keep := s.gnt.keep }
    fuse := { s.fuse with busy := none, dbgBusy := false }, strap := s.strap, pwr := s.pwr
    regs := Store.clear (fun a => !isIsland a) s.regs
    drc := { lost := s.drc.lost, bad := s.drc.bad } }

/-- The power-on signal falls: everything outside the island is reset; the device is in THERMOS while VBAT is present. A
fall that completes an entry to THERMOS keeps what was latched since PWR_EN fell; any other clears PWR_WAKE_CAUSE. -/
def State.powerDown (s : State) (why : Nat) (vbat : Bool) : State :=
  let sleep := s.mode.sleep
  let s1 := s.unpowered
  let s2 := if sleep = 2 then s1 else s1.setReg Reg.PWR_WAKE_CAUSE 0
  let s3 := s2.setReg Reg.PWR_MODE_STATUS 0
  { s3 with pwr := { s3.pwr with
      good := false, resetN := false, appHold := true, vbat := vbat, thermos := vbat
      lastDown := if sleep = 2 then 2 else why } }

/-- PWR_GOOD_FALL (R520). -/
def execPwrGoodFall (vbat : Bool) (s : State) : Out := .next (if s.pwr.good then s.powerDown 1 vbat else s)

/-- VDD_GNT_BROWN_OUT (R516). -/
def execVddGntBrownOut (vbat : Bool) (s : State) : Out := .next (if s.pwr.good then { s.powerDown 5 vbat with
  pwr := { (s.powerDown 5 vbat).pwr with lastDown := 5 } } else s)

/-- The recorder takes its region and window from the directory of the Gauntlet flash (R454, R467). -/
def State.recStart (s : State) : State :=
  let d := s.gflashBytes 0 64
  let e := dirEntry d 3
  s.recPowerOn (e.1 / 64) e.2.1 (leAt d 52 4) (dirValid d 3)

/-- The power-on signal rises: a power-on reset of everything, the island's wake cause, the segments that the retention
memory marks as kept (R505, R526, R527), and the record of the transition from THERMOS to WAKE (R51, R58). -/
def State.powerUp (s : State) : State :=
  let why := s.pwr.lastDown
  let k := s.reg (Reg.PWR_RET0 0)
  let s1 := s.unpowered
  let s2 : State := { s1 with
    pwr := { s1.pwr with good := true, resetN := false, appHold := true, pwrEn := true, thermos := false, wakeLatch := 0, autoDue := true }
    drc := { s1.drc with lost := if bitOf k 24 then 0xFF - fld k 0 8 else 0xFF } }
  let s3 := (s2.setReg Reg.PWR_RST_CAUSE (w32 why)).recStart
  let cause := if why = 2 then 2 else 1
  let s4 := ((s3.setBit Reg.TWN_STATUS 0 s3.strap.seat).setFld Reg.PWR_MODE_CAUSE 8 4 cause).note 2 0x40
    ([0, 1, b8 cause] ++ List.replicate 9 0)
  if why = 0 then s4
  else
    let s5 := if s.pwr.thermos then s4.setBit Reg.PWR_WAKE_CAUSE 0 true else s4
    (s5.evt Reg.PWR_EVT 1).pwrNote 5 (s5.reg Reg.PWR_WAKE_CAUSE).toNat

/-- PWR_GOOD_RISE (R527). -/
def execPwrGoodRise (s : State) : Out := .next (if s.pwr.good then s else s.powerUp)

/-! ## Wake events and the island (R523 to R526) -/

/-- A wake event of the island: it aborts an entry to THERMOS, is latched after PWR_EN has fallen, and in THERMOS raises
PWR_EN and sets its bit. Whether an event that follows the first one falls in the same SOSC period is a free value. -/
def State.wake (s : State) (bit : Nat) : State :=
  let set (s : State) : State := s.setBit Reg.PWR_WAKE_CAUSE bit true
  if s.pwr.good then
    if s.mode.sleep = 1 then s.sleepAbort
    else if s.mode.sleep = 2 then { s with pwr := { s.pwr with wakeLatch := s.pwr.wakeLatch ||| 2 ^ bit } }
    else s
  else if s.pwr.thermos then
    if s.pwr.wakeLatch ≠ 0 then { s with pwr := { s.pwr with wakeLatch := s.pwr.wakeLatch ||| 2 ^ bit } }
    else set { s with pwr := { s.pwr with pwrEn := true, thermos := false } }
  else if s.reg Reg.PWR_WAKE_CAUSE &&& 0x1F ≠ 0 ∧ s.pwr.vbat then (if s.freeNat % 2 = 1 then set s.draw else s.draw)
  else s

/-- LATCHED_WAKE_RAISE (R525): PWR_GOOD has been low for 10 ms. -/
def execLatchedWakeRaise (s : State) : Out :=
  .next (if !s.pwr.good ∧ s.pwr.thermos ∧ s.pwr.wakeLatch ≠ 0 then
      { s.setReg Reg.PWR_WAKE_CAUSE (s.reg Reg.PWR_WAKE_CAUSE ||| w32 s.pwr.wakeLatch) with
        pwr := { s.pwr with pwrEn := true, thermos := false, wakeLatch := 0 } }
    else s)

/-- SLEEP_TIMEOUT (R525): PWR_GOOD has not fallen within 100 ms; the device stays in TRAIL. -/
def execSleepTimeout (s : State) : Out :=
  .next (if s.pwr.good ∧ s.mode.sleep = 2 then
      let s1 : State := { s with
        pwr := { s.pwr with pwrEn := true, wakeLatch := 0 }
        mode := { s.mode with sleep := 0 } }
      ((s1.setFld Reg.PWR_MODE_STATUS 4 4 s1.pmode).evt Reg.PWR_EVT 7).pwrNote 8 0
    else s)

/-- THERMOS_QUEUE_DRAINED (R525): self-refresh, the retention words, and PWR_EN falls. -/
def execThermosQueueDrained (s : State) : Out :=
  .next (if s.mode.sleep = 1 ∧ s.log.queue.isEmpty ∧ s.log.opened.isNone then
      let s1 := s.when s.drc.trained fun s => s.selfRefresh true
      let cfg := s1.reg Reg.GNT_ALM_CFG
      let w := (s1.setFld (Reg.PWR_RET0 0) 8 8 (fld cfg 8 8)).setFld (Reg.PWR_RET0 0) 16 8 (fld cfg 24 8)
      let s2 := (w.setReg (Reg.PWR_RET0 1) (w.reg Reg.PWR_SEC)).setReg Reg.PWR_WAKE_CAUSE 0
      { s2 with pwr := { s2.pwr with pwrEn := false, wakeLatch := 0 }, mode := { s2.mode with sleep := 2 } }
    else s)

/-- The island registers that a write can change. -/
def islandWritable (a : Nat) : Bool :=
  decide (a = Reg.PWR_SEC) || decide (a = Reg.PWR_WAKE_SEC) || decide (a = Reg.PWR_WAKE_CTL) ||
    (decide (0x100348 ≤ a) && decide (a < 0x100380))

/-- A write of an island register: dropped while BUSY, and otherwise under way (R524). -/
def State.islandWrite (s : State) (a : Nat) (v : Word) : State :=
  if s.bitR Reg.PWR_THM_STAT 0 ∨ !islandWritable a then s
  else { s.setBit Reg.PWR_THM_STAT 0 true with pwr := { s.pwr with islandWr := some (a, v) } }

/-- ISLAND_REGISTER_WRITE (R524). -/
def execIslandRegisterWrite (ini : Initiator) (addr : Nat) (v : Word) (s : State) : Out :=
  s.access ini Reg.PWR_SEC fun s => s.islandWrite addr v

/-- ISLAND_WRITE_DONE (R524). -/
def execIslandWriteDone (s : State) : Out :=
  .next (match s.pwr.islandWr with
    | some (a, v) =>
      let v := if a = Reg.PWR_WAKE_CTL then v &&& 0x331 else v
      { (s.setReg a v).setBit Reg.PWR_THM_STAT 0 false with pwr := { s.pwr with islandWr := none } }
    | none => s)

/-- SEC_MATCH (R524): PWR_SEC increments to PWR_WAKE_SEC. -/
def execSecMatch (s : State) : Out :=
  let s1 := s.setReg Reg.PWR_SEC (s.reg Reg.PWR_WAKE_SEC)
  .next (if s1.bitR Reg.PWR_WAKE_CTL 0 then s1.wake 1 else s1)

/-- The seconds counter increments, and its comparator may match (R524). -/
def State.secTick (s : State) : State :=
  let v := s.reg Reg.PWR_SEC + 1
  let s1 := s.setReg Reg.PWR_SEC v
  if v = s.reg Reg.PWR_WAKE_SEC ∧ s.bitR Reg.PWR_WAKE_CTL 0 then s1.wake 1 else s1

/-- `k` periods of CLK_PER pass for the island: 196,608,000 make a second (R19, R524). -/
def State.secPass (s : State) (k : Nat) : State :=
  let f := s.pwr.secFrac + k
  if f < 196608000 then { s with pwr := { s.pwr with secFrac := f } }
  else ({ s with pwr := { s.pwr with secFrac := f - 196608000 } } : State).secTick

/-- WAKE_IN_ASSERT (R524). -/
def execWakeInAssert (n : Bool) (s : State) : Out := .next (if s.bitR Reg.PWR_WAKE_CTL (4 + n.toNat) then s.wake (2 + n.toNat) else s)

/-- ALM_IN_WAKE (R275): the copy of WAKE counts once the retention words are filled. -/
def execAlmInWake (i : BitVec 3) (s : State) : Out :=
  let en := if s.pwr.good ∧ s.mode.sleep < 2 then s.bitR Reg.GNT_ALM_CFG (8 + i.toNat) else s.bitR (Reg.PWR_RET0 0) (8 + i.toNat)
  .next (if en then s.wake 4 else s)

/-- ISLAND_COLD_START (R523): the island starts after VBAT and VDD_PLL were lost. -/
def execIslandColdStart (vbat : Bool) (s : State) : Out :=
  .next (if s.pwr.good then s
    else { s with
      regs := Store.clear isIsland s.regs
      pwr := { s.pwr with vbat := vbat, pwrEn := true, thermos := false, lastDown := 0, islandWr := none, wakeLatch := 0 } })

/-! ## RESET_N and the critical hold (R520 to R522) -/

/-- The automatic start (R249): once after PWR_GOOD, with the Trail live and the application side running, the service takes
the lowest entry of the boot directory that is VALID and AUTOSTART. -/
def State.autoStart (s : State) : State :=
  if !s.pwr.autoDue ∨ s.held ∨ !s.bitR Reg.GNT_STATUS 6 then s
  else
    let s1 : State := { s with pwr := { s.pwr with autoDue := false } }
    let d := s1.bootBytes 0 64
    match findIx 4 fun i => dirValid d i && (dirEntry d i).2.2.testBit 1 with
    | none => s1
    | some i =>
      let s2 := s1.setReg Reg.CFG_LOAD_CTL (w32 (16 * i))
      ({ s2 with mode := { s2.mode with auto := true, autoEntry := i } } : State).request .service
        (byteAt (s2.bootBytes (dirEntry d i).1 64) 7 % 16)

/-- The registers that a reset of the application side leaves (R14, R395, R520, R539): the Gauntlet partition, the
recorder, the island, status and cause of power, mode and clocks, the time base's own, training results, and the
interrupt registers of the host block. -/
def State.keptReg (s : State) (a : Nat) : Bool :=
  let inR (lo hi : Nat) : Bool := decide (lo ≤ a) && decide (a < hi)
  inR 0 0x100000 || isIsland a || inR 0xE00000 0xF00000 || s.gntSide a ||
    [Reg.PWR_STATUS, Reg.PWR_MODE_STATUS, Reg.PWR_MODE_CAUSE, Reg.CLK_STATUS, Reg.TIM_ERA, Reg.TIM_INC, Reg.ROOT_FRAC, Reg.TIM_CTL,
      Reg.DRC_STATUS, Reg.DRC_USABLE, Reg.DRC_TRN_VREF, Reg.INT_INJ0, Reg.HST_ID, Reg.HST_STATUS].contains a ||
    inR 0xD02000 0xD02800 || inR 0x1100010 0x1100044 || inR 0x1108000 0x1109004

/-- The bytes of the object tables that a reset of the application side clears (R63). -/
def State.clearedTable (s : State) (a : Nat) : Bool :=
  decide (0x06F80000 ≤ a) && decide (a < 0x06FC0000) &&
    !((List.range 32).any fun i =>
      let o := s.mode.range - 32 + i
      (decide (objAddr o ≤ a) && decide (a < objAddr o + 32)) || (decide (objStAddr o ≤ a) && decide (a < objStAddr o + 32)) ||
        (decide (trajAddr o 0 ≤ a) && decide (a < trajAddr o 0 + 384)))

/-- The application side is reset (R520, R521): its registers, its engines and its sets; its links go down, its outputs
stop, and the DRAM keeps every segment in self-refresh. -/
def State.appReset (s : State) : State :=
  let s0 := (s.sleepAbort).linksDown
  let st := (s0.setReg Reg.INT_INJ0 (s0.reg Reg.INT_INJ0 &&& 0x2E000000)).setReg Reg.CLK_STATUS (s0.reg Reg.CLK_STATUS &&& 0x3FF3)
  let s1 : State := { st with
    regs := Store.clear (fun a => !s0.keptReg a) st.regs
    shadowRegs := []
    sram := Store.clear s0.clearedTable st.sram
    mode := { range := s0.mode.range, lastMs := s0.mode.lastMs }
    clk := { rootArmed := s0.clk.rootArmed, rootStop := s0.clk.rootStop, rootHeld := s0.clk.rootHeld, fosc6 := s0.clk.fosc6 }
    tim := { acc := s0.tim.acc, phase := s0.tim.phase, gpllFrac := s0.tim.gpllFrac, ahead := s0.tim.ahead }
    blk := {}, cfg := {}, geo := {}, rnd := {}, fir := {}, mix := {}, cores := [], sch := {}, meas := {}, mac := {}, bvl := {}, twin := {}
    sai := { s0.sai with
      pairs := s0.sai.pairs.filter fun p => decide (44 ≤ p.1) && decide (p.1 < 48)
      lanes := s0.sai.lanes.filter fun p => decide (88 ≤ p.1) && decide (p.1 < 96) }
    sns := { pend := s0.sns.pend &&& (64 * s0.fldR Reg.GNT_SNS_CLAIM 0 2), synced := s0.sns.synced &&& (64 * s0.fldR Reg.GNT_SNS_CLAIM 0 2)
             amp := s0.sns.amp.filter fun p => s0.claimed (p.1 / 16)
             line := s0.sns.line.filter fun p => s0.claimed (p.1 / 8)
             lcfg := s0.sns.lcfg.filter fun p => s0.claimed (p.1 / 8)
             chain := s0.sns.chain.filter fun p => s0.claimed (p.1 / 16), pil := s0.sns.pil.filter fun p => s0.claimed (p.1 / 16)
             tau := s0.sns.tau.filter fun p => s0.claimed p.1, gt := s0.sns.gt.filter fun p => s0.claimed p.1 } }
  let s1 := s1.setReg Reg.SNS_STATUS (s0.reg Reg.SNS_STATUS &&& w32 (0x300 + 64 * s0.fldR Reg.GNT_SNS_CLAIM 0 2))
  let s2 := ((s1.setBit Reg.TWN_STATUS 0 s1.strap.seat).setFld Reg.PWR_MODE_STATUS 16 4 0).setPending false
  let keep := s2.reg Reg.DRC_STATUS &&& 0xC1
  let s3 := if s2.drc.trained then s2.setReg Reg.DRC_STATUS (keep ||| 0xFF06) else s2.setReg Reg.DRC_STATUS keep
  let host : HostSt := { s3.host with i2c := [{}, {}], ospi := none, sap := [] }
  ((({ s3 with drc := { s3.drc with heldSvc := 0, awake := false, retrain := false, point := none }, host := host } : State).setReg
    Reg.HST_GPIO_IN (w32 s3.host.gpio)).setBit Reg.HST_STATUS 8 false)

/-- The application side runs again (R521, R522): in TRAIL unless WAKE W1 is still under way, and the DRAM
controller enters low-power service. -/
def State.appRelease (s : State) (why : Nat) : State :=
  let s1 := s.setReg Reg.PWR_RST_CAUSE (w32 why)
  if s1.pmode = 1 ∧ s1.phase = 1 then s1
  else
    let s2 := ((s1.modeNote 2 8 0).setFld Reg.PWR_MODE_STATUS 0 12 0x022).when (decide (s1.pmode ≠ 2)) fun s => s.evt Reg.PWR_MODE_EVT 0
    s2.alarmSync.fltSync.dramLow.autoStart

/-- RESET_N_ASSERT (R521): ignored in THERMOS and once PWR_EN has fallen. -/
def execResetNAssert (s : State) : Out :=
  .next (if !s.pwr.good ∨ s.pwr.resetN ∨ s.mode.sleep = 2 then s
    else
      let s1 := s.appReset.pwrNote 3 0
      { s1 with pwr := { s1.pwr with resetN := true } })

/-- RESET_N_RELEASE (R521). -/
def execResetNRelease (s : State) : Out :=
  .next (if !s.pwr.good ∨ !s.pwr.resetN then s
    else
      let s1 := (({ s with pwr := { s.pwr with resetN := false } } : State).evt Reg.PWR_EVT 0).pwrNote 4 0
      if s1.bitR Reg.PWR_STATUS 11 then s1 else s1.appRelease 3)

/-! ## The power-fail warning (R519) -/

/-- PFW_FALL: the recorder commits and accepts nothing more; the DRAM enters self-refresh with its kept segments. -/
def execPfwFall (s : State) : Out :=
  .next (if !s.pwr.good ∨ s.bitR Reg.PWR_STATUS 8 then s
    else
      let s1 := (((s.setBit Reg.PWR_STATUS 8 true).evt Reg.PWR_EVT 2).pwrNote 1 0).recCommitOpen
      let s2 : State := { s1 with log := { s1.log with pfw := true } }
      if s2.service = 1 ∨ s2.service = 2 then (s2.selfRefresh false).dramHold else s2)

/-- PFW_RISE: both go on, the controller once DPLL holds its lock (R506, R519). -/
def execPfwRise (s : State) : Out :=
  .next (if !s.pwr.good ∨ !s.bitR Reg.PWR_STATUS 8 then s
    else
      let s1 : State := { s.setBit Reg.PWR_STATUS 8 false with log := { s.log with pfw := false } }
      let s2 := s1.pwrNote 2 0
      if s2.bitR Reg.CLK_STATUS 5 then s2.dramUnhold else s2)

/-! ## Supplies and temperature (R517, R518, R530) -/

/-- SUPPLY_OUT_OF_WINDOW (R517). -/
def execSupplyOutOfWindow (rail : Bool) (high : Bool) (mv : BitVec 16) (s : State) : Out :=
  .next (if !s.pwr.good ∨ s.bitR Reg.PWR_STATUS (2 + rail.toNat) then s
    else
      let s1 := ((s.setBit Reg.PWR_STATUS (2 + rail.toNat) true).evt Reg.PWR_EVT 3).count Reg.PWR_SUPPLY_EVENTS 1
      (s1.raiseDet 0x20 2 ([b8 rail.toNat, b8 (if high then 2 else 1)] ++ leBytes 2 mv.toNat ++ s1.blkBytes ++ [0, 0])).fatal 0x20)

/-- SUPPLY_BACK_IN_WINDOW (R517). -/
def execSupplyBackInWindow (rail : Bool) (s : State) : Out := .next (s.setBit Reg.PWR_STATUS (2 + rail.toNat) false)

/-- The data of detector 0x1F. -/
def State.tempData (s : State) (kind sensor : Nat) (t : Word) : List Byte :=
  [b8 kind, b8 sensor] ++ leBytes 2 (fld t 0 16) ++ s.blkBytes ++ [0, 0]

/-- TEMP_SHUT sets; detector 0x1F with kind shutdown (2) or DRAM (3), and the fault of R57. -/
def State.tempShut (s : State) (kind sensor : Nat) (t : Word) : State :=
  if s.bitR Reg.PWR_STATUS 10 then s
  else (((s.setBit Reg.PWR_STATUS 10 true).evt Reg.PWR_EVT 5).raiseDet 0x1F 2 (s.tempData kind sensor t)).fatal 0x1F

/-- The hottest of the readings and its sensor, the lowest sensor of equal ones. -/
def hottest (l : List (BitVec 16)) : Int × Nat :=
  (l.zipIdx).foldl (fun (m : Int × Nat) p => if m.1 < p.1.toInt then (p.1.toInt, p.2) else m) ((nth l 0 0).toInt, 0)

/-- TEMP_READ (R518). -/
def execTempRead (t0 t1 t2 t3 : BitVec 16) (s : State) : Out :=
  let h := hottest [t0, t1, t2, t3]
  let w := w32 (toBits 16 h.1 + 65536 * h.2)
  let warn : Int := sext 16 (s.fldR Reg.PWR_TEMP_WARN 0 16)
  let shut : Int := sext 16 (s.fldR Reg.PWR_TEMP_SHUT 0 16)
  let mr4 := (List.range 4).any fun c => decide (s.fldR Reg.DRC_MR4 (4 * c) 3 = 7)
  .next (if !s.pwr.good then s
    else
      let s1 := s.setReg Reg.PWR_TEMP w
      let s2 := if sext 16 (s1.fldR Reg.PWR_TEMP_MAX 0 16) < h.1 then s1.setReg Reg.PWR_TEMP_MAX w else s1
      let s3 := if warn ≤ h.1 then
          (if s2.bitR Reg.PWR_STATUS 9 then s2
           else ((s2.setBit Reg.PWR_STATUS 9 true).evt Reg.PWR_EVT 4).raiseDet 0x1F 2 (s2.tempData 1 h.2 w))
        else if h.1 ≤ warn - 1280 ∧ s2.bitR Reg.PWR_STATUS 9 then (s2.setBit Reg.PWR_STATUS 9 false).note 2 0x1F (s2.tempData 5 h.2 w)
        else s2
      let s4 := if shut ≤ h.1 then s3.tempShut 2 h.2 w
        else if h.1 ≤ shut - 1280 ∧ !mr4 ∧ s3.bitR Reg.PWR_STATUS 10 then (s3.setBit Reg.PWR_STATUS 10 false).note 2 0x1F (s3.tempData 5 h.2 w)
        else s3
      if 32000 ≤ h.1 then
        (if s4.bitR Reg.PWR_STATUS 11 then s4
         else
          let s5 := (s4.raiseDet 0x1F 2 (s4.tempData 4 h.2 w)).when (!s4.pwr.resetN) State.appReset
          ((s5.setBit Reg.PWR_STATUS 11 true).evt Reg.PWR_EVT 6).pwrNote 6 0)
      else if s4.bitR Reg.PWR_STATUS 11 ∧ h.1 ≤ shut - 2560 then
        let s5 := (s4.setBit Reg.PWR_STATUS 11 false).pwrNote 7 0
        (if s5.pwr.resetN then s5 else s5.appRelease 4)
      else s4)

end Sys2Proof.Machine
end

