-- ==== Sys2Proof/Machine/TwinDuty.lean ====
section
/-!
DEFINITION. Duty between the units of a pair (R303 to R310): heartbeats and paths, takeover, yield, and the conflict of
two duty units; and a received Ethernet frame, which may carry a heartbeat.
-/
namespace Sys2Proof.Machine

/-! ## Takeover (R305, R308) -/

/-- The later of two EPOCHs (R309). -/
def epochMax (a b : Nat) : Nat := if epochLt a b then b else a

/-- The EPOCH after both units' own. -/
def State.nextEpoch (s : State) : Nat := (epochMax (s.fldR Reg.TWN_EPOCH 0 16) (s.fldR Reg.TWN_PARTNER 16 16) + 1) % 65536

/-- Kept packets go out: after a yield those that reach the frozen sample, else those whose presentation time, the instant
of sending and a free link offset, lies at least 100 µs ahead; of the fabric's flits those whose deadline has not passed (R308, R428). -/
def State.sendKept (s : State) (yielded : Option Nat) : State :=
  let m0 := s.media0 s.blk.fr + 3 * s.blk.b
  let s1 := s.each s.mac.tx fun s q =>
    let t := q.1
    let b := s.txBuf t
    let s := s.setTxBuf t { b with kept := [] }
    s.each b.kept fun s k =>
      let go := match yielded with
        | some f => decide ((m0 + f) * strRate (s.txW t 0) < (k.1 + 1) * streamP (s.txW t 0) * s.blk.fr)
        | none => decide (s.now + 100000 ≤ k.2.1 + s.freeNat % 2 ^ 24)
      let s := if yielded.isNone then s.draw else s
      if go then s.strSend t k.1 (s.twinRows t k.1 k.2.2) else s
  let chans := s1.bvl.kept
  let s2 : State := { s1 with bvl := { s1.bvl with kept := [] } }
  s2.each chans fun s k =>
    let go := decide (s.now ≤ s.dueNs (k.2.2.1 + 4) + 250) && (match yielded with
      | some f => decide (f < (k.2.2.1 + 1) * s.blk.b)
      | none => true)
    if go then s.each (s.chanFlits k.2.1 k.2.2.1 (s.fldR Reg.TWN_EPOCH 0 16) k.2.2.2) State.bvlSend else s

/-- A standby takes duty already: with a restart of its train that waits or runs (R305). -/
def State.takingDuty (s : State) : Bool :=
  decide (s.mode.twin = some 6) || (match s.mode.stop with
    | some st => decide (st.cause = 6)
    | none => false)

/-- A standby takes duty. `yielded`: on a YIELD, the frozen sample and the samples held where the frame carries them. With SYNC NONE or
TABLES the gap shows once the restarted train has its first sample (R312). -/
def State.takeover (s : State) (yielded : Bool) (f : Option (Nat × List Int)) : State :=
  if s.takingDuty then s else
  let s1 := ((s.setReg Reg.TWN_EPOCH (w32 s.nextEpoch)).count Reg.TWN_TAKEOVERS 1).evt Reg.TWN_EVT 0
  let dest := if s1.twin.measure then 8 else s1.activeMode
  if s1.syncOf < 2 then
    ({ s1 with mode := { s1.mode with twin := some 6 }, twin := { s1.twin with gapFrom := some (s1.twin.last.getD s1.now) } } : State).twinNote
      (if yielded then 3 else 1) 0
  else
    let cs := s1.twin.cWait
    let live := match s1.outIdx with
      | some i => i + 1
      | none => 0
    let at_ := s1.blk.t0 + (3 * s1.blk.b + live) * 1000000000 / max 1 s1.blk.fr
    let gap := min 65535 ((at_ - s1.twin.last.getD at_) / 1000)
    let s2 := s1.modeOnTrain dest 6 none
    let s3 : State := { s2 with twin := { s2.twin with
      live := some live
      hold := match f with
        | some x => x.2
        | none => []
      strFrom := f.map (·.1) } }
    let s4 := (((s3.each cs State.takeSnap).nearFlush).tryPlan).setReg Reg.TWN_GAP_US (w32 gap)
    (s4.twinNote (if yielded then 3 else 1) gap).sendKept (if yielded then some ((f.map (·.1)).getD live) else none)

/-! ## Yield and conflict (R306, R310) -/

/-- The partner has taken over and goes on in this unit's mode: streams stop and feed slots carry zero; after a command the unit becomes the standby with
the partner's SYNC, after a conflict with SYNC NONE, and after a fault it enters SAFE-HOLD. -/
def State.yieldTaken (s : State) (c sync : Nat) : State :=
  let s1 : State := { s.setBit Reg.TWN_STATUS 1 false with twin := { s.twin with silent := true, measure := decide (s.pmode = 8) } }
  if c = 0 then s1.modeOnTrain 9 7 (some sync)
  else if c = 0x100 then s1.modeOnTrain 9 7 (some 0)
  else { s1 with mode := { s1.mode with fault := some (c % 0x100) } }

/-- Both units are duty: DUAL, and its resolution. -/
def State.dual (s : State) : State :=
  if s.bitR Reg.TWN_STATUS 6 then s
  else
    let s1 := ((s.setBit Reg.TWN_STATUS 6 true).evt Reg.TWN_EVT 2).twinNote 4 0
    if s1.strap.seat then (s1.freeze 0x100).yieldTaken 0x100 0
    else s1.setReg Reg.TWN_EPOCH (w32 s1.nextEpoch)

/-- A path delivers a heartbeat. -/
def State.pathSeen (s : State) (p : Nat) : State :=
  { s.setBit Reg.TWN_STATUS (8 + p) true with
    twin := { s.twin with
      seen := Store.set (fun _ => 0) s.twin.seen p s.now
      lost := s.twin.lost.filter fun e => decide (e.1 ≠ p)
      last := some s.now } }

/-- What BULK carries (R302): the tracked registers and the words of the tracked windows that differ from what they read as when nothing
has written them. -/
def State.bulkWords (s : State) : List (Nat × Word) :=
  (s.regs.filter fun e => trackedAddr e.1) ++
    ((s.sram.filter fun e => trackedAddr e.1).map fun e => e.1 / 4 * 4).eraseDups.map fun a => (a, s.sw a)

/-- A duty unit sends BULK to a standby that joins (R302): its words and the SEL of every feed, in a layout that the spec leaves open. -/
def State.sendBulk (s : State) : State :=
  s.twinJob 2 0 (s.twinFrame 3 0 s.blkNum 0 (Config.bulkLayout s.bulkWords s.selVector))

/-- The contents of a good heartbeat. -/
def State.hbTake (s : State) (f : List Byte) : State :=
  let fl := byteAt f 1
  let sync := s.fldR Reg.TWN_PARTNER 3 2
  let s1 := (s.setReg Reg.TWN_PARTNER (w32 (fl + 65536 * leAt f 10 2))).setBit Reg.TWN_STATUS 5 (fl.testBit 0)
  let s2 : State := { s1 with twin := { s1.twin with crc := leAt f 16 4 } }
  if s2.pmode = 9 then
    if fl.testBit 1 then s2.takeover true none
    else if !fl.testBit 0 then s2.takeover false none
    else if s2.syncOf = 0 ∧ s2.twin.crc = (s2.reg Reg.TWN_PLAN_CRC).toNat then s2.setSync 1
    else s2
  else if s2.isDuty && !fl.testBit 0 && decide (s2.fldR Reg.TWN_PARTNER 3 2 = 1) && decide (sync ≠ 1) then s2.dualEnd.sendBulk
  else if fl.testBit 0 then
    match s2.twin.yield with
    | some c => if s2.twin.silent then s2 else s2.yieldTaken c sync
    | none => if s2.isDuty then s2.dual else s2
  else s2.dualEnd

/-- A heartbeat on a path of HB_PATHS: one whose PAIR_ID or CRC is wrong counts as not received; the pin carries no
contents (R304). -/
def State.hbReceive (s : State) (p : Nat) (frame : List Byte) : State :=
  if !s.hbPaths.contains p then s
  else if p = 1 then s.pathSeen 1
  else if s.twinGood (frame.take 32) ∧ byteAt frame 0 = 5 then (s.pathSeen p).hbTake (frame.take 32)
  else s

/-- HEARTBEAT_RECEIVE (R304). -/
def execHeartbeatReceive (path : BitVec 2) (frame : List Byte) (s : State) : Out :=
  s.event Reg.TWN_CMD fun s => s.hbReceive path.toNat frame

/-- MAC_FRAME_RECEIVE (R366, R367): what the twin engine takes of it is a heartbeat. -/
def execMacFrameReceive (p : Bool) (frame : List Byte) (sfd : BitVec 36) (s : State) : Out :=
  s.event (Reg.MAC_CTL p.toNat) fun s =>
    match s.macReceive p.toNat frame sfd.toNat with
    | (s1, some f) => if s1.reach Reg.TWN_CMD then s1.hbReceive (2 + p.toNat) f else s1
    | (s1, none) => s1

/-- Every enabled path is lost. -/
def State.allLost (s : State) : Bool := s.twinSect.isSome && !(s.hbPaths.any fun p => s.bitR Reg.TWN_STATUS (8 + p))

/-- The lost paths among those enabled. -/
def State.lostMask (s : State) : Nat :=
  (s.hbPaths.map fun p => if s.bitR Reg.TWN_STATUS (8 + p) then 0 else 2 ^ p).foldl (· + ·) 0

/-- The data of detector 0x16. -/
def State.hbData (s : State) (mask : Nat) : List Byte :=
  [b8 mask, b8 (s.fldR Reg.TWN_PARTNER 0 8)] ++ leBytes 2 (s.fldR Reg.TWN_PARTNER 16 16) ++ s.blkBytes ++ [0, 0]

/-- PATH_LOST (R304, R305, R310): 375 µs without a heartbeat. The loss of the last path makes a standby of a duty partner
take duty; seat B waits where every path was lost at the same instant. -/
def execPathLost (path : BitVec 2) (s : State) : Out :=
  s.event Reg.TWN_CMD fun s =>
    let p := path.toNat
    if !s.hbPaths.contains p || !s.bitR Reg.TWN_STATUS (8 + p) then s
    else
      let s1 := ((s.setBit Reg.TWN_STATUS (8 + p) false).count Reg.TWN_HB_LOST 1).evt Reg.TWN_EVT 4
      let s2 : State := { s1 with twin := { s1.twin with lost := Store.set (fun _ => 0) s1.twin.lost p (s1.now + 1) } }
      let s3 := s2.raiseDet 0x16 0xF (s2.hbData s2.lostMask)
      let once := s3.hbPaths.all fun q => s3.twin.lost.any fun e => decide (e.1 = q) && decide (e.2 = s3.now + 1)
      if s3.pmode = 9 ∧ s3.allLost ∧ s3.bitR Reg.TWN_PARTNER 0 ∧ !(s3.strap.seat && once) then s3.takeover false none else s3

/-- SEAT_B_TAKEOVER (R310): 375 µs after every path was lost at once. -/
def execSeatBTakeover (s : State) : Out :=
  s.event Reg.TWN_CMD fun s =>
    if s.pmode = 9 ∧ s.strap.seat ∧ s.allLost ∧ s.bitR Reg.TWN_PARTNER 0 then s.takeover false none else s

/-- YIELD_RECEIVE (R305, R306): the frame of the link carries the frozen sample and what is held; on the other paths it is a
heartbeat's flag. -/
def execYieldReceive (path : BitVec 2) (frame : List Byte) (s : State) : Out :=
  s.event Reg.TWN_CMD fun s =>
    if path = 0 then
      if s.pmode = 9 ∧ s.twinGood frame ∧ byteAt frame 0 = 4 then
        let p := frame.drop 32
        s.takeover true (some (leAt p 0 4 * s.blk.b + leAt p 4 2, (List.range 384).map fun f => sext 32 (leAt p (6 + 4 * f) 4)))
      else s
    else s.hbReceive path.toNat frame

/-- YIELD_TIMEOUT (R306): 1 ms without a takeover; the feeds ramp to their Trail substitutes, and the unit enters SAFE-HOLD. -/
def execYieldTimeout (s : State) : Out :=
  s.event Reg.TWN_CMD fun s =>
    match s.twin.yield with
    | some c =>
      if s.twin.silent ∨ s.twin.rampAt.isSome then s
      else
        let i := match s.outIdx with
          | some i => i + 1
          | none => 0
        { s with
          twin := { s.twin with rampAt := some i, rampNs := some s.gNow }
          mode := { s.mode with fault := some (c % 0x100) } }
    | none => s

/-! ## TWN_CMD (R303, R306) -/

/-- A write of TWN_CMD. -/
def State.twnCmd (s : State) (v : Word) : State :=
  let s1 := if !bitOf v 0 then s else if s.yieldMay then s.freeze 0 else s.evt Reg.TWN_EVT 7
  if !bitOf v 1 then s1
  else if s1.isDuty ∧ s1.running ∧ s1.phase = 0 ∧ s1.mode.stop.isNone ∧ s1.twin.yield.isNone ∧ s1.fldR Reg.TWN_PARTNER 3 2 = 2 then
    { s1 with mode := { s1.mode with twin := some 0 } }
  else s1.evt Reg.TWN_EVT 7

/-- TWN_CMD_YIELD (R306). -/
def execTwnCmdYield (ini : Initiator) (s : State) : Out := s.access ini Reg.TWN_CMD fun s => s.twnCmd 1

/-- TWN_CMD_RESYNC (R303). -/
def execTwnCmdResync (ini : Initiator) (s : State) : Out := s.access ini Reg.TWN_CMD fun s => s.twnCmd 2

end Sys2Proof.Machine
end

