-- ==== Sys2Proof/Machine/GntAudio.lean ====
section
/-!
DEFINITION. What the Gauntlet plays and supervises (R276 to R281): messages and their checks, players, tone generators, the
extension copy, and pilot windows.
-/
namespace Sys2Proof.Machine

/-! ## Messages (R276, R277) -/

/-- The player that plays a message now. -/
def State.playerOf (s : State) (m : Nat) : Option Nat :=
  (List.range 16).find? fun p => s.playing p && !(s.player p).gap && decide (s.playCur p = m)

/-- The offset of the first uncorrectable word of a message in the store. -/
def State.msgFlaw (s : State) (m : Nat) : Option Nat :=
  let d := s.msg m
  if d.ext then none
  else ((s.sramBad.filter fun b => decide (b.array = 3) && b.hard && decide (d.start < 8 * b.word + 8) &&
    decide (8 * b.word < d.start + 2 * d.len)).map fun b => 8 * b.word).min?

/-- A check of message `m`: by its CRC, or by an uncorrectable word that the player of the message, or the pass itself, met (R288). -/
def State.msgCheck (s : State) (m : Nat) (uncorr : Bool) : State :=
  let d := s.msg m
  let s := if d.ext then s else s.scrub (0x06000000 + d.start) (2 * d.len)
  let st := d.start
  if uncorr then
    match s.playerOf m with
    | some p => s.msgBad m 2 p ((st + 2 * (s.player p).pos) / 8 * 8)
    | none => s.msgBad m 2 0xFF ((s.msgFlaw m).getD st)
  else if (s.msgFlaw m).isSome then s.msgBad m 2 0xFF ((s.msgFlaw m).getD st)
  else if crc32 (s.msgBytes m) ≠ (s.msg m).crc then s.msgBad m 1 0xFF st
  else s

/-- The extension messages of the image. -/
def State.extMsgs (s : State) : List Nat := (List.range s.msgCount).filter fun m => (s.msg m).ext

/-- Extension message `m` reaches the region: its audio is copied and checked (R276). -/
def State.extTake (s : State) (m : Nat) : State :=
  match s.regionOf 3 with
  | some r =>
    let d := s.msg m
    if r.size < d.start + 2 * d.len then s
    else
    let s1 := s.dramWrite .gauntlet (r.base + d.start) ((s.gnt.image.drop ((gExt s.gnt.image).1 + d.start)).take (2 * d.len))
    (s1.setGnt fun g => { g with ext := g.ext ++ [m] }).msgCheck m false
  | none => s

/-- The running copy has taken every extension message up to `m`, in directory order. -/
def State.extUpTo (s : State) (m : Nat) : State :=
  s.each (s.extMsgs.filter fun k => decide (k ≤ m) && !s.gnt.ext.contains k) fun s k => s.extTake k

/-- MSG_CHECK_PASS (R277): a message is checked in the background, or a play met an uncorrectable word of it. For an extension
message that the running copy had not reached, it is the check of R276 that ends the copy of that message. -/
def execMsgCheckPass (m : BitVec 10) (uncorr : Bool) (s : State) : Out :=
  let k := m.toNat
  .next (if s.gnt.phase ≠ 0 ∨ s.msgCount ≤ k then s
    else if (s.msg k).ext ∧ !s.gnt.ext.contains k then (if s.gnt.extCopy then s.extUpTo k else s)
    else s.msgCheck k uncorr)

/-! ## Players (R277) -/

/-- PLAY_START (R277). -/
def execPlayStart (ini : Initiator) (p : BitVec 4) (v : Word) (s : State) : Out :=
  .next (s.gwWrite ini (Reg.GNT_PLY_CTL p.toNat) fun s => s.playStart p.toNat (putBit v 31 true) false)

/-- PLAY_STOP (R277). -/
def execPlayStop (ini : Initiator) (p : BitVec 4) (s : State) : Out :=
  .next (s.gwWrite ini (Reg.GNT_PLY_CTL p.toNat) fun s => s.playStop p.toNat (putBit (s.reg (Reg.GNT_PLY_CTL p.toNat)) 31 false))

/-- The end of a play or gap is not held off by the samples that the device itself has counted of it: it has counted all of them, or
none (no domain-G frames are commanded). -/
def State.playDue (s : State) (p : Nat) : Bool := decide ((s.player p).pos = 0) || decide (s.playLen p ≤ (s.player p).pos)

/-- PLAY_END (R277): a play reaches the end of its message. -/
def execPlayEnd (p : BitVec 4) (s : State) : Out :=
  let k := p.toNat
  .next (if s.playing k && !(s.player k).gap && s.playDue k then s.playEdge k else s)

/-- GAP_END (R277). -/
def execGapEnd (p : BitVec 4) (s : State) : Out :=
  let k := p.toNat
  .next (if s.playing k && (s.player k).gap && s.playDue k then s.playEdge k else s)

/-! ## Tone generators (R278) -/

/-- TONE_RUN (R278). -/
def execToneRun (ini : Initiator) (g : BitVec 2) (v : Word) (s : State) : Out :=
  .next (s.gwWrite ini (Reg.GNT_TONE_RUN g.toNat) fun s => s.toneRun g.toNat (putBit v 31 true) false)

/-- TONE_STOP_REQUEST (R278). -/
def execToneStopRequest (ini : Initiator) (g : BitVec 2) (s : State) : Out :=
  .next (s.gwWrite ini (Reg.GNT_TONE_RUN g.toNat) fun s => s.toneStop g.toNat (putBit (s.reg (Reg.GNT_TONE_RUN g.toNat)) 31 false))

/-- TONE_STOPPED (R278): the pending stop reaches a phase wrap, which is due while no domain-G frame has counted a sample. -/
def execToneStopped (g : BitVec 2) (s : State) : Out :=
  let k := g.toNat
  let x := s.tone k
  .next (if x.run ∧ x.stop ∧ (x.t = 0 ∨ x.mute (s.cadence k) ∨ s.toneWrapped k) then s.setTone k {} else s)

/-- TONE_CADENCE (R278): an ON period starts at phase 0, or its sound ends at a phase wrap. -/
def execToneCadence (g : BitVec 2) (s : State) : Out :=
  let k := g.toNat
  let x := s.tone k
  let c := s.cadence k
  .next (if !x.run ∨ c.2 = 0 ∨ c.1 = 0 then s
    else if x.starts c then s.setTone k (x.period c)
    else if c.1 ≤ x.t % (c.1 + c.2) ∧ s.toneWrapped k then s.setTone k (if x.stop then {} else { x with silent := true })
    else s)

/-! ## The extension copy (R276) -/

/-- EXT_COPY_START (R276): READY, a KIND 3 region, and no complete copy in it. -/
def execExtCopyStart (s : State) : Out :=
  .next (if s.gnt.phase = 0 ∧ s.dramReady ∧ (s.regionOf 3).isSome ∧ s.gnt.ext = [] ∧ s.extMsgs ≠ [] ∧ s.bitR Reg.GNT_STATUS 7 then
    s.setGnt fun g => { g with extCopy := true } else s)

/-- EXT_COPY_DONE (R276): the copy has taken every extension message. -/
def execExtCopyDone (s : State) : Out :=
  .next (if s.gnt.extCopy ∧ (s.regionOf 3).isSome then (s.extUpTo 1023).setGnt fun g => { g with extCopy := false } else s)

/-! ## Pilot supervision (R281) -/

/-- The data of detector 0x1D. -/
def pilotData (target ch kind level : Nat) : List Byte := leBytes 2 target ++ [b8 ch, b8 kind] ++ leBytes 2 level

/-- What firmware reads at the end of an entry's window: whether a window of the channel with valid data ended, and its level (R351). -/
def State.pilotRead (s : State) (ch : Nat) (valid : Bool) : Bool × Int :=
  (valid && s.bitR (Reg.SNS_PIL_LEVEL ch) 31, sfld (s.reg (Reg.SNS_PIL_LEVEL ch)) 0 16)

/-- PILOT_WINDOW_END (R281): the level that SNS_PIL_LEVEL of an entry's channel shows is judged; a window without valid data, or without
an end of the channel's window (`valid` false), counts toward SUPV. -/
def execPilotWindowEnd (e : BitVec 7) (valid : Bool) (_level : BitVec 16) (s : State) : Out :=
  let k := e.toNat
  let o := gSupOff s.gnt.image k
  let target := leAt s.gnt.image o 2
  let ch := byteAt s.gnt.image (o + 2)
  let nom := sext 16 (leAt s.gnt.image (o + 4) 2)
  let win := byteAt s.gnt.image (o + 6)
  let fails := max 1 (s.fldR Reg.GNT_PILOT_CTL 8 4)
  let x := Store.get (fun _ => ({} : PilotSt)) s.gnt.pilots k
  let put (s : State) (y : PilotSt) : State := s.setGnt fun g => { g with pilots := Store.set (fun _ => ({} : PilotSt)) g.pilots k y }
  let w := s.pilotRead ch valid
  let lvl := toBits 16 w.2
  let diff := w.2 - nom
  .next (if s.gnt.phase ≠ 0 ∨ gSups s.gnt.image ≤ k then s
    else if !w.1 then
      let y := { x with inv := min fails (x.inv + 1) }
      if y.inv = fails ∧ x.inv < fails then
        ((put s y).raiseDet 0x1D 1 (pilotData target ch 3 lvl)).gntFault 5
      else put s y
    else if (256 * win : Int) < 10 * (diff.natAbs : Int) then
      let y := { x with inv := 0, good := 0, bad := min fails (x.bad + 1) }
      if y.bad = fails ∧ !x.fault then
        ((put s { y with fault := true }).raiseDet 0x1D 1 (pilotData target ch (if diff < 0 then 1 else 2) lvl)).gntFault 2
      else put s y
    else
      let y := { x with inv := 0, bad := 0, good := min fails (x.good + 1) }
      if y.good = fails ∧ x.fault then (put s { y with fault := false }).note 1 0x1D (pilotData target ch 4 lvl)
      else put s y)

end Sys2Proof.Machine
end

