-- ==== Sys2Proof/Machine/Gauntlet.lean ====
section
/-!
DEFINITION. The Gauntlet's commands and resets (R262 to R275, R279, R283, R284): the check of a command, the alarm state,
levels and holders, programmes, contacts, domain resets and the way back to Trail live.
-/
namespace Sys2Proof.Machine

/-! ## The image (R284) -/

/-- A word of the Gauntlet image's payload. -/
def State.gim (s : State) (o : Nat) : Nat := leAt s.gnt.image o 4

/-- The zones of a group. -/
def State.groupZones (s : State) (g : Nat) : List Nat :=
  (List.range 256).filter fun z => (byteAt s.gnt.image (0x2310 + 32 * g + z / 8)).testBit (z % 8)

/-- The code and the index of the permissions of a source (R284, R288). -/
def srcCode : CmdSource → Nat
  | .contact => 0
  | .network => 1
  | .host => 2
  | .console => 3
  | .firmware => 4

/-- The rank of a source (R271). -/
def srcRank : CmdSource → Nat
  | .contact => 3
  | .console => 3
  | .network => 2
  | .host => 1
  | .firmware => 3

/-! ## Levels and holders (R274) -/

/-- The holder of a level of a zone. -/
def State.holder (s : State) (z l : Nat) : Option Holder := s.gnt.holders.find? fun h => decide (h.zone = z) && decide (h.level = l)

/-- Put or free the holder of a level. -/
def State.setHolder (s : State) (z l : Nat) (h : Option Holder) : State :=
  s.setGnt fun g => { g with holders := (g.holders.filter fun x => !(decide (x.zone = z) && decide (x.level = l))) ++ h.toList }

/-- A level of a zone takes a source, or is released: the bus entry is committed (R173). -/
def State.zoneLevel (s : State) (z l : Nat) (src : Option Nat) : State :=
  match src with
  | some x =>
    let r := if l < 4 then Reg.GNT_ZB_SRCLO z else Reg.GNT_ZB_SRCHI z
    let s1 := s.setFld r (8 * (l % 4)) 6 x
    s1.zbCommit z (putBit (s1.reg (Reg.GNT_ZB_ACT z)) l true)
  | none => s.zbCommit z (putBit (s.reg (Reg.GNT_ZB_ACT z)) l false)

/-- A programme takes its level in a zone, or is saved beneath the page that holds it. -/
def State.progZone (s : State) (l src : Nat) (z : Nat) : State :=
  match s.holder z l with
  | some h => if h.page then s.setHolder z l (some { h with saved := some (src, 3) })
      else (s.setHolder z l (some ⟨z, l, false, 3, src, none⟩)).zoneLevel z l (some src)
  | none => (s.setHolder z l (some ⟨z, l, false, 3, src, none⟩)).zoneLevel z l (some src)

/-- A page takes a level in a zone; the flag says that it was outranked. -/
def State.pageZone (s : State) (l src rank : Nat) (z : Nat) : State × Bool :=
  match s.holder z l with
  | some h =>
    if rank < h.rank then (s, true)
    else ((s.setHolder z l (some ⟨z, l, true, rank, src, if h.page then h.saved else some (h.src, h.rank)⟩)).zoneLevel z l (some src), false)
  | none => ((s.setHolder z l (some ⟨z, l, true, rank, src, none⟩)).zoneLevel z l (some src), false)

/-- A page ends in a zone: the programme beneath it returns, or the level is released. -/
def State.pageEndZone (s : State) (l rank : Nat) (z : Nat) : State × Bool :=
  match s.holder z l with
  | some h =>
    if !h.page then (s, false)
    else if rank < h.rank then (s, true)
    else match h.saved with
      | some p => ((s.setHolder z l (some ⟨z, l, false, p.2, p.1, none⟩)).zoneLevel z l (some p.1), false)
      | none => ((s.setHolder z l none).zoneLevel z l none, false)
  | none => (s, false)

/-- An operation on every zone of a group; the flag says that some level was skipped. -/
def State.zonesDo (s : State) (g : Nat) (f : State → Nat → State × Bool) : State × Bool :=
  (s.groupZones g).foldl (fun (a : State × Bool) z => let r := f a.1 z; (r.1, a.2 || r.2)) (s, false)

/-! ## Programmes and routes (R274, R279) -/

/-- The object of a route. -/
def State.routeObj (s : State) (r : Nat) : Nat := byteAt s.gnt.image (gRouteOff s.gnt.image r) % 32 + (s.mode.range - 32)

/-- A word that the Gauntlet writes into one of its object entries (R87, R296). -/
def State.gntTable (s : State) (a : Nat) (v : Word) : State := s.gateTracked .gauntlet a v fun s => s.tableWrite a v

/-- A route starts: its descriptor with EN, then its segments, word 11 of each slot last. -/
def State.routeStart (s : State) (r : Nat) : State :=
  let o := gRouteOff s.gnt.image r
  let ob := s.routeObj r
  let s1 := s.each (List.range 8) fun s i =>
    let w := s.gim (o + 32 + 4 * i)
    s.gntTable (objAddr ob + 4 * i) (w32 (if i = 0 then w ||| 1 else w))
  s1.each (List.range 8) fun s k =>
    let q := o + 64 + 48 * k
    let t := s.now + 10000000 + s.gim q + leAt s.gnt.image (q + 4) 2 * 1000000000
    let w (i : Nat) : Nat := if i = 0 then t % 1000000000 else if i = 1 then t / 1000000000 % 65536 else s.gim (q + 4 * i)
    s.each (List.range 12) fun s i => s.gntTable (trajAddr ob k + 4 * i) (w32 (w i))

/-- A programme is applied to a group; its player or tone and its routes start once. -/
def State.applyProg (s : State) (g p : Nat) : State :=
  let o := 0xE0 + 16 * p
  let w0 := s.gim o
  let src := w0 / 256 % 64
  let s1 := s.each (s.groupZones g) fun s z => s.progZone (w0 % 8) src z
  let word := w32 (s1.gim (o + 4))
  let s2 := if src < 16 then (if bitOf word 31 then s1.playStart src word true else s1.playStop src word)
    else if src < 20 then
      let t := 0x2E0 + 16 * (w0 / 65536 % 16)
      let k := src - 16
      let s' := ((s1.setReg (Reg.GNT_TONE_F1 k) (w32 (s1.gim t) &&& 0xFFFFF)).setReg (Reg.GNT_TONE_F2 k) (w32 (s1.gim (t + 4)) &&& 0xFFFFF)).setReg
        (Reg.GNT_TONE_SHAPE k) (w32 (s1.gim (t + 8)) &&& 0xFFFFFFF3)
      let run := w32 (s'.gim (t + 12))
      (if bitOf run 31 then s'.toneRun k run true else s'.toneStop k run)
    else s1
  let routes := s2.gim (o + 8) + 2 ^ 32 * s2.gim (o + 12)
  s2.each ((List.range (min 64 (gRoutes s2.gnt.image))).filter fun r => routes.testBit r) State.routeStart

/-- OVR of every feed is committed: the image's OVR_ALARM, or the quiet one of its feed entry. -/
def State.commitOvr (s : State) (alarm : Bool) : State :=
  s.each (List.range 384) fun s f =>
    let quiet := w32 (s.gim (0x1404 + 8 * f))
    let o := if alarm then byteAt s.gnt.image (0x2000 + f) % 4 else fld quiet 4 2
    s.tfCommit f (putFld (s.reg (Reg.GNT_TF_CTL f)) 4 2 o)

/-- The injection bits of the Gauntlet clear (R269, R453). -/
def State.clearGntInj (s : State) : State := s.setReg Reg.INT_INJ0 (s.reg Reg.INT_INJ0 &&& 0xD1FFFFFF)

/-! ## The commands (R269, R272, R273) -/

/-- A condition of GNT_FAULTS that still holds. -/
def State.faultHolds (s : State) (i : Nat) : Bool :=
  match i with
  | 0 => !s.bitR Reg.GNT_STATUS 7
  | 2 => s.gnt.pilots.any fun p => p.2.fault
  | 3 => (List.range 64).any fun e => s.bitR (Reg.SNS_LINE_STAT e) 4
  | 4 => decide (s.fldR Reg.GNT_ALM_IN 16 4 ≠ 0)
  | 7 => s.bitR Reg.CLK_STATUS 11
  | 8 => decide (s.pmode = 11)
  | _ => false

/-- The state after an alarm or a test: FAULT while a fault is latched. -/
def State.restState (s : State) : Nat := if s.reg Reg.GNT_FAULTS = 0 then 0 else 4

/-- A contact that is debounced asserted has an assert command ALERT or EVAC. -/
def State.alarmContact (s : State) : Bool :=
  s.contactsOn.any fun i => let op := s.gim (0x60 + 16 * i) % 256; decide (op = 1) || decide (op = 2)

/-- R269 allows a command in the present state. -/
def State.opAllowed (s : State) (op : Nat) : Bool :=
  let a := s.astate
  match op with
  | 3 => (decide (a = 1) || decide (a = 2)) && !s.alarmContact
  | 6 => decide (a = 0) || decide (a = 4)
  | 7 => decide (a = 3)
  | 8 => decide (a = 4)
  | 9 => decide (a = 0)
  | _ => true

/-- The TAG of a network command matches (R272). -/
def State.tagOk (s : State) (w : List Word) : Bool :=
  let bytes (a n : Nat) : List Byte := (List.range n).flatMap fun i => leBytes 4 (nth w (a + i) 0).toNat
  decide ((hmacSha256 ((s.gnt.image.drop 0x30).take 32) (bytes 0 4)).take 16 = bytes 4 4)

/-- The result of a command's checks: 0, or the first failure. -/
def State.cmdCheck (s : State) (src : CmdSource) (w : List Word) : Nat :=
  let w0 := nth w 0 0
  let w1 := nth w 1 0
  let op := fld w0 0 8
  let perm := w32 (s.gim (0x50 + 4 * srcCode src))
  if op = 0 ∨ 9 < op then 1
  else if !s.bitR Reg.GNT_STATUS 7 then 8
  else if !bitOf perm op || ((decide (op = 4) || decide (op = 5)) && decide (fld perm 16 3 < fld w0 8 3)) then 2
  else if decide (src = .network) && !s.tagOk w then 3
  else if decide (src = .network) && decide ((nth w 3 0).toNat ≤ (s.reg Reg.GNT_NET_CNT).toNat) then 4
  else if w0 &&& 0xF800 ≠ 0 ∨ w1 &&& 0xFFC0E0C0 ≠ 0 ∨ nth w 2 0 ≠ 0 then 6
  else if !s.opAllowed op then 5
  else 0

/-- GNT_NET_CNT follows an accepted network command; the flash takes it at the first acceptance after a power-on and then at every
256th (R273). -/
def State.netAccept (s : State) (cnt : Word) : State :=
  let s1 := s.setReg Reg.GNT_NET_CNT cnt
  s1.setGnt fun g => { g with cnt := if g.cntRun = 0 then some cnt.toNat else g.cnt, cntRun := (g.cntRun + 1) % 256 }

/-- The record of a command. -/
def State.cmdNote (s : State) (src : CmdSource) (w : List Word) (res : Nat) : State :=
  s.note 1 0x41 ([b8 (srcCode src), b8 (fld (nth w 0 0) 0 8), b8 res, b8 (fld (nth w 1 0) 0 6)] ++ leBytes 2 (fld (nth w 0 0) 16 16) ++
    leBytes 4 (if src = .network then (nth w 3 0).toNat else 0))

/-- TEST ends: the injection bits of the Gauntlet clear. -/
def State.testEnd (s : State) (src : Nat) : State := s.clearGntInj.setAstate s.restState src 7 0 0

/-- An accepted command's change of the alarm state. -/
def State.cmdState (s : State) (src : CmdSource) (op g p : Nat) : State :=
  let c := srcCode src
  let a := s.astate
  match op with
  | 1 | 2 =>
    let s1 := if a = 3 then s.clearGntInj else s
    let was := decide (a = 1) || decide (a = 2)
    let s2 := s1.setAstate (if op = 2 ∨ a = 2 then 2 else 1) c op g p
    if was then s2 else s2.alarmStart
  | 3 => (s.setAstate s.restState c op 0 0).alarmEnd
  | 6 => s.setAstate 3 c op 0 0
  | 7 => s.testEnd c
  | 8 =>
    let keep := ((List.range 9).map fun i => if s.faultHolds i then 2 ^ i else 0).foldl (· + ·) 0
    let s1 := s.setReg Reg.GNT_FAULTS (s.reg Reg.GNT_FAULTS &&& w32 keep)
    if s1.reg Reg.GNT_FAULTS = 0 then s1.setAstate 0 c op 0 0 else s1.fltSync
  | _ => s

/-- RESET releases what programmes hold, stops what they started, ends their routes and commits the quiet OVR. -/
def State.cmdReset (s : State) : State :=
  let s1 := s.each s.gnt.holders fun s h =>
    if h.page then s.setHolder h.zone h.level (some { h with saved := none }) else (s.setHolder h.zone h.level none).zoneLevel h.zone h.level none
  let s2 := s1.each (List.range 16) fun s p => if (s.player p).prog then s.playStop p (putBit (s.reg (Reg.GNT_PLY_CTL p)) 31 false) else s
  let s3 := s2.each (List.range 4) fun s g => if (s.tone g).prog then s.toneStop g (putBit (s.reg (Reg.GNT_TONE_RUN g)) 31 false) else s
  let s4 := s3.each (List.range (min 64 (gRoutes s3.gnt.image))) fun s r =>
    let a := objAddr (s.routeObj r)
    s.gntTable a (putBit (s.sw a) 0 false)
  s4.commitOvr false

/-- An accepted command's effect on levels, sources and feeds; the flag says that a level was outranked. -/
def State.cmdLevels (s : State) (src : CmdSource) (w : List Word) (alarmed : Bool) : State × Bool :=
  let op := fld (nth w 0 0) 0 8
  let l := fld (nth w 0 0) 8 3
  let g := fld (nth w 1 0) 0 6
  match op with
  | 1 | 2 => ((if alarmed then s else s.commitOvr true).applyProg g (fld (nth w 1 0) 8 5), false)
  | 3 => (s.cmdReset, false)
  | 4 => s.zonesDo g fun s z => s.pageZone l (fld (nth w 1 0) 16 6) (srcRank src) z
  | 5 => s.zonesDo g fun s z => s.pageEndZone l (srcRank src) z
  | _ => (s, false)

/-- A player's own records of a command follow the command's: the records made from `k` on are set behind it. -/
def State.cmdAccept (s : State) (src : CmdSource) (w : List Word) : State × Nat :=
  let op := fld (nth w 0 0) 0 8
  let s1 := if src = .network then s.netAccept (nth w 3 0) else s
  let alarmed := decide (s1.astate = 1) || decide (s1.astate = 2)
  let s2 := s1.cmdState src op (fld (nth w 1 0) 0 6) (fld (nth w 1 0) 8 5)
  let out := (s2.cmdLevels src w alarmed).2
  let res := if out then 7 else 0
  (((s2.cmdNote src w res).cmdLevels src w alarmed).1, res)

/-! ## Resets (R266 to R268) -/

/-- The GNT registers that a domain reset keeps. -/
def domainKeeps (a : Nat) : Bool :=
  [0x0, 0x8, 0xC, 0x14, 0x20, 0x28, 0x2C, 0x30, 0x34, 0x38].contains a || (decide (0x40 ≤ a) && decide (a < 0x78)) ||
    decide (0x8000 ≤ a)

/-- UNUSABLE sets (R268); a duty unit that may yield does so (R306). -/
def State.setUnusable (s : State) : State :=
  if s.bitR Reg.GNT_STATUS 4 then s
  else ((s.setGntStatus (putBit (s.reg Reg.GNT_STATUS) 4 true)).fltSync).when s.yieldMay fun s => s.freeze 0x200

/-- A domain reset begins; `det`: the detector of causes 1 and 2. -/
def State.domainReset (s : State) (cause det : Nat) : State :=
  let n := satU 8 (s.fldR Reg.GNT_RST 8 8 + 1)
  let s0 := s.setReg Reg.GNT_RST (w32 (cause + 256 * n))
  let pc := s0.freeNat
  let s1 := if det = 0 then s0 else (s0.draw).raiseDet det 1 ([b8 s0.astate, b8 n] ++ leBytes 4 pc)
  let s2 := if cause = 4 then s1 else s1.gntFault 6
  let held := (List.range 16).map fun p => let x := s2.player p; if x.prog && s2.playing p then { x with gap := false, stop := false } else ({} : PlayerSt)
  let s3 : State := { s2 with
    regs := Store.clear (fun a => decide (a < 0x8000) && !domainKeeps a) s2.regs
    sai := { s2.sai with gin := [] }
    gnt := { s2.gnt with
      phase := 1, fw := false, activate := decide (cause = 4), players := held, tones := List.replicate 4 {}
      deb := List.replicate 8 false
      resets := s2.now :: s2.gnt.resets.filter fun t => decide (s2.now ≤ t + 10000000000) } }
  let s4 := (s3.setGntStatus (putBit (s3.reg Reg.GNT_STATUS) 6 false)).when (s2.bitR Reg.GNT_HMBX_STAT 31) fun s => s.evt Reg.HST_IRQ_LATCH 22
  ((s4.setBit Reg.PWR_MODE_STATUS 15 false).clearGntInj).fltSync

/-- WATCHDOG_EXPIRY (R266). -/
def execWatchdogExpiry (s : State) : Out := .next (if s.gnt.phase = 1 then s else s.domainReset 1 0x19)

/-- LOCKSTEP_MISMATCH (R266). -/
def execLockstepMismatch (s : State) : Out := .next (if s.gnt.phase = 1 then s else s.domainReset 2 0x1A)

/-- GNT_MEMORY_ERROR (R266): an uncorrectable error in the working memory, which detector 0x02 reports. -/
def execGntMemoryError (s : State) : Out :=
  .next (if s.gnt.phase = 1 then s
    else
      let s1 := match s.sramBad.find? fun b => decide (b.array = 9) && b.hard with
        | some b => s.scrub1 b
        | none => s
      s1.domainReset 3 0)

/-- GNT_WDT_KICK (R266): the period that applies from this kick. -/
def execGntWdtKick (ini : Initiator) (v : Word) (s : State) : Out :=
  .next (s.gwWrite ini Reg.GNT_WDT_KICK fun s =>
    if v = 0x5A then s.setGnt fun g => { g with wdt := min 1000 (max 10 (s.fldR Reg.GNT_WDT 0 16)) } else s)

/-- DOMAIN_RESET_RELEASE (R267, R268): the boot ROM verifies the Gauntlet firmware, or sets UNUSABLE. -/
def execDomainResetRelease (ok : Bool) (s : State) : Out :=
  .next (if s.gnt.phase = 0 ∨ !s.bitR Reg.CLK_STATUS 9 then s
    else if ok then s.setGnt fun g => { g with phase := 2 }
    else (s.setGnt fun g => { g with phase := 1 }).setUnusable)

/-- The registers and tables take the values of a Gauntlet image's payload (R284); levels that are held stay as they are. -/
def State.gntLoad (s : State) (id entry : Nat) (p : List Byte) : State :=
  let w (o : Nat) : Word := w32 (leAt p o 4)
  let s0 := s.setGnt fun g => { g with image := p, bad := [], ext := [], extCopy := false, pilots := [] }
  let s1 := ((((s0.setReg Reg.GNT_ALM_CFG (w 8)).setReg Reg.GNT_WDT (w 0xC)).setReg Reg.GNT_ZXTO (w 0x10)).setReg Reg.GNT_DUCK_RAMP (w 0x14)).setReg
    Reg.GNT_PILOT_CTL (w 0x20)
  let s2 := (s1.tslotWrite (w 0x18)).claimSet (fld (w 0x1C) 0 2)
  let s3 := s2.each (List.range 256) fun s z =>
    let hs := s.gnt.holders.filter fun h => decide (h.zone = z)
    let src (b : Nat) (v : Word) : Word := hs.foldl (fun v h => if h.level / 4 = b then putFld v (8 * (h.level % 4)) 6 h.src else v) v
    let o := 0x400 + 16 * z
    let act := hs.foldl (fun v h => putBit v h.level true) (w o &&& 0xFF)
    let b : BusWords := ⟨act, src 0 (w (o + 4)), src 1 (w (o + 8)), w (o + 12)⟩
    let s' := (((s.setReg (Reg.GNT_ZB_ACT z) b.act).setReg (Reg.GNT_ZB_SRCLO z) b.lo).setReg (Reg.GNT_ZB_SRCHI z) b.hi).setReg (Reg.GNT_ZB_LEVEL z) b.level
    { s' with trail := { s'.trail with zb := Store.set (fun _ => ({} : BusWords)) s'.trail.zb z b } }
  let s4 := s3.each (List.range 384) fun s f =>
    let o := 0x1400 + 8 * f
    let c := w (o + 4)
    let s' := (s.setReg (Reg.GNT_TF_ZONES f) (w o)).setReg (Reg.GNT_TF_CTL f) c
    let s'' := s'.setOvr f { s'.ovrSt f with ovr := fld c 4 2, duck := sfld c 8 24, fadeAt := none }
    { s'' with trail := { s''.trail with tf := Store.set (fun _ => ({} : FeedZones)) s''.trail.tf f ⟨w o, fld c 0 4⟩ } }
  let s5 := (s4.each (List.range 64) fun s j => s.setReg (Reg.GNT_TOUT j) (w (0x2180 + 4 * j))).each (List.range 32) fun s i =>
    s.setReg (Reg.GNT_TIN i) (w (0x2280 + 4 * i))
  let pilot (k : Nat) : Nat := ((List.range 32).map fun i => byteAt p (0x2000 + 32 * k + i) / 128 * 2 ^ i).foldl (· + ·) 0
  let s6 := (s5.each (List.range 12) fun s k => s.setReg (0x40 + 4 * k) (w32 (pilot k))).each (List.range 2) fun s k =>
    s.setReg (0x70 + 4 * k) (w (0x2300 + 4 * k))
  let st := gStore p
  let s7 := (s6.putArray 0x06D00000 (padTo 16384 ((p.drop gMsgOff).take (16 * gMsgs p)))).putArray 0x06000000 ((p.drop st.1).take st.2)
  let s8 : State := { s7 with trail := { s7.trail with zbPend := [], tfPend := [], zbFrom := [], tfFrom := [], ovrPend := [], hist := [] } }
  (s8.setReg Reg.GNT_IMG_ID (w32 id)).setGntStatus (putFld (putBit (s8.reg Reg.GNT_STATUS) 7 true) 8 2 entry)

/-- Firmware selects the image at a power-on reset: ENTRY1, or ENTRY2 if it fails; and at an activation the entry that is not
in use, or else the one in use (R283). With none, the Trail has no image and UNUSABLE sets. -/
def State.gntSelect (s : State) : State :=
  let order := if s.gnt.activate ∧ s.fldR Reg.GNT_STATUS 8 2 = 1 then [2, 1] else [1, 2]
  match order.findSome? fun e => (s.gntVerify e).map fun x => (e, x) with
  | some (e, x) => s.gntLoad x.1 e x.2
  | none =>
    let s1 := s.setGntStatus (putFld (putBit (s.reg Reg.GNT_STATUS) 7 false) 8 2 0)
    ((s1.setGnt fun g => { g with image := [] }).gntFault 0).setUnusable

/-- UNUSABLE_CLEAR (R268): the Trail has been live for 60 s with a verified image and no further domain reset. -/
def execUnusableClear (s : State) : Out :=
  .next (if s.gnt.phase = 0 ∧ s.bitR Reg.GNT_STATUS 6 ∧ s.bitR Reg.GNT_STATUS 7 ∧ s.bitR Reg.GNT_STATUS 4 then
      ((s.setGnt fun g => { g with resets := [] }).setGntStatus (putBit (s.reg Reg.GNT_STATUS) 4 false)).fltSync
    else s)

/-! ## Commands from their sources (R271, R275) -/

/-- A command is checked, acts and is recorded; the answer is its result. -/
def State.gntCommand (s : State) (src : CmdSource) (w : List Word) : State × Nat :=
  let r := s.cmdCheck src w
  if r ≠ 0 then (s.cmdNote src w r, r) else s.cmdAccept src w

/-- An accepted IMG_ACTIVATE resets the domain, once its answer has gone out (R266). -/
def State.afterCommand (s : State) (w : List Word) (res : Nat) : State :=
  s.when (decide (res = 0) && decide (fld (nth w 0 0) 0 8 = 9)) fun s => s.domainReset 4 0

/-- A command of a contact runs. -/
def State.contactRun (s : State) (w : List Word) : State :=
  let r := s.gntCommand .contact w
  r.1.afterCommand w r.2

/-- The registers of an inbox: words, GO and status of the host's, or of the service's. -/
def inboxBase (svc : Bool) : Nat := if svc then 0x440 else 0x400

/-- The words of an inbox. -/
def State.inboxWords (s : State) (svc : Bool) : List Word := (List.range 8).map fun i => s.reg (inboxBase svc + 4 * i)

/-- An inbox command is answered: RESULT and SEQ, and BUSY clears (R289). -/
def State.inboxRun (s : State) (svc : Bool) : State :=
  let st := inboxBase svc + 0x24
  if !s.bitR st 31 then s
  else
    let w := s.inboxWords svc
    let r := s.gntCommand (if svc then .network else .host) w
    ((r.1.setReg st (w32 (fld (nth w 0 0) 16 16 + 65536 * r.2 + 2 ^ 30 * (s.bitR st 30).toNat))).when (!svc) fun s =>
      s.evt Reg.HST_IRQ_LATCH 22).afterCommand w r.2

/-- A command with no known OP that came while the domain was in reset is answered once firmware runs (R273). -/
def State.inboxLate (s : State) (svc : Bool) : State :=
  let op := fld (nth (s.inboxWords svc) 0 0) 0 8
  if op = 0 ∨ 9 < op then s.inboxRun svc else s

/-- A write of an inbox's GO: BUSY sets, or OVERRUN while it is set. A command with no known OP has no row of its own, and is
answered here. -/
def State.inboxGo (s : State) (svc : Bool) (v : Word) : State :=
  let st := inboxBase svc + 0x24
  if s.bitR st 31 then s.setBit st 30 true
  else if !bitOf v 0 then s
  else
    let s1 := s.setReg st 0x80000000
    let op := fld (nth (s1.inboxWords svc) 0 0) 0 8
    if (op = 0 ∨ 9 < op) ∧ s1.gnt.phase = 0 then s1.inboxRun svc else s1

/-- A write of an inbox word; ignored while BUSY, which sets OVERRUN. -/
def State.inboxWord (s : State) (svc : Bool) (i : Nat) (v : Word) : State :=
  let st := inboxBase svc + 0x24
  if s.bitR st 31 then s.setBit st 30 true else s.setReg (inboxBase svc + 4 * i) v

/-! ## Trail live (R267) -/

/-- Firmware checks its tables in the working memory against the active image: what differs, or holds an uncorrectable word, is
written again (R267 step 3). -/
def State.tablesCheck (s : State) : State :=
  let dir := padTo 16384 ((s.gnt.image.drop gMsgOff).take (16 * gMsgs s.gnt.image))
  let lost := s.sramBad.any fun b => decide (b.array = 9) && b.hard
  if s.gnt.image.isEmpty ∨ (!lost ∧ s.sramBytes 0x06D00000 16384 = dir) then s
  else
    let t := s.putArray 0x06D00000 dir
    { t with sramBad := t.sramBad.filter fun b => decide (b.array ≠ 9) }

/-! ## The console's answers -/

/-- The names of R289's results. -/
def resultName : Nat → String
  | 1 => "BAD_OP"
  | 2 => "NOT_PERMITTED"
  | 3 => "BAD_TAG"
  | 4 => "REPLAY"
  | 5 => "STATE"
  | 6 => "RANGE"
  | 7 => "OUTRANKED"
  | 8 => "NO_IMAGE"
  | _ => "OK"

/-- The bytes of an ASCII text. -/
def ascii (t : String) : List Byte := t.toList.map fun c => b8 c.toNat

/-- The console answers a line (R551): a command that completes is OK, another is ERR with its result's name. -/
def State.uartAnswer (s : State) (r : Nat) : State :=
  s.emit .uart 0 (ascii (if r = 0 then "OK" else "ERR " ++ resultName r) ++ [13])

/-- A command row: what waits in the host's or the service's inbox, or the words of a contact or a console line, where they
spell this row's OP and firmware runs; a contact's command waits for firmware that does not. -/
def State.cmdRow (s : State) (op : Nat) (src : CmdSource) (w0 w1 : Word) : Out :=
  .next (if s.gnt.phase ≠ 0 then
      s.when (decide (src = .contact) && decide (fld w0 0 8 = op)) fun s => s.setGnt fun g => { g with wait := g.wait ++ [[w0, w1]] }
    else match src with
      | .host => if s.bitR 0x424 31 ∧ fld (s.reg 0x400) 0 8 = op then s.inboxRun false else s
      | .network => if s.bitR 0x464 31 ∧ fld (s.reg 0x440) 0 8 = op then s.inboxRun true else s
      | .contact => if fld w0 0 8 = op then s.contactRun [w0, w1] else s
      | .console =>
        if fld w0 0 8 = op then
          let r := s.gntCommand .console [w0, w1]
          (r.1.uartAnswer r.2).afterCommand [w0, w1] r.2
        else s
      | .firmware => s)

/-- ALERT (R269). -/
def execAlert (src : CmdSource) (w0 w1 : Word) (s : State) : Out := s.cmdRow 1 src w0 w1

/-- EVAC (R269). -/
def execEvac (src : CmdSource) (w0 w1 : Word) (s : State) : Out := s.cmdRow 2 src w0 w1

/-- RESET (R269). -/
def execGntReset (src : CmdSource) (w0 w1 : Word) (s : State) : Out := s.cmdRow 3 src w0 w1

/-- PAGE (R274). -/
def execPage (src : CmdSource) (w0 w1 : Word) (s : State) : Out := s.cmdRow 4 src w0 w1

/-- PAGE_END (R274). -/
def execPageEnd (src : CmdSource) (w0 w1 : Word) (s : State) : Out := s.cmdRow 5 src w0 w1

/-- TEST_START (R269). -/
def execTestStart (src : CmdSource) (w0 w1 : Word) (s : State) : Out := s.cmdRow 6 src w0 w1

/-- TEST_END (R269). -/
def execTestEnd (src : CmdSource) (w0 w1 : Word) (s : State) : Out := s.cmdRow 7 src w0 w1

/-- FAULT_ACK (R269). -/
def execFaultAck (src : CmdSource) (w0 w1 : Word) (s : State) : Out := s.cmdRow 8 src w0 w1

/-- IMG_ACTIVATE (R269, R283). -/
def execImgActivate (src : CmdSource) (w0 w1 : Word) (s : State) : Out := s.cmdRow 9 src w0 w1

/-- TEST_TIMEOUT (R269): 60 min in TEST. -/
def execTestTimeout (s : State) : Out := .next (if s.gnt.phase = 0 ∧ s.astate = 3 then s.testEnd 4 else s)

/-- An input's edge issues the contact map's command (R275). -/
def State.contactAct (s : State) (i : Nat) (level : Bool) : State :=
  if nth s.gnt.acted i false = level then s
  else
    let s1 := s.setGnt fun g => { g with acted := putNth g.acted i level }
    let o := 0x60 + 16 * i + (if level then 0 else 8)
    let w0 := w32 (s1.gim o)
    if fld w0 0 8 = 0 then s1 else s1.contactRun [w0, w32 (s1.gim (o + 4))]

/-- One input of a sample, unless the command of an earlier one has reset the domain: with PAIR, two equal inputs are a fault and take no action, and a pair acts as its even input. -/
def State.contactStep (s : State) (k : Nat) : State :=
  let e := nth s.gnt.deb k false
  if s.gnt.phase ≠ 0 then s
  else if s.bitR Reg.GNT_ALM_CFG (16 + k / 2) then
    if k % 2 = 1 then s
    else if e = nth s.gnt.deb (k + 1) false then (s.setBit Reg.GNT_ALM_IN (16 + k / 2) true).gntFault 4
    else (s.setBit Reg.GNT_ALM_IN (16 + k / 2) false).contactAct k e
  else s.contactAct k e

/-- The debounced inputs after a sample with the levels `raw`: after INV, a DEB of 0 or 1 takes the level at once; with a longer one,
an input stands where `deb` says that DEB samples have agreed, which this sample must do too (R275). -/
def State.debounced (s : State) (raw deb : Nat) : List Bool :=
  (List.range 8).map fun k =>
    let lvl := raw.testBit k != s.bitR Reg.GNT_ALM_CFG (24 + k)
    if s.fldR Reg.GNT_ALM_CFG 0 8 ≤ 1 ∨ deb.testBit k = lvl then lvl else nth s.gnt.deb k false

/-- A sample of the contacts with the levels `raw`, in which the inputs of `deb` stand debounced. -/
def State.contactSample (s : State) (raw deb : Nat) : State :=
  let d := s.debounced raw deb
  let rise := (List.range 8).any fun k => nth d k false && !nth s.gnt.deb k false
  let s1 := (s.when rise State.sleepAbort).setGnt fun g => { g with deb := d }
  let s2 := (s1.setFld Reg.GNT_ALM_IN 0 8 raw).setFld Reg.GNT_ALM_IN 8 8 (((List.range 8).map fun k => if nth d k false then 2 ^ k else 0).foldl (· + ·) 0)
  s2.each (List.range 8) State.contactStep

/-- CONTACT_EDGE (R275): a sample of the contacts after which debounced inputs stand changed; before Trail live it waits for firmware
(R48, R267). -/
def execContactEdge (raw deb : BitVec 8) (s : State) : Out :=
  .next (if s.gnt.phase ≠ 0 then s.setGnt fun g => { g with seen := some (raw.toNat, deb.toNat) } else s.contactSample raw.toNat deb.toNat)

/-- Firmware runs again: it acts on the contacts as they stand and on the commands that waited, so that an alarm of WAKE W1 or of the
wake from THERMOS is active at Trail live (R48). -/
def State.contactsLate (s : State) : State :=
  let cs := s.gnt.wait
  let s1 : State := s.setGnt fun g => { g with seen := none, wait := [] }
  let s2 := match s.gnt.seen with
    | some (raw, deb) => s1.contactSample raw deb
    | none => s1
  s2.each cs State.contactRun

/-- TRAIL_LIVE (R267): firmware has its tables; the registers of the console's settings are written; programme players start
again; WAKE W1 ends in TRAIL, with the alarm of a contact that closed before, and the automatic start may follow. -/
def execTrailLive (us : Word) (s : State) : Out :=
  .next (if s.gnt.phase ≠ 2 then s
    else
      let on := s.gnt.powerOn
      let s1 := if on ∨ s.gnt.activate then s.gntSelect else s.tablesCheck
      let s2 := if on then
          (match s1.gnt.cnt with
            | some c => s1.setReg Reg.GNT_NET_CNT (w32 (c + 256))
            | none => s1)
        else s1
      let s3 := s2.each s2.gnt.keep fun s e => s.setReg e.1 e.2
      let s4 := s3.setGnt fun g => { g with phase := 0, fw := true, powerOn := false, activate := false
                                            wdt := min 1000 (max 10 (s3.fldR Reg.GNT_WDT 0 16)) }
      let s5 := ((s4.setGntStatus (putBit (s4.reg Reg.GNT_STATUS) 6 true)).setBit Reg.PWR_MODE_STATUS 15 true).fltSync
      let many := decide (3 ≤ s5.gnt.resets.length)
      let s6 := if many then s5.setUnusable else s5
      let s7 := if on then s6
        else s6.note 1 0x44 ([b8 (s6.fldR Reg.GNT_RST 0 4), b8 (if s6.bitR Reg.GNT_STATUS 4 then 2 else 1)] ++ leBytes 4 us.toNat)
      let s8 := s7.each ((List.range 16).filter fun p => (s7.player p).prog) fun s p => s.playStart p (s.player p).cmd true
      let s9 := s8.foscRecord.when s8.appOn fun s => s.setBit Reg.HST_STATUS 8 true
      let s9 := ((s9.when (s9.bitR Reg.CLK_STATUS 11) fun s => s.gntFault 7).inboxLate false).inboxLate true
      let s10 := if s9.pmode = 1 ∧ s9.phase = 1 then (s9.goMode 2 (s9.fldR Reg.PWR_MODE_CAUSE 8 4) 0) else s9
      s10.contactsLate.alarmSync.autoStart)

end Sys2Proof.Machine
end

