-- ==== Sys2Proof/Machine/GntConsole.lean ====
section
/-!
DEFINITION. The Gauntlet console (R551): its verbs, and the settings it makes (R286, R333, R340, R467). A line is read as the
verb and its arguments, numbers in decimal, offsets, values and hashes in hexadecimal.
-/
namespace Sys2Proof.Machine

/-- A console verb that needs QUIET answers STATE in another state; nothing reads the line while firmware does not run. -/
def State.conQuiet (s : State) (f : State → State × Nat) : State :=
  if s.gnt.phase ≠ 0 then s
  else if s.astate ≠ 0 then s.uartAnswer 5
  else
    let r := f s
    r.1.uartAnswer r.2

/-! ## The verbs that need QUIET -/

/-- KEY PROGRAM and KEY REVOKE: the refusals of R257 but for the mode (R286). -/
def State.conKey (s : State) (slot : Nat) (h : Option (BitVec 256)) : State × Nat :=
  let k := nth s.fuse.gnt slot {}
  let last := decide ((s.fuse.gnt.filter fun x => x.hash.isSome && !x.revoked).length ≤ 1) && !k.revoked
  let ok := !s.fuseBusy && (if h.isSome then k.hash.isNone else k.hash.isSome && !last)
  if ok then ({ s with fuse := { s.fuse with busy := some (.gnt slot h) } }, 0) else (s, 2)

/-- KEY_PROGRAM (R286). -/
def execKeyProgram (slot : Bool) (hash : BitVec 256) (s : State) : Out :=
  .next (s.conQuiet fun s => s.conKey slot.toNat (some hash))

/-- KEY_REVOKE (R286). -/
def execKeyRevoke (slot : Bool) (s : State) : Out := .next (s.conQuiet fun s => s.conKey slot.toNat none)

/-- REC ERASE: the region is being erased until REC_ERASE_DONE (R467). -/
def State.conErase (s : State) : State × Nat :=
  if 2 ≤ s.recSlots ∧ !s.log.searching then ({ s with log := { s.log with erasing := true } }, 0) else (s, 5)

/-- REC_ERASE (R467). -/
def execRecErase (s : State) : Out := .next (s.conQuiet State.conErase)

/-- REC WINDOW: the window of the next record, and RWIN of the Gauntlet flash directory with its CRC (R467). -/
def State.conWindow (s : State) (sec : Nat) : State × Nat :=
  if 60 < sec then (s, 6)
  else
    let s1 := (s.setReg Reg.REC_WINDOW (w32 (1000 * sec))).putGflash 52 (leBytes 4 (2 ^ 31 + 1000 * sec))
    (s1.putGflash 60 (leBytes 4 (crc32 (s1.gflashBytes 0 60))), 0)

/-- REC_WINDOW (R467). -/
def execRecWindow (sec : BitVec 16) (s : State) : Out := .next (s.conQuiet fun s => s.conWindow sec.toNat)

/-- CLAIM (R340). -/
def execClaim (m : BitVec 2) (s : State) : Out := .next (s.conQuiet fun s => (s.claimSet m.toNat, 0))

/-- A setting of the console stands in the Gauntlet flash. -/
def State.conKeep (s : State) (a : Nat) : State :=
  s.setGnt fun g => { g with keep := (g.keep.filter fun e => decide (e.1 ≠ a)) ++ [(a, s.reg a)] }

/-- SNS: a register of a claimed group or line entry, by its offset from the SNS base (R340). -/
def State.conSns (s : State) (off : Nat) (v : Word) : State × Nat :=
  let a := 0x900000 + off
  let at_ (i : Nat) : Bool := s.gntSide a && decide (a = Reg.SNS_GRP_CTL (6 + i))
  if !s.gntSide a || off % 4 ≠ 0 then (s, 6)
  else if at_ 0 then (s.snsGrpCtl 6 v, 0)
  else if at_ 1 then (s.snsGrpCtl 7 v, 0)
  else
    let m := regMask a
    let put (s : State) : State := s.setReg a ((s.reg a &&& ~~~m) ||| (v &&& m))
    ((if 0x901000 ≤ a ∧ a < 0x901800 then s.lineWrite ((a - 0x901000) / 32) put else put s).conKeep a, 0)

/-- SNS (R340). -/
def execSns (off : BitVec 16) (v : Word) (s : State) : Out := .next (s.conQuiet fun s => s.conSns off.toNat v)

/-- SAI MS: MS of the pairs of G22 or G23 (R333). -/
def State.conMs (s : State) (g v : Bool) : State × Nat :=
  let a := Reg.SAI_CKA_CFG (22 + g.toNat)
  ((s.setBit a 30 v).conKeep a, 0)

/-- SAI_MS (R333). -/
def execSaiMs (g : Bool) (v : Bool) (s : State) : Out := .next (s.conQuiet fun s => s.conMs g v)

/-! ## STATUS -/

/-- The digits of a word in hexadecimal. -/
def hexWord (w : Word) : List Byte :=
  (List.range 8).map fun i =>
    let d := fld w (28 - 4 * i) 4
    b8 (if d < 10 then 48 + d else 55 + d)

/-- SLEEP_OK of GNT_STATUS is computed (R289). -/
def State.gntStatusNow (s : State) : Word := putBit (s.reg Reg.GNT_STATUS) 5 s.sleepOk

/-- STATUS: GNT_STATUS and GNT_FAULTS, then OK. -/
def State.conStatus (s : State) : State :=
  (s.emit .uart 0 (hexWord s.gntStatusNow ++ [32] ++ hexWord (s.reg Reg.GNT_FAULTS) ++ [13])).uartAnswer 0

/-- CONSOLE_STATUS (R551). -/
def execConsoleStatus (s : State) : Out := .next (if s.gnt.phase = 0 then s.conStatus else s)

/-! ## Lines -/

/-- The words of a line. -/
def words (line : List Byte) : List (List Nat) :=
  let step (a : List Nat × List (List Nat)) (b : Byte) : List Nat × List (List Nat) :=
    if b.toNat = 32 then (if a.1 = [] then a else ([], a.2 ++ [a.1])) else (a.1 ++ [b.toNat], a.2)
  let r := line.foldl step ([], [])
  if r.1 = [] then r.2 else r.2 ++ [r.1]

/-- A digit. -/
def digitOf (c : Nat) : Option Nat :=
  if 48 ≤ c ∧ c ≤ 57 then some (c - 48) else if 65 ≤ c ∧ c ≤ 70 then some (c - 55) else if 97 ≤ c ∧ c ≤ 102 then some (c - 87) else none

/-- A number of a base. -/
def numOf (base : Nat) (t : List Nat) : Option Nat :=
  if t = [] then none
  else t.foldl (fun a c => match a, digitOf c with
    | some n, some d => if d < base then some (n * base + d) else none
    | _, _ => none) (some 0)

/-- A decimal number. -/
def decOf (t : List Nat) : Option Nat := numOf 10 t

/-- A hexadecimal number, with or without 0x. -/
def hexOf (t : List Nat) : Option Nat :=
  match t with
  | 48 :: 120 :: r => numOf 16 r
  | _ => numOf 16 t

/-- The words of a command: OP, PRIO, GROUP, PROG and SRC (R272). -/
def cmdWords (op prio g p src : Nat) : List Word := [w32 (op + 256 * prio), w32 (g + 256 * p + 65536 * src)]

/-- A command of the console and its answer. -/
def State.conCmd (s : State) (op prio g p src : Nat) : State :=
  let w := cmdWords op prio g p src
  let r := s.gntCommand .console w
  (r.1.uartAnswer r.2).afterCommand w r.2

/-- The code points of a verb. -/
def verb (t : String) : List Nat := t.toList.map Char.toNat

/-- A line acts (R551); arguments a command word cannot hold are out of range, and any other line is no command. -/
def State.conLine (s : State) (line : List Byte) : State :=
  if 80 < line.length then s.uartAnswer 1
  else
    let ws := words line
    let v := ws.headD []
    let a (i : Nat) : List Nat := nth ws (i + 1) []
    let n := ws.length - 1
    let isV (t : String) (k : Nat) : Bool := decide (v = verb t) && decide (n = k)
    let sub (t : String) : Bool := decide (a 0 = verb t)
    let d (i : Nat) : Option Nat := decOf (a i)
    let h (i : Nat) : Option Nat := hexOf (a i)
    let range : State := s.uartAnswer 6
    let bad : State := s.uartAnswer 1
    if isV "ALERT" 2 || isV "EVAC" 2 then
      match d 0, d 1 with
      | some g, some p => if g < 64 ∧ p < 32 then s.conCmd (if v = verb "ALERT" then 1 else 2) 0 g p 0 else range
      | _, _ => bad
    else if isV "RESET" 0 then s.conCmd 3 0 0 0 0
    else if isV "PAGE" 3 then
      match d 0, d 1, d 2 with
      | some g, some p, some x => if g < 64 ∧ p < 8 ∧ x < 64 then s.conCmd 4 p g 0 x else range
      | _, _, _ => bad
    else if isV "PAGE_END" 2 then
      match d 0, d 1 with
      | some g, some p => if g < 64 ∧ p < 8 then s.conCmd 5 p g 0 0 else range
      | _, _ => bad
    else if isV "TEST" 1 ∧ sub "START" then s.conCmd 6 0 0 0 0
    else if isV "TEST" 1 ∧ sub "END" then s.conCmd 7 0 0 0 0
    else if isV "ACK" 0 then s.conCmd 8 0 0 0 0
    else if isV "STATUS" 0 then s.conStatus
    else if isV "KEY" 3 ∧ sub "PROGRAM" then
      match d 1, numOf 16 (a 2) with
      | some k, some x => if k < 2 ∧ (a 2).length = 64 then s.conQuiet fun s => s.conKey k (some (BitVec.ofNat 256 (leNat (leBytes 32 x).reverse))) else range
      | _, _ => bad
    else if isV "KEY" 2 ∧ sub "REVOKE" then
      match d 1 with
      | some k => if k < 2 then s.conQuiet fun s => s.conKey k none else range
      | none => bad
    else if isV "REC" 1 ∧ sub "ERASE" then s.conQuiet State.conErase
    else if isV "REC" 2 ∧ sub "WINDOW" then
      match d 1 with
      | some k => s.conQuiet fun s => s.conWindow k
      | none => bad
    else if isV "CLAIM" 1 then
      match d 0 with
      | some k => if k < 4 then s.conQuiet fun s => (s.claimSet k, 0) else range
      | none => bad
    else if isV "SNS" 2 then
      match h 0, h 1 with
      | some o, some x => if o < 65536 ∧ x < 2 ^ 32 then s.conQuiet fun s => s.conSns o (w32 x) else range
      | _, _ => bad
    else if isV "SAI" 3 ∧ sub "MS" then
      match d 1, d 2 with
      | some g, some x => if (g = 22 ∨ g = 23) ∧ x < 2 then s.conQuiet fun s => s.conMs (decide (g = 23)) (decide (x = 1)) else range
      | _, _ => bad
    else bad

/-- CONSOLE_LINE (R551): a line of up to 80 characters, without its ending. -/
def execConsoleLine (line : List Byte) (s : State) : Out := .next (if s.gnt.phase = 0 then s.conLine line else s)

end Sys2Proof.Machine
end

