-- ==== Sys2Proof/Machine/DramSvc.lean ====
section
/-!
DEFINITION. The DRAM controller's own work (R500 to R508): refresh and its debts, the refresh rate, self-refresh,
initialisation, training and test points.
-/
namespace Sys2Proof.Machine

/-! ## Refresh (R500, R501) -/

/-- The controller itself refreshes the devices: full service, or a request has it out of self-refresh. -/
def State.refreshes (s : State) : Bool := decide (s.service = 1) || (decide (s.service = 2) && s.drc.awake)

/-- D of a channel. -/
def State.debt (s : State) (c : Nat) : Nat := s.fldR Reg.DRC_DEBT (4 * c) 4

/-- Put D of a channel. -/
def State.setDebt (s : State) (c d : Nat) : State := s.setFld Reg.DRC_DEBT (4 * c) 4 d

/-- Urgent refreshes bring D to 5 (R501). -/
def State.urgent (s : State) (c : Nat) : State :=
  if 6 ≤ s.debt c then (s.count Reg.DRC_URGENT (s.debt c - 5)).setDebt c 5 else s

/-- REFRESH_DUE (R500, R501): the urgent refreshes that a doubling of the rate left were issued, then `paid` postponed ones, and one more
falls due. -/
def execRefreshDue (c : BitVec 2) (rt : Bool) (paid : Nat) (s : State) : Out :=
  let k := c.toNat
  .next (if s.refreshes then
      let s1 := s.urgent k
      let d := s1.debt k - paid
      (s1.setDebt k (if rt then d + 1 else d)).urgent k
    else s)

/-! ## The refresh rate (R502) -/

/-- tRFCab in ns of a density (R494). -/
def tRfc (density : Nat) : Nat :=
  match density with
  | 1 => 180
  | 2 => 280
  | 3 => 380
  | _ => 0

/-- The rate doubles: every debt doubles, and the excess over 8 is repaid in a stall of the four channels. -/
def State.rateUp (s : State) : State :=
  let r := s.fldR Reg.DRC_STATUS 4 2
  let ds := (List.range 4).map s.debt
  let most := ds.foldl max 0
  let s1 := (s.each (List.range 4) fun s c => s.setDebt c (min 8 (2 * nth ds c 0))).setFld Reg.DRC_STATUS 4 2 (r + 1)
  if most ≤ 4 then s1
  else
    let ex := 2 * most - 8
    ((s1.evt Reg.DRC_EVT 2).count Reg.DRC_STALLS 1).raiseDet 0x21 0x10
      ([b8 r, b8 (r + 1), b8 ex, b8 most] ++ s1.blkBytes ++ leBytes 2 (ex * tRfc (s1.fldR Reg.DRC_STATUS 6 2)))

/-- The rate halves: every debt halves, rounded up. -/
def State.rateDown (s : State) : State :=
  let r := s.fldR Reg.DRC_STATUS 4 2
  (s.each (List.range 4) fun s c => s.setDebt c ((s.debt c + 1) / 2)).setFld Reg.DRC_STATUS 4 2 (r - 1)

/-- The rate that an MR4 code requires. -/
def rateOf (code : Nat) : Nat := if code ≤ 3 then 0 else if code = 4 then 1 else 2

/-- MR4_POLL (R502): the codes of the four channels; 0b111 sets TEMP and acts as the shutdown threshold (R518), with a free
value for the temperature. -/
def execMr4Poll (c0 c1 c2 c3 : BitVec 3) (s : State) : Out :=
  .next (if !s.refreshes then s
    else
      let cs := [c0.toNat, c1.toNat, c2.toNat, c3.toNat]
      let s1 := s.each cs.zipIdx fun s p => s.setFld Reg.DRC_MR4 (4 * p.2) 3 p.1
      let now := s1.fldR Reg.DRC_STATUS 4 2
      let want := (cs.map rateOf).foldl max 0
      let s2 := if now < want then s1.each (List.range (want - now)) fun s _ => s.rateUp
        else s1.each (List.range (now - want)) fun s _ => s.rateDown
      match cs.findIdx? (fun c => decide (c = 7)) with
      | some c => ((s2.evt Reg.DRC_EVT 7).draw).tempShut 3 c (w32 (s2.freeNat % 65536))
      | none => s2)

/-! ## Service (R503, R505) -/

/-- SELF_REFRESH_IDLE (R503): 1 ms without a request in low-power service. -/
def execSelfRefreshIdle (s : State) : Out :=
  .next (if s.service = 2 ∧ s.drc.awake then s.selfRefresh false else s)

/-- DRAM_INIT_DONE (R505): READY sets; WAKE W2 ends, or a train that waited for READY is armed. -/
def execDramInitDone (s : State) : Out :=
  .next (if s.bitR Reg.DRC_STATUS 3 then
      let s1 := s.dramInitDone
      if s1.pmode = 1 ∧ !s1.mode.alarmFx then { s1 with mode := { s1.mode with w2 := some true } } else s1.tryArm
    else s)

/-! ## Training (R507, R508) -/

/-- A write of DRC_CMD (R507). -/
def State.drcCmd (s : State) (v : Word) : State :=
  if !bitOf v 0 then s
  else if s.pmode = 10 then { s with drc := { s.drc with retrain := true } }
  else s.notReady

/-- DRC_RETRAIN (R507). -/
def execDrcRetrain (ini : Initiator) (s : State) : Out := s.access ini Reg.DRC_CMD fun s => s.drcCmd 1

/-- A write of DRC_TRN_GO (R508). -/
def State.trnGo (s : State) (v : Word) : State :=
  let ctl := s.reg Reg.DRC_TRN_CTL
  let st := Reg.DRC_TRN_STAT
  if !bitOf v 0 || s.bitR st 0 then s
  else if fld ctl 16 16 = 0 then (s.setBit st 7 true).setBit st 1 true
  else
    let s1 := ((s.setBit st 7 false).setBit st 1 false).setBit st 0 true
    { s1 with drc := { s1.drc with point := some (fld ctl 0 2, fld ctl 4 3) } }

/-- DRC_TRN_GO (R508). -/
def execDrcTrnGo (ini : Initiator) (s : State) : Out := s.access ini Reg.DRC_TRN_GO fun s => s.trnGo 1

/-- TEST_POINT_DONE (R508): the mismatches of the bit entries, and what write leveling or the read gate found. -/
def execTestPointDone (errs : List Nat) (found : BitVec 2) (s : State) : Out :=
  let st := Reg.DRC_TRN_STAT
  .next (match s.drc.point with
    | none => s
    | some (ch, step) =>
      let s1 := s.each ((errs.take 27).zipIdx) fun s p => s.countFld (Reg.DRC_TRN_ERR ch p.2) 0 16 p.1
      let s2 := if step = 1 then s1.setFld st 2 2 found.toNat else if step = 2 then s1.setFld st 4 2 found.toNat else s1
      let s3 := (s2.setBit st 0 false).setBit st 1 true
      { s3 with drc := { s3.drc with point := none } })

/-- Training fails (R508): WAKE W2 ends in TRAIL, and a RETRAIN keeps the delays that were in force. -/
def State.trainFail (s : State) : State :=
  let s1 := (s.setBit Reg.DRC_TRN_STAT 8 true).evt Reg.DRC_EVT 5
  let s2 : State := { s1 with drc := { s1.drc with retrain := false } }
  if s2.pmode = 1 ∧ s2.phase = 2 ∧ !s2.mode.alarmFx then { s2 with mode := { s2.mode with w2 := some false } } else s2

/-- A write of DRC_TRN_STAT: FAIL alone can be written. -/
def State.trnStat (s : State) (v : Word) : State := if bitOf v 8 then s.trainFail else s.setBit Reg.DRC_TRN_STAT 8 false

/-- TRAINING_FAIL (R508). -/
def execTrainingFail (s : State) : Out := s.access .service Reg.DRC_TRN_STAT State.trainFail

/-- TRAINING_COMPLETE (R51, R494): the density that all four devices gave; in WAKE W2 initialisation starts. A density that is
not supported fails training. -/
def execTrainingComplete (density : BitVec 2) (s : State) : Out :=
  s.access .service Reg.DRC_TRN_STAT fun s =>
    let w2 := decide (s.pmode = 1) && decide (s.phase = 2) && !s.mode.alarmFx
    if !w2 && !s.drc.retrain then s
    else if density = 0 then s.trainFail
    else
      let s1 := (s.setFld Reg.DRC_STATUS 6 2 density.toNat).setReg Reg.DRC_USABLE (w32 (1792 * 2 ^ (density.toNat - 1)))
      let s2 : State := { s1 with drc := { s1.drc with trained := true, retrain := false } }
      if w2 then s2.dramFull else s2

end Sys2Proof.Machine
end

