-- ==== Sys2Proof/Machine/Integrity.lean ====
section
/-!
DEFINITION. Fault injection (R445 to R448) and debug access (R450 to R452).
-/
namespace Sys2Proof.Machine

/-! ## Injection (R445, R446) -/

/-- An injection write is refused. -/
def State.injRefuse (s : State) : State := (s.count Reg.INT_INJ_REFUSED 1).evt Reg.INT_EVT 0

/-- The injection bit of a detector sets. -/
def State.injArm (s : State) (d : Nat) : State :=
  if d < 32 then s.setBit Reg.INT_INJ0 d true else s.setBit Reg.INT_INJ1 (d - 32) true

/-- An SRAM injection whose target is admitted arms (R447). -/
def State.injSram (s : State) (d : Nat) : State :=
  let a := s.fldR Reg.INT_SRAM_TGT 24 4
  let same := decide (s.fldR Reg.INT_SRAM_BITS 0 6 = s.fldR Reg.INT_SRAM_BITS 8 6)
  if a = 3 ∨ a = 9 ∨ (arrayRow a).size / 8 ≤ s.fldR Reg.INT_SRAM_TGT 0 21 ∨ (d = 2 ∧ same) then s.injRefuse else s.injArm d

/-- A DRAM injection whose target is admitted arms (R510). -/
def State.injDram (s : State) (d : Nat) : State :=
  let a := (s.reg Reg.DRC_INJ_ADDR).toNat * 64
  let bad := match s.regionAt a with
    | some r => decide (r.kind = 3) || decide (r.kind = 4)
    | none => false
  if decide (s.usable ≤ a) || bad then s.injRefuse else s.injArm d

/-- A word of ones as an index without meaning. -/
def noIx : List Byte := [0xFF, 0xFF]

/-- An injected detector is raised once: its event bit, its counter and its record (R446 and the owning chapters). -/
def State.injRaise (s : State) (d : Nat) : State :=
  let z (n : Nat) : List Byte := List.replicate n 0
  match d with
  | 0x01 | 0x02 => s.injSram d
  | 0x03 | 0x04 => s.injDram d
  | 0x05 | 0x06 => (s.clkTrip true).clkRaise d 0xFF 0
  | 0x07 => (s.evt Reg.CLK_EVT 1).clkRaise d 0xFF 0
  | 0x08 => (s.evt Reg.CLK_EVT 2).clkRaise d 0xFF 0
  | 0x09 => ((s.evt Reg.SAI_EVT 0).count Reg.SAI_LOST_COUNT 1).raiseDet d 0xB [0xFF]
  | 0x0A => ((s.evt Reg.SAI_EVT 1).count Reg.SAI_FS_ERR_COUNT 1).raiseDet d 0xB [1, 0xFF]
  | 0x0B => ((s.evt Reg.SAI_EVT 4).count Reg.SAI_NONAUDIO_COUNT 1).raiseDet d 0xB [0xFF]
  | 0x0C => ((s.evt Reg.RND_BLK_STATUS 3).count Reg.RND_LATE 1).raiseDet d 7 (z 6 ++ [1, 0, 0] ++ noIx)
  | 0x0D => ((s.evt Reg.SCR_EVT 0).count Reg.SCR_GOV_COUNT 1).raiseDet d 9 ([0xFF, 0] ++ noIx)
  | 0x0E => ((s.evt Reg.FIR_EVT 0).count Reg.FIR_GOV_COUNT 1).raiseDet d 8 noIx
  | 0x0F => ((s.evt Reg.SCR_EVT 1).count Reg.SCR_ADDR_ERR_COUNT 1).raiseDet d 9 noIx
  | 0x10 => ((s.evt Reg.SCH_EVT 0).count Reg.SCH_QFULL_COUNT 1).raiseDet d 5 ([0, 0xFF] ++ noIx ++ z 6 ++ noIx)
  | 0x11 => ((s.evt Reg.SCH_EVT 2).count Reg.SCH_TIMEOUT_COUNT 1).raiseDet d 5 ([0, 0xFF] ++ noIx ++ z 6 ++ noIx)
  | 0x12 => ((s.evt (Reg.MAC_EVT 0) 1).evt (Reg.MAC_EVT 1) 1).raiseDet d 0xD [0xFF]
  | 0x13 => ((s.evt (Reg.MAC_EVT 0) 2).evt (Reg.MAC_EVT 1) 2).raiseDet d 0xD ([0xFF, 0] ++ noIx)
  | 0x14 => (s.evt Reg.BVL_EVT 1).raiseDet d 0xE [0xFF, 4]
  | 0x15 => (s.evt Reg.BVL_EVT 0).raiseDet d 0xE [0xFF, 4]
  | 0x16 => ((s.evt Reg.TWN_EVT 4).count Reg.TWN_HB_LOST 1).raiseDet d 0xF
      ([0, b8 (s.fldR Reg.TWN_PARTNER 0 8)] ++ leBytes 2 (s.fldR Reg.TWN_PARTNER 16 16))
  | 0x17 => ((s.evt Reg.TWN_EVT 5).count Reg.TWN_REC_BAD 1).raiseDet d 0xF [8]
  | 0x18 => ((s.evt Reg.CFG_EVT 4).count Reg.CFG_CHECK_FAIL 1).raiseDet d 0x13 [3]
  | 0x19 => s.domainReset 1 d
  | 0x1A => s.domainReset 2 d
  | 0x1B => s.msgRaise 0xFFFF 0 0xFF 0
  | 0x1C => (s.evt Reg.REC_EVT 2).raiseDet d 0x11 (noIx ++ noIx)
  | 0x1D => (s.raiseDet d 1 (pilotData 0xFFFF 0xFF 0 0)).gntFault 2
  | 0x1E => s.lineRaise.note 0xC d ([0xFF, 4] ++ noIx)
  | 0x1F => (s.evt Reg.PWR_EVT 4).raiseDet d 2 [0xFF, 0xFF]
  | 0x20 => ((s.evt Reg.PWR_EVT 3).count Reg.PWR_SUPPLY_EVENTS 1).raiseDet d 2 [0xFF, 0xFF]
  | 0x21 => ((s.evt Reg.DRC_EVT 2).count Reg.DRC_STALLS 1).raiseDet d 0x10 []
  | 0x22 => ((s.evt Reg.RND_EVT 1).count Reg.RND_CLAMP_COUNT 1).raiseDet d 7 (noIx ++ noIx)
  | _ => s

/-- The proof-test set (R448). -/
def proofTest (d : Nat) : Bool := decide (d = 0x19) || decide (d = 0x1A) || decide (d = 0x1B) || decide (d = 0x1D)

/-- A 1 is written to an injection bit: outside its mode it is refused. -/
def State.inject (s : State) (d : Nat) : State :=
  if (if proofTest d then s.astate = 3 else s.pmode = 10) then s.injRaise d else s.injRefuse

/-- A write of INT_INJ0 (`hi` false) or INT_INJ1: the bits in ascending order of their detectors. -/
def State.injWrite (s : State) (ini : Initiator) (hi : Bool) (v : Word) : State :=
  if hi then s.each (bitsOf 3 v.toNat) fun s i => s.inject (32 + i)
  else
    let ds := (bitsOf 32 v.toNat).filter fun d => decide (d ≠ 0)
    let mine := ds.filter fun d => ini = .gauntlet ∨ !proofTest d
    let s1 := s.when (decide (mine.length < ds.length)) fun s => s.deny ini Reg.INT_INJ0
    let s2 := if s1.appOn then mine else mine.filter proofTest
    s1.each s2 State.inject

/-- A row that writes one injection bit. -/
def State.injRow (s : State) (ini : Initiator) (d : Nat) : Out :=
  .next (if !s.admits ini then s
    else if d < 32 then s.injWrite ini false (w32 (2 ^ d))
    else if s.appOn then s.injWrite ini true (w32 (2 ^ (d - 32))) else s)

/-- INT_INJ_SRAM_CE (R447). -/
def execIntInjSramCe (ini : Initiator) (s : State) : Out := s.injRow ini 0x01

/-- INT_INJ_SRAM_UE (R447). -/
def execIntInjSramUe (ini : Initiator) (s : State) : Out := s.injRow ini 0x02

/-- INT_INJ_DRAM_CE (R510). -/
def execIntInjDramCe (ini : Initiator) (s : State) : Out := s.injRow ini 0x03

/-- INT_INJ_DRAM_UE (R510). -/
def execIntInjDramUe (ini : Initiator) (s : State) : Out := s.injRow ini 0x04

/-- INT_INJ_XA_LOSS (R489). -/
def execIntInjXaLoss (ini : Initiator) (s : State) : Out := s.injRow ini 0x05

/-- INT_INJ_XB_LOSS (R489). -/
def execIntInjXbLoss (ini : Initiator) (s : State) : Out := s.injRow ini 0x06

/-- INT_INJ_ROOT_UNLOCK (R489). -/
def execIntInjRootUnlock (ini : Initiator) (s : State) : Out := s.injRow ini 0x07

/-- INT_INJ_FOSC_RANGE (R489). -/
def execIntInjFoscRange (ini : Initiator) (s : State) : Out := s.injRow ini 0x08

/-- INT_INJ_SAI_CLK_LOSS (R334). -/
def execIntInjSaiClkLoss (ini : Initiator) (s : State) : Out := s.injRow ini 0x09

/-- INT_INJ_SAI_FRAME (R334). -/
def execIntInjSaiFrame (ini : Initiator) (s : State) : Out := s.injRow ini 0x0A

/-- INT_INJ_NON_AUDIO (R334). -/
def execIntInjNonAudio (ini : Initiator) (s : State) : Out := s.injRow ini 0x0B

/-- INT_INJ_RND_LATE (R446). -/
def execIntInjRndLate (ini : Initiator) (s : State) : Out := s.injRow ini 0x0C

/-- INT_INJ_CORE_GOV (R207). -/
def execIntInjCoreGov (ini : Initiator) (s : State) : Out := s.injRow ini 0x0D

/-- INT_INJ_FIR_GOV (R145). -/
def execIntInjFirGov (ini : Initiator) (s : State) : Out := s.injRow ini 0x0E

/-- INT_INJ_CIRC_ADDR (R208). -/
def execIntInjCircAddr (ini : Initiator) (s : State) : Out := s.injRow ini 0x0F

/-- INT_INJ_SCH_QFULL (R234). -/
def execIntInjSchQfull (ini : Initiator) (s : State) : Out := s.injRow ini 0x10

/-- INT_INJ_TASK_TIMEOUT (R234). -/
def execIntInjTaskTimeout (ini : Initiator) (s : State) : Out := s.injRow ini 0x11

/-- INT_INJ_MAC_FCS (R386). -/
def execIntInjMacFcs (ini : Initiator) (s : State) : Out := s.injRow ini 0x12

/-- INT_INJ_TS_OVF (R386). -/
def execIntInjTsOvf (ini : Initiator) (s : State) : Out := s.injRow ini 0x13

/-- INT_INJ_BVL_RETRY (R431). -/
def execIntInjBvlRetry (ini : Initiator) (s : State) : Out := s.injRow ini 0x14

/-- INT_INJ_BVL_DOWN (R431). -/
def execIntInjBvlDown (ini : Initiator) (s : State) : Out := s.injRow ini 0x15

/-- INT_INJ_TWIN_HB (R311). -/
def execIntInjTwinHb (ini : Initiator) (s : State) : Out := s.injRow ini 0x16

/-- INT_INJ_TWIN_REC (R311). -/
def execIntInjTwinRec (ini : Initiator) (s : State) : Out := s.injRow ini 0x17

/-- INT_INJ_IMAGE_CHECK (R258). -/
def execIntInjImageCheck (ini : Initiator) (s : State) : Out := s.injRow ini 0x18

/-- INT_INJ_GNT_WDT (R287). -/
def execIntInjGntWdt (ini : Initiator) (s : State) : Out := s.injRow ini 0x19

/-- INT_INJ_GNT_LOCKSTEP (R287). -/
def execIntInjGntLockstep (ini : Initiator) (s : State) : Out := s.injRow ini 0x1A

/-- INT_INJ_MSG_CHECK (R287). -/
def execIntInjMsgCheck (ini : Initiator) (s : State) : Out := s.injRow ini 0x1B

/-- INT_INJ_REC_WRITE (R471). -/
def execIntInjRecWrite (ini : Initiator) (s : State) : Out := s.injRow ini 0x1C

/-- INT_INJ_PILOT (R287). -/
def execIntInjPilot (ini : Initiator) (s : State) : Out := s.injRow ini 0x1D

/-- INT_INJ_LINE_Z (R354). -/
def execIntInjLineZ (ini : Initiator) (s : State) : Out := s.injRow ini 0x1E

/-- INT_INJ_OVER_TEMP (R530). -/
def execIntInjOverTemp (ini : Initiator) (s : State) : Out := s.injRow ini 0x1F

/-- INT_INJ_SUPPLY (R530). -/
def execIntInjSupply (ini : Initiator) (s : State) : Out := s.injRow ini 0x20

/-- INT_INJ_REFRESH_DEBT (R510). -/
def execIntInjRefreshDebt (ini : Initiator) (s : State) : Out := s.injRow ini 0x21

/-- INT_INJ_FAR_CLAMP (R121). -/
def execIntInjFarClamp (ini : Initiator) (s : State) : Out := s.injRow ini 0x22

/-! ## The test multiplexer (R450, R451) -/

/-- A write of INT_TM_CTL. -/
def State.tmCtl (s : State) (v : Word) : State :=
  if !bitOf v 0 then s.setBit Reg.INT_TM_CTL 0 false
  else if s.pmode = 10 ∧ !s.fuse.dbg then s.setBit Reg.INT_TM_CTL 0 true
  else s.evt Reg.INT_EVT 3

/-- INT_TM_CTL_WRITE (R450). -/
def execIntTmCtlWrite (ini : Initiator) (v : Word) (s : State) : Out := s.access ini Reg.INT_TM_CTL fun s => s.tmCtl v

/-- A signal of R451 that the state holds; clocks, strobes and busy lines within a step are free values. -/
def State.tmSignal (s : State) (sel : Nat) : Bool :=
  if sel = 0 ∨ 0xDC ≤ sel then false
  else if sel = 1 then true
  else if 0x50 ≤ sel ∧ sel ≤ 0x55 then decide (s.portState (sel - 0x50) = 3)
  else if sel = 0x56 ∨ sel = 0x57 then s.bitR (Reg.MAC_STATUS (sel - 0x56)) 0
  else if sel = 0x58 then s.bitR Reg.TWN_STATUS 8
  else if sel = 0x59 then s.isDuty
  else if sel = 0x5A then s.bitR Reg.CLK_STATUS 4
  else if sel = 0x5B then s.bitR Reg.CLK_STATUS 5
  else if sel = 0x5C then s.bitR Reg.CLK_STATUS 6
  else if sel = 0x5D then s.bitR Reg.CLK_STATUS 7
  else if sel = 0x5E then s.bitR Reg.CLK_STATUS 8
  else if sel = 0x5F then s.bitR Reg.CLK_STATUS 9
  else if 0x68 ≤ sel ∧ sel ≤ 0x87 then s.cores.any fun p => decide (p.1 = sel - 0x68) && p.2.task.isSome
  else if sel = 0xD5 then s.sch.descs.any fun d => d.ready
  else if sel = 0xDB then s.alarm
  else Config.testMux sel s.tim.acc

/-- The level of DBG_TM[k] (R450); none: undriven (R515). -/
def State.dbgTm (s : State) (k : Nat) : Option Bool :=
  if !s.pwr.good then none
  else some <| s.bitR Reg.INT_TM_CTL 0 && decide (s.pmode = 10) && !s.fuse.dbg && s.tmSignal (s.fldR Reg.INT_TM_SEL (8 * k) 8)

/-- A write of INT_DBG_LOCK (R452). -/
def State.dbgLock (s : State) (v : Word) : State :=
  if bitOf v 0 ∧ fld v 8 8 = 0xA5 ∧ s.pmode = 10 then { s with fuse := { s.fuse with dbgBusy := true } } else s.evt Reg.INT_EVT 3

/-- INT_DBG_LOCK (R452). -/
def execIntDbgLock (ini : Initiator) (v : Word) (s : State) : Out := s.access ini Reg.INT_DBG_LOCK fun s => s.dbgLock v

/-- DBG_FUSE_DONE (R452). -/
def execDbgFuseDone (s : State) : Out :=
  .next (if s.fuse.dbgBusy then
      (({ s with fuse := { s.fuse with dbg := true, dbgBusy := false } } : State).setBit Reg.INT_TM_CTL 0 false).note 0x12 0x40 [1]
    else s)

end Sys2Proof.Machine
end

