-- ==== Sys2Proof/Machine/Host.lean ====
section
/-!
DEFINITION. The HST block (R538 to R554): PCIe link, interrupts, the raw boot-flash controller, I2C, GPIO and the services
of the mailboxes.
-/
namespace Sys2Proof.Machine

/-- Change the HST block beyond its registers. -/
def State.setHost (s : State) (f : HostSt → HostSt) : State := { s with host := f s.host }

/-! ## Interrupts (R541 to R543) -/

/-- The 32 interrupt sources (R541). -/
def State.irqSource (s : State) (i : Nat) : Bool :=
  let nz (a : Nat) : Bool := decide (s.reg a ≠ 0)
  match i with
  | 0 => nz Reg.PWR_MODE_EVT
  | 1 => nz Reg.PWR_EVT
  | 2 => nz Reg.CLK_EVT
  | 3 => nz Reg.TIM_EVT
  | 4 => nz Reg.TIM_CMP_EVT
  | 5 => nz Reg.SCH_EVT
  | 6 => nz Reg.GEO_EVT
  | 7 => nz Reg.RND_EVT || decide (s.fldR Reg.RND_BLK_STATUS 1 3 ≠ 0)
  | 8 => nz Reg.FIR_EVT
  | 9 => nz Reg.SCR_EVT
  | 10 => nz Reg.MIX_EVT
  | 11 => nz Reg.SAI_EVT
  | 12 => nz Reg.SNS_EVT
  | 13 => nz (Reg.MAC_EVT 0)
  | 14 => nz (Reg.MAC_EVT 1)
  | 15 => nz Reg.STR_EVT
  | 16 => nz Reg.BVL_EVT
  | 17 => nz Reg.TWN_EVT
  | 18 => nz Reg.DRC_EVT
  | 19 => nz Reg.REC_EVT
  | 20 => nz Reg.INT_EVT
  | 21 => nz Reg.CFG_EVT
  | 22 => s.bitR Reg.HST_IRQ_LATCH 22
  | 23 => decide (s.fldR Reg.HST_MBX_STAT 8 4 ≠ 0)
  | 24 => nz Reg.HST_EVT
  | 25 => nz Reg.HST_GPIO_EVT
  | 26 => decide (s.fldR (Reg.HST_I2C_STAT 0) 0 4 ≠ 0)
  | 27 => decide (s.fldR (Reg.HST_I2C_STAT 1) 0 4 ≠ 0)
  | 28 => decide (s.reg Reg.SCH_CPL_HEAD ≠ s.reg Reg.SCH_CPL_TAIL)
  | 29 => s.bitR Reg.HST_OSPI_STAT 1
  | 30 => s.bitR Reg.HST_IRQ_LATCH 30
  | _ => false

/-- HST_IRQ_SRC. -/
def State.irqSrc (s : State) : Word :=
  w32 (((List.range 32).map fun i => if s.irqSource i then 2 ^ i else 0).foldl (· + ·) 0)

/-- The level of HOST_IRQ_N (R543); none: undriven. -/
def State.hostIrqN (s : State) : Option Bool :=
  if s.pwr.good then some (decide (s.irqSrc &&& s.reg Reg.HST_IRQ_EN &&& s.reg Reg.HST_IRQ_PIN = 0)) else none

/-- The vector of a source. -/
def State.irqVec (s : State) (i : Nat) : Nat := s.fldR (Reg.HST_IRQ_VEC (i / 4)) (8 * (i % 4)) 5

/-- A vector is pending (R542). -/
def State.vecPending (s : State) (v : Nat) : Bool :=
  (List.range 32).any fun i => s.bitR Reg.HST_IRQ_EN i && decide (s.irqVec i = v) && s.irqSource i

/-- The message of a vector is sent where it is pending, armed and not masked; sending disarms the vector. -/
def State.vecSend (s : State) (v : Nat) : State :=
  if s.host.msix ∧ s.bitR Reg.HST_STATUS 0 ∧ s.host.armed.testBit v ∧ !s.bitR (Reg.HST_MSIX_VCTL v) 0 ∧ s.vecPending v then
    (s.setHost fun h => { h with armed := h.armed - 2 ^ v }).emit .msix v
      (leBytes 4 (s.reg (Reg.HST_MSIX_ADDR_LO v)).toNat ++ leBytes 4 (s.reg (Reg.HST_MSIX_ADDR_HI v)).toNat ++
        leBytes 4 (s.reg (Reg.HST_MSIX_DATA v)).toNat)
  else s

/-- Every vector that may send does. -/
def State.irqSend (s : State) : State := s.each (List.range 32) State.vecSend

/-- A write of HST_IRQ_EOI. -/
def State.irqEoi (s : State) (v : Word) : State :=
  let k := fld v 0 5
  (s.setHost fun h => { h with armed := if h.armed.testBit k then h.armed else h.armed + 2 ^ k }).vecSend k

/-- HST_IRQ_EOI (R542). -/
def execHstIrqEoi (ini : Initiator) (v : Word) (s : State) : Out := s.access ini Reg.HST_IRQ_EOI fun s => s.irqEoi v

/-- A write of HST_IRQ_LATCH: a 1 clears a latched source. -/
def State.irqLatch (s : State) (v : Word) : State := s.setReg Reg.HST_IRQ_LATCH (s.reg Reg.HST_IRQ_LATCH &&& ~~~v)

/-- HST_IRQ_LATCH_WRITE (R541). -/
def execHstIrqLatchWrite (ini : Initiator) (v : Word) (s : State) : Out := s.access ini Reg.HST_IRQ_LATCH fun s => s.irqLatch v

/-! ## The PCIe endpoint (R539, R554) -/

/-- The link takes a new state: HST_EVT.PCIE_LINK and a record. -/
def State.pcieLink (s : State) (up : Bool) (width speed : Nat) : State :=
  let w := if up then width else 0
  let sp := if up then speed else 0
  let new := w32 (up.toNat + 2 * (w % 4) + 16 * (sp % 4))
  if s.reg Reg.HST_STATUS &&& 0x37 = new then s
  else ((s.setReg Reg.HST_STATUS ((s.reg Reg.HST_STATUS &&& 0x100) ||| new)).evt Reg.HST_EVT 2).note 0x14 0x40 [if up then 1 else 2, b8 w, b8 sp]

/-- PCIE_LINK_CHANGE (R539): with MSI-X newly enabled every vector is armed (R542). -/
def execPcieLinkChange (up : Bool) (width : BitVec 2) (speed : BitVec 2) (msix : Bool) (s : State) : Out :=
  .next (if !s.pwr.good then s
    else
      let on := up && msix
      let s1 := s.pcieLink up width.toNat speed.toNat
      if !up then s1
      else s1.setHost fun h => { h with msix := on, armed := if on && !h.msix then 2 ^ 32 - 1 else h.armed })

/-- PERST_N_FALL (R539): the endpoint alone is reset. -/
def execPerstNFall (s : State) : Out :=
  .next (if !s.pwr.good then s
    else
      let s1 := (s.pcieLink false 0 0).resetRange 0x1108000 0x1109004
      s1.setHost fun h => { h with msix := false, armed := 0 })

/-! ## The boot flash (R550) -/

/-- The loader reads the boot flash. -/
def State.flashInUse (s : State) : Bool := match s.cfg.loading with
  | some l => decide (l.1 = 0)
  | none => false

/-- A write of HST_OSPI_CMD: GO starts a command, or is refused. -/
def State.ospiCmd (s : State) (v : Word) : State :=
  if !bitOf v 31 || s.bitR Reg.HST_OSPI_STAT 0 then s
  else if s.flashInUse then (s.setBit Reg.HST_OSPI_STAT 3 true).evt Reg.HST_EVT 3
  else
    let len := min 256 (fld v 16 9)
    let buf := (List.range 64).flatMap fun i => leBytes 4 (s.reg (Reg.HST_OSPI_BUF i)).toNat
    let s1 := (s.setBit Reg.HST_OSPI_STAT 0 true).setHost fun h => { h with ospi := some v }
    ({ s1 with cfg := { s1.cfg with ospiBusy := true } } : State).emit .ospi 0
      (leBytes 2 (fld v 0 16) ++ (if bitOf v 25 then leBytes 4 (s.reg Reg.HST_OSPI_ADDR).toNat else []) ++ [b8 (fld v 27 4)] ++
        (if bitOf v 26 then buf.take len else []))

/-- HST_OSPI_CMD (R550). -/
def execHstOspiCmd (ini : Initiator) (v : Word) (s : State) : Out := s.access ini Reg.HST_OSPI_CMD fun s => s.ospiCmd v

/-- OSPI_DONE (R550): what the flash answered goes to the buffer, and the flash holds what the command put there. -/
def execOspiDone (ok : Bool) (data : List Byte) (at_ : Nat) (cells : List Byte) (s : State) : Out :=
  .next (match s.host.ospi with
    | none => s
    | some v =>
      let d := data.take (min 256 (fld v 16 9))
      let old (i : Nat) : Nat := byteAt ((List.range 64).flatMap fun j => leBytes 4 (s.reg (Reg.HST_OSPI_BUF j)).toNat) i
      let s1 := if ok && !bitOf v 26 then
          s.each (List.range 64) fun s j =>
            s.setReg (Reg.HST_OSPI_BUF j) (w32 (leNat ((List.range 4).map fun k =>
              let i := 4 * j + k
              if i < d.length then nth d i 0 else b8 (old i))))
        else s
      let s2 : State := if ok && bitOf v 26 then { s1 with boot := Store.putBytes flashDef s1.boot at_ cells } else s1
      let s3 := ((s2.setBit Reg.HST_OSPI_STAT 0 false).setBit Reg.HST_OSPI_STAT 1 true).when (!ok) fun s => s.setBit Reg.HST_OSPI_STAT 2 true
      { s3 with host := { s3.host with ospi := none }, cfg := { s3.cfg with ospiBusy := false } })

/-! ## I2C (R552) -/

/-- An I2C controller. -/
def State.i2cSt (s : State) (k : Nat) : I2cSt := nth s.host.i2c k {}

/-- Put an I2C controller. -/
def State.setI2c (s : State) (k : Nat) (x : I2cSt) : State := s.setHost fun h => { h with i2c := putNth h.i2c k x }

/-- A write of HST_I2C_CMD: an entry is queued, or ignored when the queue is full. -/
def State.i2cCmd (s : State) (k : Nat) (v : Word) : State :=
  let x := s.i2cSt k
  if x.queue.length < 16 then s.setI2c k { x with queue := x.queue ++ [v &&& 0x3FF] } else s

/-- The entry at the front, where the controller runs. -/
def State.i2cFront (s : State) (k : Nat) : Option Word :=
  if s.appOn ∧ s.bitR (Reg.HST_I2C_CTL k) 0 then (s.i2cSt k).queue.head? else none

/-- The queue ends with an error: it is flushed, and a held bus gets a stop unless it was lost. -/
def State.i2cEnd (s : State) (k bit : Nat) : State :=
  let x := s.i2cSt k
  let s1 := (s.setI2c k { x with queue := [], hold := false }).setBit (Reg.HST_I2C_STAT k) bit true
  if x.hold ∧ bit ≠ 2 then s1.emit .i2c k [3, 0] else s1

/-- The front entry is done: it goes on the wire, and the queue's end sets DONE. -/
def State.i2cOk (s : State) (k : Nat) (x : I2cSt) (wire : List Byte) : State :=
  ((s.setI2c k { x with queue := x.queue.drop 1 }).emit .i2c k wire).when (decide (x.queue.length ≤ 1)) fun s => s.setBit (Reg.HST_I2C_STAT k) 0 true

/-- An entry of a given OP runs. -/
def State.i2cRun (s : State) (k op : Nat) (f : Word → I2cSt → State) : Out :=
  .next (match s.i2cFront k with
    | some v => if fld v 8 2 = op then f v (s.i2cSt k) else s
    | none => s)

/-- I2C_WRITE (R552). -/
def execI2cWrite (k nack arb : Bool) (s : State) : Out :=
  s.i2cRun k.toNat 0 fun v x =>
    if arb then s.i2cEnd k.toNat 2 else if nack then s.i2cEnd k.toNat 1 else s.i2cOk k.toNat x [0, b8 (fld v 0 8)]

/-- I2C_READ (R552): it waits while the receive FIFO is full. -/
def execI2cRead (k : Bool) (b : Byte) (arb : Bool) (s : State) : Out :=
  s.i2cRun k.toNat 1 fun v x =>
    if arb then s.i2cEnd k.toNat 2
    else if 16 ≤ x.rx.length then s
    else s.i2cOk k.toNat { x with rx := x.rx ++ [b.toNat] } [1, b8 (fld v 0 1)]

/-- I2C_START (R552). -/
def execI2cStart (k arb : Bool) (s : State) : Out :=
  s.i2cRun k.toNat 2 fun _ x => if arb then s.i2cEnd k.toNat 2 else s.i2cOk k.toNat { x with hold := true } [2, 0]

/-- I2C_STOP (R552). -/
def execI2cStop (k : Bool) (s : State) : Out :=
  s.i2cRun k.toNat 3 fun _ x => s.i2cOk k.toNat { x with hold := false } [3, 0]

/-- I2C_TIMEOUT (R552): SCL held low for 25 ms. -/
def execI2cTimeout (k : Bool) (s : State) : Out :=
  .next (match s.i2cFront k.toNat with
    | some _ => s.i2cEnd k.toNat 3
    | none => s)

/-- A read of HST_I2C_RX: the oldest byte, which it removes. -/
def State.i2cRx (s : State) (k : Nat) : State × Word :=
  let x := s.i2cSt k
  (s.setI2c k { x with rx := x.rx.drop 1 }, w32 (nth x.rx 0 0))

/-- HST_I2C_RX_READ (R552). -/
def execHstI2cRxRead (ini : Initiator) (k : Bool) (s : State) : Out := s.readRow ini (Reg.HST_I2C_RX k.toNat) fun s => s.i2cRx k.toNat

/-- HST_I2C_STAT as it reads: BUSY, RX_COUNT and CMD_FREE follow the queues. -/
def State.i2cStat (s : State) (k : Nat) : Word :=
  let x := s.i2cSt k
  w32 (s.fldR (Reg.HST_I2C_STAT k) 0 4 + 256 * (!x.queue.isEmpty).toNat + 65536 * min 31 x.rx.length + 2 ^ 24 * (16 - x.queue.length))

/-! ## GPIO (R553) -/

/-- The pins take new levels: an output its register's, an input the level from outside; enabled edges are seen. -/
def State.gpioSync (s : State) : State :=
  let dir := s.reg Reg.HST_GPIO_DIR
  let old := s.reg Reg.HST_GPIO_IN
  let new := (dir &&& s.reg Reg.HST_GPIO_SET) ||| (~~~dir &&& w32 s.host.gpio)
  let edges := ((new &&& ~~~old) &&& s.reg Reg.HST_GPIO_RISE) ||| ((~~~new &&& old) &&& s.reg Reg.HST_GPIO_FALL)
  (s.setReg Reg.HST_GPIO_IN new).setReg Reg.HST_GPIO_EVT (s.reg Reg.HST_GPIO_EVT ||| edges)

/-- GPIO_EDGE (R553): the level that outside drives on a pin changes. -/
def execGpioEdge (pin : BitVec 5) (level : Bool) (s : State) : Out :=
  let put (v : Nat) : Nat := if v.testBit pin.toNat = level then v else if level then v + 2 ^ pin.toNat else v - 2 ^ pin.toNat
  .next (if s.pwr.good then
      let s1 := s.setHost fun h => { h with gpio := put h.gpio }
      if s1.appOn then s1.gpioSync else s1.setReg Reg.HST_GPIO_IN (w32 s1.host.gpio)
    else s)

/-- A write of a GPIO register. -/
def State.gpioWrite (s : State) (a : Nat) (v : Word) : State :=
  let out := s.reg Reg.HST_GPIO_SET
  (if a = Reg.HST_GPIO_SET then s.setReg a (out ||| v)
   else if a = Reg.HST_GPIO_CLR then s.setReg Reg.HST_GPIO_SET (out &&& ~~~v)
   else if a = Reg.HST_GPIO_EVT then s.setReg a (s.reg a &&& ~~~v)
   else s.setReg a v).gpioSync

/-! ## Services (R549) -/

/-- A request has at least `n` argument words. -/
def State.argsOk (s : State) (c n : Nat) : Bool := decide (n ≤ (s.mbxReq c 1).toNat)

/-- PTP START (R401, R402): the arguments are taken, RUN and SRC set, and the servo goes to ACQUIRE. -/
def execPtpStart (c : BitVec 2) (s : State) : Out :=
  let k := c.toNat
  .next (s.serve k 1 1 fun s =>
    let a (i : Nat) : Nat := s.mbxArg k i
    let bad := !s.argsOk k 6 || decide (1 < a 0) || decide (255 < a 1) || decide (255 < a 2) || decide (255 < a 3) || decide (3 < a 4) ||
      decide (0 < sext 32 (a 5)) || decide (sext 32 (a 5) < -4)
    if bad then s.respond k 2 []
    else if s.bitR Reg.TIM_SERVO_STAT 31 then s.respond k 3 []
    else
      let s1 := (s.setBit Reg.TIM_SERVO_STAT 31 true).setFld Reg.TIM_SERVO_STAT 4 3 (a 4 + 1)
      let s2 : State := { s1 with tim := { s1.tim with servo := { args := (List.range 6).map fun i => s.mbxReq k (2 + i) } } }
      (s2.servoTo 1 0).respond k 0 [])

/-- PTP STOP (R402): FREE; a start comparator that waited for lock is armed at once (R528). -/
def execPtpStop (c : BitVec 2) (s : State) : Out :=
  let k := c.toNat
  .next (s.serve k 1 2 fun s =>
    if !s.bitR Reg.TIM_SERVO_STAT 31 then s.respond k 5 []
    else
      let s1 := ((s.setBit Reg.TIM_SERVO_STAT 31 false).setFld Reg.TIM_SERVO_STAT 4 3 0).servoTo 0 0
      (s1.when s1.mode.autoWait fun s => s.armStart true).respond k 0 [])

/-- PTP STATUS. -/
def execPtpStatus (c : BitVec 2) (gm : BitVec 64) (s : State) : Out :=
  let k := c.toNat
  .next (s.serve k 1 3 fun s =>
    if !s.bitR Reg.TIM_SERVO_STAT 31 then s.respond k 5 []
    else s.respond k 0 [s.reg Reg.TIM_SERVO_STAT, s.reg Reg.TIM_OFFSET, s.reg Reg.TIM_MPD, w32 gm.toNat, w32 (gm.toNat / 2 ^ 32)])

/-- The SDP text of a stream is announced. -/
def State.sapSend (s : State) (t : Nat) (text : List Byte) : State := s.emit .sap t text

/-- ANNOUNCE: the text is read, announced, and announced again every 30 s. -/
def execAnnounce (c : BitVec 2) (s : State) : Out :=
  let k := c.toNat
  .next (s.serve k 2 1 fun s =>
    let t := s.mbxArg k 0
    let a := s.mbxArg k 1 * 64
    let n := s.mbxArg k 2
    if !s.argsOk k 3 || decide (128 ≤ t) || decide (s.usable < a + n) then s.respond k 2 []
    else
      let r := s.dramRead a n false
      let s1 := r.1.setHost fun h => { h with sap := (h.sap.filter fun e => decide (e.1 ≠ t)) ++ [(t, r.2.1)] }
      (s1.sapSend t r.2.1).respond k 0 [])

/-- WITHDRAW: the deletion of a stream is sent. -/
def execWithdraw (c : BitVec 2) (s : State) : Out :=
  let k := c.toNat
  .next (s.serve k 2 2 fun s =>
    let t := s.mbxArg k 0
    if !s.argsOk k 1 || decide (128 ≤ t) then s.respond k 2 []
    else ((s.setHost fun h => { h with sap := h.sap.filter fun e => decide (e.1 ≠ t) }).sapSend t []).respond k 0 [])

/-- The texts that fit a buffer, each behind four bytes of its length. -/
def sdpFit (room : Nat) : List (List Byte) → List (List Byte)
  | [] => []
  | t :: r => if 4 + t.length ≤ room then (leBytes 4 t.length ++ t) :: sdpFit (room - 4 - t.length) r else []

/-- LIST: the SDP texts received so far, as many as the buffer holds. -/
def execSapList (c : BitVec 2) (texts : List (List Byte)) (s : State) : Out :=
  let k := c.toNat
  .next (s.serve k 2 3 fun s =>
    let a := s.mbxArg k 0 * 64
    let n := s.mbxArg k 1
    if !s.argsOk k 2 || decide (s.usable < a + n) then s.respond k 2 []
    else
      let ts := sdpFit n texts
      (s.dramWriteParts .host a ts.flatten).respond k 0 [w32 ts.length])

/-- SAP_ANNOUNCE_TIMER: 30 s have passed for a stream. -/
def execSapAnnounceTimer (t : BitVec 7) (s : State) : Out :=
  .next (match s.host.sap.find? fun e => decide (e.1 = t.toNat) with
    | some e => if s.appOn then s.sapSend e.1 e.2 else s
    | none => s)

/-- TOPOLOGY: 64 BVL_ROUTE words and 6 PORT_STAT words. -/
def execTopology (c : BitVec 2) (s : State) : Out :=
  let k := c.toNat
  .next (s.serve k 3 1 fun s =>
    let a := s.mbxArg k 0 * 64
    let ws := ((List.range 64).map fun i => s.reg (Reg.BVL_ROUTE i)) ++ (List.range 6).map fun p => s.reg (Reg.PORT_STAT p)
    if !s.argsOk k 1 || decide (s.usable < a + 280) then s.respond k 2 []
    else (s.dramWriteParts .host a (ws.flatMap fun w => leBytes 4 w.toNat)).respond k 0 [])

/-- Twin STATUS. -/
def execTwinStatus (c : BitVec 2) (s : State) : Out :=
  .next (s.serve c.toNat 5 1 fun s =>
    s.respond c.toNat 0 [s.reg Reg.TWN_STATUS, s.reg Reg.TWN_PARTNER, w32 s.twin.crc, s.twin.image])

/-- VERSION. -/
def execVersion (c : BitVec 2) (s : State) : Out :=
  .next (s.serve c.toNat 6 1 fun s =>
    s.respond c.toNat 0 [Config.version 0, Config.version 1, Config.version 2, s.reg Reg.GNT_IMG_ID])

/-- AUTOSTART. -/
def execAutostart (c : BitVec 2) (s : State) : Out :=
  .next (s.serve c.toNat 6 2 fun s => s.respond c.toNat 0 [w32 s.mode.autoEntry])

end Sys2Proof.Machine
end

