-- ==== Sys2Proof/Machine/Block.lean ====
section
/-!
DEFINITION. What comparators do at a match (R23, R346, R404, R406, R407), and a set of the counter (R396, R405).
-/
namespace Sys2Proof.Machine

/-- The master pairs of domain A that TIM_CMP_SAI names and that are off the grid of the match lose their frame in
progress (R407). -/
def State.cmpAlign (s : State) (i : Nat) (off : Nat) : State :=
  let gs := (s.reg (Reg.TIM_CMP_SAI i)).toNat
  s.each ((List.range 44).filter fun p => gs.testBit (p / 2) && off.testBit p) fun s p =>
    let w := s.pairCfg p
    if bitOf w 31 ∧ bitOf w 30 ∧ pairDomain w = 1 then s.setPair p { s.pairSt p with skip := true } else s

/-- The match of START_CMP starts an armed train: T0 is the compare value, the pairs of domain R align to S0, and
blocks count from 0 (R23, R321); the domain-R sensing groups are reset at the tick S0 itself. -/
def State.trainStart (s : State) (t0 off : Nat) : State :=
  let s1 : State := { s with
    blk := { s.blk with armed := false, t0 := t0, n := 0, base := 0, next := some 0, fb := none }
    twin := { s.twin with live := none, rampNs := none } }
  (((s1.setReg Reg.RND_T0_NS (w32 t0)).setReg Reg.RND_T0_TAG (w32 (t0 / 2 ^ 32 % 16))).setPhase 5).saiAlign off

/-- Comparator `i` matches (R404, R406). -/
def State.cmpMatch (s : State) (i : Nat) (off : Nat) : State :=
  let v := s.fullOf (s.cmpV i)
  let s1 := ((s.cmpFire i).pulseStart i).cmpAlign i off
  let s2 := if s1.bitR Reg.SNS_SYNC_CFG 1 ∧ s1.fldR Reg.SNS_SYNC_CFG 4 4 = i then s1.snsSync s1.groupsR else s1
  if s2.blk.armed ∧ s2.fldR Reg.RND_BLK_CTL 0 4 = i then s2.trainStart v off else s2

/-- TIM_CMP_MATCH (R404): an enabled comparator's instant has come. -/
def execTimCmpMatch (i : BitVec 4) (off : BitVec 44) (s : State) : Out :=
  let k := i.toNat
  .next (if s.appOn ∧ s.cmpEn k then (s.advanceTo (s.fullOf (s.cmpV k))).cmpMatch k off.toNat else s)

/-- The comparators that a set moved past match at the set tick (R405). -/
def State.matchDue (s : State) : State :=
  s.each (List.range 16) fun s i => if s.cmpDue i then s.cmpMatch i (2 ^ 44 - 1) else s

/-- A write of TIM_CMD. -/
def State.timCmdWrite (s : State) (ini : Initiator) (v : Word) : State :=
  s.timGuard ini fun s => if bitOf v 0 then (s.timCmd ini v).matchDue else s

/-- TIM_SET (R396). -/
def execTimSet (ini : Initiator) (s : State) : Out := s.access ini Reg.TIM_CMD fun s => s.timCmdWrite ini 1

/-- START_CMP_LOCK_TIMEOUT (R528): the service arms the comparator without lock. -/
def execStartCmpLockTimeout (s : State) : Out := .next (if s.appOn ∧ s.mode.autoWait ∧ s.servo ≠ 2 then s.armStart true else s)

end Sys2Proof.Machine
end

