-- ==== Sys2Proof/Machine/Bus.lean ====
section
/-!
DEFINITION. The register bus (R10, R38, R262, R263, R533 to R537, R545, R546): what a read of an address returns, where a
write goes, and the accesses of the QSPI port and of remote devices.
-/
namespace Sys2Proof.Machine

/-! ## Reads -/

/-- A mask built from 32 flags. -/
def maskBits (n : Nat) (f : Nat → Bool) : Nat := ((List.range n).map fun i => if f i then 2 ^ i else 0).foldl (· + ·) 0

/-- GNT_CLK: the source is FOSC while M_GNT is on it or GPLL is not locked (R265). -/
def State.gntClk (s : State) : Word :=
  let lock := s.bitR Reg.CLK_STATUS 8
  w32 ((s.bitR Reg.CLK_STATUS 11 || !lock).toNat + 2 * lock.toNat + 4 * (s.bitR Reg.CLK_STATUS 0).toNat)

/-- A key slot's code. -/
def KeySlot.code (k : KeySlot) : Nat := if k.revoked then 2 else if k.hash.isSome then 1 else 0

/-- CFG_KEYSLOT. -/
def State.keySlots (s : State) : Word :=
  let codes (l : List KeySlot) : Nat := (l.zipIdx.map fun p => p.1.code * 4 ^ p.2).foldl (· + ·) 0
  w32 (codes s.fuse.app + 256 * codes s.fuse.gnt + 2 ^ 31 * s.fuseBusy.toNat)

/-- A register whose value is computed when it is read. -/
def State.viewSpecial (s : State) (a : Nat) : Option Word :=
  if a = Reg.GNT_STATUS then some s.gntStatusNow
  else if a = Reg.GNT_CLK then some s.gntClk
  else if a = Reg.CLK_EN_EFF then
    some (if s.pmode = 2 ∨ s.pmode = 11 then s.reg Reg.CLK_EN &&& 0x3FF8 else s.reg Reg.CLK_EN)
  else if a = Reg.PWR_STATUS then some (putBit (s.reg a) 1 (!s.pwr.vbat))
  else if a = Reg.TIM_NS then some (w32 s.int36)
  else if a = Reg.RND_BLK_NUM_LO then some (w32 s.blk.n)
  else if a = Reg.CFG_SWAP_BLK_LO then some (w32 s.cfg.swapBlk)
  else if a = Reg.TWN_REC_BLK_LO then some (w32 s.twin.recBlk)
  else if a = Reg.REC_STATUS then some (putFld (putBit (s.reg a) 2 s.log.opened.isSome) 4 7 s.log.queue.length)
  else if a = Reg.INT_TM_CTL then some (putBit (s.reg a) 31 s.fuse.dbg)
  else if a = Reg.CFG_KEYSLOT then some s.keySlots
  else if a = Reg.BVL_UID_LO then some (w32 s.fuse.uid.toNat)
  else if a = Reg.BVL_UID_HI then some (w32 (s.fuse.uid.toNat / 2 ^ 32))
  else if a = Reg.HST_IRQ_SRC then some s.irqSrc
  else if a = Reg.HST_GPIO_CLR then some (s.reg Reg.HST_GPIO_SET)
  else if a = Reg.HST_I2C_STAT 0 then some (s.i2cStat 0)
  else if a = Reg.HST_I2C_STAT 1 then some (s.i2cStat 1)
  else if 0x801000 ≤ a ∧ a < 0x801600 ∧ (a % 64 = 8 ∨ a % 64 = 12) then some (s.pairStat (2 * ((a - 0x801000) / 64) + a / 4 % 2))
  else if 0x803000 ≤ a ∧ a < 0x803080 ∧ a % 32 = 4 then some (s.pairStat (48 + (a - 0x803000) / 32))
  else if 0x900100 ≤ a ∧ a < 0x900200 ∧ a % 32 = 8 then some (s.snsGrpStat ((a - 0x900100) / 32))
  else if 0x900800 ≤ a ∧ a < 0x901000 ∧ a % 16 = 8 then some (s.snsChStat ((a - 0x900800) / 16))
  else if a = Reg.HST_MSIX_PBA then some (w32 (maskBits 32 s.vecPending))
  else none

/-- What a read of a register returns: nothing is held in a WO register, and an address without a register holds nothing. -/
def State.viewReg (s : State) (a : Nat) : Word :=
  match s.viewSpecial a with
  | some v => v
  | none =>
    match regRow? a with
    | some r => if r.code = .wo then 0 else s.reg a
    | none => 0

/-- An RC register is cleared by a read; PWR_TEMP_MAX to its Reset value. -/
def State.rcRead (s : State) (a : Nat) : State × Word := (s.setReg a (if a = Reg.PWR_TEMP_MAX then 0x8000 else 0), s.viewReg a)

/-- A read of a low word that latches the high part. -/
def State.latchRead (s : State) (a hi n : Nat) : State × Word := (s.setReg hi (w32 (n / 2 ^ 32 % 65536)), s.viewReg a)

/-- What an array does of its own at an uncorrectable word (R37, R188): the core halts, the service core restarts, the Gauntlet domain
resets. -/
def State.arrayErr (s : State) (a : Nat) : State :=
  match arrayOf a with
  | some 4 => s.coreHalt ((a - 0x06400000) / 0x18000)
  | some 5 => s.svcRestart false
  | some 9 => if s.gnt.phase ≠ 1 then s.domainReset 3 0 else s
  | _ => s

/-- A read through an SRAM window. An uncorrectable word acts as R37 states: it halts the core whose memory it is in (R188), and one in
the Gauntlet working memory resets the Gauntlet (R266). -/
def State.windowRead (s : State) (a : Nat) : State × Word :=
  let r := s.sramRead a
  (r.1.when (s.swBad a) fun s => s.arrayErr a, r.2)

/-- A read of a BAR0 word by an initiator that reaches it, with its effect. -/
def State.busRead (s : State) (a : Nat) : State × Word :=
  if !s.reach a then (s, 0)
  else if 0x04000000 ≤ a then (if a < 0x07000000 then s.windowRead a else (s, 0))
  else if a = Reg.TIM_NS then s.nsRead
  else if a = Reg.RND_IPT_DATA then s.iptRead
  else if a = Reg.SNS_COEF_DATA then s.coefData
  else if a = Reg.MAC_TSQ_RX_LO 0 then s.tsRead 0 false
  else if a = Reg.MAC_TSQ_RX_LO 1 then s.tsRead 1 false
  else if a = Reg.MAC_TSQ_TX_LO 0 then s.tsRead 0 true
  else if a = Reg.MAC_TSQ_TX_LO 1 then s.tsRead 1 true
  else if a = Reg.HST_I2C_RX 0 then s.i2cRx 0
  else if a = Reg.HST_I2C_RX 1 then s.i2cRx 1
  else if a = Reg.RND_BLK_NUM_LO then s.latchRead a Reg.RND_BLK_NUM_HI s.blk.n
  else if a = Reg.CFG_LOAD_DONE then s.loadDoneRead
  else if a = Reg.CFG_SWAP_BLK_LO then s.latchRead a Reg.CFG_SWAP_BLK_HI s.cfg.swapBlk
  else if a = Reg.TWN_REC_BLK_LO then s.latchRead a Reg.TWN_REC_BLK_HI s.twin.recBlk
  else
    match (List.range 6).find? fun p => decide (a = Reg.PORT_TSQ_LO p) with
    | some p => s.portTsRead p
    | none => if regCode a = .rc then s.rcRead a else (s, s.viewReg a)

/-! ## Writes -/

/-- A word as a register takes it: reserved bits keep their value (R13). -/
def State.masked (s : State) (a : Nat) (v : Word) : Word := (s.reg a &&& ~~~(regMask a)) ||| (v &&& regMask a)

/-- A write under the access code of a register. The registers of the Gauntlet's partition take its writes at once. -/
def State.genWrite (s : State) (ini : Initiator) (a : Nat) (v : Word) : State :=
  match regCode a with
  | .rw => s.setReg a (s.masked a v)
  | .gw => s.setReg a (s.masked a v)
  | .w1c => s.setReg a (s.reg a &&& ~~~(v &&& regMask a))
  | .w1s => s.setReg a (s.reg a ||| (v &&& regMask a))
  | .sw =>
    if ini = .gauntlet && s.gntSide a then s.setReg a (s.masked a v)
    else { s with shadowRegs := (s.shadowRegs.filter fun e => decide (e.1 ≠ a)) ++ [(a, v &&& regMask a)] }
  | _ => s

/-- A register of the Gauntlet's own block, written by the Gauntlet or, in the inboxes, by whom R262 admits. -/
def State.wGnt (s : State) (a : Nat) (v : Word) : State :=
  if a = Reg.GNT_STATUS then (s.setGntStatus (s.masked a v)).alarmSync.fltSync
  else if a = Reg.GNT_WDT_KICK then
    (if v = 0x5A then s.setGnt fun g => { g with wdt := min 1000 (max 10 (s.fldR Reg.GNT_WDT 0 16)) } else s)
  else if a = Reg.GNT_FAULTS then
    let t := s.genWrite .gauntlet a v
    (if t.astate = 0 ∧ t.reg Reg.GNT_FAULTS ≠ 0 then t.setAstate 4 4 0 0 0 else t).fltSync
  else if a = Reg.GNT_FLT_OUT then (s.genWrite .gauntlet a v).fltSync
  else if a = Reg.GNT_SNS_CLAIM then s.claimSet (fld v 0 2)
  else if a = Reg.GNT_TSLOT_EN then s.tslotWrite v
  else if 0x100 ≤ a ∧ a < 0x140 ∧ a % 16 = 12 then s.toneWrite ((a - 0x100) / 16) v
  else if 0x200 ≤ a ∧ a < 0x300 ∧ a % 16 = 0 then s.playWrite ((a - 0x200) / 16) v
  else if 0x400 ≤ a ∧ a < 0x420 then s.inboxWord false ((a - 0x400) / 4) v
  else if a = Reg.GNT_HMBX_GO then s.inboxGo false v
  else if 0x440 ≤ a ∧ a < 0x460 then s.inboxWord true ((a - 0x440) / 4) v
  else if a = Reg.GNT_SMBX_GO then s.inboxGo true v
  else if 0x9000 ≤ a ∧ a < 0xA000 ∧ a % 16 = 0 then s.zbCommit ((a - 0x9000) / 16) v
  else if 0xA000 ≤ a ∧ a < 0xAC00 ∧ a % 8 = 4 then s.tfCommit ((a - 0xA000) / 8) v
  else s.genWrite .gauntlet a v

/-- PWR and CLK. -/
def State.wPwr (s : State) (ini : Initiator) (a : Nat) (v : Word) : State :=
  if 0x100300 ≤ a then s.islandWrite a v
  else if a = Reg.PWR_MODE_REQ then s.request ini (fld v 0 4)
  else if a = Reg.PWR_TEMP_WARN ∨ a = Reg.PWR_TEMP_SHUT then
    s.setReg a (if 0x7800 < sfld v 0 16 then 0x7800 else v &&& 0xFFFF)
  else if a = Reg.CLK_EN then s.clkEn v
  else if a = Reg.CLK_FTRIM then s.trimCode v
  else if a = Reg.CLK_CMD then s.clkCmd v
  else s.genWrite ini a v

/-- TIM. -/
def State.wTim (s : State) (ini : Initiator) (a : Nat) (v : Word) : State :=
  if a = Reg.TIM_INC then s.timInc ini v
  else if a = Reg.ROOT_FRAC then s.rootFrac ini v
  else if a = Reg.TIM_CMD then s.timCmdWrite ini v
  else if a = Reg.TIM_CTL ∨ a = Reg.TIM_SET_NS ∨ a = Reg.TIM_SET_TAG ∨ a = Reg.TIM_SET_ERA then s.timGuard ini fun s => s.genWrite ini a v
  else if a = Reg.TIM_SERVO_STAT ∧ ini = .service then s.setReg a (v &&& 0x80000F77)
  else if (a = Reg.TIM_OFFSET ∨ a = Reg.TIM_MPD) ∧ ini = .service then s.setReg a v
  else if 0x200100 ≤ a ∧ a < 0x200200 ∧ a % 16 = 4 then s.cmpCfg ((a - 0x200100) / 16) v
  else if 0x200200 ≤ a ∧ a < 0x200210 then s.pulseCfg ((a - 0x200200) / 4) v
  else s.genWrite ini a v

/-- A write of RND_MARGIN_RST (R42, R43), which also resets GEO_MARGIN (R89). -/
def State.marginRst (s : State) (v : Word) : State :=
  (if bitOf v 0 then
      ((s.setReg Reg.RND_MARGIN2 0x7FFFFFFF).setReg Reg.RND_MARGIN3 0x7FFFFFFF).setReg Reg.GEO_MARGIN 0x7FFFFFFF
    else s).logWrite Reg.RND_MARGIN_RST v

/-- GEO and RND. -/
def State.wGeo (s : State) (ini : Initiator) (a : Nat) (v : Word) : State :=
  if a = Reg.GEO_C then s.geoCWrite v
  else if a = Reg.GEO_CTL then s.geoCtlWrite v
  else if a = Reg.RND_MARGIN_RST then s.marginRst v
  else (s.logWrite a v).genWrite ini a v

/-- FIR. -/
def State.wFir (s : State) (ini : Initiator) (a : Nat) (v : Word) : State :=
  if a = Reg.FIR_FADE_REQ then s.fadeReqWrite v
  else if 0x501000 ≤ a ∧ a < 0x501000 + 16 * 384 ∧ a % 16 ≠ 12 then s.firDescWrite a v
  else (s.logWrite a v).genWrite ini a v

/-- SAI: the masks take effect as R324 says. -/
def State.wSai (s : State) (ini : Initiator) (a : Nat) (v : Word) : State :=
  if 0x802000 ≤ a ∧ a < 0x802C00 ∧ a % 32 = 4 then s.maskWrite ((a - 0x802000) / 32) v false else s.genWrite ini a v

/-- SNS. -/
def State.wSns (s : State) (ini : Initiator) (a : Nat) (v : Word) : State :=
  if a = Reg.SNS_CTL then s.snsCtl v
  else if 0x900100 ≤ a ∧ a < 0x900200 ∧ a % 32 = 4 then s.snsGrpCtl ((a - 0x900100) / 32) v
  else if 0x901000 ≤ a ∧ a < 0x901800 then s.lineWrite ((a - 0x901000) / 32) fun s => s.genWrite ini a v
  else s.genWrite ini a v

/-- An Ethernet port or the stream engine; a running ring takes only its TAIL (R369). -/
def State.wMac (s : State) (ini : Initiator) (a : Nat) (v : Word) : State :=
  let p := (a - 0xA00000) / 0x80000
  let o := (a - 0xA00000) % 0x80000
  if a = Reg.MAC_SNAP p then s.macSnap p v
  else if 0x100 ≤ o ∧ o < 0x180 then
    let q := (o - 0x100) / 32
    if o % 32 = 12 then s.tailWrite p q v
    else if s.bitR (Reg.MAC_CTL p) 7 then s else s.genWrite ini a v
  else s.genWrite ini a v

/-- BVL. -/
def State.wBvl (s : State) (ini : Initiator) (a : Nat) (v : Word) : State :=
  if 0xB00500 ≤ a ∧ a < 0xB00540 ∧ a % 16 = 8 then
    (if bitOf v 31 then s.rraGo ((a - 0xB00500) / 16) (bitOf v 8) (fld v 0 6) (fld v 6 1) else s)
  else s.genWrite ini a v

/-- DRC. -/
def State.wDrc (s : State) (ini : Initiator) (a : Nat) (v : Word) : State :=
  if a = Reg.DRC_CMD then s.drcCmd v
  else if a = Reg.DRC_TRN_GO then s.trnGo v
  else if a = Reg.DRC_TRN_STAT then s.trnStat v
  else s.genWrite ini a v

/-- REC. -/
def State.wRec (s : State) (ini : Initiator) (a : Nat) (v : Word) : State :=
  if a = Reg.REC_SUBMIT then s.recSubmit v else if a = Reg.REC_RD_SLOT then s.recFetchGo v else s.genWrite ini a v

/-- INT. -/
def State.wInt (s : State) (ini : Initiator) (a : Nat) (v : Word) : State :=
  if a = Reg.INT_INJ1 then s.injWrite ini true v
  else if a = Reg.INT_TM_CTL then s.tmCtl v
  else if a = Reg.INT_DBG_LOCK then s.dbgLock v
  else s.genWrite ini a v

/-- CFG. -/
def State.wCfg (s : State) (ini : Initiator) (a : Nat) (v : Word) : State :=
  if a = Reg.CFG_LOAD_GO then (if bitOf v 0 then s.loadGo else s)
  else if a = Reg.CFG_SWAP then s.swapWrite v
  else if a = Reg.CFG_FUSE_CTL then s.fuseCtl v
  else s.genWrite ini a v

/-- HST. -/
def State.wHst (s : State) (ini : Initiator) (a : Nat) (v : Word) : State :=
  if a = Reg.HST_IRQ_LATCH then s.irqLatch v
  else if a = Reg.HST_IRQ_EOI then s.irqEoi v
  else if a = Reg.HST_MBX_DB then s.mbxDb ini v
  else if a = Reg.HST_MBX_ACK then s.mbxAck ini v
  else if 0x1100200 ≤ a ∧ a < 0x110021C ∧ a ≠ Reg.HST_GPIO_IN then s.gpioWrite a v
  else if a = Reg.HST_I2C_CMD 0 then s.i2cCmd 0 v
  else if a = Reg.HST_I2C_CMD 1 then s.i2cCmd 1 v
  else if a = Reg.HST_I2C_STAT 0 ∨ a = Reg.HST_I2C_STAT 1 then s.setReg a (s.reg a &&& ~~~(v &&& 0xF))
  else if a = Reg.HST_OSPI_CMD then s.ospiCmd v
  else if a = Reg.HST_OSPI_STAT then s.setReg a (s.reg a &&& ~~~(v &&& 0xE))
  else if 0x1101000 ≤ a ∧ a < 0x1101200 then
    if a % 128 < 64 then (if s.mbxBusy ((a - 0x1101000) / 128) then s.mbxErr ini a else s.genWrite ini a v)
    else if ini = .service then s.setReg a v
    else s
  else s.genWrite ini a v

/-- A write to tracked state that takes effect (R296). -/
def State.trackedWrite (s : State) (ini : Initiator) (a : Nat) (v : Word) : State :=
  if a < 0x500000 then s.wGeo ini a v
  else if a < 0x600000 then s.wFir ini a v
  else if a < 0x800000 then (if a = Reg.MIX_MTR_CTL then s.mtrCtl v else (s.logWrite a v).genWrite ini a v)
  else if a < 0x06000000 then s.poolWrite a v
  else if a < 0x06F00000 then (if 0x06EF8000 ≤ a then s.meterWrite a v else s.mixWrite a v)
  else s.tableWrite a v

/-- The windows whose host writes the device ignores: the delay store (R95), the FIR history (R130), the cell state (R98), the
Hamper (R326), the object state and the reserved end of its array (R62). -/
def hostReadOnly (a : Nat) : Bool :=
  let inR (lo hi : Nat) : Bool := decide (lo ≤ a) && decide (a < hi)
  inR 0x04000000 0x05000000 || inR 0x05800000 0x05C80000 || inR 0x06900000 0x06C00000 || trackedRo a

/-- A host write of a word through a window: the read that it makes of an uncorrectable word of a SECDED array has that word's effect
(R188, R439). -/
def State.windowWrite (s : State) (a : Nat) (v : Word) : State := (s.sramHostWrite a v).when (s.swBad a) fun s => s.arrayErr a

/-- A host write through an SRAM window outside tracked state. -/
def State.wSram (s : State) (a : Nat) (v : Word) : State :=
  if 0x06400000 ≤ a ∧ a < 0x06700000 then
    (if s.pmode = 10 then s.windowWrite a v else (s.count Reg.SCR_WR_DROP 1).evt Reg.SCR_EVT 4)
  else if 0x06FC0000 ≤ a then s.schArrayWrite a v
  else if hostReadOnly a then s
  else s.windowWrite a v

/-- A write that reaches its block, by the block that holds the address (R533, R534). -/
def State.blockWrite (s : State) (ini : Initiator) (a : Nat) (v : Word) : State :=
  if trackedAddr a then s.gateTracked ini a v fun s => s.trackedWrite ini a v
  else if 0x04000000 ≤ a then (if a < 0x07000000 then s.wSram a v else s)
  else
    match a / 0x100000 with
    | 0 => s.wGnt a v
    | 1 => s.wPwr ini a v
    | 2 => s.wTim ini a v
    | 3 => if a = Reg.SCH_SUBMIT then s.submit v else if a = Reg.SCH_CANCEL then s.cancel v else s.genWrite ini a v
    | 8 => s.wSai ini a v
    | 9 => s.wSns ini a v
    | 10 => s.wMac ini a v
    | 11 => s.wBvl ini a v
    | 12 => if a = Reg.TWN_CMD then s.twnCmd v else s.genWrite ini a v
    | 13 => s.wDrc ini a v
    | 14 => s.wRec ini a v
    | 15 => s.wInt ini a v
    | 16 => s.wCfg ini a v
    | 17 => s.wHst ini a v
    | _ => s.genWrite ini a v

/-- The addresses of the Gauntlet partition (R262). -/
def State.inGauntlet (s : State) (a : Nat) : Bool :=
  decide (a < 0x100000) || s.gntSide a || decide (a / 0x400000 = 24) || decide (a / 0x80000 = 0xDA)

/-- R262 admits the write: the inboxes take their own senders, every other item the Gauntlet sequencer alone. -/
def gntAdmits (ini : Initiator) (a : Nat) : Bool :=
  if a < 0x100000 then
    if a < 0x400 then decide (ini = .gauntlet)
    else if a < 0x440 then decide (ini = .pcie) || decide (ini = .qspi)
    else if a < 0x480 then decide (ini = .service)
    else if a < 0x8000 then false
    else if a < 0xC000 then decide (ini = .gauntlet)
    else false
  else decide (ini = .gauntlet)

/-- A denied write; one to an entry of a Gauntlet object also sets GEO_EVT.GNT_DENY (R85, R91, R263), and one to tracked state counts
on a standby as every write there does (R297). -/
def State.denyWrite (s : State) (ini : Initiator) (a : Nat) : State :=
  ((s.deny ini a).when (decide (s.pmode = 9) && trackedAddr a) fun s => (s.count Reg.TWN_LOCAL_WR 1).evt Reg.TWN_EVT 6).when (s.gntEntry a) fun s =>
    s.geoEvt 4 5 (if a < 0x06F84000 then (a - 0x06F80000) / 32 else (a - 0x06F88000) / 384) 0 s.blkNum

/-- A 32-bit write of an aligned BAR0 word. INT_INJ0 holds GW fields beside others (R263). -/
def State.busWrite (s : State) (ini : Initiator) (a : Nat) (v : Word) : State :=
  if a = Reg.INT_INJ0 then s.injWrite ini false v
  else if s.inGauntlet a then (if gntAdmits ini a then s.blockWrite ini a v else s.denyWrite ini a)
  else if s.reach a then s.blockWrite ini a v
  else s

/-- A write with fewer than four byte enables is ignored and counted (R535). -/
def State.narrow (s : State) (ini : Initiator) (a : Nat) : State :=
  (s.count Reg.HST_NARROW_WR 1).evtFirst Reg.HST_EVT 0 0x14 0x41 ([1, b8 (iniCode ini)] ++ leBytes 4 a)

/-- An address as an aligned word. -/
def wordAddr (a : Nat) : Nat := a / 4 * 4

/-- REGISTER_WRITE (R536). -/
def execRegisterWrite (ini : Initiator) (addr : Nat) (v : Word) (be : BitVec 4) (s : State) : Out :=
  let a := wordAddr addr
  .next (if !s.admits ini || decide (0x08000000 ≤ a) then s
    else if be = 15 then s.busWrite ini a v
    else s.narrow ini a)

/-- SRAM_WINDOW_WRITE (R38). -/
def execSramWindowWrite (ini : Initiator) (addr : Nat) (v : Word) (s : State) : Out :=
  let a := wordAddr addr
  .next (if s.admits ini ∧ 0x04000000 ≤ a ∧ a < 0x07000000 then s.busWrite ini a v else s)

/-- RC_READ (R10): a read of a BAR0 word with the effect that the word's access code gives it. -/
def execRcRead (ini : Initiator) (addr : Nat) (s : State) : Out :=
  let a := wordAddr addr
  s.readRow ini a fun s => s.busRead a

/-- RND_MARGIN_RST (R42). -/
def execRndMarginRst (ini : Initiator) (v : Word) (s : State) : Out :=
  s.writeTracked ini Reg.RND_MARGIN_RST v fun s => s.marginRst v

/-! ## The QSPI port (R544 to R546) -/

/-- ERR of the STATUS byte. -/
def State.qspiFail (s : State) : State := s.setHost fun h => { h with qspiErr := true }

/-- One word that the QSPI port reads: BAR0, or DRAM from 0x0800_0000 upward. -/
def State.qspiWord (s : State) (a : Nat) : State × Word :=
  if a < 0x08000000 then s.busRead a
  else
    let r := s.dramRead (a - 0x08000000) 4 false
    (r.1, w32 (leNat r.2.1))

/-- A read burst of `n` words; of the last only a part is clocked out where `cut` holds, which its access does not undo. -/
def State.qspiReads (s : State) (cut : Bool) : Nat → Nat → State
  | _, 0 => s
  | a, n + 1 =>
    let r := s.qspiWord a
    let s1 := if cut && decide (n = 0) then r.1 else r.1.emit .qspi 0 (0xA5 :: leBytes 4 r.2.toNat)
    s1.qspiReads cut (a + 4) n

/-- A READ or QREAD. -/
def State.qspiGet (s : State) (addr n : Nat) (cut : Bool) : Out :=
  .next (if !s.pwr.good then s else if addr % 4 ≠ 0 then s.qspiFail else s.qspiReads cut addr n)

/-- One word that the QSPI port writes. -/
def State.qspiPut (s : State) (a : Nat) (v : Word) : State :=
  if a < 0x08000000 then s.busWrite .qspi a v else s.dramWrite .host (a - 0x08000000) (leBytes 4 v.toNat)

/-- A WRITE or QWRITE: the words that found the buffer full are lost with ERR, an incomplete last word is a narrow write. -/
def State.qspiSet (s : State) (addr : Nat) (ws : List Word) (full : List Nat) (cut : Bool) : Out :=
  .next (if !s.pwr.good then s
    else if addr % 4 ≠ 0 then s.qspiFail
    else
      let s1 := s.each ws.zipIdx fun s p => if full.contains p.2 then s.qspiFail else s.qspiPut (addr + 4 * p.2) p.1
      if cut then s1.narrow .qspi (addr + 4 * ws.length) else s1)

/-- READ (R545). -/
def execQspiRead (addr : BitVec 32) (n : Nat) (cut : Bool) (s : State) : Out := s.qspiGet addr.toNat n cut

/-- QREAD (R545). -/
def execQspiQread (addr : BitVec 32) (n : Nat) (cut : Bool) (s : State) : Out := s.qspiGet addr.toNat n cut

/-- WRITE (R546). -/
def execQspiWrite (addr : BitVec 32) (ws : List Word) (full : List Nat) (cut : Bool) (s : State) : Out := s.qspiSet addr.toNat ws full cut

/-- QWRITE (R546). -/
def execQspiQwrite (addr : BitVec 32) (ws : List Word) (full : List Nat) (cut : Bool) (s : State) : Out := s.qspiSet addr.toNat ws full cut

/-- STATUS (R546): READY, ERR, which the read clears, and BUSY. -/
def execQspiStatus (busy : Bool) (s : State) : Out :=
  let b := s.pwr.good.toNat * 128 + s.host.qspiErr.toNat * 2 + busy.toNat
  .next ((s.setHost fun h => { h with qspiErr := false }).emit .qspi 0 [b8 b])

/-! ## Remote requests (R429, R430) -/

/-- A remote write that the target drops: under R263, R297, or the RO rule of R10. -/
def State.rraDrops (s : State) (a : Nat) : Bool :=
  s.inGauntlet a || (decide (s.pmode = 9) && trackedAddr a) || decide (0x07000000 ≤ a) ||
    (decide (a < 0x04000000) && (match regCode a with
      | .ro => true
      | .rc => true
      | _ => false))

/-- What the target does with a request it may execute: RESULT and the data read. -/
def State.rraAccess (s : State) (a : Nat) (wr : Bool) (v : Word) : State × Nat × Word :=
  if wr then (s.busWrite .remote a v, if s.rraDrops a then 4 else 0, 0)
  else let r := s.busRead a; (r.1, 0, r.2)

/-- The response to a request goes to its SRC. -/
def State.rraReply (s : State) (src : Nat) (pay : List Byte) : State := s.bvlSend (mkFlit 5 1 (src % 128) s.ownByte 0 0 pay)

/-- The execution of a request, with the response kept for a repetition. -/
def State.rraRun (s : State) (src : Nat) (key : Nat × Nat) (pay : List Byte) : State :=
  let a := wordAddr (leAt pay 0 4)
  let r := s.rraAccess a (decide (byteAt pay 8 = 1)) (w32 (leAt pay 4 4))
  let out := leBytes 4 (leAt pay 0 4) ++ leBytes 4 r.2.2.toNat ++ [b8 r.2.1, b8 (byteAt pay 9)]
  let s1 : State := { r.1 with bvl := { r.1.bvl with
    rraDone := (key.1, key.2, out) :: r.1.bvl.rraDone.filter fun e => decide ((e.1, e.2.1) ≠ key) } }
  s1.rraReply src out

/-- A request is executed, unless it is denied or was the last one executed for its source and slot. -/
def State.rraServe (s : State) (f : List Byte) : State :=
  let src := byteAt f 2
  let pay := flitPay f
  let tag := byteAt pay 9
  let key := (src % 64, tag % 4)
  let last := (s.bvl.rraDone.find? fun e => decide ((e.1, e.2.1) = key)).map (·.2.2)
  if !s.bitR Reg.BVL_CTL 3 || !s.bitR (Reg.BVL_RRA_ALLOW_LO + 4 * (src % 64 / 32)) (src % 32) then
    s.rraReply src (pay.take 8 ++ [2, b8 tag])
  else
    match last with
    | some r =>
      if byteAt r 9 = tag then s.rraReply src r else s.rraRun src key pay
    | none => s.rraRun src key pay
/-- RRA_REQUEST (R429, R430): the oldest request taken in on a port. -/
def execRraRequest (p : BitVec 3) (s : State) : Out :=
  s.event (Reg.PORT_CTL p.toNat) fun s =>
    match s.takeFlit p.toNat 4 with
    | none => s
    | some (s, f) => s.rraServe f

end Sys2Proof.Machine
end

