-- ==== Sys2Proof/Machine/TwinRec.lean ====
section
/-!
DEFINITION. The twin record as a standby follows it (R294 to R302): C(n), A(n) and BULK frames, their checks, the states
TABLES, SHADOW and EXACT, and the start deadlines without a frame.
-/
namespace Sys2Proof.Machine

/-! ## The record's states (R302) -/

/-- The blocks that waited for C(n) or A(n) go on with what the unit has. -/
def State.recRelease (s : State) : State :=
  let cs := s.twin.cWait
  let s1 : State := { s with twin := { s.twin with cWait := [], aWait := [] } }
  ((s1.each cs State.takeSnap).nearFlush).tryPlan

/-- The record check fails: detector 0x17, and SYNC becomes TABLES or NONE. -/
def State.recFail (s : State) (kind fk blk dest : Nat) : State :=
  ((((s.recCheck kind fk blk).setSync dest).recRelease).dropRecord)

/-- The render side starts afresh with block `n`: what ran is dropped, and cells, histories and rings are clear (R24, R302). -/
def State.renderFrom (s : State) (n : Nat) : State :=
  { s with
    rnd := { s.rnd with tileBlk := n }
    fir := { s.fir with next := if n = 0 then [] else (List.range 384).map fun f => (f, n) } }

/-- The running train of a standby drops what it renders and goes on with cleared state at the next block. -/
def State.renderAnew (s : State) : State :=
  let t := s.schStop.clearRender
  let t1 : State := { t with sch := { t.sch with cap := s.sch.cap, dl := s.sch.dl } }
  t1.renderFrom (s.blk.n + 1)

/-- Blocks from the duty unit's T0 to this unit's own, where the own T0 lies on the duty unit's schedule (R22). -/
def State.t0Shift (s : State) (t0 : Nat) : Option Int :=
  let len (k : Nat) : Nat := k * s.blk.b * 1000000000 / s.blk.fr
  let near (d : Nat) : Nat := (2 * d * s.blk.fr + s.blk.b * 1000000000) / (2 * s.blk.b * 1000000000)
  if t0 ≤ s.blk.t0 then
    let k := near (s.blk.t0 - t0)
    if t0 + len k = s.blk.t0 then some (k : Int) else none
  else
    let k := near (t0 - s.blk.t0)
    if s.blk.t0 + len k = t0 then some (-(k : Int)) else none

/-- A unit that joins takes the duty unit's T0 and block numbers. -/
def State.joinTrain (s : State) (t0 : Nat) (k : Int) : State :=
  if k = 0 then s
  else
    let sh (n : Nat) : Nat := ((n : Int) + k).toNat
    let pb (p : PairBlk) : PairBlk := { p with blk := sh p.blk }
    let s1 : State := { s with
      blk := { s.blk with t0 := t0, n := sh s.blk.n, next := s.blk.next.map sh }
      sch := { s.sch with cap := s.sch.cap.map sh, dl := s.sch.dl.map sh }
      sai := { s.sai with pairs := s.sai.pairs.map fun (p : Nat × PairSt) =>
        (p.1, { p.2 with fs := sh p.2.fs, cur := pb p.2.cur, last := pb p.2.last, zeroTo := sh p.2.zeroTo, txTo := sh p.2.txTo }) } }
    ((s1.setReg Reg.RND_T0_NS (w32 t0)).setReg Reg.RND_T0_TAG (w32 (t0 / 2 ^ 32 % 16))).renderAnew

/-! ## Writes of the log -/

/-- A logged write takes effect under the rules of its chapter; one of a Gauntlet object entry changes the copy of R297. -/
def State.recWrite (s : State) (e : Nat × Word) : State :=
  if s.gntEntry e.1 then
    { s with twin := { s.twin with gobj := Store.putBytes sramDef s.twin.gobj e.1 (leBytes 4 e.2.toNat) } }
  else if trackedAddr e.1 then s.trackedWrite .other e.1 e.2
  else s

/-- SEL of a feed takes a value; where it changes, FIR_GD is computed again (R141). -/
def State.selPut (s : State) (f v : Nat) : State :=
  if s.firSel f = v then s else (s.setFld (Reg.FIR_FST f) 0 1 v).gdClear f

/-- A word of BULK: a register, SEL of a feed, or a word of a window. -/
def State.bulkWrite (s : State) (e : Nat × Word) : State :=
  let a := e.1
  if s.gntEntry a then { s with twin := { s.twin with gobj := Store.putBytes sramDef s.twin.gobj a (leBytes 4 e.2.toNat) } }
  else if 0x501000 ≤ a ∧ a < 0x501000 + 16 * 384 ∧ a % 16 = 12 then s.selPut ((a - 0x501000) / 16) (fld e.2 0 1)
  else if !trackedAddr a then s
  else if a < 0x04000000 then s.setReg a (s.masked a e.2)
  else
    let s1 := s.putWord a e.2
    match mixRow? a with
    | some r => if r.ro.contains ((a - r.lo) % r.size / 4) then s1 else s1.setMixLive a e.2
    | none => s1

/-! ## C(n) -/

/-- What a C frame holds beyond its header: T0, the SEL vector, positions and the log. -/
structure CtrlFrame where
  t0 : Nat
  sel : List Byte
  fab : List (Nat × (Word × Word × Word))
  log : List (Nat × Word)
deriving DecidableEq, Repr

/-- The payload of a C frame (R295, R302). -/
def ctrlOf (p : List Byte) (restart : Bool) : CtrlFrame :=
  let o := 16 + 48 * restart.toNat
  let np := leAt p o 2
  let w (a : Nat) : Word := w32 (leAt p a 4)
  { t0 := leAt p 0 6 * 1000000000 + leAt p 6 4
    sel := if restart then (p.drop 16).take 48 else []
    fab := (List.range np).map fun i => let a := o + 2 + 16 * i; (leAt p a 2, (w (a + 4), w (a + 8), w (a + 12)))
    log := (List.range ((p.length - (o + 2 + 16 * np)) / 8)).map fun i => let a := o + 2 + 16 * np + 8 * i; (leAt p a 4, w (a + 4)) }

/-- The SEL vector takes effect. -/
def State.selApply (s : State) (v : List Byte) : State :=
  if v.isEmpty then s
  else s.each (List.range 384) fun s f => s.selPut f ((byteAt v (f / 8)).testBit (f % 8)).toNat

/-- A C frame in TABLES: its log is kept from the first BULK frame on, within 256 KiB. -/
def State.recKeep (s : State) (n : Nat) (c : CtrlFrame) : State :=
  if s.twin.bulk.isEmpty then s
  else
    let kept := s.twin.kept ++ [(n, c.log)]
    let size : Nat := (kept.map fun e => 8 * e.2.length).foldl (· + ·) 0
    if 262144 < size then { s with twin := { s.twin with kept := [], bulk := [] } }
    else { s with twin := { s.twin with kept := kept } }

/-- What the log of C(n) committed and requested is in force from block `n` on, as on the duty unit (R140, R298). -/
def State.recRetire (s : State) (n : Nat) : State :=
  let s1 : State := { s with fir := { s.fir with waits := s.fir.waits.map fun w => (w.1, min w.2 n) } }
  if s1.running then (s1.fadesAt n).mixBlock n else s1

/-- A C frame in SHADOW or EXACT: its positions and its log, in order. -/
def State.recApply (s : State) (c : CtrlFrame) : State :=
  let s1 : State := { s with geo := { s.geo with fab := c.fab } }
  s1.each c.log State.recWrite

/-- What C(n) made and a swap of block `n` are in force, before the geometry of the block. -/
def State.recInForce (s : State) (n : Nat) : State :=
  let s2 := s.recRetire n
  if s2.twin.cWait.contains n then
    ({ s2 with twin := { s2.twin with cWait := s2.twin.cWait.filter fun x => decide (x ≠ n) } } : State).takeSnap n
  else s2

/-- OUT_CRC of block n − 3 against the own value, where neither unit had a late feed in it (R300). -/
def State.recDiverge (s : State) (n crc : Nat) (late3 : Bool) : State :=
  if s.syncOf ≠ 3 ∨ n < 3 ∨ late3 then s
  else
    match s.crcOf (n - 3) with
    | some (c, false) => if c = crc then s else (s.recCheck 5 1 n).setSync 2
    | _ => s

/-- A swap of the record at Sm that is no restart: a fade that still had blocks from m − 1 on was cut there by a forced swap of the duty
unit (R140, R143, R166), since a swap that waits leaves none. -/
def State.recSwap (s : State) (m : Nat) : State :=
  let late : Bool := match s.mix.route with
    | some r => decide (m - 1 < r.stop)
    | none => false
  let fade := s.cfg.carried.contains 7 && s.fir.fades.any fun f => f.cut.isNone && decide (0 < f.k) && decide (m - 1 < f.n0 + f.k)
  let s1 := if late || fade then s.cutFades (m - 1) else s
  (s1.swapTake m).swapApply m true

/-- SWAP and RESTART of C(m) (R301). -/
def State.recEvents (s : State) (n : Nat) (swap restart measure : Bool) (sel : List Byte) : State :=
  let s1 := if swap then (if restart then s.swapTake n else s.recSwap n) else s
  if !restart then s1
  else
    let s2 : State := { s1.selApply sel with twin := { s1.twin with
      measure := measure, lastC := none, lastA := none, cWait := s1.twin.cWait.filter fun x => decide (x < n)
      aWait := s1.twin.aWait.filter fun x => decide (x < n), aGot := [] } }
    if s2.running ∧ s2.mode.stop.isNone then s2.stopAt n 9 (if swap then 3 else 0) 0 true false else s2

/-- EXACT begins with block 0 of the train that a RESTART of the record started. -/
def State.exactStart (s : State) (n : Nat) : State := if n = 0 ∧ s.syncOf = 2 ∧ s.twin.lastC.isNone then s.setSync 3 else s

/-- A good C frame is taken. -/
def State.recControl (s : State) (f : List Byte) (measure : Bool) : State :=
  let n := leAt f 4 6
  let fl := byteAt f 1
  let restart := fl.testBit 0
  let swap := fl.testBit 1
  let plan := leAt f 16 4
  let c := ctrlOf (f.drop 32) restart
  let on := s.running || s.blk.next.isSome
  let shift := s.t0Shift c.t0
  if !swap && decide (plan ≠ (s.reg Reg.TWN_PLAN_CRC).toNat) then s.recFail 4 1 n 0
  else if swap && !(decide (s.shadowSt = 3) && decide (planOf s.cfg.shadow = plan)) then s.recFail 6 1 n 0
  else if on && (shift.isNone || (decide (s.syncOf ≠ 1) && decide (shift ≠ some 0))) then s.recFail 4 1 n 0
  else
    let s1 := if on then s.joinTrain c.t0 (shift.getD 0) else s
    let keep := decide (s1.syncOf = 1)
    let s2 := if keep then s1.recKeep n c else ((s1.exactStart n).recDiverge n (leAt f 20 4) (fl.testBit 2)).recApply c
    let s3 : State := { s2 with twin := { s2.twin with lastC := some n, recBlk := if keep then s2.twin.recBlk else n } }
    let s4 := s3.recEvents n swap restart measure c.sel
    if keep || restart then s4 else s4.recInForce n

/-- The checks of a C or A frame: its staging, its CRC and its number; then it is taken. -/
def State.recTake (s : State) (fk : Nat) (f : List Byte) (last : Option Nat) (take : State → State) : State :=
  let n := leAt f 4 6
  if s.pmode ≠ 9 ∨ s.syncOf = 0 then s
  else if s.arrayBad 10 then (s.arraySweep 10).recFail 7 fk n 1
  else if !s.twinGood f || decide (byteAt f 0 ≠ fk) then s.recFail 1 fk n 1
  else
    match last with
    | some k => if n = k + 1 then take s else s.recFail 2 fk n 1
    | none => take s

/-- CONTROL_FRAME_RECEIVE (R298, R300 to R302). -/
def execControlFrameReceive (frame : List Byte) (measure : Bool) (s : State) : Out :=
  s.event Reg.TWN_CMD fun s => s.recTake 1 frame s.twin.lastC fun s => s.recControl frame measure

/-! ## A(n) (R298) -/

/-- A good A frame: the near-ring samples of block `n` replace the unit's own, and the tiles may start. -/
def State.recAudio (s : State) (f : List Byte) : State :=
  let n := leAt f 4 6
  let p := f.drop 32
  let b := s.blk.b
  if s.syncOf = 1 then { s with twin := { s.twin with lastA := some n } }
  else
    let s1 : State := { s with
      rnd := { s.rnd with near := s.rnd.near.filter fun e => decide (e.2.blk ≠ n) }
      twin := { s.twin with lastA := some n, aWait := s.twin.aWait.filter fun x => decide (x ≠ n)
                            aGot := s.twin.aGot.filter fun x => decide (x ≠ n) } }
    let s2 := s1.each (List.range s.mode.objects) fun s o =>
      s.objWrite o n ((List.range b).map fun k => q31Of ((p.drop (3 * (o * b + k))).take 3))
    let s3 : State := { s2 with twin := { s2.twin with aGot := (n :: s2.twin.aGot).take 8 } }
    s3.nearFlush.tryPlan

/-- AUDIO_FRAME_RECEIVE (R298). -/
def execAudioFrameReceive (frame : List Byte) (s : State) : Out :=
  s.event Reg.TWN_CMD fun s => s.recTake 2 frame s.twin.lastA fun s => s.recAudio frame

/-! ## BULK (R302) -/

/-- Whether a kept write is replayed. -/
def replayed (e : Nat × Word) : Bool := decide (e.1 ≠ Reg.FIR_FADE_REQ) && decide (e.1 ≠ Reg.MIX_MTR_CTL)

/-- The last BULK frame is in: tables, then the kept logs, then rendering with cleared state from the next block. -/
def State.bulkDone (s : State) : State :=
  let bulk := s.twin.bulk
  let logs := s.twin.kept.flatMap (·.2)
  let s1 := s.fadesEnd
  let s2 : State := { s1 with fir := { s1.fir with waits := [] }, twin := { s1.twin with bulk := [], kept := [], gobj := [] } }
  let s3 := (s2.each bulk State.bulkWrite).each (logs.filter replayed) State.recWrite
  (s3.when s3.running State.renderAnew).setSync 2

/-- BULK_FRAME_RECEIVE (R302). -/
def execBulkFrameReceive (last : Bool) (words : List (Nat × Word)) (s : State) : Out :=
  s.event Reg.TWN_CMD fun s =>
    if s.pmode ≠ 9 ∨ s.syncOf ≠ 1 then s
    else
      let s1 : State := { s with twin := { s.twin with bulk := s.twin.bulk ++ words } }
      if last then s1.bulkDone else s1

/-! ## A start deadline without a frame (R298, R302) -/

/-- The frame of the block three before is still missing. -/
def recLate (last : Option Nat) (n : Nat) : Bool := match last with
  | some k => decide (k + 3 < n)
  | none => decide (3 ≤ n)

/-- The frame after the last one received is still missing three blocks after its deadline, in TABLES. -/
def lateAfter (last : Option Nat) (n : Nat) : Bool := match last with
  | some k => decide (k + 3 < n)
  | none => false

/-- STANDBY_RECORD_TIMEOUT: in TABLES the record is late, or geometry of the oldest block that waits starts without C(n), or its tiles start with the unit's own
object audio. -/
def execStandbyRecordTimeout (audio : Bool) (s : State) : Out :=
  s.event Reg.TWN_CMD fun s =>
    if s.pmode = 9 ∧ s.syncOf = 1 ∧ s.running then
      let n := s.blk.n
      if audio then (if lateAfter s.twin.lastA n then s.recFail 3 2 (n - 3) 1 else s)
      else if lateAfter s.twin.lastC n then s.recFail 3 1 (n - 3) 1 else s
    else if !s.follows then s
    else if audio then
      match s.twin.aWait with
      | [] => s
      | n :: r =>
        let s1 := (({ s with twin := { s.twin with aWait := r } } : State).nearFlush).tryPlan
        if recLate s.twin.lastA n then s1.recFail 3 2 (n - 3) 1 else s1
    else
      match s.twin.cWait with
      | [] => s
      | n :: r =>
        let s1 := ({ s with twin := { s.twin with cWait := r } } : State).takeSnap n
        if recLate s.twin.lastC n then s1.recFail 3 1 (n - 3) 1 else s1

end Sys2Proof.Machine
end

