-- ==== Sys2Proof/Machine/Cycle.lean ====
section
/-!
DEFINITION. The block cycle (R22 to R31): what the sample tick at Sn, the end of a block's capture and the output deadline
Dn do.
-/
namespace Sys2Proof.Machine

/-! ## Sn (R23 to R25) -/

/-- RND_BLK_PHASE of block `n` at the present reading of the time counter, in nanoseconds. -/
def State.phaseNs (s : State) (n : Nat) : Int := (s.now : Int) - (s.snNs n : Int)

/-- The phase at Sn is latched and judged. -/
def State.phaseLatch (s : State) (n : Nat) : State :=
  let p := s.phaseNs n
  let s1 := s.setReg Reg.RND_BLK_PHASE (i32 (satN 32 p))
  s1.when (decide ((s.reg Reg.RND_PHASE_LIM).toNat < p.natAbs)) fun s => s.evt Reg.RND_BLK_STATUS 1

/-- The magnitude of the phase reaches Tb ÷ 2. -/
def State.realignDue (s : State) (n : Nat) : Bool := decide (s.blk.b * 1000000000 ≤ 2 * (s.phaseNs n).natAbs * s.blk.fr)

/-- A realign is shown and recorded, with the latched RND_BLK_PHASE in µs (R9, R29). -/
def State.realignNote (s : State) (n : Nat) : State :=
  (s.evt Reg.RND_BLK_STATUS 2).note 7 0x0C
    (leBytes 6 n ++ [2, 0, 0] ++ leBytes 3 (toBits 24 (satN 24 (rndDiv (s.reg Reg.RND_BLK_PHASE).toInt 1000))))

/-- CLK_CORE cycles per block (R39). -/
def State.blkCycles (s : State) : Nat := s.blk.b * 1179648000 / max 1 s.blk.fr

/-- A load in 1/1,024, bits [10:0], rounded half to even (R9). -/
def load11 (used total : Nat) : Word := w32 (min 2047 (rndDiv ((used * 1024 : Nat) : Int) (max 1 total)).toNat)

/-- The figures of the last block: FIR_LOAD, SCR_LOAD and SCR_CORE_CYC. -/
def State.loads (s : State) : State :=
  let top := s.cores.foldl (fun m (c : Nat × CoreSt) => max m c.2.blkCyc) 0
  let s1 := (s.setReg Reg.FIR_LOAD (load11 s.fir.cycles (24 * s.blkCycles))).setReg Reg.SCR_LOAD (load11 top s.blkCycles)
  let s2 := s1.each (List.range 32) fun s c => s.setReg (Reg.SCR_CORE_CYC c) (w32 (min (2 ^ 20 - 1) (s.core c).blkCyc))
  { s2 with
    fir := { s2.fir with cycles := 0 }
    cores := s2.cores.map fun (c : Nat × CoreSt) => (c.1, { c.2 with blkCyc := 0 }) }

/-- S0, or the first tick after a realign: the train runs (R23, R24, R42), every Brim gain is unity and every gain slot at its target
(R157, R159), and the gap of a takeover that restarted it ends with its first sample (R312). -/
def State.trainFirst (s : State) (n : Nat) : State :=
  let r := s.rowFor s.pmode
  let s1 := ((s.setBit Reg.RND_BLK_STATUS 0 true).setReg Reg.RND_FAR_BUDGET (w32 r.far)).setPhase 5
  let gap (s : State) : State := match s.twin.gapFrom with
    | some t0 => ({ s with twin := { s.twin with gapFrom := none } } : State).setReg Reg.TWN_GAP_US
        (w32 (min 65535 ((s.snNs (n + 3) - t0) / 1000)))
    | none => s
  let s1 := gap s1
  let s2 : State := { s1 with blk := { s1.blk with base := n, lateRun := 0 }, mix := { s1.mix with brimG := [], liveHist := [], portOut := [], route := none, route2 := none, busOld := [], busOld2 := [] } }
  (((s2.ptpHold.gainsReset).snsTrain.measTrain.renderFrom n).exactStart n).ovrStart

/-- GPLL copies the steering word at Sn, unless ROOT is unlocked or stopped (R21). -/
def State.gpllCopy (s : State) : State :=
  if s.rootUp then { s with tim := { s.tim with gpllFrac := (s.reg Reg.ROOT_FRAC).toInt } } else s

/-- The snapshot at Sn; a standby that follows waits for C(n) and A(n) (R25, R298). -/
def State.snapOrWait (s : State) (n : Nat) : State :=
  if !s.follows then s.takeSnap n
  else
    let came := match s.twin.lastC with
      | some k => decide (n ≤ k)
      | none => false
    let s1 : State := if came then s.takeSnap n else { s with twin := { s.twin with cWait := s.twin.cWait ++ [n] } }
    if s1.twin.aGot.contains n then s1 else { s1 with twin := { s1.twin with aWait := s1.twin.aWait ++ [n] } }

/-- Tracked writes held by a full C(n − 1) retire in block `n` (R296). -/
def State.heldWrites (s : State) : State :=
  ({ s with twin := { s.twin with held := [] } } : State).each s.twin.held fun s e =>
    if s.logFull e.1 then { s with twin := { s.twin with held := s.twin.held ++ [e] } } else s.trackedWrite .other e.1 e.2

/-- A stop decided at this boundary: a standby's own realign leaves EXACT (R302). -/
def State.ownRealign (s : State) : State :=
  if s.follows then { s.setSync 2 with twin := { s.twin with lastC := none, lastA := none } } else s

/-- The work of Sn for a block that is captured and rendered. -/
def State.blockWork (s : State) (n : Nat) (swap : Bool) : State :=
  let s1 := (((s.routeBlock n).fadesAt n).mixBlock n).snapOrWait n
  (((s1.schBlock n).sendControl n false swap)).heldWrites

/-- The boundary Sn of a running train that no stop has reached: the causes of R52, then the block or the stop. -/
def State.blockBoundary (s : State) (n : Nat) (realign : Bool) : State :=
  let t := s.boundary realign
  let swap := decide (t.cfg.region ≠ s.cfg.region)
  match t.mode.stop with
  | some st =>
    ((if st.realign then t.ownRealign else t).when st.restart fun s => s.sendControl n true swap).heldWrites
  | none => t.blockWork n swap

/-- PHASE of a new train: fill, ramp-up from S3, settled from S4 (R54, R59). -/
def State.phaseStep (s : State) (n : Nat) : State :=
  if s.phase = 5 ∧ n = s.blk.base + 3 then s.setPhase 6
  else if s.phase = 6 ∧ n = s.blk.base + 4 then s.setPhase 0 else s

/-- The samples of block `m` that leave the port mapper from now on enter the output bridges of their channels (R29, R169). -/
def State.bridgesOut (s : State) (m : Nat) : State :=
  match s.active 8 with
  | none => s
  | some g => s.each ((nodesOf g 4).map (·.1)) fun s ch =>
    match s.chBridge 4 ch with
    | some c => s.each (List.range s.blk.b) fun s k =>
        s.bridgeIn c (s.snNs (m + 3) + k * 1000000000 / s.blk.fr) ((latched s.mix.portOut m ch k).getD 0)
    | none => s

/-- The sample tick at Sn. -/
def State.blockStart (s : State) (n : Nat) : State :=
  let s1 : State := { s with blk := { s.blk with n := n, next := some (n + 1) } }
  let s2 := if s1.running then s1 else s1.trainFirst n
  let re := s2.realignDue n
  let s3 := (((s2.phaseLatch n).gpllCopy.loads).phaseStep n).when (decide (3 ≤ n)) fun s => s.bridgesOut (n - 3)
  let s4 := s3.when re fun s => s.realignNote n
  match s4.mode.stop with
  | some st => if n = st.m + 3 then s4.gapStart st else s4.routeStatus n
  | none => s4.blockBoundary n re

/-- BLOCK_START (R24): the tick of the next block, at an instant. -/
def execBlockStart (now : Nat) (s : State) : Out :=
  let s1 := s.advanceTo now
  .next (match s1.blk.next with
    | some n => if s1.appOn ∧ !s1.bitR Reg.CLK_STATUS 10 then s1.blockStart n else s1
    | none => s1)

/-! ## The end of capture (R26, R320) -/

/-- The samples of each receive stream for block `n`, by port channel; those of domain A enter their bridges (R382). -/
def State.captureStreams (s : State) (n : Nat) : State × List (Nat × List Int) :=
  ((List.range 128).filter fun t => s.strOn (s.rxW t 0)).foldl (fun (a : State × List (Nat × List Int)) t =>
    let w := a.1.rxW t 0
    let base := 2048 + fld (a.1.rxW t 1) 0 10
    let r := a.1.strCapture t n
    let chans := (List.range (strChans w)).map fun c => (base + c, r.2.map fun l => nth l c 0)
    if strRate w = a.1.blk.fr then (r.1, a.2 ++ chans)
    else
      (r.1.each chans fun s e => match s.chBridge 1 e.1 with
        | some c => s.each e.2.zipIdx fun s v => s.bridgeIn c (s.snNs n + v.2 * 1000000000 / strRate w) v.1
        | none => s, a.2))
    (s, [])

/-- The samples of each fabric receive channel for block `n`, by port channel. -/
def State.captureFabric (s : State) (n : Nat) : State × List (Nat × List Int) :=
  ((List.range 512).filter fun c => s.bitR (Reg.BVL_RXCH c) 31).foldl (fun (a : State × List (Nat × List Int)) c =>
    let r := a.1.fabCapture c n
    (r.1, a.2 ++ [(4096 + c, r.2)])) (s, [])

/-- The samples of a port channel for block `n`: serial, a stream or fabric channel, or through its bridge. -/
def State.portSamples (s : State) (got : List (Nat × List Int)) (n ch : Nat) : State × List Int :=
  if ch < 2048 then s.rxSerial ch n
  else
    match got.find? fun e => decide (e.1 = ch) with
    | some e => (s, e.2)
    | none =>
      match s.chBridge 1 ch with
      | some c => s.bridgeBlock c n
      | none => (s, [])

/-- PORT_IN nodes of a graph: port channel and bus. -/
def portIns (g : Option (List Byte)) : List (Nat × Nat) := match g with
  | some g => nodesOf g 1
  | none => []

/-- PORT_OUT nodes of a graph: port channel and bus. -/
def portOuts (g : Option (List Byte)) : List (Nat × Nat) := match g with
  | some g => nodesOf g 4
  | none => []

/-- The buses that pre-processing tasks of a graph write: the others carry no signal for objects (R94). -/
def preBuses (g : Option (List Byte)) : List Nat := match g with
  | some g =>
    let post := postBuses g
    ((List.range (graphSegs g)).flatMap (segOuts g)).filter fun b => !post.contains b
  | none => []

/-- The ages of the programs that blocks in flight may use. -/
def ages : List Nat := [0, 1, 2]

/-- The receive channels that a meter measures at a port (R161). -/
def State.meterPorts (s : State) : List Nat :=
  ((List.range 2048).filter fun m => bitOf (s.sw (meterAddr m + 8)) 31 && decide (fld (s.sw (meterAddr m + 12)) 16 3 = 4)).map fun m =>
    fld (s.sw (meterAddr m + 12)) 0 16

/-- Source `i` of the Trail behind the crossing, over block `n` (R36): the FIFO's where it is plain, otherwise as given. -/
def State.trailBus (s : State) (given : List (Nat × List Int)) (n i : Nat) : List Int :=
  let l := ((given.find? fun e => decide (e.1 = i)).map (·.2)).getD []
  (List.range s.blk.b).map fun k =>
    s.crossIn i ((s.blk.t0 + (n * s.blk.b + k) * 1000000000 / s.blk.fr : Nat) - 166667) (nth l k 0)

/-- The reads of block `n` from the Hamper: each stored error in the entries of domain-R receive lanes is corrected or raised (R37). -/
def State.hamperScrub (s : State) (n : Nat) : State :=
  if s.sramBad.isEmpty then s
  else s.each ((List.range 100).filter fun l => s.laneEn l && !s.laneTx l && decide (s.domOf (s.lanePair l) = 0)) fun s l =>
    let e := s.hamperEntry l n
    s.scrub e.1 e.2

/-- Block `n` is complete in the Hamper and the stream and fabric buffers: headers, PORT_IN buses, Trail sources and the
objects that no bus of a pre-processing task feeds. -/
def State.capture (s : State) (n : Nat) (trail : List (Nat × List Int)) : State :=
  let s1 := s.hamperBlock n
  let a := (s1.hamperScrub n).captureStreams n
  let b := a.1.captureFabric n
  let got := a.2 ++ b.2
  let mtr := s.meterPorts.filter s.rxMeter
  let chans := ((ages.flatMap fun g => portIns (s.graphOf g)).map (·.1) ++ mtr).eraseDups
  let c : State × List (Nat × List Int) := chans.foldl (fun (x : State × List (Nat × List Int)) ch =>
    let r := x.1.portSamples got n ch
    (r.1, x.2 ++ [(ch, r.2)])) (b.1, [])
  let val (ch : Nat) : List Int := ((c.2.find? fun e => decide (e.1 = ch)).map (·.2)).getD []
  let s2 := c.1.each ages fun s g => s.each (portIns (s.graphOf g)) fun s e => s.putBus n e.2 g (val e.1)
  let s3 := { s2 with mix := { s2.mix with portIn := mtr.eraseDups.foldl (fun l ch => busPut l n ch (val ch)) s2.mix.portIn } }
  let s4 := s3.each (List.range 64) fun s i => s.putBus n (0x7C0 + i) 0 (s.trailBus trail n i)
  let fed := ages.flatMap fun g => (portIns (s.graphOf g)).map (·.2) ++ preBuses (s.graphOf g)
  s4.each ((List.range s.mode.objects).filter fun o =>
    !s4.subscribed o && decide (s4.srcBus n o < 0x7C0) && !fed.contains (s4.srcBus n o)) fun s o => s.objWrite o n []

/-- CAPTURE_COMPLETE (R320): block n − 1 of the latest Sn is complete, and TRIG 2 occurs. -/
def execCaptureComplete (trail : List (Nat × List Int)) (s : State) : Out :=
  .next (if s.appOn ∧ s.running ∧ s.blk.base < s.blk.n then
      let n := s.blk.n - 1
      let fresh : Bool := match s.sch.cap with
        | some m => decide (m < n)
        | none => true
      let cut : Bool := match s.mode.stop with
        | some st => decide (st.m ≤ n)
        | none => false
      if fresh ∧ !cut then
        let t := s.capture n trail
        ({ t with sch := { t.sch with cap := some n } } : State).settle
      else s
    else s)

/-! ## Dn (R27, R28, R231) -/

/-- The feeds that are late for block `n`, ascending. -/
def State.lateFeeds (s : State) (n : Nat) : List Nat := (List.range 384).filter fun f => s.feedLate f n

/-- The ramp of block `n` at the edges of a train: 1 down in the last block before a stop, 2 up in the first one (R55). -/
def State.edgeRamp (s : State) (n : Nat) : Nat :=
  let last := match s.mode.stop with
    | some st => decide (n + 1 = st.m)
    | none => false
  if last then 1 else if n = s.blk.base then 2 else 0

/-- The ramp of a feed's block `n`: that of the train's edges, and up after a late block. -/
def State.rampOf (s : State) (f n : Nat) : Nat :=
  if s.edgeRamp n = 0 ∧ s.mix.lateLast.contains f then 2 else s.edgeRamp n

/-- The output of a feed's block with its pilot replaces the one without (R280). -/
def State.pilotFeed (s : State) (n f : Nat) : State :=
  if s.pilotOn f then
    let y := (busAt s.mix.ovrOut s.blk.b n f).zipIdx.map fun p => s.addPilot f (s.rTrain (n * s.blk.b + p.2)) s.blk.fr p.1
    { s with mix := { s.mix with ovrOut := busPut s.mix.ovrOut n f y } }
  else s

/-- The port mapper takes the PORT_OUT channels of block `n`, the Trail input slots among them, with the ramps of R55 around a
stop (R167). -/
def State.takePorts (s : State) (n : Nat) : State :=
  let bus (ch age : Nat) : Option Nat := ((portOuts (s.graphOf age)).find? fun e => decide (e.1 = ch)).map (·.2)
  let ramp := s.edgeRamp n
  s.each ((ages.flatMap fun g => portOuts (s.graphOf g)).map (·.1)).eraseDups fun s ch =>
    let y := (s.sinkBus n (bus ch)).zipIdx.map fun x => if ramp = 0 then x.1 else mulSat32 x.1 (rampGain ramp s.blk.b x.2) 22
    { s with mix := { s.mix with portOut := busPut s.mix.portOut n ch y } }

/-- A late block is counted and recorded (R28, R29). -/
def State.lateNote (s : State) (n : Nat) (late : List Nat) : State :=
  (((s.count Reg.RND_LATE 1).count Reg.RND_LATE_FEEDS late.length).evt Reg.RND_BLK_STATUS 3).raiseDet 0x0C 7
    (leBytes 6 n ++ [1] ++ leBytes 2 late.length ++ leBytes 2 (late.headD 0) ++ [0])

/-- LATE_YIELD of the TWIN section. -/
def State.lateYield (s : State) : Nat := match s.twinSect with
  | some p => byteAt p 3
  | none => 0

/-- Late blocks in a row: a yield after LATE_YIELD of them, SAFE-HOLD after 16 (R57, R306). -/
def State.lateRunStep (s : State) (late : Bool) : State :=
  let k := if late then s.blk.lateRun + 1 else 0
  let s1 : State := { s with blk := { s.blk with lateRun := k } }
  let y := s1.lateYield
  if late && decide (0 < y) && decide (y ≤ k) && s1.yieldMay then s1.freeze 0x0C
  else if 16 ≤ k then s1.fatal 0x0C else s1

/-- What leaves the port mapper goes to the streams and the fabric. -/
def State.sendBlock (s : State) (n : Nat) : State := (s.strTxBlock n).bvlTxBlock n

/-- The blocks before `n` of a feed that was late: its FIR stage ends for each of them, in order, once its tasks have completed, and
writes its state before that of block `n` (R28). -/
def State.firCatch (s : State) (n f : Nat) : State :=
  s.each [3, 2, 1] fun s j =>
    if s.blk.base + j ≤ n ∧ s.firNext f = n - j ∧ !s.feedLate f (n - j) then s.firRun f (n - j) else s

/-- The output deadline of block `n`. -/
def State.deadline (s : State) (n : Nat) (src : List (Nat × List Int)) : State :=
  let late := s.lateFeeds n
  let s := s.each s.mix.lateLast fun s f => s.firCatch n f
  let s1 := s.each ((List.range 384).filter fun f => !late.contains f) fun s f => s.firRun f n
  let s2 := s1.each (List.range 384) fun s f =>
    (s.ovrFeed f n src (s.measFeed f n (busAt s.mix.brimOut s.blk.b n f)) (s.rampOf f n) (late.contains f)).1
  let s3 := (((s2.metersBlock n).each (List.range 384) fun s f => s.pilotFeed n f).takePorts n).gainsShow n
  let s4 := (s3.when (!late.isEmpty) fun s => s.lateNote n late).outCrc n (!late.isEmpty)
  let s5 := (s4.sendBlock n).lateRunStep (!late.isEmpty)
  ({ s5 with mix := { s5.mix with lateLast := late, outBlk := some n }, sch := { s5.sch with dl := some n } } : State).settle

/-- A block after a forced switch of M_APP: late, or pure Trail (R480). -/
def State.deadlineFb (s : State) (n : Nat) (late : Bool) (src : List (Nat × List Int)) : State :=
  let s1 := s.each (List.range 384) fun s f =>
    if late then (s.ovrFeed f n src [] 0 true).1
    else
      let y := (List.range s.blk.b).map fun k => (s.trailPart src f n k).getD 0
      { s with mix := { s.mix with ovrOut := busPut s.mix.ovrOut n f y } }
  let s2 := (s1.each (List.range 384) fun s f => s.pilotFeed n f).sendBlock n
  { s2 with mix := { s2.mix with outBlk := some n }, blk := { s2.blk with fb := some (n + 1, false) } }

/-- OUTPUT_DEADLINE (R27): Dn of the block that leaves at the next Sn+3; `src` are the crossed Trail sources. -/
def execOutputDeadline (src : List (Nat × List Int)) (s : State) : Out :=
  .next (if !s.appOn then s
    else
      match s.blk.fb with
      | some (n, late) => s.deadlineFb n late src
      | none =>
        if s.running ∧ s.blk.base + 2 ≤ s.blk.n then
          let n := s.blk.n - 2
          let fresh : Bool := match s.sch.dl with
            | some m => decide (m < n)
            | none => true
          let cut : Bool := match s.mode.stop with
            | some st => decide (st.m ≤ n)
            | none => false
          if fresh ∧ !cut then s.deadline n src else s
        else s)

end Sys2Proof.Machine
end

