-- ==== Sys2Proof/Machine/Dma.lean ====
section
/-!
DEFINITION. The jobs of classes 4 to 7 (R219 to R221, R327, R96, R118), the completion of items (R227), and items that run too long (R229).
-/
namespace Sys2Proof.Machine

/-! ## General jobs (R220, R221) -/

/-- A DMA job entry's fields. -/
structure DmaJob where
  src : Nat
  dst : Nat
  len : Nat
  ssram : Bool
  dsram : Bool
  legal : Bool
deriving DecidableEq, Repr

/-- The job of an entry's 32 bytes: a bad length or address, an illegal space or a reserved bit makes it illegal. -/
def dmaJob (j : List Byte) : DmaJob :=
  let sp := byteAt j 20
  let src := leAt j 0 8
  let dst := leAt j 8 8
  let len := leAt j 16 4
  { src := src, dst := dst, len := len, ssram := decide (sp % 4 = 1), dsram := decide (sp / 4 % 4 = 1)
    legal := decide (src % 4 = 0) && decide (dst % 4 = 0) && decide (len % 4 = 0) && decide (len ≤ 16777216) &&
      decide (sp % 4 < 2) && decide (sp / 4 < 2) && (j.drop 21).all fun b => decide (b = 0) }

/-- A read of a part of a job from SRAM, a word at a time: false at an address outside the arrays or an uncorrectable word. -/
def State.dmaReadWords (s : State) : Nat → Nat → State × List Byte × Bool
  | 0, _ => (s, [], true)
  | n + 1, a =>
    if (arrayOf a).isNone then (s, [], false)
    else
      let bad := s.swBad a
      let r := s.busRead a
      if bad then (r.1, [], false)
      else
        let t := r.1.dmaReadWords n (a + 4)
        (t.1, leBytes 4 r.2.toNat ++ t.2.1, t.2.2)

/-- A write of a part of a job to SRAM. -/
def State.dmaWriteWords (s : State) : Nat → Nat → List Byte → State × Bool
  | 0, _, _ => (s, true)
  | n + 1, a, bs =>
    if (arrayOf a).isNone then (s, false)
    else (s.busWrite .dma a (w32 (leAt bs 0 4))).dmaWriteWords n (a + 4) (bs.drop 4)

/-- A part of `n` bytes is read. -/
def State.dmaRead (s : State) (sram : Bool) (a n : Nat) : State × List Byte × Bool :=
  if sram then s.dmaReadWords (n / 4) a
  else if s.usable < a + n then (s, [], false)
  else s.dramRead a n false

/-- A part is written. -/
def State.dmaWrite (s : State) (sram : Bool) (a : Nat) (bs : List Byte) : State × Bool :=
  if sram then s.dmaWriteWords (bs.length / 4) a bs
  else if s.usable < a + bs.length then (s, false)
  else (s.dramWrite .host a bs, true)

/-- The bytes moved at once: up to the end of a 64-byte DRAM unit, or a word. -/
def dmaPart (j : DmaJob) (src dst left : Nat) : Nat :=
  min left (if !j.dsram then 64 - dst % 64 else if !j.ssram then 64 - src % 64 else 4)

/-- The copy of a job, part by part, until it is done or an error stops it. -/
def State.dmaCopy (s : State) (j : DmaJob) : Nat → Nat → Nat → Nat → State × Bool
  | 0, _, _, _ => (s, true)
  | fuel + 1, src, dst, left =>
    if left = 0 then (s, true)
    else
      let n := dmaPart j src dst left
      let r := s.dmaRead j.ssram src n
      if !r.2.2 then (r.1, false)
      else
        let w := r.1.dmaWrite j.dsram dst r.2.1
        if !w.2 then (w.1, false) else w.1.dmaCopy j fuel (src + n) (dst + n) (left - n)

/-- A general job: its status. -/
def State.dmaGeneral (s : State) (bs : List Byte) : State × Nat :=
  let j := dmaJob bs
  if !j.legal then (s, 5)
  else if j.len = 0 then (s, 1)
  else
    let r := s.dmaCopy j (j.len / 4) j.src j.dst j.len
    (r.1, if r.2 then 0 else 5)

/-! ## Transfers that wait for their items (R219, R229) -/

/-- A transfer of a job takes place; a packet goes out on the port of the slot. -/
def State.jobSend (s : State) (slot : Nat) (w : JobOut) : State :=
  match w with
  | .twin f => s.emit .twinFrame 0 f
  | .flits fs => s.each fs State.bvlSend
  | .packet t j smp => s.strSendOn (slot - 97) t j smp
  | .ring a head smp => s.entryWrite a head smp

/-- The part of a transfer that a stopped job makes, of an amount that the manual leaves open: a frame and a ring entry up to a byte, flits and
packets whole. -/
def State.jobPart (s : State) (slot : Nat) (w : JobOut) : State :=
  let k := s.freeNat
  match w with
  | .twin f => s.draw.emit .twinFrame 0 (f.take (k % (f.length + 1)))
  | .flits fs => s.draw.each (fs.take (k % (fs.length + 1))) State.bvlSend
  | .packet t j smp => if k % 2 = 1 then s.draw.strSendOn (slot - 97) t j smp else s.draw
  | .ring a _ smp => s.draw.dramWriteParts .realtime (a + 32) (smp.take (k % (smp.length + 1)))

/-- A transfer belongs to the task. -/
def jobOf (cls : Nat) (t : SchTask) (j : WaitJob) : Bool :=
  decide (j.cls = cls) && decide (j.code = t.arg) && (!blockJob cls t.arg || decide (j.blk = t.blk))

/-- The transfers that wait for a task take place, in the order in which they became ready. -/
def State.jobRun (s : State) (t : SchTask) : State :=
  let mine := s.sch.jobs.filter (jobOf (slotClass t.slot) t)
  let s1 : State := { s with sch := { s.sch with jobs := s.sch.jobs.filter fun j => !jobOf (slotClass t.slot) t j } }
  s1.each mine fun s j => s.jobSend t.slot j.what

/-- A job ends without its transfer, or in the midst of it where `part`: what waits for it and what is still to come is lost (R229). -/
def State.jobStop (s : State) (t : SchTask) (part : Bool) : State :=
  let c := slotClass t.slot
  let mine := s.sch.jobs.filter (jobOf c t)
  let s1 : State := { s with sch := { s.sch with
    jobs := s.sch.jobs.filter fun j => !jobOf c t j
    stopped := if blockJob c t.arg then (c, t.arg, t.blk) :: s.sch.stopped else s.sch.stopped } }
  if part then
    match mine with
    | [] => s1
    | j :: _ => s1.jobPart t.slot j.what
  else s1

/-! ## Block jobs (R96, R118, R327) -/

/-- The lane or receiver of a spill job. -/
def spillLane (a : Nat) : Nat := if a < 0x4858 then a - 0x4800 else 96 + (a - 0x4858)

/-- A ring's spill of block `n`, the first `k` bytes of the entry: its size and the write (R327). -/
def State.spill (s : State) (l n k : Nat) : State :=
  let size := if 96 ≤ l then (s.reg (Reg.SAI_AES_SPILL_SIZE (l - 96))).toNat else (s.reg (Reg.SAI_SPILL_SIZE l)).toNat
  let base := if 96 ≤ l then (s.reg (Reg.SAI_AES_SPILL_BASE (l - 96))).toNat else (s.reg (Reg.SAI_SPILL_BASE l)).toNat
  if size = 0 then s
  else
    let e := s.hamperEntry l n
    let t := s.scrub e.1 e.2
    let bs := (List.range (e.2 / 4)).flatMap fun i => leBytes 4 (t.swz (e.1 + 4 * i)).toNat
    t.dramWriteParts .realtime (base * 64 + n % size * e.2) (bs.take k)

/-- What a job of class 4 does in full, and its status. -/
def State.dmaJobRun (s : State) (t : SchTask) : State × Nat :=
  let a := t.arg
  if a < 0x400 then s.dmaGeneral t.job
  else if a < 0x4400 then (s.mirrorWrite (a - 0x4000) t.blk, 0)
  else if a < 0x4800 then (s.farFetch (a - 0x4400), 0)
  else if a < 0x4900 then (let l := spillLane a; (s.spill l t.blk (s.hamperEntry l t.blk).2, 0))
  else (s.jobRun t, 0)

/-- DMA_JOB_DONE (R221, R227): the job on a DMA channel ends. -/
def execDmaJobDone (slot : BitVec 7) (s : State) : Out :=
  s.event 0x300000 fun s =>
    match s.sch.run.find? fun t => decide (t.slot = slot.toNat) with
    | none => s
    | some t =>
      if slotClass t.slot ≠ 4 then s
      else
        match t.fin with
        | some st => (s.jobStop t false).slotEnd t.slot st
        | none => let r := s.dmaJobRun t; r.1.slotEnd t.slot r.2

/-! ## Completion (R227) -/

/-- Whether the dispatcher itself ends the item of this task: its engine has a command of its own otherwise. -/
def selfEnding (t : SchTask) : Bool := !([1, 2, 3, 4].contains (slotClass t.slot))

/-- ITEM_COMPLETE (R227). -/
def execItemComplete (slot : BitVec 7) (s : State) : Out :=
  s.event 0x300000 fun s =>
    match s.sch.run.find? fun t => decide (t.slot = slot.toNat) with
    | none => s
    | some t =>
      match t.fin with
      | some st => (s.when (selfEnding t) fun s => s.jobStop t false).slotEnd slot.toNat st
      | none => if selfEnding t then (s.when (decide (5 ≤ slotClass t.slot)) fun s => s.jobRun t).slotEnd slot.toNat 0 else s

/-! ## Time-outs (R229) -/

/-- A stopped job of class 4: a partial transfer of an amount the manual leaves open. -/
def State.dmaStopped (s : State) (t : SchTask) : State :=
  let a := t.arg
  let k := s.freeNat
  if a < 0x400 then
    let j := dmaJob t.job
    if j.legal then (let n := 4 * (k % (j.len / 4 + 1)); (s.draw.dmaCopy j (n / 4) j.src j.dst n).1) else s
  else if a < 0x4400 then
    s.draw.each (List.range (k % (s.blk.b + 1))) fun s i =>
      let p := t.blk * s.blk.b + i
      s.dramWriteParts .realtime (s.farAddr (a - 0x4000) p) (s.sramClean (s.nearAddr (a - 0x4000) p) 3)
  else if a < 0x4800 then { s with rnd := { s.rnd with farStop := (t.blk, a - 0x4400) :: s.rnd.farStop } }
  else if a < 0x4900 then
    let l := spillLane a
    s.draw.spill l t.blk (k % ((s.hamperEntry l t.blk).2 + 1))
  else s.jobStop t true

/-- A core task that never started has zero outputs (R209). -/
def State.coreZero (s : State) (c : Nat) (t : SchTask) : State :=
  let age := s.progOf t.blk
  s.each (segLists (s.taskGraph age) t.arg) fun s e => s.copyOut c t.blk age true e

/-- A stopped geometry item leaves its object as it was in its block (R229). -/
def State.geoStop (s : State) (n o : Nat) : State := { s with geo := { s.geo with stopped := (n, o) :: s.geo.stopped } }

/-- What a stopped task of a class leaves. -/
def State.stopFx (s : State) (t : SchTask) : State :=
  match slotClass t.slot with
  | 0 => (s.timeoutFx t.slot).geoStop t.blk t.arg
  | 1 =>
    let c := t.slot - 2
    if (s.core c).task.isSome then s.coreTimeout c else (s.timeoutFx t.slot).coreZero c t
  | 2 =>
    let s1 := s.timeoutFx t.slot
    if (s1.rnd.plan.map (·.blk)) = some t.blk then s1.tileDone t.arg true else s1
  | 3 =>
    let s1 := s.timeoutFx t.slot
    if s1.firNext t.arg = t.blk then
      ({ s1 with fir := { s1.fir with stopped := (t.arg, t.sub) :: s1.fir.stopped } } : State).firTask t.arg t.sub
    else s1
  | 4 => (s.timeoutFx t.slot).dmaStopped t
  | _ => (s.timeoutFx t.slot).jobStop t true

/-- ITEM_TIMEOUT: an item runs for LIMIT units and is stopped with TIMEOUT. -/
def execItemTimeout (slot : BitVec 7) (s : State) : Out :=
  s.event 0x300000 fun s =>
    match s.sch.run.find? fun t => decide (t.slot = slot.toNat) with
    | none => s
    | some t => if t.fin.isSome then s else (s.stopFx t).slotEnd t.slot 4

end Sys2Proof.Machine
end

