-- ==== Sys2Proof/Machine/Idle.lean ====
section
/-!
DEFINITION. What the device does of its own with the clock when no command waits, and how the queue gives its next
command. DESIGN CHOICE (assumption 4): one step on an empty queue is one period of CLK_PER.
-/
namespace Sys2Proof.Machine

/-- What the clock does in one CLK_PER period: the counter's tick (two while M_APP selects FOSC, R392, R479), comparators
that fall due match (R404), armed vectors with something pending send their message (R542), and busy cores run the six
CLK_CORE cycles of the period (R19, R189); the island counts its seconds (R524). Without PWR_GOOD there is no CLK_PER, and the step is
one second of the island while it has VBAT. -/
def State.idle (s : State) : State :=
  if !s.pwr.good then (if s.pwr.vbat then s.secTick else s)
  else
    let s1 := if s.bitR Reg.CLK_STATUS 10 then s.tick.tick else s.tick
    let s2 := if s1.appOn then (s1.matchDue).irqSend else s1
    if s2.bitR Reg.CLK_STATUS 10 then (s2.coreTicks 1).secPass 2 else (s2.coreTicks 6).secPass 1

/-- The state with a command put in front of the queue. -/
def State.push (s : State) (c : Instr) : State := { s with pending := c :: s.pending }

/-- The state without the command at the front of its queue. -/
def State.pop (s : State) : State := { s with pending := s.pending.tail }

end Sys2Proof.Machine
end

