-- ==== Sys2Proof/Machine/Dispatch.lean ====
section
/-!
DEFINITION. The one match over the commands: each arm calls the command's own meaning.
-/
namespace Sys2Proof.Machine

def exec (i : Instr) (s : State) : Host.Outcome State Fault Refusal :=
  match i with
  | .pwrGoodRise => Sys2Proof.Machine.execPwrGoodRise s
  | .pwrGoodFall vbat => Sys2Proof.Machine.execPwrGoodFall vbat s
  | .vddGntBrownOut vbat => Sys2Proof.Machine.execVddGntBrownOut vbat s
  | .resetNAssert => Sys2Proof.Machine.execResetNAssert s
  | .resetNRelease => Sys2Proof.Machine.execResetNRelease s
  | .pfwFall => Sys2Proof.Machine.execPfwFall s
  | .pfwRise => Sys2Proof.Machine.execPfwRise s
  | .supplyOutOfWindow rail high mv => Sys2Proof.Machine.execSupplyOutOfWindow rail high mv s
  | .supplyBackInWindow rail => Sys2Proof.Machine.execSupplyBackInWindow rail s
  | .tempRead t0 t1 t2 t3 => Sys2Proof.Machine.execTempRead t0 t1 t2 t3 s
  | .islandRegisterWrite ini addr v => Sys2Proof.Machine.execIslandRegisterWrite ini addr v s
  | .islandWriteDone => Sys2Proof.Machine.execIslandWriteDone s
  | .secMatch => Sys2Proof.Machine.execSecMatch s
  | .wakeInAssert n => Sys2Proof.Machine.execWakeInAssert n s
  | .almInWake ix => Sys2Proof.Machine.execAlmInWake ix s
  | .islandColdStart vbat => Sys2Proof.Machine.execIslandColdStart vbat s
  | .thermosQueueDrained => Sys2Proof.Machine.execThermosQueueDrained s
  | .sleepTimeout => Sys2Proof.Machine.execSleepTimeout s
  | .latchedWakeRaise => Sys2Proof.Machine.execLatchedWakeRaise s
  | .foscReady => Sys2Proof.Machine.execFoscReady s
  | .foscNotReady => Sys2Proof.Machine.execFoscNotReady s
  | .pllLock p => Sys2Proof.Machine.execPllLock p s
  | .pllUnlock p => Sys2Proof.Machine.execPllUnlock p s
  | .xaMonitorTrip => Sys2Proof.Machine.execXaMonitorTrip s
  | .xbMonitorTrip => Sys2Proof.Machine.execXbMonitorTrip s
  | .rootMonitorTrip => Sys2Proof.Machine.execRootMonitorTrip s
  | .mclkMonitorTrip n => Sys2Proof.Machine.execMclkMonitorTrip n s
  | .rootRelockTimeout => Sys2Proof.Machine.execRootRelockTimeout s
  | .appReturn => Sys2Proof.Machine.execAppReturn s
  | .gpllReturn => Sys2Proof.Machine.execGpllReturn s
  | .dpllReturn => Sys2Proof.Machine.execDpllReturn s
  | .mclkReturn n => Sys2Proof.Machine.execMclkReturn n s
  | .monitorArm m => Sys2Proof.Machine.execMonitorArm m s
  | .muxHung mux => Sys2Proof.Machine.execMuxHung mux s
  | .sdsReturn ini => Sys2Proof.Machine.execSdsReturn ini s
  | .clkEnWrite ini v => Sys2Proof.Machine.execClkEnWrite ini v s
  | .foscTrimCodeWrite ini v => Sys2Proof.Machine.execFoscTrimCodeWrite ini v s
  | .trimWindow count lost => Sys2Proof.Machine.execTrimWindow count lost s
  | .blockStart now => Sys2Proof.Machine.execBlockStart now s
  | .captureComplete trail => Sys2Proof.Machine.execCaptureComplete trail s
  | .outputDeadline src => Sys2Proof.Machine.execOutputDeadline src s
  | .rndMarginRst ini v => Sys2Proof.Machine.execRndMarginRst ini v s
  | .requestThermos ini => Sys2Proof.Machine.execRequestThermos ini s
  | .requestWake ini => Sys2Proof.Machine.execRequestWake ini s
  | .requestTrail ini => Sys2Proof.Machine.execRequestTrail ini s
  | .requestLoad ini => Sys2Proof.Machine.execRequestLoad ini s
  | .requestBalanced ini => Sys2Proof.Machine.execRequestBalanced ini s
  | .requestSwift ini => Sys2Proof.Machine.execRequestSwift ini s
  | .requestWide ini => Sys2Proof.Machine.execRequestWide ini s
  | .requestDeep ini => Sys2Proof.Machine.execRequestDeep ini s
  | .requestMeasure ini => Sys2Proof.Machine.execRequestMeasure ini s
  | .requestStandby ini => Sys2Proof.Machine.execRequestStandby ini s
  | .requestMaintain ini => Sys2Proof.Machine.execRequestMaintain ini s
  | .requestSafeHold ini => Sys2Proof.Machine.execRequestSafeHold ini s
  | .requestReserved ini code => Sys2Proof.Machine.execRequestReserved ini code s
  | .msBoundary => Sys2Proof.Machine.execMsBoundary s
  | .restartPrepDone => Sys2Proof.Machine.execRestartPrepDone s
  | .geoCWrite ini v => Sys2Proof.Machine.execGeoCWrite ini v s
  | .geoFreezeWrite ini v => Sys2Proof.Machine.execGeoFreezeWrite ini v s
  | .geometryDone margin => Sys2Proof.Machine.execGeometryDone margin s
  | .renderTileDone f margin => Sys2Proof.Machine.execRenderTileDone f margin s
  | .rndIptDataRead ini => Sys2Proof.Machine.execRndIptDataRead ini s
  | .firTaskDone f bank margin => Sys2Proof.Machine.execFirTaskDone f bank margin s
  | .firFadeReq ini f => Sys2Proof.Machine.execFirFadeReq ini f s
  | .firFadeReqAll ini => Sys2Proof.Machine.execFirFadeReqAll ini s
  | .firDescriptorWrite ini addr v => Sys2Proof.Machine.execFirDescriptorWrite ini addr v s
  | .firGdDone f => Sys2Proof.Machine.execFirGdDone f s
  | .commitWordWrite ini addr v => Sys2Proof.Machine.execCommitWordWrite ini addr v s
  | .meterClearWrite ini m v => Sys2Proof.Machine.execMeterClearWrite ini m v s
  | .mixMtrClr ini v => Sys2Proof.Machine.execMixMtrClr ini v s
  | .bridgeLock ch ratio => Sys2Proof.Machine.execBridgeLock ch ratio s
  | .gntTslotEnWrite ini v => Sys2Proof.Machine.execGntTslotEnWrite ini v s
  | .zoneBusCommit ini z v => Sys2Proof.Machine.execZoneBusCommit ini z v s
  | .feedEntryCommit ini f v => Sys2Proof.Machine.execFeedEntryCommit ini f v s
  | .trailSwitch isFeed ix => Sys2Proof.Machine.execTrailSwitch isFeed ix s
  | .ovrApply f => Sys2Proof.Machine.execOvrApply f s
  | .coreTaskStart c old => Sys2Proof.Machine.execCoreTaskStart c old s
  | .coreTaskTimeout c => Sys2Proof.Machine.execCoreTaskTimeout c s
  | .illegalInstruction c w => Sys2Proof.Machine.execIllegalInstruction c w s
  | .macNop c => Sys2Proof.Machine.execMacNop c s
  | .macAcc c f st xa q mask => Sys2Proof.Machine.execMacAcc c f st xa q mask s
  | .msu c f st xa q mask => Sys2Proof.Machine.execMsu c f st xa q mask s
  | .mpy c f st xa q mask => Sys2Proof.Machine.execMpy c f st xa q mask s
  | .addx c f st xa q mask => Sys2Proof.Machine.execAddx c f st xa q mask s
  | .subx c f st xa q mask => Sys2Proof.Machine.execSubx c f st xa q mask s
  | .ldx c f st xa q mask => Sys2Proof.Machine.execLdx c f st xa q mask s
  | .aclr c f st xa q mask => Sys2Proof.Machine.execAclr c f st xa q mask s
  | .extract c st sh rnd q mask => Sys2Proof.Machine.execExtract c st sh rnd q mask s
  | .aluNop c => Sys2Proof.Machine.execAluNop c s
  | .addW c st d sa sb => Sys2Proof.Machine.execAddW c st d sa sb s
  | .subW c st d sa sb => Sys2Proof.Machine.execSubW c st d sa sb s
  | .addi c st d sa sb => Sys2Proof.Machine.execAddi c st d sa sb s
  | .andW c st d sa sb => Sys2Proof.Machine.execAndW c st d sa sb s
  | .orW c st d sa sb => Sys2Proof.Machine.execOrW c st d sa sb s
  | .xorW c st d sa sb => Sys2Proof.Machine.execXorW c st d sa sb s
  | .shl c st d sa sb => Sys2Proof.Machine.execShl c st d sa sb s
  | .shra c st d sa sb => Sys2Proof.Machine.execShra c st d sa sb s
  | .shrl c st d sa sb => Sys2Proof.Machine.execShrl c st d sa sb s
  | .minW c st d sa sb => Sys2Proof.Machine.execMinW c st d sa sb s
  | .maxW c st d sa sb => Sys2Proof.Machine.execMaxW c st d sa sb s
  | .absW c st d sa sb => Sys2Proof.Machine.execAbsW c st d sa sb s
  | .negW c st d sa sb => Sys2Proof.Machine.execNegW c st d sa sb s
  | .cmpW c st d sa sb => Sys2Proof.Machine.execCmpW c st d sa sb s
  | .movW c st d sa sb => Sys2Proof.Machine.execMovW c st d sa sb s
  | .loopb c t => Sys2Proof.Machine.execLoopb c t s
  | .loopr c t => Sys2Proof.Machine.execLoopr c t s
  | .br c t => Sys2Proof.Machine.execBr c t s
  | .brz c t => Sys2Proof.Machine.execBrz c t s
  | .brnz c t => Sys2Proof.Machine.execBrnz c t s
  | .brn c t => Sys2Proof.Machine.execBrn c t s
  | .nodeMark c t => Sys2Proof.Machine.execNodeMark c t s
  | .endTask c t => Sys2Proof.Machine.execEndTask c t s
  | .amNop c am => Sys2Proof.Machine.execAmNop c am s
  | .ldw c am x j m => Sys2Proof.Machine.execLdw c am x j m s
  | .ldh c am x j m => Sys2Proof.Machine.execLdh c am x j m s
  | .stw c am x j m => Sys2Proof.Machine.execStw c am x j m s
  | .sth c am x j m => Sys2Proof.Machine.execSth c am x j m s
  | .mvr c am x j sel => Sys2Proof.Machine.execMvr c am x j sel s
  | .lim c am x imm => Sys2Proof.Machine.execLim c am x imm s
  | .schSubmit ini v => Sys2Proof.Machine.execSchSubmit ini v s
  | .schCancel ini v => Sys2Proof.Machine.execSchCancel ini v s
  | .dispatchCycle => Sys2Proof.Machine.execDispatchCycle s
  | .bankInstantiateDeferred => Sys2Proof.Machine.execBankInstantiateDeferred s
  | .itemComplete slot => Sys2Proof.Machine.execItemComplete slot s
  | .itemTimeout slot => Sys2Proof.Machine.execItemTimeout slot s
  | .dmaJobDone slot => Sys2Proof.Machine.execDmaJobDone slot s
  | .cfgLoadGo ini => Sys2Proof.Machine.execCfgLoadGo ini s
  | .loadSuccess => Sys2Proof.Machine.execLoadSuccess s
  | .loadFail readErr => Sys2Proof.Machine.execLoadFail readErr s
  | .coefPendSet => Sys2Proof.Machine.execCoefPendSet s
  | .cfgSwapArm ini force => Sys2Proof.Machine.execCfgSwapArm ini force s
  | .cfgSwapForce ini => Sys2Proof.Machine.execCfgSwapForce ini s
  | .periodicCheckStart => Sys2Proof.Machine.execPeriodicCheckStart s
  | .periodicCheckDone bad => Sys2Proof.Machine.execPeriodicCheckDone bad s
  | .cfgFuseProgram ini slot confirm => Sys2Proof.Machine.execCfgFuseProgram ini slot confirm s
  | .cfgFuseRevoke ini slot confirm => Sys2Proof.Machine.execCfgFuseRevoke ini slot confirm s
  | .fuseDone => Sys2Proof.Machine.execFuseDone s
  | .startCmpLockTimeout => Sys2Proof.Machine.execStartCmpLockTimeout s
  | .alert src w0 w1 => Sys2Proof.Machine.execAlert src w0 w1 s
  | .evac src w0 w1 => Sys2Proof.Machine.execEvac src w0 w1 s
  | .gntReset src w0 w1 => Sys2Proof.Machine.execGntReset src w0 w1 s
  | .page src w0 w1 => Sys2Proof.Machine.execPage src w0 w1 s
  | .pageEnd src w0 w1 => Sys2Proof.Machine.execPageEnd src w0 w1 s
  | .testStart src w0 w1 => Sys2Proof.Machine.execTestStart src w0 w1 s
  | .testEnd src w0 w1 => Sys2Proof.Machine.execTestEnd src w0 w1 s
  | .faultAck src w0 w1 => Sys2Proof.Machine.execFaultAck src w0 w1 s
  | .imgActivate src w0 w1 => Sys2Proof.Machine.execImgActivate src w0 w1 s
  | .testTimeout => Sys2Proof.Machine.execTestTimeout s
  | .contactEdge raw deb => Sys2Proof.Machine.execContactEdge raw deb s
  | .consoleLine line => Sys2Proof.Machine.execConsoleLine line s
  | .consoleStatus => Sys2Proof.Machine.execConsoleStatus s
  | .keyProgram slot hash => Sys2Proof.Machine.execKeyProgram slot hash s
  | .keyRevoke slot => Sys2Proof.Machine.execKeyRevoke slot s
  | .recErase => Sys2Proof.Machine.execRecErase s
  | .recWindow sec => Sys2Proof.Machine.execRecWindow sec s
  | .claim m => Sys2Proof.Machine.execClaim m s
  | .sns off v => Sys2Proof.Machine.execSns off v s
  | .saiMs g v => Sys2Proof.Machine.execSaiMs g v s
  | .watchdogExpiry => Sys2Proof.Machine.execWatchdogExpiry s
  | .gntWdtKick ini v => Sys2Proof.Machine.execGntWdtKick ini v s
  | .lockstepMismatch => Sys2Proof.Machine.execLockstepMismatch s
  | .gntMemoryError => Sys2Proof.Machine.execGntMemoryError s
  | .domainResetRelease ok => Sys2Proof.Machine.execDomainResetRelease ok s
  | .trailLive us => Sys2Proof.Machine.execTrailLive us s
  | .unusableClear => Sys2Proof.Machine.execUnusableClear s
  | .playStart ini p v => Sys2Proof.Machine.execPlayStart ini p v s
  | .playStop ini p => Sys2Proof.Machine.execPlayStop ini p s
  | .playEnd p => Sys2Proof.Machine.execPlayEnd p s
  | .gapEnd p => Sys2Proof.Machine.execGapEnd p s
  | .msgCheckPass m uncorr => Sys2Proof.Machine.execMsgCheckPass m uncorr s
  | .toneRun ini g v => Sys2Proof.Machine.execToneRun ini g v s
  | .toneStopRequest ini g => Sys2Proof.Machine.execToneStopRequest ini g s
  | .toneStopped g => Sys2Proof.Machine.execToneStopped g s
  | .toneCadence g => Sys2Proof.Machine.execToneCadence g s
  | .extCopyStart => Sys2Proof.Machine.execExtCopyStart s
  | .extCopyDone => Sys2Proof.Machine.execExtCopyDone s
  | .pilotWindowEnd e valid level => Sys2Proof.Machine.execPilotWindowEnd e valid level s
  | .heartbeatSend => Sys2Proof.Machine.execHeartbeatSend s
  | .heartbeatReceive path frame => Sys2Proof.Machine.execHeartbeatReceive path frame s
  | .pathLost path => Sys2Proof.Machine.execPathLost path s
  | .seatBTakeover => Sys2Proof.Machine.execSeatBTakeover s
  | .controlFrameReceive frame measure => Sys2Proof.Machine.execControlFrameReceive frame measure s
  | .audioFrameReceive frame => Sys2Proof.Machine.execAudioFrameReceive frame s
  | .bulkFrameReceive last words => Sys2Proof.Machine.execBulkFrameReceive last words s
  | .yieldReceive path frame => Sys2Proof.Machine.execYieldReceive path frame s
  | .standbyRecordTimeout audio => Sys2Proof.Machine.execStandbyRecordTimeout audio s
  | .twnCmdYield ini => Sys2Proof.Machine.execTwnCmdYield ini s
  | .twnCmdResync ini => Sys2Proof.Machine.execTwnCmdResync ini s
  | .yieldTimeout => Sys2Proof.Machine.execYieldTimeout s
  | .saiFrame k pair bclks period slip slots src => Sys2Proof.Machine.execSaiFrame k pair bclks period slip slots src s
  | .nonaudioRelease l ix => Sys2Proof.Machine.execNonaudioRelease l ix s
  | .saiClockStop aes k pair rate => Sys2Proof.Machine.execSaiClockStop aes k pair rate s
  | .saiClockRecover aes k pair => Sys2Proof.Machine.execSaiClockRecover aes k pair s
  | .aes3Frame r a b perr cs period => Sys2Proof.Machine.execAes3Frame r a b perr cs period s
  | .slotZeroCrossSwitch l slot => Sys2Proof.Machine.execSlotZeroCrossSwitch l slot s
  | .saiMaskWrite ini l v late => Sys2Proof.Machine.execSaiMaskWrite ini l v late s
  | .snsSyncPin => Sys2Proof.Machine.execSnsSyncPin s
  | .snsCtlSync ini v => Sys2Proof.Machine.execSnsCtlSync ini v s
  | .snsGrpCtlSync ini g v => Sys2Proof.Machine.execSnsGrpCtlSync ini g v s
  | .groupReset groups => Sys2Proof.Machine.execGroupReset groups s
  | .channelStuck c => Sys2Proof.Machine.execChannelStuck c s
  | .ringEntryDone g late tns x => Sys2Proof.Machine.execRingEntryDone g late tns x s
  | .snsPilotWindow c valid x => Sys2Proof.Machine.execSnsPilotWindow c valid x s
  | .snsCoefDataRead ini => Sys2Proof.Machine.execSnsCoefDataRead ini s
  | .measStart c => Sys2Proof.Machine.execMeasStart c s
  | .measStatus c => Sys2Proof.Machine.execMeasStatus c s
  | .measCaptureDone => Sys2Proof.Machine.execMeasCaptureDone s
  | .measResponsesDone clean => Sys2Proof.Machine.execMeasResponsesDone clean s
  | .measSynthDone => Sys2Proof.Machine.execMeasSynthDone s
  | .macFrameReceive p frame sfd => Sys2Proof.Machine.execMacFrameReceive p frame sfd s
  | .linkUp p => Sys2Proof.Machine.execLinkUp p s
  | .linkDown p st => Sys2Proof.Machine.execLinkDown p st s
  | .macRingTailWrite ini p q v => Sys2Proof.Machine.execMacRingTailWrite ini p q v s
  | .txDescriptor p sfd held => Sys2Proof.Machine.execTxDescriptor p sfd held s
  | .macSnap ini p => Sys2Proof.Machine.execMacSnap ini p s
  | .macSnapClr ini p => Sys2Proof.Machine.execMacSnapClr ini p s
  | .tsqRead ini p tx => Sys2Proof.Machine.execTsqRead ini p tx s
  | .streamPacketSend t j => Sys2Proof.Machine.execStreamPacketSend t j s
  | .epochTimeout t => Sys2Proof.Machine.execEpochTimeout t s
  | .fcsWindow p => Sys2Proof.Machine.execFcsWindow p s
  | .timSet ini => Sys2Proof.Machine.execTimSet ini s
  | .timIncWrite ini v => Sys2Proof.Machine.execTimIncWrite ini v s
  | .rootFracWrite ini v => Sys2Proof.Machine.execRootFracWrite ini v s
  | .timNsRead ini => Sys2Proof.Machine.execTimNsRead ini s
  | .timWrap => Sys2Proof.Machine.execTimWrap s
  | .timCmpMatch ix off => Sys2Proof.Machine.execTimCmpMatch ix off s
  | .cmpArm ini ix v => Sys2Proof.Machine.execCmpArm ini ix v s
  | .pulseEnd k => Sys2Proof.Machine.execPulseEnd k s
  | .servoInterval offset mpd port => Sys2Proof.Machine.execServoInterval offset mpd port s
  | .syncTimeout => Sys2Proof.Machine.execSyncTimeout s
  | .ptpStart c => Sys2Proof.Machine.execPtpStart c s
  | .ptpStop c => Sys2Proof.Machine.execPtpStop c s
  | .ptpStatus c gm => Sys2Proof.Machine.execPtpStatus c gm s
  | .flitReceive p flit => Sys2Proof.Machine.execFlitReceive p flit s
  | .retryTimeout p => Sys2Proof.Machine.execRetryTimeout p s
  | .portSignalDetect p => Sys2Proof.Machine.execPortSignalDetect p s
  | .blockLockHeld p => Sys2Proof.Machine.execBlockLockHeld p s
  | .portTrainTimeout p => Sys2Proof.Machine.execPortTrainTimeout p s
  | .lockLost p => Sys2Proof.Machine.execLockLost p s
  | .beaconSend p => Sys2Proof.Machine.execBeaconSend p s
  | .beaconReceive p => Sys2Proof.Machine.execBeaconReceive p s
  | .beaconTimeout p => Sys2Proof.Machine.execBeaconTimeout p s
  | .latencyMeasure p tx rx dly => Sys2Proof.Machine.execLatencyMeasure p tx rx dly s
  | .nodeDiscovery => Sys2Proof.Machine.execNodeDiscovery s
  | .conflictBackoff => Sys2Proof.Machine.execConflictBackoff s
  | .conflictClear => Sys2Proof.Machine.execConflictClear s
  | .objectFlit p => Sys2Proof.Machine.execObjectFlit p s
  | .objectLate o => Sys2Proof.Machine.execObjectLate o s
  | .objectPublish o => Sys2Proof.Machine.execObjectPublish o s
  | .channelFlit p => Sys2Proof.Machine.execChannelFlit p s
  | .probe p dep t id => Sys2Proof.Machine.execProbe p dep t id s
  | .rraRead ini k node seat => Sys2Proof.Machine.execRraRead ini k node seat s
  | .rraWrite ini k node seat => Sys2Proof.Machine.execRraWrite ini k node seat s
  | .rraRequest p => Sys2Proof.Machine.execRraRequest p s
  | .rraResponse p => Sys2Proof.Machine.execRraResponse p s
  | .rraTimeout k => Sys2Proof.Machine.execRraTimeout k s
  | .portTsqRead ini p => Sys2Proof.Machine.execPortTsqRead ini p s
  | .intInjSramCe ini => Sys2Proof.Machine.execIntInjSramCe ini s
  | .intInjSramUe ini => Sys2Proof.Machine.execIntInjSramUe ini s
  | .intInjDramCe ini => Sys2Proof.Machine.execIntInjDramCe ini s
  | .intInjDramUe ini => Sys2Proof.Machine.execIntInjDramUe ini s
  | .intInjXaLoss ini => Sys2Proof.Machine.execIntInjXaLoss ini s
  | .intInjXbLoss ini => Sys2Proof.Machine.execIntInjXbLoss ini s
  | .intInjRootUnlock ini => Sys2Proof.Machine.execIntInjRootUnlock ini s
  | .intInjFoscRange ini => Sys2Proof.Machine.execIntInjFoscRange ini s
  | .intInjSaiClkLoss ini => Sys2Proof.Machine.execIntInjSaiClkLoss ini s
  | .intInjSaiFrame ini => Sys2Proof.Machine.execIntInjSaiFrame ini s
  | .intInjNonAudio ini => Sys2Proof.Machine.execIntInjNonAudio ini s
  | .intInjRndLate ini => Sys2Proof.Machine.execIntInjRndLate ini s
  | .intInjCoreGov ini => Sys2Proof.Machine.execIntInjCoreGov ini s
  | .intInjFirGov ini => Sys2Proof.Machine.execIntInjFirGov ini s
  | .intInjCircAddr ini => Sys2Proof.Machine.execIntInjCircAddr ini s
  | .intInjSchQfull ini => Sys2Proof.Machine.execIntInjSchQfull ini s
  | .intInjTaskTimeout ini => Sys2Proof.Machine.execIntInjTaskTimeout ini s
  | .intInjMacFcs ini => Sys2Proof.Machine.execIntInjMacFcs ini s
  | .intInjTsOvf ini => Sys2Proof.Machine.execIntInjTsOvf ini s
  | .intInjBvlRetry ini => Sys2Proof.Machine.execIntInjBvlRetry ini s
  | .intInjBvlDown ini => Sys2Proof.Machine.execIntInjBvlDown ini s
  | .intInjTwinHb ini => Sys2Proof.Machine.execIntInjTwinHb ini s
  | .intInjTwinRec ini => Sys2Proof.Machine.execIntInjTwinRec ini s
  | .intInjImageCheck ini => Sys2Proof.Machine.execIntInjImageCheck ini s
  | .intInjGntWdt ini => Sys2Proof.Machine.execIntInjGntWdt ini s
  | .intInjGntLockstep ini => Sys2Proof.Machine.execIntInjGntLockstep ini s
  | .intInjMsgCheck ini => Sys2Proof.Machine.execIntInjMsgCheck ini s
  | .intInjRecWrite ini => Sys2Proof.Machine.execIntInjRecWrite ini s
  | .intInjPilot ini => Sys2Proof.Machine.execIntInjPilot ini s
  | .intInjLineZ ini => Sys2Proof.Machine.execIntInjLineZ ini s
  | .intInjOverTemp ini => Sys2Proof.Machine.execIntInjOverTemp ini s
  | .intInjSupply ini => Sys2Proof.Machine.execIntInjSupply ini s
  | .intInjRefreshDebt ini => Sys2Proof.Machine.execIntInjRefreshDebt ini s
  | .intInjFarClamp ini => Sys2Proof.Machine.execIntInjFarClamp ini s
  | .intTmCtlWrite ini v => Sys2Proof.Machine.execIntTmCtlWrite ini v s
  | .intDbgLock ini v => Sys2Proof.Machine.execIntDbgLock ini v s
  | .dbgFuseDone => Sys2Proof.Machine.execDbgFuseDone s
  | .recSubmit ini v => Sys2Proof.Machine.execRecSubmit ini v s
  | .recWindowExpiry => Sys2Proof.Machine.execRecWindowExpiry s
  | .recProgramDone readBack => Sys2Proof.Machine.execRecProgramDone readBack s
  | .recSearchDone => Sys2Proof.Machine.execRecSearchDone s
  | .recEraseDone => Sys2Proof.Machine.execRecEraseDone s
  | .recFetch ini v => Sys2Proof.Machine.execRecFetch ini v s
  | .recFetchDone => Sys2Proof.Machine.execRecFetchDone s
  | .recTokenRefill => Sys2Proof.Machine.execRecTokenRefill s
  | .refreshDue c rt paid => Sys2Proof.Machine.execRefreshDue c rt paid s
  | .mr4Poll c0 c1 c2 c3 => Sys2Proof.Machine.execMr4Poll c0 c1 c2 c3 s
  | .selfRefreshIdle => Sys2Proof.Machine.execSelfRefreshIdle s
  | .dramInitDone => Sys2Proof.Machine.execDramInitDone s
  | .drcRetrain ini => Sys2Proof.Machine.execDrcRetrain ini s
  | .drcTrnGo ini => Sys2Proof.Machine.execDrcTrnGo ini s
  | .testPointDone errs found => Sys2Proof.Machine.execTestPointDone errs found s
  | .trainingFail => Sys2Proof.Machine.execTrainingFail s
  | .pcieLinkChange up width speed msix => Sys2Proof.Machine.execPcieLinkChange up width speed msix s
  | .perstNFall => Sys2Proof.Machine.execPerstNFall s
  | .registerWrite ini addr v be => Sys2Proof.Machine.execRegisterWrite ini addr v be s
  | .sramWindowWrite ini addr v => Sys2Proof.Machine.execSramWindowWrite ini addr v s
  | .rcRead ini addr => Sys2Proof.Machine.execRcRead ini addr s
  | .hstIrqEoi ini v => Sys2Proof.Machine.execHstIrqEoi ini v s
  | .hstIrqLatchWrite ini v => Sys2Proof.Machine.execHstIrqLatchWrite ini v s
  | .hstMbxDb ini v => Sys2Proof.Machine.execHstMbxDb ini v s
  | .hstMbxAck ini v => Sys2Proof.Machine.execHstMbxAck ini v s
  | .mailboxResponse c status res => Sys2Proof.Machine.execMailboxResponse c status res s
  | .serviceFirmwareRestart reset => Sys2Proof.Machine.execServiceFirmwareRestart reset s
  | .announce c => Sys2Proof.Machine.execAnnounce c s
  | .withdraw c => Sys2Proof.Machine.execWithdraw c s
  | .sapList c texts => Sys2Proof.Machine.execSapList c texts s
  | .sapAnnounceTimer t => Sys2Proof.Machine.execSapAnnounceTimer t s
  | .topology c => Sys2Proof.Machine.execTopology c s
  | .twinStatus c => Sys2Proof.Machine.execTwinStatus c s
  | .version c => Sys2Proof.Machine.execVersion c s
  | .autostart c => Sys2Proof.Machine.execAutostart c s
  | .qspiRead addr n cut => Sys2Proof.Machine.execQspiRead addr n cut s
  | .qspiQread addr n cut => Sys2Proof.Machine.execQspiQread addr n cut s
  | .qspiWrite addr ws full cut => Sys2Proof.Machine.execQspiWrite addr ws full cut s
  | .qspiQwrite addr ws full cut => Sys2Proof.Machine.execQspiQwrite addr ws full cut s
  | .qspiStatus busy => Sys2Proof.Machine.execQspiStatus busy s
  | .hstOspiCmd ini v => Sys2Proof.Machine.execHstOspiCmd ini v s
  | .ospiDone ok data at_ cells => Sys2Proof.Machine.execOspiDone ok data at_ cells s
  | .i2cWrite k nack arb => Sys2Proof.Machine.execI2cWrite k nack arb s
  | .i2cRead k b arb => Sys2Proof.Machine.execI2cRead k b arb s
  | .i2cStart k arb => Sys2Proof.Machine.execI2cStart k arb s
  | .i2cStop k => Sys2Proof.Machine.execI2cStop k s
  | .i2cTimeout k => Sys2Proof.Machine.execI2cTimeout k s
  | .hstI2cRxRead ini k => Sys2Proof.Machine.execHstI2cRxRead ini k s
  | .gpioEdge pin level => Sys2Proof.Machine.execGpioEdge pin level s
  | .twinLaneLoss => Sys2Proof.Machine.execTwinLaneLoss s
  | .twinLaneReturn => Sys2Proof.Machine.execTwinLaneReturn s
  | .selfRefreshHoldEnd => Sys2Proof.Machine.execSelfRefreshHoldEnd s
  | .trainingComplete density => Sys2Proof.Machine.execTrainingComplete density s
  | .portNewAttempt p => Sys2Proof.Machine.execPortNewAttempt p s
  | .stuckInputChange c => Sys2Proof.Machine.execStuckInputChange c s

end Sys2Proof.Machine
end

