-- ==== Sys2Proof/Safety.lean ====
section
/-!
DEFINITION. The terms claims are stated in: the invariants of the device's state, what it means for a command to
complete, and what a command leaves unchanged.
-/
namespace Sys2Proof.Machine

/-- The register file is in canonical form: words at rising addresses, none equal to its reset value. -/
def State.regsWf (s : State) : Bool := Store.wf regReset s.regs

/-- The time counter is a 60-bit accumulator and its phase counts modulo three (R392). -/
def State.timeWf (s : State) : Bool := decide (s.tim.acc < 2 ^ 60) && decide (s.tim.phase < 3)

/-- What every step keeps: the register file and the memories in canonical form, and the time counter in range. -/
abbrev State.Inv (s : State) : Prop := s.regsWf = true ∧ Memory.wf s = true ∧ s.timeWf = true

/-- The registers the recorder's intake writes when an event is recorded (R458, R461, R464). -/
def recReg (a : Nat) : Bool := [Reg.REC_STATUS, Reg.REC_EVT, Reg.REC_SEQ, Reg.REC_LOST].contains a

/-- Every register but those listed reads as before. -/
def RegsBut (l : List Nat) (s t : State) : Prop := ∀ a, a ∉ l → t.reg a = s.reg a

/-- Every register but those listed and the recorder's intake registers reads as before. -/
def RegsButRec (l : List Nat) (s t : State) : Prop := ∀ a, a ∉ l → recReg a = false → t.reg a = s.reg a

/-- Every register outside a set of addresses holds its reset value. -/
def RegsResetBut (p : Nat → Bool) (t : State) : Prop := ∀ a, p a = false → t.reg a = regReset a

/-- Every register outside a set of addresses reads as before. -/
def RegsOutside (p : Nat → Bool) (s t : State) : Prop := ∀ a, p a = false → t.reg a = s.reg a

/-- Of the whole state only the registers listed may have changed. -/
def OnlyRegs (l : List Nat) (s t : State) : Prop := t = { s with regs := t.regs } ∧ RegsBut l s t

/-- Of the whole state only the registers listed and, by a record taken, the recorder may have changed. -/
def OnlyRegsRec (l : List Nat) (s t : State) : Prop :=
  t = { s with regs := t.regs, log := t.log } ∧ RegsButRec l s t

/-- The four memories are as before. -/
def SameMemories (s t : State) : Prop :=
  t.sram = s.sram ∧ t.dram = s.dram ∧ t.boot = s.boot ∧ t.gflash = s.gflash

/-- Every byte of on-chip SRAM outside the `n` bytes at `a` reads as before. -/
def SramOutside (a n : Nat) (s t : State) : Prop :=
  ∀ b, b < a ∨ a + n ≤ b → Store.get sramDef t.sram b = Store.get sramDef s.sram b

/-- Every byte of DRAM outside the `n` bytes at `a` reads as before. -/
def DramOutside (a n : Nat) (s t : State) : Prop :=
  ∀ b, b < a ∨ a + n ≤ b → Store.get dramDef t.dram b = Store.get dramDef s.dram b

/-- Every byte of the boot flash outside the `n` bytes at `a` reads as before. -/
def BootOutside (a n : Nat) (s t : State) : Prop :=
  ∀ b, b < a ∨ a + n ≤ b → Store.get flashDef t.boot b = Store.get flashDef s.boot b

/-- Of the whole state only core `c` may have changed. -/
def OnlyCore (c : Nat) (s t : State) : Prop :=
  t = { s with cores := t.cores } ∧ ∀ d, d ≠ c → t.core d = s.core d

/-- Core `c` runs task `k` below its cycle limit, between two instructions and outside every loop, with no accumulator
clamped. -/
abbrev CoreFresh (s : State) (c : Nat) (k : CoreTask) : Prop :=
  s.coreRuns c = true ∧ (s.core c).task = some k ∧ (s.core c).start = none ∧ (s.core c).r.pc < 2048 ∧
    (s.core c).r.loops = [] ∧ (s.core c).r.a.length = 4 ∧ (s.core c).r.cl = [false, false, false, false] ∧
    k.cyc + 1 < s.taskMax k

/-- Channel `c` holds the response `st` with results `res` to its request, and is done (R547, R548). -/
abbrev Responded (c st : Nat) (res : List Word) (s t : State) : Prop :=
  t.reg (Reg.HST_MBX_RSP c 0) = s.mbxReq c 0 ∧ t.reg (Reg.HST_MBX_RSP c 1) = w32 (st + 256 * res.length) ∧
    (∀ i ∈ List.range res.length, t.reg (Reg.HST_MBX_RSP c (2 + i)) = nth res i 0) ∧ t.mbxBusy c = false ∧
    t.bitR Reg.HST_MBX_STAT (8 + c) = true

/-- The registers that a response of `n` result words writes. -/
def rspRegs (c n : Nat) : List Nat := Reg.HST_MBX_STAT :: (List.range (2 + n)).map (Reg.HST_MBX_RSP c)

/-- Operand Y of accumulator `i` of a MAC slot: X[XA], or X[XA + 1] for the upper pair in pair form (R197). -/
def CoreRegs.macY (r : CoreRegs) (f : Bool) (xa : BitVec 4) (i : Nat) : Int :=
  (r.xr (if f && decide (2 ≤ i) then xa.toNat + 1 else xa.toNat)).toInt

/-- Operand X of accumulator `i` of a MAC slot: X[4 × Q + i] (R197). -/
def CoreRegs.macX (r : CoreRegs) (q : BitVec 2) (i : Nat) : Int := (r.xr (4 * q.toNat + i)).toInt

/-- The registers after one instruction whose MAC slot gives the accumulators of MASK exact values that none of them
overflows, and whose other slots do nothing. -/
def CoreRegs.accAll (r : CoreRegs) (mask : BitVec 4) (g : Nat → Int) : CoreRegs :=
  { r with a := (List.range 4).map fun i => if mask.toNat.testBit i then g i else nth r.a i 0
           cl := [false, false, false, false], pc := r.pc + 1 }

/-- The command answers a next state of which `P` holds. -/
def Completes (c : Instr) (s : State) (P : State → Prop) : Prop := ∃ t, exec c s = .next t ∧ P t

/-- An access of the initiator to the address reaches its block: it is admitted, not held and not gated (R449, R537, R539). -/
abbrev Reaches (s : State) (ini : Initiator) (a : Nat) : Prop := s.admits ini = true ∧ s.reach a = true

/-- A service operation can run on channel `c`: service firmware runs, the channel is busy, and its request names the
operation (R547, R548). -/
abbrev Requested (s : State) (c svc op : Nat) : Prop :=
  s.appOn = true ∧ s.mbxBusy c = true ∧ (s.mbxReq c 0).toNat % 65536 = svc + 256 * op

/-- The device sent exactly this since `s`, and nothing else of what has left it changed. -/
abbrev Sent (k : EmKind) (p : Nat) (d : List Byte) (s t : State) : Prop := t.out = ⟨k, p, d⟩ :: s.out

/-- An event is recorded with its source, code and data, and nothing else is (R456 to R460). -/
abbrev Recorded (src code : Nat) (data : List Byte) (s t : State) : Prop := t.log = (s.note src code data).log

/-- The DRAM gives full service, with no stored error in it or in any array. -/
abbrev DramPlain (s : State) : Prop :=
  s.drc.trained = true ∧ s.service = 1 ∧ s.bitR Reg.CLK_EN 12 = true ∧ s.drc.bad = [] ∧ s.sramBad = []

/-- A request is held for the next boundary (R52, R59). -/
abbrev RequestHeld (code : Nat) (s t : State) : Prop :=
  t.mode.req = some code ∧ t.mode.held = false ∧ t.pmode = s.pmode ∧ t.reg Reg.PWR_MODE_REQ = w32 code ∧
    t.reg Reg.PWR_MODE_STATUS = putBit (s.reg Reg.PWR_MODE_STATUS) 14 false ∧
    RegsButRec [Reg.PWR_MODE_REQ, Reg.PWR_MODE_STATUS] s t ∧ SameMemories s t

/-- A request is pending: a transition is in progress (R53). -/
abbrev RequestPending (code : Nat) (s t : State) : Prop :=
  t.mode.req = some code ∧ t.bitR Reg.PWR_MODE_STATUS 14 = true ∧ t.pmode = s.pmode ∧ t.reg Reg.PWR_MODE_REQ = w32 code ∧
    RegsButRec [Reg.PWR_MODE_REQ, Reg.PWR_MODE_STATUS] s t ∧ SameMemories s t

/-- A request is refused with REQ_ERR GNT_VETO where R268 bars the mode, ALARM where R49 does, and else ILLEGAL. -/
abbrev RequestRefused (code : Nat) (s t : State) : Prop :=
  t.mode.req = none ∧ t.bitR Reg.PWR_MODE_EVT 2 = true ∧ t.pmode = s.pmode ∧
    t.fldR Reg.PWR_MODE_STATUS 16 4 =
      (if 4 ≤ code ∧ code ≤ 9 ∧ s.bitR Reg.GNT_STATUS 4 = true then 5 else if s.alarm = true ∧ code ∈ [0, 1, 3, 8, 10] then 2 else 1) ∧
    RegsButRec [Reg.PWR_MODE_REQ, Reg.PWR_MODE_STATUS, Reg.PWR_MODE_EVT] s t ∧ SameMemories s t

/-- No cause but a request waits for a boundary, and the Gauntlet's outputs are usable. -/
abbrev OnlyRequest (s : State) (code : Nat) : Prop :=
  s.mode.stop = none ∧ s.mode.fault = none ∧ s.bitR Reg.GNT_STATUS 4 = false ∧ s.mode.alarmFx = false ∧ s.mode.twin = none ∧
    s.mode.w2 = none ∧ s.mode.load = none ∧ s.mode.held = false ∧ s.mode.req = some code ∧ s.phase = 0

/-- The initiator may steer and set the counter: the PTP service does not run, or it is the service (R399). -/
abbrev MaySteer (s : State) (ini : Initiator) : Prop := s.bitR Reg.TIM_SERVO_STAT 31 = false ∨ ini = .service

/-- A write to tracked state is made: it reaches its block, the unit is no standby, and the write log has room (R296, R297). -/
abbrev Tracked (s : State) (ini : Initiator) (a : Nat) : Prop :=
  Reaches s ini a ∧ s.pmode ≠ 9 ∧ (s.isDuty = true → s.logSize ≤ 129024)

/-- Core `c` runs task `k` and takes slots: it is fresh, and the store of cores is canonical. -/
abbrev CoreReady (s : State) (c : Nat) (k : CoreTask) : Prop :=
  CoreFresh s c k ∧ Store.wf (fun _ => ({} : CoreSt)) s.cores = true

/-- The core's registers after its slot are `r'`, the instruction is in progress from `r`, and nothing outside the core changed. -/
abbrev SlotGives (c : Nat) (r r' : CoreRegs) (s t : State) : Prop :=
  (t.core c).r = r' ∧ (t.core c).start = some r ∧ (t.core c).illegal = false ∧ OnlyCore c s t

/-- The commands that spell a slot of a sample-core instruction. -/
def IsMacSlot (c : BitVec 5) (i : Instr) : Prop :=
  i = .macNop c ∨ (∃ f s xa q m, i = .macAcc c f s xa q m ∨ i = .msu c f s xa q m ∨ i = .mpy c f s xa q m ∨
    ((i = .addx c f s xa q m ∨ i = .subx c f s xa q m ∨ i = .ldx c f s xa q m ∨ i = .aclr c f s xa q m))) ∨
    ∃ s sh rnd q m, i = .extract c s sh rnd q m

/-- The commands of the ALU slot. -/
def IsAluSlot (c : BitVec 5) (i : Instr) : Prop :=
  i = .aluNop c ∨ (∃ s d sa sb, i ∈ [Instr.addW c s d sa sb, .subW c s d sa sb, .addi c s d sa sb, .andW c s d sa sb, .orW c s d sa sb,
    .xorW c s d sa sb, .shl c s d sa sb, .shra c s d sa sb, .shrl c s d sa sb, .minW c s d sa sb, .maxW c s d sa sb,
    .absW c s d sa sb, .negW c s d sa sb, .cmpW c s d sa sb, .movW c s d sa sb]) ∨
    ∃ t, i ∈ [Instr.loopb c t, .loopr c t, .br c t, .brz c t, .brnz c t, .brn c t, .nodeMark c t, .endTask c t]

/-- The commands of an address slot. -/
def IsAmSlot (c : BitVec 5) (am : Bool) (i : Instr) : Prop :=
  i = .amNop c am ∨ (∃ x j m, i ∈ [Instr.ldw c am x j m, .ldh c am x j m, .stw c am x j m, .sth c am x j m]) ∨
    (∃ x j sel, i = .mvr c am x j sel) ∨ ∃ x imm, i = .lim c am x imm

/-- The Gauntlet domain has gone into reset with a cause (R266): no memory and no register outside the Gauntlet partition
changed but the detectors, the alarm's mode bits, the latch and the recorder's intake. -/
abbrev GauntletReset (cause : Nat) (s t : State) : Prop :=
  t.gnt.phase = 1 ∧ t.gnt.fw = false ∧ t.bitR Reg.GNT_STATUS 6 = false ∧ t.fldR Reg.GNT_RST 0 4 = cause ∧
    t.fldR Reg.GNT_RST 8 8 = satU 8 (s.fldR Reg.GNT_RST 8 8 + 1) ∧ SameMemories s t ∧
    ∀ a, 0x100000 ≤ a → a ∉ [Reg.INT_DET0, Reg.INT_INJ0, Reg.PWR_MODE_STATUS, Reg.HST_IRQ_LATCH] → recReg a = false →
      t.reg a = s.reg a

/-- Of a write the Gauntlet does not admit: counted with its address, latched and recorded, and nothing else (R263). -/
abbrev Denied (a : Nat) (s t : State) : Prop :=
  t.reg Reg.GNT_DENY_COUNT = w32 (satU 32 ((s.reg Reg.GNT_DENY_COUNT).toNat + 1)) ∧ t.reg Reg.GNT_DENY_ADDR = w32 a ∧
    OnlyRegsRec [Reg.GNT_DENY_COUNT, Reg.GNT_DENY_ADDR] s t

/-- Of a refused injection (R445). -/
abbrev InjectionRefused (s t : State) : Prop :=
  t.reg Reg.INT_INJ_REFUSED = w32 (satU 32 ((s.reg Reg.INT_INJ_REFUSED).toNat + 1)) ∧ t.bitR Reg.INT_EVT 0 = true ∧
    OnlyRegs [Reg.INT_INJ_REFUSED, Reg.INT_EVT] s t

/-- An injection has raised its detector (R445, R446): bit `n` of `det`, bit `b` of the event register `e`, its counters, and nothing
else but a record and the registers `more`. -/
abbrev Raised (det n e b : Nat) (more cnt : List Nat) (s t : State) : Prop :=
  t.bitR det n = true ∧ t.bitR e b = true ∧ (∀ k ∈ cnt, t.reg k = w32 (satU 32 ((s.reg k).toNat + 1))) ∧
    OnlyRegsRec (det :: e :: more ++ cnt) s t

/-- The words of a Gauntlet command that a command row of operation `op` takes from its source (R271, R272). -/
def CmdGiven (s : State) (op : Nat) (src : CmdSource) (w0 w1 : Word) (w : List Word) : Prop :=
  fld (nth w 0 0) 0 8 = op ∧
  match src with
  | .host => s.bitR Reg.GNT_HMBX_STAT 31 = true ∧ w = s.inboxWords false
  | .network => s.bitR Reg.GNT_SMBX_STAT 31 = true ∧ w = s.inboxWords true
  | .firmware => False
  | _ => w = [w0, w1]

/-- A command of a source is answered with its result (R289, R551). -/
def CmdAnswered (src : CmdSource) (w : List Word) (res : Nat) (s t : State) : Prop :=
  match src with
  | .host => t.reg Reg.GNT_HMBX_STAT = w32 (fld (nth w 0 0) 16 16 + 65536 * res + 2 ^ 30 * (s.bitR Reg.GNT_HMBX_STAT 30).toNat)
  | .network => t.reg Reg.GNT_SMBX_STAT = w32 (fld (nth w 0 0) 16 16 + 65536 * res + 2 ^ 30 * (s.bitR Reg.GNT_SMBX_STAT 30).toNat)
  | .console => t.out.head? = some ⟨.uart, 0, ascii (if res = 0 then "OK" else "ERR " ++ resultName res) ++ [13]⟩
  | _ => True

/-- A Gauntlet command of operation `op` passes R272's checks: what its words ask for. -/
def CmdPasses (s : State) (op : Nat) (src : CmdSource) (w0 w1 : Word) (w : List Word) : Prop :=
  CmdGiven s op src w0 w1 w ∧ s.cmdCheck src w = 0

/-- Level `l` of zone `z` is active with source `x` (R173). -/
abbrev LevelTaken (z l x : Nat) (t : State) : Prop :=
  t.bitR (Reg.GNT_ZB_ACT z) l = true ∧ t.fldR (if l < 4 then Reg.GNT_ZB_SRCLO z else Reg.GNT_ZB_SRCHI z) (8 * (l % 4)) 6 = x

/-- What a command's answer, record and change of the alarm state write; nothing else but the registers `l` changed. -/
abbrev OnlyAlarmRegs (l : List Nat) (s t : State) : Prop :=
  RegsButRec ([Reg.GNT_STATUS, Reg.GNT_FLT_OUT, Reg.PWR_MODE_STATUS, Reg.HST_IRQ_LATCH, Reg.GNT_HMBX_STAT, Reg.GNT_SMBX_STAT,
    Reg.GNT_NET_CNT] ++ l) s t ∧ SameMemories s t ∧ t.gnt.holders = s.gnt.holders

/-- No level of a zone has two holders. -/
abbrev HoldersOnce (s : State) : Prop := (s.gnt.holders.map fun h => (h.zone, h.level)).Nodup

/-- The console has answered a line with `r`, and nothing else changed. -/
abbrev OnlyAnswered (r : Nat) (s t : State) : Prop :=
  t = { s with out := ⟨.uart, 0, ascii (if r = 0 then "OK" else "ERR " ++ resultName r) ++ [13]⟩ :: s.out }

/-- A standby has taken duty with EPOCH `e` (R305): below SHADOW its own train restarts, and from SHADOW on it has the duty
unit's mode at once. -/
abbrev TakesDuty (e : Nat) (s t : State) : Prop :=
  t.reg Reg.TWN_EPOCH = w32 e ∧ t.reg Reg.TWN_TAKEOVERS = w32 (satU 32 ((s.reg Reg.TWN_TAKEOVERS).toNat + 1)) ∧
    t.bitR Reg.TWN_EVT 0 = true ∧
    (s.syncOf < 2 → t.mode.twin = some 6 ∧ t.pmode = s.pmode) ∧
    (2 ≤ s.syncOf → 4 ≤ s.activeMode → s.activeMode ≤ 8 → t.pmode = if s.twin.measure then 8 else s.activeMode)

/-- The record of a standby has failed its check (R302, R311): counted, raised, and SYNC falls to `v`. -/
abbrev RecordFails (v : Nat) (s t : State) : Prop :=
  t.reg Reg.TWN_REC_BAD = w32 (satU 32 ((s.reg Reg.TWN_REC_BAD).toNat + 1)) ∧ t.bitR Reg.TWN_EVT 5 = true ∧
    t.bitR Reg.INT_DET0 0x17 = true ∧ t.syncOf = v ∧ t.twin.bulk = [] ∧ t.twin.kept = [] ∧ t.twin.lastC = none ∧
    t.twin.lastA = none

/-- The pairs and lanes of the serial ports are kept in canonical form. -/
abbrev SaiWf (s : State) : Prop :=
  Store.wf (fun _ => ({} : PairSt)) s.sai.pairs = true ∧ Store.wf (fun _ => ({} : LaneSt)) s.sai.lanes = true

/-- The Ethernet ports' live counters are kept in canonical form. -/
abbrev MacWf (s : State) : Prop := s.mac.ports.length = 2 ∧ ∀ p, p < 2 → Store.wf (fun _ => 0) (s.macP p).cnt = true

/-- Live counter `i` of an Ethernet port (R373). -/
abbrev macCounter (s : State) (p i : Nat) : Nat := Store.get (fun _ => 0) (s.macP p).cnt i

/-- A frame as it leaves an Ethernet port: padded to 60 bytes, its FCS after it (R365). -/
abbrev onWire (f : List Byte) : List Byte :=
  f ++ List.replicate (60 - f.length) 0 ++ leBytes 4 (crc32 (f ++ List.replicate (60 - f.length) 0))

/-- A stream packet has left Ethernet port `p`, counted (R365, R373). -/
abbrev PacketSent (p : Nat) (s t : State) : Prop :=
  macCounter t p 48 = satU 64 (macCounter s p 48 + 1) ∧ macCounter t p 32 = satU 64 (macCounter s p 32 + 1) ∧
    ∃ d, t.out = ⟨.ethFrame, p, d⟩ :: s.out

/-- A stream packet has been discarded because the link of port `p` is down, and counted (R365). -/
abbrev PacketLost (p : Nat) (s t : State) : Prop :=
  macCounter t p 50 = satU 64 (macCounter s p 50 + 1) ∧ t.out = s.out

/-- The fabric has six ports. -/
abbrev BvlWf (s : State) : Prop := s.bvl.ports.length = 6 ∧ s.bvl.rraCnt.length = 4 ∧ s.bvl.rraWr.length = 4

/-- A fabric port is UP with nothing queued and nothing unacknowledged. -/
abbrev LinkIdle (s : State) (p : Nat) : Prop :=
  s.portState p = 3 ∧ (s.bvlP p).qa = [] ∧ (s.bvlP p).qc = [] ∧ (s.bvlP p).qb = [] ∧ (s.bvlP p).unacked = []

end Sys2Proof.Machine
end

