-- ==== Sys2Proof/Certificates/Slice0/Obligations.lean ====
section
/-!
DEFINITION. The statements that the provers prove: what each family of commands does to the device, what it leaves
unchanged, and what every step keeps.
-/
open Sys2Proof Sys2Proof.Machine

/-- A step with a command in front of the queue is that command's effect on the state with the queue's rest; on an empty queue
the device idles for one clock period (the model's choice: assumption 4). -/
def Obligations.StepRunsFront : Prop :=
  (∀ (c : Instr) (rest : List Instr) (s : State), s.pending = c :: rest → step s = exec c { s with pending := rest }) ∧
    ∀ s : State, s.pending = [] → step s = .next s.idle

/-- Every command of the table completes in every state, and leaves the queue of waiting commands and the straps as they are.
-/
def Obligations.EveryCommandCompletes : Prop :=
  ∀ (c : Instr) (s : State), Completes c s fun t => t.pending = s.pending ∧ t.strap = s.strap

/-- R14, R395, R527: after reset every register reads its Reset column, the mode is WAKE with the application side held, the
Gauntlet is in its power-on reset, and the invariant holds. That memories list nothing is the model's choice (assumptions 2
and 3). -/
def Obligations.ResetState : Prop :=
  State.reset.Inv ∧ (∀ a, State.reset.reg a = regReset a) ∧ State.reset.pmode = 1 ∧ State.reset.phase = 1 ∧ State.reset.appOn = false ∧
    State.reset.gnt.phase = 1 ∧ State.reset.pending = [] ∧ State.reset.sram = [] ∧ State.reset.dram = [] ∧ State.reset.boot = [] ∧
    State.reset.gflash = []

/-- Every step keeps the register file and the four memories in canonical form and the time counter in its range. -/
def Obligations.EveryStepKeepsInv : Prop :=
  ∀ s t : State, s.Inv → step s = .next t → t.Inv

/-- R193, R196, R203: the two instruction words that R201's example prints decode to the slots it names; the opcode table
gives no row any bits, so no table word spells a command. -/
def Obligations.CommandWords : Prop :=
  ∀ c : BitVec 5,
    decodeWord c 0x352F00000000050C =
      [some (.ldw c false 4 1 true), some (.amNop c true), some (.aluNop c), some (.mpy c false true 4 2 15)] ∧
    decodeWord c 0x844FE00000000000 = [some (.amNop c false), some (.amNop c true), some (.aluNop c), some (.extract c true 2 1 3 15)] ∧
    ∀ (nbits w : Nat) (s : State), decodeTableWord nbits w = none ∧ s.withFetchWord nbits w = s

/-- R193, R196, R200, R203: every legal slot of an instruction is spelled by the word of its fields: decoding what the encoder
writes gives the command back. R195, R197, R199, R200, R203: the encodings the spec marks illegal spell no command: a reserved
opcode, a non-zero reserved bit, a pair form with an odd XA, a shift or rounding out of range. -/
def Obligations.SlotEncoding : Prop :=
  (∀ (c : BitVec 5) (i : Instr), i.wf = true →
     (IsMacSlot c i → decodeMac c (encodeMac i) = some i) ∧ (IsAluSlot c i → decodeAlu c (encodeAlu i) = some i) ∧
     ∀ am, IsAmSlot c am i → decodeAm c am (encodeAm i) = some i) ∧
  (∀ c : BitVec 5,
     (∀ w : BitVec 20, 9 ≤ (w.extractLsb' 16 4).toNat → decodeMac c w = none) ∧
     (∀ w : BitVec 20, 1 ≤ (w.extractLsb' 16 4).toNat → (w.extractLsb' 16 4).toNat ≤ 7 → w.extractLsb' 0 4 ≠ 0 → decodeMac c w = none) ∧
     (∀ w : BitVec 20, 1 ≤ (w.extractLsb' 16 4).toNat → (w.extractLsb' 16 4).toNat ≤ 3 → w.getLsbD 15 = true → w.getLsbD 10 = true →
       decodeMac c w = none) ∧
     (∀ w : BitVec 20, w.extractLsb' 16 4 = 8 →
       (w.extractLsb' 7 2 = 3 ∨ 8 < (w.extractLsb' 9 5).toInt ∨ (w.extractLsb' 9 5).toInt < -8 ∨ w.getLsbD 15 = true ∨ w.getLsbD 0 = true) →
       decodeMac c w = none) ∧
     (∀ w : BitVec 18, 0x18 ≤ (w.extractLsb' 13 5).toNat → decodeAlu c w = none) ∧
     (∀ w : BitVec 18, 0x10 ≤ (w.extractLsb' 13 5).toNat → w.extractLsb' 11 2 ≠ 0 → decodeAlu c w = none) ∧
     (∀ (am : Bool) (w : BitVec 13), w.extractLsb' 10 3 = 7 → decodeAm c am w = none) ∧
     (∀ (am : Bool) (w : BitVec 13), 1 ≤ (w.extractLsb' 10 3).toNat → (w.extractLsb' 10 3).toNat ≤ 4 → w.extractLsb' 0 2 ≠ 0 →
       decodeAm c am w = none))

/-- R547: a doorbell submits every selected channel that is neither busy nor holds a response, an acknowledgement releases the
response of every selected channel that is not busy; a write that a channel drops sets HST_EVT.MBX_ERR. R547, R548: an answer
of service firmware echoes request word 0, gives the status and the results, clears BUSY and sets RSP; R549: VERSION,
AUTOSTART, Twin STATUS, Measurement STATUS and PTP STATUS answer what the table lists. R547, R554: a restart of service
firmware sets SVC_RESTART and SVC_RUN and answers every pending request with NOT_RUNNING. -/
def Obligations.Mailbox : Prop :=
  (∀ (ini : Initiator) (v : Word) (s : State), s.Inv → s.admits ini = true →
     Completes (.hstMbxDb ini v) s (fun t =>
       OnlyRegsRec [Reg.HST_MBX_STAT, Reg.HST_EVT] s t ∧
       (∀ c, c < 4 → t.mbxBusy c = (s.mbxBusy c || (bitOf v c && !s.bitR Reg.HST_MBX_STAT (8 + c))) ∧
         t.bitR Reg.HST_MBX_STAT (8 + c) = s.bitR Reg.HST_MBX_STAT (8 + c)) ∧
       ((∃ c, c < 4 ∧ bitOf v c = true ∧ (s.mbxBusy c || s.bitR Reg.HST_MBX_STAT (8 + c)) = true) →
         t.bitR Reg.HST_EVT 1 = true)) ∧
     Completes (.hstMbxAck ini v) s (fun t =>
       OnlyRegsRec [Reg.HST_MBX_STAT, Reg.HST_EVT] s t ∧
       (∀ c, c < 4 → t.mbxBusy c = s.mbxBusy c ∧
         t.bitR Reg.HST_MBX_STAT (8 + c) = (s.bitR Reg.HST_MBX_STAT (8 + c) && !(bitOf v c && !s.mbxBusy c))) ∧
       ((∃ c, c < 4 ∧ bitOf v c = true ∧ s.mbxBusy c = true) → t.bitR Reg.HST_EVT 1 = true))) ∧
  (∀ (c : BitVec 2) (s : State), s.Inv →
     (∀ (st : BitVec 8) (res : List Word), s.appOn = true → s.mbxBusy c.toNat = true → res.length ≤ 14 →
       Completes (.mailboxResponse c st res) s fun t =>
         Responded c.toNat st.toNat res s t ∧ OnlyRegs (rspRegs c.toNat res.length) s t) ∧
     (Requested s c.toNat 6 1 → Completes (.version c) s fun t =>
       Responded c.toNat 0 [Config.version 0, Config.version 1, Config.version 2, s.reg Reg.GNT_IMG_ID] s t ∧
         OnlyRegs (rspRegs c.toNat 4) s t) ∧
     (Requested s c.toNat 6 2 → Completes (.autostart c) s fun t =>
       Responded c.toNat 0 [w32 s.mode.autoEntry] s t ∧ OnlyRegs (rspRegs c.toNat 1) s t) ∧
     (Requested s c.toNat 5 1 → Completes (.twinStatus c) s fun t =>
       Responded c.toNat 0 [s.reg Reg.TWN_STATUS, s.reg Reg.TWN_PARTNER, w32 s.twin.crc, s.twin.image] s t ∧
         OnlyRegs (rspRegs c.toNat 4) s t) ∧
     (Requested s c.toNat 4 2 → Completes (.measStatus c) s fun t =>
       Responded c.toNat 0 [s.reg Reg.SNS_MEAS_STAT] s t ∧ OnlyRegs (rspRegs c.toNat 1) s t) ∧
     (∀ gm : BitVec 64, Requested s c.toNat 1 3 → s.bitR Reg.TIM_SERVO_STAT 31 = true →
       Completes (.ptpStatus c gm) s fun t =>
         Responded c.toNat 0 [s.reg Reg.TIM_SERVO_STAT, s.reg Reg.TIM_OFFSET, s.reg Reg.TIM_MPD, w32 gm.toNat,
           w32 (gm.toNat / 2 ^ 32)] s t ∧ OnlyRegs (rspRegs c.toNat 5) s t)) ∧
  (∀ (reset : Bool) (s : State), s.Inv → s.appOn = true →
     Completes (.serviceFirmwareRestart reset) s fun t =>
       t.bitR Reg.HST_EVT 4 = true ∧ t.bitR Reg.HST_STATUS 8 = true ∧
       (∀ c, c < 4 → t.mbxBusy c = false) ∧
       (∀ c, c < 4 → s.mbxBusy c = true → t.reg (Reg.HST_MBX_RSP c 0) = s.mbxReq c 0 ∧
         t.reg (Reg.HST_MBX_RSP c 1) = 5 ∧ t.bitR Reg.HST_MBX_STAT (8 + c) = true) ∧
       SameMemories s t ∧ t.out = s.out)

/-- R549: ANNOUNCE reads the text from DRAM, sends it and keeps it for the 30 s timer, WITHDRAW sends the deletion, the timer
sends a kept text again, LIST and TOPOLOGY write to the buffer named. -/
def Obligations.StreamAndFabricServices : Prop :=
  ∀ (c : BitVec 2) (s : State), s.Inv →
    (Requested s c.toNat 2 1 → s.argsOk c.toNat 3 = true → s.mbxArg c.toNat 0 < 128 →
      s.mbxArg c.toNat 1 * 64 + s.mbxArg c.toNat 2 ≤ s.usable →
      Completes (.announce c) s fun t =>
        let r := s.dramRead (s.mbxArg c.toNat 1 * 64) (s.mbxArg c.toNat 2) false
        t.out = ⟨.sap, s.mbxArg c.toNat 0, r.2.1⟩ :: r.1.out ∧ (s.mbxArg c.toNat 0, r.2.1) ∈ t.host.sap) ∧
    (Requested s c.toNat 2 2 → s.argsOk c.toNat 1 = true → s.mbxArg c.toNat 0 < 128 →
      Completes (.withdraw c) s fun t =>
        Sent .sap (s.mbxArg c.toNat 0) [] s t ∧ (∀ e ∈ t.host.sap, e.1 ≠ s.mbxArg c.toNat 0) ∧
        Responded c.toNat 0 [] s t ∧ RegsBut (rspRegs c.toNat 0) s t ∧ SameMemories s t) ∧
    (∀ texts, Requested s c.toNat 2 3 → s.argsOk c.toNat 2 = true →
      s.mbxArg c.toNat 0 * 64 + s.mbxArg c.toNat 1 ≤ s.usable →
      Completes (.sapList c texts) s fun t =>
        let ts := sdpFit (s.mbxArg c.toNat 1) texts
        t = (s.dramWriteParts .host (s.mbxArg c.toNat 0 * 64) ts.flatten).respond c.toNat 0 [w32 ts.length]) ∧
    (Requested s c.toNat 3 1 → s.argsOk c.toNat 1 = true → s.mbxArg c.toNat 0 * 64 + 280 ≤ s.usable →
      Completes (.topology c) s fun t =>
        let ws := ((List.range 64).map fun i => s.reg (Reg.BVL_ROUTE i)) ++ (List.range 6).map fun p => s.reg (Reg.PORT_STAT p)
        t = (s.dramWriteParts .host (s.mbxArg c.toNat 0 * 64) (ws.flatMap fun w => leBytes 4 w.toNat)).respond c.toNat 0 []) ∧
    (∀ (k : BitVec 7) (e : Nat × List Byte), s.appOn = true → s.host.sap.find? (fun e => decide (e.1 = k.toNat)) = some e →
      Completes (.sapAnnounceTimer k) s fun t => t = s.emit .sap k.toNat e.2)

/-- R541, R542: EOI re-arms its vector, and sends its message at once, disarming it, while it is pending, MSI-X is enabled,
the link is up and the vector is not masked; a 1 written to HST_IRQ_LATCH clears that latched source. R539: a change of the
PCIe link shows in HST_STATUS and sets HST_EVT.PCIE_LINK; a fall of PERST_N takes the link down and resets the MSI-X table,
and nothing outside the endpoint but the event and its record. -/
def Obligations.InterruptsAndPcie : Prop :=
  (∀ (ini : Initiator) (v : Word) (s : State), s.Inv → s.admits ini = true →
     (s.vecPending (fld v 0 5) = true → s.host.msix = true → s.bitR Reg.HST_STATUS 0 = true →
       s.bitR (Reg.HST_MSIX_VCTL (fld v 0 5)) 0 = false →
       Completes (.hstIrqEoi ini v) s fun t =>
         Sent .msix (fld v 0 5) (leBytes 4 (s.reg (Reg.HST_MSIX_ADDR_LO (fld v 0 5))).toNat ++
           leBytes 4 (s.reg (Reg.HST_MSIX_ADDR_HI (fld v 0 5))).toNat ++
           leBytes 4 (s.reg (Reg.HST_MSIX_DATA (fld v 0 5))).toNat) s t ∧
         t.host.armed.testBit (fld v 0 5) = false ∧ t.regs = s.regs ∧ SameMemories s t) ∧
     (s.vecPending (fld v 0 5) = false → Completes (.hstIrqEoi ini v) s fun t =>
       t.out = s.out ∧ t.host.armed.testBit (fld v 0 5) = true ∧ t.regs = s.regs ∧ SameMemories s t) ∧
     Completes (.hstIrqLatchWrite ini v) s fun t =>
       t.reg Reg.HST_IRQ_LATCH = s.reg Reg.HST_IRQ_LATCH &&& ~~~v ∧ OnlyRegs [Reg.HST_IRQ_LATCH] s t) ∧
  (∀ s : State, s.Inv → s.pwr.good = true →
     (∀ (width speed : BitVec 2) (msix : Bool), s.bitR Reg.HST_STATUS 0 = false →
       Completes (.pcieLinkChange true width speed msix) s fun t =>
         t.bitR Reg.HST_STATUS 0 = true ∧ t.fldR Reg.HST_STATUS 1 2 = width.toNat ∧ t.fldR Reg.HST_STATUS 4 2 = speed.toNat ∧
         t.bitR Reg.HST_EVT 2 = true ∧ (msix = true → s.host.msix = false → t.host.armed = 2 ^ 32 - 1) ∧
         RegsButRec [Reg.HST_STATUS, Reg.HST_EVT] s t ∧ SameMemories s t) ∧
     (s.bitR Reg.HST_STATUS 0 = true → Completes .perstNFall s fun t =>
       t.fldR Reg.HST_STATUS 0 8 = 0 ∧ t.bitR Reg.HST_EVT 2 = true ∧ t.host.msix = false ∧ t.host.armed = 0 ∧
       (∀ a, 0x1108000 ≤ a → a < 0x1109004 → t.reg a = regReset a) ∧
       (∀ a, (a < 0x1108000 ∨ 0x1109004 ≤ a) → a ≠ Reg.HST_STATUS → a ≠ Reg.HST_EVT → recReg a = false →
         t.reg a = s.reg a) ∧ SameMemories s t))

/-- R10, R536, R535: a full write of an RW register outside the rows with an effect of their own leaves the written bits
(reserved bits as they were), and changes nothing else; a narrow write is ignored and counted; an RC register is returned and
cleared. R545, R546: a QSPI read of one word sends 0xA5 and the word that a bus access returns, a write puts each of its words
through one bus access, and STATUS sends READY, ERR and BUSY and clears ERR. A word that is cut short still counts as an
access. R38: a host write through an SRAM window of an array that the host may write puts its word there, and no other byte of
any memory changes; R38 also: a write where no array lies is ignored. R534: an address where nothing lies reads as zero and
ignores writes, and nothing else happens. -/
def Obligations.BusAccess : Prop :=
  (∀ (ini : Initiator) (s : State), s.Inv → s.admits ini = true →
     (∀ (i : Fin 8) (v : Word), Completes (.registerWrite ini (Reg.HST_IRQ_VEC i.val) v 15) s fun t =>
       t.reg (Reg.HST_IRQ_VEC i.val) =
         (s.reg (Reg.HST_IRQ_VEC i.val) &&& ~~~0x1F1F1F1F) ||| (v &&& 0x1F1F1F1F) ∧
       OnlyRegs [Reg.HST_IRQ_VEC i.val] s t) ∧
     (∀ (a : Nat) (v : Word) (be : BitVec 4), a < 0x08000000 → be ≠ 15 → Completes (.registerWrite ini a v be) s fun t =>
       t.reg Reg.HST_NARROW_WR = w32 (satU 32 ((s.reg Reg.HST_NARROW_WR).toNat + 1)) ∧ t.bitR Reg.HST_EVT 0 = true ∧
       OnlyRegsRec [Reg.HST_NARROW_WR, Reg.HST_EVT] s t) ∧
     Completes (.rcRead ini Reg.HST_NARROW_WR) s fun t =>
       t.out = ⟨.rdata, iniCode ini, leBytes 4 (s.reg Reg.HST_NARROW_WR).toNat⟩ :: s.out ∧
       t.reg Reg.HST_NARROW_WR = 0 ∧ RegsBut [Reg.HST_NARROW_WR] s t ∧ SameMemories s t) ∧
  (∀ (s : State) (addr : BitVec 32), s.Inv → s.pwr.good = true → addr.toNat % 4 = 0 → addr.toNat < 0x08000000 →
     let got : State := (s.busRead addr.toNat).1
     let sent : State := got.emit .qspi 0 (0xA5 :: leBytes 4 (s.busRead addr.toNat).2.toNat)
     Completes (.qspiRead addr 1 false) s (· = sent) ∧ Completes (.qspiQread addr 1 false) s (· = sent) ∧
     Completes (.qspiRead addr 1 true) s (· = got) ∧ Completes (.qspiQread addr 1 true) s (· = got) ∧
     (∀ v : Word, Completes (.qspiWrite addr [v] [] false) s (· = s.busWrite .qspi addr.toNat v) ∧
       Completes (.qspiQwrite addr [v] [] false) s (· = s.busWrite .qspi addr.toNat v) ∧
       Completes (.qspiWrite addr [v] [0] false) s (· = s.qspiFail) ∧ Completes (.qspiQwrite addr [v] [0] false) s (· = s.qspiFail)) ∧
     (∀ busy, Completes (.qspiStatus busy) s fun t =>
       Sent .qspi 0 [b8 (128 + s.host.qspiErr.toNat * 2 + busy.toNat)] s t ∧ t.host.qspiErr = false ∧
         t.regs = s.regs ∧ SameMemories s t)) ∧
  (∀ (ini : Initiator) (s : State) (a : Nat) (v : Word), s.Inv → s.admits ini = true → a % 4 = 0 →
     (0x06C00000 ≤ a → a < 0x06D00000 → ini ≠ .gauntlet → s.reach a = true → s.flawAt a = none →
       s.armedSram 8 (wordIdx 8 a) = none →
       Completes (.sramWindowWrite ini a v) s fun t =>
         t.sw a = v ∧ SramOutside a 4 s t ∧ t = { s with sram := t.sram }) ∧
     ((0x05780000 ≤ a ∧ a < 0x05800000 ∨ 0x05C80000 ≤ a ∧ a < 0x06000000) → Completes (.sramWindowWrite ini a v) s fun t => t = s)) ∧
  (∀ (ini : Initiator) (s : State) (a : Nat) (v : Word), s.Inv → s.admits ini = true → a % 4 = 0 →
     (0x01200000 ≤ a ∧ a < 0x04000000 ∨ 0x07000000 ≤ a ∧ a < 0x08000000) →
     Completes (.registerWrite ini a v 15) s (· = s) ∧
       Completes (.rcRead ini a) s fun t => t = { s with out := ⟨.rdata, iniCode ini, leBytes 4 0⟩ :: s.out })

/-- R550, R552, R553: the boot-flash controller runs one command at a time and is refused while the loader reads the flash; an
I2C controller runs the entry at the front of its queue, and an error flushes the queue; an input pin takes its level and an
enabled edge is seen. -/
def Obligations.FlashI2cAndPins : Prop :=
  ∀ s : State, s.Inv →
    (∀ (ini : Initiator) (v : Word), Reaches s ini Reg.HST_OSPI_CMD →
      ((bitOf v 31 = false ∨ s.bitR Reg.HST_OSPI_STAT 0 = true) → Completes (.hstOspiCmd ini v) s (· = s)) ∧
      (bitOf v 31 = true → s.bitR Reg.HST_OSPI_STAT 0 = false → s.flashInUse = true → Completes (.hstOspiCmd ini v) s fun t =>
        t.bitR Reg.HST_OSPI_STAT 3 = true ∧ t.bitR Reg.HST_OSPI_STAT 0 = false ∧ t.bitR Reg.HST_EVT 3 = true ∧
        OnlyRegs [Reg.HST_OSPI_STAT, Reg.HST_EVT] s t) ∧
      (bitOf v 31 = true → s.bitR Reg.HST_OSPI_STAT 0 = false → s.flashInUse = false → Completes (.hstOspiCmd ini v) s fun t =>
        t.bitR Reg.HST_OSPI_STAT 0 = true ∧ t.host.ospi = some v ∧ (∃ d, Sent .ospi 0 (leBytes 2 (fld v 0 16) ++ d) s t) ∧
        RegsBut [Reg.HST_OSPI_STAT] s t ∧ SameMemories s t)) ∧
    (∀ (ok : Bool) (d : List Byte) (at_ : Nat) (cells : List Byte),
      (s.host.ospi = none → Completes (.ospiDone ok d at_ cells) s (· = s)) ∧
      (∀ v, s.host.ospi = some v → Completes (.ospiDone ok d at_ cells) s fun t =>
        t.bitR Reg.HST_OSPI_STAT 0 = false ∧ t.bitR Reg.HST_OSPI_STAT 1 = true ∧ (ok = false → t.bitR Reg.HST_OSPI_STAT 2 = true) ∧
        t.host.ospi = none ∧
        (ok = true → bitOf v 26 = false → d.length = 256 → fld v 16 9 = 256 →
          ∀ i, i < 64 → t.reg (Reg.HST_OSPI_BUF i) = w32 (leNat ((d.drop (4 * i)).take 4))) ∧
        ((ok = false ∨ bitOf v 26 = true) → RegsBut [Reg.HST_OSPI_STAT] s t) ∧
        (ok = true → bitOf v 26 = true → BootOutside at_ cells.length s t ∧
          ∀ i, i < cells.length → Store.get flashDef t.boot (at_ + i) = nth cells i 0) ∧
        ((ok = false ∨ bitOf v 26 = false) → t.boot = s.boot) ∧ t.sram = s.sram ∧ t.dram = s.dram ∧ t.gflash = s.gflash)) ∧
    (∀ k : Bool, s.host.i2c.length = 2 →
      let n := k.toNat
      let x := s.i2cSt n
      let stat := Reg.HST_I2C_STAT n
      (s.i2cFront n = none → ∀ (a b : Bool) (d : Byte),
        ∀ c ∈ [Instr.i2cWrite k a b, .i2cRead k d b, .i2cStart k b, .i2cStop k, .i2cTimeout k], Completes c s (· = s)) ∧
      (∀ v, s.i2cFront n = some v →
        let fails (bit : Nat) (t : State) : Prop := t.bitR stat bit = true ∧ (t.i2cSt n).queue = [] ∧ (t.i2cSt n).hold = false ∧
          (t.i2cSt n).rx = x.rx ∧ RegsBut [stat] s t ∧ SameMemories s t ∧
          (if x.hold = true ∧ bit ≠ 2 then Sent .i2c n [3, 0] s t else t.out = s.out)
        let done (hold : Bool) (rx : List Nat) (wire : List Byte) (t : State) : Prop :=
          (t.i2cSt n).queue = x.queue.tail ∧ (t.i2cSt n).hold = hold ∧ (t.i2cSt n).rx = rx ∧ Sent .i2c n wire s t ∧
          t.bitR stat 0 = (s.bitR stat 0 || decide (x.queue.length = 1)) ∧ RegsBut [stat] s t ∧ SameMemories s t
        (Completes (.i2cTimeout k) s (fails 3)) ∧
        (fld v 8 2 = 0 → Completes (.i2cWrite k false false) s (done x.hold x.rx [0, b8 (fld v 0 8)]) ∧
          Completes (.i2cWrite k true false) s (fails 1) ∧ ∀ nack, Completes (.i2cWrite k nack true) s (fails 2)) ∧
        (fld v 8 2 = 1 → ∀ d : Byte, Completes (.i2cRead k d true) s (fails 2) ∧
          (x.rx.length < 16 → Completes (.i2cRead k d false) s (done x.hold (x.rx ++ [d.toNat]) [1, b8 (fld v 0 1)])) ∧
          (16 ≤ x.rx.length → Completes (.i2cRead k d false) s (· = s))) ∧
        (fld v 8 2 = 2 → Completes (.i2cStart k false) s (done true x.rx [2, 0]) ∧ Completes (.i2cStart k true) s (fails 2)) ∧
        (fld v 8 2 = 3 → Completes (.i2cStop k) s (done false x.rx [3, 0]))) ∧
      (∀ ini, Reaches s ini (Reg.HST_I2C_RX n) → Completes (.hstI2cRxRead ini k) s fun t =>
        Sent .rdata (iniCode ini) (leBytes 4 (w32 (nth x.rx 0 0)).toNat) s t ∧ (t.i2cSt n).rx = x.rx.tail ∧
        (t.i2cSt n).queue = x.queue ∧ t.regs = s.regs ∧ SameMemories s t)) ∧
    (∀ (pin : BitVec 5) (level : Bool), s.appOn = true → s.bitR Reg.HST_GPIO_DIR pin.toNat = false →
      Completes (.gpioEdge pin level) s fun t =>
        t.bitR Reg.HST_GPIO_IN pin.toNat = level ∧
        (s.bitR Reg.HST_GPIO_IN pin.toNat = false → level = true → s.bitR Reg.HST_GPIO_RISE pin.toNat = true →
          t.bitR Reg.HST_GPIO_EVT pin.toNat = true) ∧
        (s.bitR Reg.HST_GPIO_IN pin.toNat = true → level = false → s.bitR Reg.HST_GPIO_FALL pin.toNat = true →
          t.bitR Reg.HST_GPIO_EVT pin.toNat = true) ∧
        RegsBut [Reg.HST_GPIO_IN, Reg.HST_GPIO_EVT] s t ∧ SameMemories s t)

/-- R51, R53, R59: a request that its mode knows, written while PHASE is 0, is held in PWR_MODE_REQ for the next boundary and
changes no mode; while a transition is in progress it is held pending; every other is refused at once, WAKE and the reserved
codes in every mode: with GNT_VETO where R268 bars the mode, with ALARM where R49 does, and else with ILLEGAL. -/
def Obligations.ModeRequests : Prop :=
  ∀ (ini : Initiator) (s : State), s.Inv → s.admits ini = true → s.appOn = true → s.mode.sleep = 0 →
    (s.phase = 0 →
      (reqKnown s.pmode 0 = true → Completes (.requestThermos ini) s (RequestHeld 0 s)) ∧
      (reqKnown s.pmode 2 = true → Completes (.requestTrail ini) s (RequestHeld 2 s)) ∧
      (reqKnown s.pmode 3 = true → Completes (.requestLoad ini) s (RequestHeld 3 s)) ∧
      (reqKnown s.pmode 4 = true → Completes (.requestBalanced ini) s (RequestHeld 4 s)) ∧
      (reqKnown s.pmode 5 = true → Completes (.requestSwift ini) s (RequestHeld 5 s)) ∧
      (reqKnown s.pmode 6 = true → Completes (.requestWide ini) s (RequestHeld 6 s)) ∧
      (reqKnown s.pmode 7 = true → Completes (.requestDeep ini) s (RequestHeld 7 s)) ∧
      (reqKnown s.pmode 8 = true → Completes (.requestMeasure ini) s (RequestHeld 8 s)) ∧
      (reqKnown s.pmode 9 = true → Completes (.requestStandby ini) s (RequestHeld 9 s)) ∧
      (reqKnown s.pmode 10 = true → Completes (.requestMaintain ini) s (RequestHeld 10 s)) ∧
      (reqKnown s.pmode 11 = true → Completes (.requestSafeHold ini) s (RequestHeld 11 s)) ∧
      Completes (.requestWake ini) s (RequestRefused 1 s) ∧
      (∀ k : BitVec 2, Completes (.requestReserved ini k) s (RequestRefused (12 + k.toNat) s)) ∧
      (∀ e ∈ ([(0, Instr.requestThermos ini), (2, .requestTrail ini), (3, .requestLoad ini), (4, .requestBalanced ini), (5, .requestSwift ini),
        (6, .requestWide ini), (7, .requestDeep ini), (8, .requestMeasure ini), (9, .requestStandby ini), (10, .requestMaintain ini),
        (11, .requestSafeHold ini)] : List (Nat × Instr)),
        reqKnown s.pmode e.1 = false → Completes e.2 s (RequestRefused e.1 s))) ∧
    (s.phase ≠ 0 → ∀ e ∈ ([(0, Instr.requestThermos ini), (2, .requestTrail ini), (3, .requestLoad ini), (4, .requestBalanced ini), (5, .requestSwift ini),
        (6, .requestWide ini), (7, .requestDeep ini), (8, .requestMeasure ini), (9, .requestStandby ini), (10, .requestMaintain ini),
        (11, .requestSafeHold ini), (1, .requestWake ini), (12, .requestReserved ini 0), (13, .requestReserved ini 1),
        (14, .requestReserved ini 2), (15, .requestReserved ini 3)] : List (Nat × Instr)),
      Completes e.2 s (RequestPending e.1 s))

/-- R51, R52: at a 1 ms boundary outside a train, with no earlier cause, a request for MAINTAIN in TRAIL without ALARM, or for
TRAIL in MAINTAIN or SAFE-HOLD, is acted on: PWR_MODE and TARGET take the mode, CHANGED sets and PWR_MODE_CAUSE shows the
transition; in MAINTAIN the injection bits outside the proof-test set clear. R24, R54: when the preparation of a restart ends,
the sequencer arms the new train with its mode's Fr and B, where the DRAM is ready and M_APP is not on FOSC; after a realign
the train resumes at the next Tm instead. -/
def Obligations.ModeBoundary : Prop :=
  (∀ (s : State) (code : Nat), s.Inv → s.appOn = true → s.running = false → OnlyRequest s code → s.alarm = false →
     (s.advanceTo s.msNext).swapJudge s.blk.n = SwapAct.wait →
     (s.pmode = 2 ∧ code = 10 ∨ s.pmode = 10 ∧ code = 2 ∨ s.pmode = 11 ∧ code = 2) →
     Completes .msBoundary s fun t =>
       t.pmode = code ∧ t.fldR Reg.PWR_MODE_STATUS 4 4 = code ∧ t.bitR Reg.PWR_MODE_EVT 0 = true ∧
         t.reg Reg.PWR_MODE_CAUSE = w32 (s.pmode + 16 * code) ∧
         (s.pmode = 10 → t.reg Reg.INT_INJ0 = s.reg Reg.INT_INJ0 &&& 0x2E000000 ∧ t.reg Reg.INT_INJ1 = 0) ∧
         t.boot = s.boot ∧ t.gflash = s.gflash ∧ t.sram = s.sram) ∧
  (∀ s : State, s.Inv → s.appOn = true → s.blk.prep = true → renders s.pmode = true → s.phase = 4 →
     s.blk.armed = false → s.blk.next = none → s.running = false → s.dramReady = true → s.bitR Reg.CLK_STATUS 10 = false →
     (s.blk.realign = false → s.mode.auto = false → Completes .restartPrepDone s fun t =>
       t.blk = { s.blk with prep := false, armed := true, fr := (s.rowFor s.pmode).fr, b := (s.rowFor s.pmode).b } ∧
         t.mode = { s.mode with objects := (s.rowFor s.pmode).objects } ∧ t.regs = s.regs ∧ SameMemories s t) ∧
     (s.blk.realign = true → Completes .restartPrepDone s fun t =>
       t = { s with blk := { s.blk with prep := false, realign := false, next := some s.nextTm } }))

/-- R24, R42: the sample tick at Sn of a running train numbers the block, latches the phase in RND_BLK_PHASE and sets
PHASE_WARN where its magnitude exceeds RND_PHASE_LIM; then the causes of R52 and the work of the block follow from that state.
R26, R27, R320: the end of a block's capture and its output deadline take place once per block and in order; a capture ends
with the block marked captured, a deadline with the block at the port mapper. R28: after a deadline with late feeds, RND_LATE
has counted the block, RND_LATE_FEEDS every late feed, and LATE is set. -/
def Obligations.BlockCycle : Prop :=
  (∀ (now n : Nat) (s : State), s.Inv → s.blk.next = some n → s.appOn = true → s.bitR Reg.CLK_STATUS 10 = false → s.running = true →
     s.mode.stop = none →
     Completes (.blockStart now) s fun t => ∃ u : State,
       t = u.blockBoundary n ((s.advanceTo now).realignDue n) ∧ u.blk = { s.blk with n := n, next := some (n + 1) } ∧
         u.reg Reg.RND_BLK_PHASE = i32 (satN 32 (((s.advanceTo now).now : Int) - (s.snNs n : Int))) ∧
         ((s.reg Reg.RND_PHASE_LIM).toNat < (((s.advanceTo now).now : Int) - (s.snNs n : Int)).natAbs →
           u.bitR Reg.RND_BLK_STATUS 1 = true) ∧
         ((s.advanceTo now).realignDue n = true → u.bitR Reg.RND_BLK_STATUS 2 = true) ∧ SameMemories s u) ∧
  (∀ (src : List (Nat × List Int)) (s : State), s.Inv → s.appOn = true → s.running = true → s.mode.stop = none →
     (s.blk.base < s.blk.n → (∀ m, s.sch.cap = some m → m < s.blk.n - 1) →
       Completes (.captureComplete src) s fun t => ∃ u : State, t = u.settle ∧ u.sch.cap = some (s.blk.n - 1) ∧
         u = { s.capture (s.blk.n - 1) src with sch := u.sch }) ∧
     (s.blk.fb = none → s.blk.base + 2 ≤ s.blk.n → (∀ m, s.sch.dl = some m → m < s.blk.n - 2) →
       Completes (.outputDeadline src) s fun t => ∃ u : State, t = u.settle ∧ u.sch.dl = some (s.blk.n - 2) ∧
         u.mix.outBlk = some (s.blk.n - 2) ∧ u.mix.lateLast = s.lateFeeds (s.blk.n - 2))) ∧
  (∀ (src : List (Nat × List Int)) (s : State), s.Inv → s.appOn = true → s.running = true → s.mode.stop = none → s.blk.fb = none →
     s.blk.base + 2 ≤ s.blk.n → (∀ m, s.sch.dl = some m → m < s.blk.n - 2) → s.lateFeeds (s.blk.n - 2) ≠ [] →
     Completes (.outputDeadline src) s fun t =>
       t.reg Reg.RND_LATE = w32 (satU 32 ((s.reg Reg.RND_LATE).toNat + 1)) ∧
       t.reg Reg.RND_LATE_FEEDS = w32 (satU 32 ((s.reg Reg.RND_LATE_FEEDS).toNat + (s.lateFeeds (s.blk.n - 2)).length)) ∧
       t.bitR Reg.RND_BLK_STATUS 3 = true)

/-- R397: TIM_INC takes the word written, or the nearer limit with TIM_EVT.INC_LIM, and the next tick adds it. -/
def Obligations.TimIncLimits : Prop :=
  ∀ (ini : Initiator) (v : Word) (s : State), s.Inv → Reaches s ini Reg.TIM_INC → MaySteer s ini →
    let inc := min 85416667 (max 85250000 v.toNat)
    Completes (.timIncWrite ini v) s fun t =>
      t.reg Reg.TIM_INC = w32 inc ∧ ((v.toNat < 85250000 ∨ 85416667 < v.toNat) → t.bitR Reg.TIM_EVT 2 = true) ∧
        (85250000 ≤ v.toNat → v.toNat ≤ 85416667 → t.reg Reg.TIM_EVT = s.reg Reg.TIM_EVT) ∧
        t.tick.tim.acc = (s.tim.acc + inc + (if s.bitR Reg.TIM_CTL 0 && decide (s.tim.phase = 2) then 1 else 0)) % 2 ^ 60 ∧
        OnlyRegsRec [Reg.TIM_INC, Reg.TIM_EVT] s t

/-- R399: while the PTP service runs, a write of one of the seven registers by any initiator but service firmware changes
nothing but TIM_EVT.WR_DROP, which sets; service firmware's own writes take effect. -/
def Obligations.TimeWriteGuard : Prop :=
  ∀ (ini : Initiator) (v : Word) (s : State), s.Inv → Reaches s ini Reg.TIM_INC → s.bitR Reg.TIM_SERVO_STAT 31 = true →
    (ini ≠ .service →
      (∀ c ∈ [Instr.timIncWrite ini v, .rootFracWrite ini v, .timSet ini], Completes c s fun t =>
        t.bitR Reg.TIM_EVT 7 = true ∧ OnlyRegs [Reg.TIM_EVT] s t) ∧
      (∀ a ∈ [Reg.TIM_INC, Reg.ROOT_FRAC, Reg.TIM_CTL, Reg.TIM_SET_ERA, Reg.TIM_SET_TAG, Reg.TIM_SET_NS, Reg.TIM_CMD],
        Completes (.registerWrite ini a v 15) s fun t => t.bitR Reg.TIM_EVT 7 = true ∧ OnlyRegs [Reg.TIM_EVT] s t)) ∧
    (ini = .service →
      (∀ a ∈ [Reg.TIM_CTL, Reg.TIM_SET_ERA, Reg.TIM_SET_TAG, Reg.TIM_SET_NS], Completes (.registerWrite ini a v 15) s fun t =>
        t.reg a = (s.reg a &&& ~~~(regMask a)) ||| (v &&& regMask a) ∧ OnlyRegs [a] s t) ∧
      (85250000 ≤ v.toNat → v.toNat ≤ 85416667 → Completes (.registerWrite ini Reg.TIM_INC v 15) s fun t =>
        t.reg Reg.TIM_INC = v ∧ OnlyRegs [Reg.TIM_INC] s t) ∧
      (-219902326 ≤ v.toInt → v.toInt ≤ 219902326 → Completes (.registerWrite ini Reg.ROOT_FRAC v 15) s fun t =>
        t.reg Reg.ROOT_FRAC = v ∧ RegsBut [Reg.ROOT_FRAC] s t) ∧
      (bitOf v 0 = true → (∀ i, i < 16 → s.cmpEn i = false) → Completes (.registerWrite ini Reg.TIM_CMD v 15) s fun t =>
        t.bitR Reg.TIM_EVT 1 = true))

/-- R393, R394: a read of TIM_NS returns bits [31:0] of the counter and latches the tag and the era of the same instant; a
wrap of TIM_NS leaves the counter at a multiple of 2^32 with TIM_EVT.WRAP set. R392: a tick adds TIM_INC and, with THIRD on
the ticks of phase 2, one unit more, modulo 2^60; the era and WRAP follow. R396, R398: a set loads the staged time and sets
TIM_EVT.SET; ROOT_FRAC takes the word written or the nearer limit, whose event then sets, and GPLL copies it at once while no
train runs and ROOT is locked and runs, not otherwise. A set is stated with no enabled comparator, whose match the set could
bring about. -/
def Obligations.TimeCounter : Prop :=
  (∀ (ini : Initiator) (s : State), s.Inv →
     (Reaches s ini Reg.TIM_NS → Completes (.timNsRead ini) s fun t =>
       t.out = ⟨.rdata, iniCode ini, leBytes 4 (w32 s.int36).toNat⟩ :: s.out ∧ t.reg Reg.TIM_TAG = w32 (s.int36 / 2 ^ 32) ∧
         t.reg Reg.TIM_ERA_LAT = s.reg Reg.TIM_ERA ∧ RegsBut [Reg.TIM_TAG, Reg.TIM_ERA_LAT] s t ∧ SameMemories s t) ∧
     (s.now / 2 ^ 32 + 1 < 2 ^ 32 → Completes .timWrap s fun t =>
       t.now = (s.now / 2 ^ 32 + 1) * 2 ^ 32 ∧ t.bitR Reg.TIM_EVT 0 = true ∧ RegsBut [Reg.TIM_ERA, Reg.TIM_EVT] s t ∧
         SameMemories s t)) ∧
  (∀ s : State, s.Inv →
     s.tick.tim.acc = (s.tim.acc + (s.reg Reg.TIM_INC).toNat + (if s.bitR Reg.TIM_CTL 0 && decide (s.tim.phase = 2) then 1 else 0)) % 2 ^ 60 ∧
       s.tick.tim.phase = (s.tim.phase + 1) % 3 ∧ s.tick.timeWf = true ∧
       (s.tick.tim.acc < s.tim.acc →
         s.tick.reg Reg.TIM_ERA = w32 ((s.fldR Reg.TIM_ERA 0 28 + 1) % 2 ^ 28) ∧ s.tick.bitR Reg.TIM_EVT 0 = true) ∧
       RegsBut [Reg.TIM_ERA, Reg.TIM_EVT] s s.tick ∧ SameMemories s s.tick) ∧
  (∀ (ini : Initiator) (v : Word) (s : State), s.Inv → Reaches s ini Reg.TIM_INC → MaySteer s ini →
     ((∀ i, i < 16 → s.cmpEn i = false) → Completes (.timSet ini) s fun t =>
       t.now = s.fldR Reg.TIM_SET_ERA 0 28 * 2 ^ 36 + s.fldR Reg.TIM_SET_TAG 0 4 * 2 ^ 32 + (s.reg Reg.TIM_SET_NS).toNat ∧
         t.tim.acc % 2 ^ 24 = 0 ∧ t.bitR Reg.TIM_EVT 1 = true ∧ t.tim.phase = s.tim.phase ∧
         RegsButRec [Reg.TIM_ERA, Reg.TIM_EVT] s t ∧ SameMemories s t) ∧
     (Completes (.rootFracWrite ini v) s fun t =>
       (t.reg Reg.ROOT_FRAC).toInt = max (-219902326) (min v.toInt 219902326) ∧
         ((v.toInt < -219902326 ∨ 219902326 < v.toInt) → t.bitR Reg.TIM_EVT 3 = true) ∧
         (s.running = false → s.rootUp = true → t.tim.gpllFrac = (t.reg Reg.ROOT_FRAC).toInt) ∧
         (s.running = true ∨ s.rootUp = false → t.tim.gpllFrac = s.tim.gpllFrac) ∧
         RegsButRec [Reg.ROOT_FRAC, Reg.TIM_EVT] s t ∧ SameMemories s t))

/-- R404, R405, R408: a match sets its TIM_CMP_EVT bit and advances V by PER or, with PER = 0, clears EN; setting EN on a
comparator whose V has been passed sets CMP_LATE; a pulse ends after its width. The match is stated for a comparator that no
pulse output, no pair, no sensing sync and no armed train follows. R404: after a periodic match V has not been passed, for
every period of at least 1 ns. R528: 10 s without lock, the service arms the comparator of START_CMP for the grid of 2 ms,
unless it is enabled. -/
def Obligations.Comparators : Prop :=
  (∀ (s : State), s.Inv →
     (∀ (i : BitVec 4) (off : BitVec 44), s.appOn = true → s.cmpEn i.toNat = true → s.fullOf (s.cmpV i.toNat) ≤ s.now →
       (∀ k, k < 4 → s.bitR (Reg.TIM_PULSE_CFG k) 31 = false) → s.reg (Reg.TIM_CMP_SAI i.toNat) = 0 →
       s.bitR Reg.SNS_SYNC_CFG 1 = false → s.blk.armed = false →
       Completes (.timCmpMatch i off) s fun t =>
         t.bitR Reg.TIM_CMP_EVT i.toNat = true ∧
         (s.reg (Reg.TIM_CMP_PER i.toNat) = 0 → t.cmpEn i.toNat = false ∧ t.cmpV i.toNat = s.cmpV i.toNat) ∧
         (s.reg (Reg.TIM_CMP_PER i.toNat) ≠ 0 → t.cmpEn i.toNat = true ∧
           t.cmpV i.toNat = (cmpNext s.int36 (s.cmpV i.toNat) (s.reg (Reg.TIM_CMP_PER i.toNat)).toNat).1) ∧
         OnlyRegs [Reg.TIM_CMP_EVT, Reg.TIM_CMP_CFG i.toNat, Reg.TIM_CMP_VAL i.toNat, Reg.TIM_CMP_SKIPS] s t) ∧
     (∀ (ini : Initiator) (i : BitVec 4) (v : Word), Reaches s ini (Reg.TIM_CMP_CFG i.toNat) →
       Completes (.cmpArm ini i v) s fun t =>
         t.reg (Reg.TIM_CMP_CFG i.toNat) = v &&& 0x8000000F ∧
         (bitOf v 31 = true → s.cmpEn i.toNat = false → passed s.int36 (t.cmpV i.toNat) = true → t.bitR Reg.TIM_EVT 6 = true) ∧
         OnlyRegs [Reg.TIM_CMP_CFG i.toNat, Reg.TIM_EVT] s t) ∧
     (∀ (k : BitVec 2) (e : Nat), nth s.tim.pulse k.toNat none = some e → e < 2 ^ 64 →
       Completes (.pulseEnd k) s fun t =>
         nth t.tim.pulse k.toNat none = none ∧ t.now = max s.now e ∧ RegsBut [Reg.TIM_ERA, Reg.TIM_EVT] s t ∧ SameMemories s t)) ∧
  (∀ (c v per : Nat), c < 2 ^ 36 → v < 2 ^ 36 → 0 < per → per < 2 ^ 32 → passed c v = true →
     passed c (cmpNext c v per).1 = false ∧ (cmpNext c v per).1 = (v + (1 + (cmpNext c v per).2) * per) % 2 ^ 36) ∧
  (∀ s : State, s.Inv → s.appOn = true → s.mode.autoWait = true → s.servo ≠ 2 → s.cmpEn (s.fldR Reg.RND_BLK_CTL 0 4) = false →
     Completes .startCmpLockTimeout s fun t =>
       t.cmpEn (s.fldR Reg.RND_BLK_CTL 0 4) = true ∧ t.mode.autoWait = false ∧
         t.reg (Reg.TIM_CMP_PER (s.fldR Reg.RND_BLK_CTL 0 4)) = 2000000 ∧
         t.cmpV (s.fldR Reg.RND_BLK_CTL 0 4) = (s.now + 2999999) / 2000000 * 2000000 % 2 ^ 36 ∧ SameMemories s t)

/-- R402: PTP START takes its arguments, sets RUN and SRC and goes to ACQUIRE, STOP clears RUN and goes to FREE; a sync
interval in LOCKED with ROOT locked, without a path-delay step and with an offset within 10 us, leaves offset and mean path
delay in TIM_OFFSET and TIM_MPD; loss of sync, or an interval that meets ROOT unlocked (R395), leads to HOLDOVER. -/
def Obligations.PtpServo : Prop :=
  ∀ (c : BitVec 2) (s : State), s.Inv →
    (Requested s c.toNat 1 1 → s.argsOk c.toNat 6 = true → s.mbxArg c.toNat 0 ≤ 1 → s.mbxArg c.toNat 1 ≤ 255 →
      s.mbxArg c.toNat 2 ≤ 255 → s.mbxArg c.toNat 3 ≤ 255 → s.mbxArg c.toNat 4 ≤ 3 → -4 ≤ sext 32 (s.mbxArg c.toNat 5) →
      sext 32 (s.mbxArg c.toNat 5) ≤ 0 → s.bitR Reg.TIM_SERVO_STAT 31 = false →
      Completes (.ptpStart c) s fun t =>
        t.bitR Reg.TIM_SERVO_STAT 31 = true ∧ t.fldR Reg.TIM_SERVO_STAT 4 3 = s.mbxArg c.toNat 4 + 1 ∧ t.servo = 1 ∧
        Responded c.toNat 0 [] s t ∧ SameMemories s t) ∧
    (Requested s c.toNat 1 2 → s.bitR Reg.TIM_SERVO_STAT 31 = true → s.mode.autoWait = false →
      Completes (.ptpStop c) s fun t =>
        t.bitR Reg.TIM_SERVO_STAT 31 = false ∧ t.servo = 0 ∧ t.reg Reg.ROOT_FRAC = s.reg Reg.ROOT_FRAC ∧
        Responded c.toNat 0 [] s t ∧ SameMemories s t) ∧
    (∀ (off : Int) (mpd : Word), s.appOn = true → s.bitR Reg.TIM_SERVO_STAT 31 = true → s.fldR Reg.TIM_SERVO_STAT 4 3 ≠ 4 →
      s.bitR Reg.CLK_STATUS 4 = true → s.servo = 2 → s.reg Reg.TIM_ASYM0 = 0 → s.tim.servo.mpds = [] → off.natAbs ≤ 10000 →
      Completes (.servoInterval off mpd false) s fun t =>
        t.reg Reg.TIM_OFFSET = i32 off ∧ t.reg Reg.TIM_MPD = mpd ∧ t.servo = 2 ∧ t.tim.servo.mpds = [(mpd.toNat : Int)] ∧
        RegsBut [Reg.TIM_OFFSET, Reg.TIM_MPD] s t ∧ SameMemories s t) ∧
    (∀ (off : Int) (mpd : Word) (port : Bool), s.appOn = true → s.bitR Reg.TIM_SERVO_STAT 31 = true → s.bitR Reg.CLK_STATUS 4 = false →
      (s.servo = 1 ∨ s.servo = 2) → Completes (.servoInterval off mpd port) s fun t =>
        t.servo = 3 ∧ t.bitR Reg.TIM_EVT 5 = true ∧ t.reg Reg.TIM_MPD = mpd ∧ t.tim.gpllFrac = s.tim.gpllFrac ∧
        RegsButRec [Reg.TIM_OFFSET, Reg.TIM_MPD, Reg.ROOT_FRAC, Reg.TIM_SERVO_STAT, Reg.TIM_EVT] s t ∧ SameMemories s t) ∧
    (s.appOn = true → (s.servo = 1 ∨ s.servo = 2) → Completes .syncTimeout s fun t =>
      t.servo = 3 ∧ t.fldR Reg.TIM_SERVO_STAT 8 4 = 0 ∧ t.bitR Reg.TIM_EVT 5 = true ∧
      (s.tim.servo.fracs ≠ [] → t.reg Reg.ROOT_FRAC = i32 (meanI s.tim.servo.fracs)) ∧
      RegsButRec [Reg.ROOT_FRAC, Reg.TIM_SERVO_STAT, Reg.TIM_EVT] s t ∧ SameMemories s t)

/-- R61, R64, R123: GEO_C takes a value from 200.0 to 500.0 m/s and refuses any other with C_RANGE; FREEZE takes bit 0; a read
of RND_IPT_DATA returns coefficient 8 × φ + j and moves RND_IPT_ADDR on modulo 8,192. R42, R89: a 1 in bit 0 of RND_MARGIN_RST
sets the three margin registers to 0x7FFF_FFFF (on a unit that is not a standby, with room in its write log). -/
def Obligations.GeometryRegisters : Prop :=
  (∀ (ini : Initiator) (v : Word) (s : State), s.Inv →
     (Tracked s ini Reg.GEO_C → 200 * 2 ^ 22 ≤ v.toNat → v.toNat ≤ 500 * 2 ^ 22 → Completes (.geoCWrite ini v) s fun t =>
       t.reg Reg.GEO_C = v ∧ RegsBut [Reg.GEO_C] s t ∧ SameMemories s t) ∧
     (Tracked s ini Reg.GEO_C → (v.toNat < 200 * 2 ^ 22 ∨ 500 * 2 ^ 22 < v.toNat) → Completes (.geoCWrite ini v) s fun t =>
       t.bitR Reg.GEO_EVT 3 = true ∧ OnlyRegsRec [Reg.GEO_EVT] s t) ∧
     (Tracked s ini Reg.GEO_CTL → Completes (.geoFreezeWrite ini v) s fun t =>
       t.reg Reg.GEO_CTL = v &&& 1 ∧ RegsBut [Reg.GEO_CTL] s t ∧ SameMemories s t) ∧
     (Reaches s ini Reg.RND_IPT_DATA → Completes (.rndIptDataRead ini) s fun t =>
       let a := s.fldR Reg.RND_IPT_ADDR 0 13
       t.out = ⟨.rdata, iniCode ini, leBytes 4 (i32 (iptCoef (a / 8) (a % 8))).toNat⟩ :: s.out ∧
         t.reg Reg.RND_IPT_ADDR = w32 ((a + 1) % 8192) ∧ RegsBut [Reg.RND_IPT_ADDR] s t ∧ SameMemories s t)) ∧
  (∀ (ini : Initiator) (v : Word) (s : State), s.Inv → Reaches s ini Reg.RND_MARGIN_RST → s.pmode ≠ 9 →
     (s.isDuty = true → s.logSize ≤ 129024) → bitOf v 0 = true →
     Completes (.rndMarginRst ini v) s fun t =>
       t.reg Reg.RND_MARGIN2 = 0x7FFFFFFF ∧ t.reg Reg.RND_MARGIN3 = 0x7FFFFFFF ∧ t.reg Reg.GEO_MARGIN = 0x7FFFFFFF ∧
         RegsBut [Reg.RND_MARGIN2, Reg.RND_MARGIN3, Reg.GEO_MARGIN] s t ∧ SameMemories s t)

/-- R89, R90: the end of a block's geometry hands the targets of its active cells to the lanes and shows their number in
GEO_ACTIVE_CELLS; GEO_MARGIN is then at most the margin. R99: a tile that is not the block's last marks its feed done for the
block of the plan; a feed with no active cells produces zero samples; RND_MARGIN2 is then at most the margin, and no cell of
another feed changes its state entry. R101: delay and gain move linearly through a block of B = 2^m samples, rounded down, and
reach the new value exactly on its last sample. -/
def Obligations.GeometryAndTiles : Prop :=
  (∀ (margin : Word) (s : State) (g : GeoSnap) (rest : List GeoSnap), s.Inv → s.reach 0x400000 = true → s.geo.snaps = g :: rest →
     Completes (.geometryDone margin) s fun t =>
       (t.reg Reg.GEO_MARGIN).toInt ≤ margin.toInt ∧
       ∃ (u : State) (b : TgtBlk), t = u.tryPlan.marginMin Reg.GEO_MARGIN margin ∧ u.geo.snaps = rest ∧
         u.geo.stopped = s.geo.stopped.filter (fun e => decide (g.blk < e.1)) ∧
         u.rnd = { s.rnd with tgts := s.rnd.tgts ++ [b] } ∧ b.blk = g.blk ∧
         b.holds = (s.geo.stopped.filter fun e => decide (e.1 = g.blk)).map (·.2) ∧
         u.reg Reg.GEO_ACTIVE_CELLS = w32 b.tgts.length ∧ u.dram = s.dram ∧ u.boot = s.boot ∧ u.gflash = s.gflash) ∧
  (∀ (f : BitVec 9) (margin : Word) (s : State) (pl : PlanBlk), s.Inv → s.reach 0x401000 = true → s.rnd.plan = some pl → f.toNat < 384 →
     f.toNat ∉ s.rnd.done → s.rnd.done.length < 383 →
     Completes (.renderTileDone f margin) s fun t =>
       t.rnd.done = f.toNat :: s.rnd.done ∧ t.rnd.plan = some pl ∧ (t.reg Reg.RND_MARGIN2).toInt ≤ margin.toInt ∧
         ((∀ c ∈ pl.cells, c.key % 384 ≠ f.toNat) →
           busAt t.rnd.acc s.blk.b pl.blk f.toNat = List.replicate s.blk.b 0) ∧
         (∀ a, (∀ c ∈ pl.cells, c.key % 384 = f.toNat → a < cellAddr c.key ∨ cellAddr c.key + 8 ≤ a) →
           Store.get sramDef t.sram a = Store.get sramDef s.sram a) ∧
         t.dram = s.dram ∧ t.boot = s.boot ∧ t.gflash = s.gflash) ∧
  (∀ (a b : Int) (m k : Nat), k < 2 ^ m →
     glide a b k (2 ^ m) = a + ((((k + 1 : Nat) : Int) * (b - a)) >>> m) ∧ glide a b (2 ^ m - 1) (2 ^ m) = b ∧
       min a b ≤ glide a b k (2 ^ m) ∧ glide a b k (2 ^ m) ≤ max a b)

/-- R516, R520, R523: the power-on signal falls with PWR_GOOD or a VDD_GNT brown-out: everything outside the Thermos island
takes its reset state, while the island, the flashes and the DRAM cells keep theirs; the island starts cold when VBAT and
VDD_PLL were lost. R505, R520, R526, R527: the power-on signal rises: the device starts in WAKE with the application side
held, on-chip memory as after reset, the island as it was but for the wake cause, and the cause of the start in PWR_RST_CAUSE.
-/
def Obligations.PowerSignal : Prop :=
  (∀ (vbat : Bool) (s : State), s.Inv →
     let down (t : State) : Prop :=
       t.pwr.good = false ∧ t.held = true ∧ t.pwr.thermos = vbat ∧
         (∀ a, isIsland a = false → a ≠ Reg.PWR_MODE_STATUS → t.reg a = regReset a) ∧
         (∀ a, isIsland a = true → a ≠ Reg.PWR_WAKE_CAUSE → t.reg a = s.reg a) ∧
         t.sram = [] ∧ t.cores = [] ∧ t.dram = s.dram ∧ t.boot = s.boot ∧ t.gflash = s.gflash ∧ t.out = s.out
     (s.pwr.good = true →
       Completes (.pwrGoodFall vbat) s down ∧ Completes (.vddGntBrownOut vbat) s fun t => down t ∧ t.pwr.lastDown = 5) ∧
     (s.pwr.good = false →
       Completes (.islandColdStart vbat) s fun t =>
         (∀ a, isIsland a = true → t.reg a = regReset a) ∧ (∀ a, isIsland a = false → t.reg a = s.reg a) ∧
         t.bitR Reg.PWR_WAKE_CAUSE 7 = true ∧ SameMemories s t)) ∧
  (∀ s : State, s.Inv → (s.pwr.good = true → Completes .pwrGoodRise s (· = s)) ∧
     (s.pwr.good = false → Completes .pwrGoodRise s fun t =>
     t.pwr.good = true ∧ t.pmode = 1 ∧ t.appOn = false ∧ t.reg Reg.PWR_RST_CAUSE = w32 s.pwr.lastDown ∧
     (∀ a, isIsland a = true → a ≠ Reg.PWR_WAKE_CAUSE → t.reg a = s.reg a) ∧
     t.sram = [] ∧ t.cores = [] ∧ t.dram = s.dram ∧ t.boot = s.boot ∧ t.gflash = s.gflash))

/-- R520 to R522: RESET_N low holds the application side, clears its engines and leaves DRAM, the flashes and the Gauntlet's
registers; it is ignored without power, while low already and after PWR_EN has fallen. Its release starts the application side
in TRAIL unless WAKE W1 or the critical hold goes on. -/
def Obligations.ResetPin : Prop :=
  ∀ s : State, s.Inv →
    (s.pwr.good = true → s.pwr.resetN = false → s.mode.sleep ≠ 2 → Completes .resetNAssert s fun t =>
      t.pwr.resetN = true ∧ t.held = true ∧ t.cores = [] ∧ (∀ a, a < 0x100000 → t.reg a = s.reg a) ∧
      t.dram = s.dram ∧ t.boot = s.boot ∧ t.gflash = s.gflash) ∧
    ((s.pwr.good = false ∨ s.pwr.resetN = true ∨ s.mode.sleep = 2) → Completes .resetNAssert s (· = s)) ∧
    (s.pwr.good = true → s.pwr.resetN = true → s.bitR Reg.PWR_STATUS 11 = true → Completes .resetNRelease s fun t =>
      t.pwr.resetN = false ∧ t.held = true ∧ t.bitR Reg.PWR_EVT 0 = true ∧ RegsButRec [Reg.PWR_EVT] s t ∧
      SameMemories s t) ∧
    (s.pwr.good = true → s.pwr.resetN = true → s.bitR Reg.PWR_STATUS 11 = false → (s.pmode = 1 → s.phase ≠ 1) →
      Completes .resetNRelease s fun t =>
        t.pwr.resetN = false ∧ t.reg Reg.PWR_RST_CAUSE = 3 ∧ t.pmode = 2)

/-- R463, R519: while PFW_N is low the recorder has committed its open record and takes nothing, and the DRAM controller
stands in self-refresh; the rise lets the recorder go on. R517, R57: a rail out of its window sets its status bit and raises
detector 0x20, and in a unit that is not duty this is the fault of R57; back in its window the bit clears. R518: the hottest
reading shows in PWR_TEMP, TEMP_WARN follows its threshold with 5 °C of hysteresis, 125 °C holds the application side, and 10
°C below the shutdown threshold releases it into TRAIL. -/
def Obligations.SupplyAndTemperature : Prop :=
  (∀ s : State, s.Inv → s.pwr.good = true →
     (s.bitR Reg.PWR_STATUS 8 = false → Completes .pfwFall s fun t =>
       t.bitR Reg.PWR_STATUS 8 = true ∧ t.bitR Reg.PWR_EVT 2 = true ∧ t.log.pfw = true ∧ t.log.opened = none ∧
       (s.service = 1 ∨ s.service = 2 → t.service = 3) ∧ t.pmode = s.pmode ∧ SameMemories s t ∧ t.out = s.out) ∧
     (s.bitR Reg.PWR_STATUS 8 = true → Completes .pfwRise s fun t =>
       t.bitR Reg.PWR_STATUS 8 = false ∧ t.log.pfw = false ∧ t.pmode = s.pmode ∧ SameMemories s t ∧ t.out = s.out)) ∧
  (∀ (rail high : Bool) (mv : BitVec 16) (s : State), s.Inv → s.pwr.good = true →
     (s.bitR Reg.PWR_STATUS (2 + rail.toNat) = false → Completes (.supplyOutOfWindow rail high mv) s fun t =>
       t.bitR Reg.PWR_STATUS (2 + rail.toNat) = true ∧ t.bitR Reg.PWR_EVT 3 = true ∧ t.bitR Reg.INT_DET1 0 = true ∧
       (s.isDuty = false → s.twin.yield = none → s.mode.fault = none →
         t.mode.fault = some 0x20 ∧
         t.reg Reg.PWR_SUPPLY_EVENTS = w32 (satU 32 ((s.reg Reg.PWR_SUPPLY_EVENTS).toNat + 1)) ∧
         RegsButRec [Reg.PWR_STATUS, Reg.PWR_EVT, Reg.INT_DET1, Reg.PWR_SUPPLY_EVENTS] s t)) ∧
     Completes (.supplyBackInWindow rail) s fun t =>
       t.bitR Reg.PWR_STATUS (2 + rail.toNat) = false ∧ OnlyRegs [Reg.PWR_STATUS] s t) ∧
  (∀ (t0 t1 t2 t3 : BitVec 16) (s : State), s.Inv → s.pwr.good = true →
     let h := (hottest [t0, t1, t2, t3]).1
     let warn : Int := sext 16 (s.fldR Reg.PWR_TEMP_WARN 0 16)
     let shut : Int := sext 16 (s.fldR Reg.PWR_TEMP_SHUT 0 16)
     (h < 32000 → s.bitR Reg.PWR_STATUS 11 = false → Completes (.tempRead t0 t1 t2 t3) s fun t =>
       sext 16 (t.fldR Reg.PWR_TEMP 0 16) = h ∧
       t.bitR Reg.PWR_STATUS 9 = (decide (warn ≤ h) || (s.bitR Reg.PWR_STATUS 9 && !decide (h ≤ warn - 1280))) ∧
       (shut ≤ h → t.bitR Reg.PWR_STATUS 10 = true)) ∧
     (32000 ≤ h → Completes (.tempRead t0 t1 t2 t3) s fun t => t.bitR Reg.PWR_STATUS 11 = true ∧ t.held = true) ∧
     (h < 32000 → s.bitR Reg.PWR_STATUS 11 = true → h ≤ shut - 2560 → s.pwr.resetN = false → (s.pmode = 1 → s.phase ≠ 1) →
       Completes (.tempRead t0 t1 t2 t3) s fun t =>
         t.bitR Reg.PWR_STATUS 11 = false ∧ t.reg Reg.PWR_RST_CAUSE = 4 ∧ t.pmode = 2))

/-- R524: a write of a writable island register is under way with BUSY until it takes effect, and is dropped while BUSY. R524,
R526, R275: in THERMOS an enabled wake event raises PWR_EN and sets its bit of PWR_WAKE_CAUSE; outside it is ignored; PWR_SEC
reads the value it was compared with. R525: once the recorder queue is empty an entry to THERMOS lets PWR_EN fall, with
PWR_SEC and the wake copies in the retention words; a latched wake raises PWR_EN again; an entry that PWR_GOOD does not follow
within 100 ms fails. -/
def Obligations.ThermosIsland : Prop :=
  (∀ (ini : Initiator) (a : Nat) (v : Word) (s : State), s.Inv → Reaches s ini Reg.PWR_SEC →
     (s.bitR Reg.PWR_THM_STAT 0 = false → islandWritable a = true → Completes (.islandRegisterWrite ini a v) s fun t =>
       t.bitR Reg.PWR_THM_STAT 0 = true ∧ t.pwr.islandWr = some (a, v) ∧ RegsBut [Reg.PWR_THM_STAT] s t ∧ SameMemories s t) ∧
     (s.bitR Reg.PWR_THM_STAT 0 = true → Completes (.islandRegisterWrite ini a v) s (· = s)) ∧
     (s.pwr.islandWr = some (a, v) → islandWritable a = true → Completes .islandWriteDone s fun t =>
       (a ≠ Reg.PWR_WAKE_CTL → t.reg a = v) ∧ (a = Reg.PWR_WAKE_CTL → t.reg a = v &&& 0x331) ∧
       t.bitR Reg.PWR_THM_STAT 0 = false ∧ RegsBut [a, Reg.PWR_THM_STAT] s t ∧ SameMemories s t)) ∧
  (∀ s : State, s.Inv →
     (s.pwr.good = false → s.pwr.thermos = true → s.pwr.wakeLatch = 0 →
       (s.bitR Reg.PWR_WAKE_CTL 0 = true → Completes .secMatch s fun t =>
         t.reg Reg.PWR_SEC = s.reg Reg.PWR_WAKE_SEC ∧ t.bitR Reg.PWR_WAKE_CAUSE 1 = true ∧ t.pwr.pwrEn = true ∧
         t.pwr.thermos = false ∧ RegsBut [Reg.PWR_SEC, Reg.PWR_WAKE_CAUSE] s t ∧ SameMemories s t) ∧
       (∀ n : Bool, s.bitR Reg.PWR_WAKE_CTL (4 + n.toNat) = true → Completes (.wakeInAssert n) s fun t =>
         t.bitR Reg.PWR_WAKE_CAUSE (2 + n.toNat) = true ∧ t.pwr.pwrEn = true ∧ t.pwr.thermos = false ∧
         RegsBut [Reg.PWR_WAKE_CAUSE] s t ∧ SameMemories s t) ∧
       (∀ ix : BitVec 3, s.bitR (Reg.PWR_RET0 0) (8 + ix.toNat) = true → Completes (.almInWake ix) s fun t =>
         t.bitR Reg.PWR_WAKE_CAUSE 4 = true ∧ t.pwr.pwrEn = true ∧ t.pwr.thermos = false ∧
         RegsBut [Reg.PWR_WAKE_CAUSE] s t ∧ SameMemories s t)) ∧
     (s.pwr.good = true → s.mode.sleep = 0 →
       (∀ n, Completes (.wakeInAssert n) s (· = s)) ∧ (∀ ix, Completes (.almInWake ix) s (· = s)) ∧
       Completes .secMatch s fun t => t.reg Reg.PWR_SEC = s.reg Reg.PWR_WAKE_SEC ∧ OnlyRegs [Reg.PWR_SEC] s t)) ∧
  (∀ s : State, s.Inv →
     (s.mode.sleep = 1 → s.log.queue = [] → s.log.opened = none → Completes .thermosQueueDrained s fun t =>
       t.mode.sleep = 2 ∧ t.pwr.pwrEn = false ∧ t.reg (Reg.PWR_RET0 1) = s.reg Reg.PWR_SEC ∧ t.reg Reg.PWR_WAKE_CAUSE = 0 ∧
       t.fldR (Reg.PWR_RET0 0) 8 8 = s.fldR Reg.GNT_ALM_CFG 8 8 ∧ t.fldR (Reg.PWR_RET0 0) 16 8 = s.fldR Reg.GNT_ALM_CFG 24 8 ∧
       SameMemories s t) ∧
     (s.mode.sleep ≠ 1 → Completes .thermosQueueDrained s (· = s)) ∧
     (s.pwr.good = false → s.pwr.thermos = true → s.pwr.wakeLatch ≠ 0 → Completes .latchedWakeRaise s fun t =>
       t.pwr.pwrEn = true ∧ t.pwr.thermos = false ∧ t.pwr.wakeLatch = 0 ∧
       t.reg Reg.PWR_WAKE_CAUSE = s.reg Reg.PWR_WAKE_CAUSE ||| w32 s.pwr.wakeLatch ∧ RegsBut [Reg.PWR_WAKE_CAUSE] s t) ∧
     (s.pwr.good = true → s.mode.sleep = 2 → Completes .sleepTimeout s fun t =>
       t.mode.sleep = 0 ∧ t.pwr.pwrEn = true ∧ t.bitR Reg.PWR_EVT 7 = true ∧ t.pmode = s.pmode ∧
       RegsButRec [Reg.PWR_MODE_STATUS, Reg.PWR_EVT] s t ∧ SameMemories s t))

/-- R475, R477, R483, R484: a monitor that trips loses its OK bit and moves the multiplexers it forces to their fallbacks.
R339, R474, R477, R478, R527, R57: with the power-on signal locks, armed monitors and FOSC show in CLK_STATUS, and a lock of
ROOT leaves every sensing group that its loss stopped waiting for its reset; FOSC that is not ready on a multiplexer's
fallback holds the application side; and a ROOT that stays lost for 2 ms is the fault of R57. -/
def Obligations.ClockFaults : Prop :=
  (∀ s : State, s.Inv →
     (s.bitR Reg.CLK_STATUS 0 = true → Completes .xaMonitorTrip s fun t =>
       t.bitR Reg.CLK_STATUS 0 = false ∧ t.bitR Reg.CLK_STATUS 10 = true ∧ t.bitR Reg.CLK_STATUS 11 = true ∧
       t.bitR Reg.CLK_STATUS 12 = true) ∧
     (s.bitR Reg.CLK_STATUS 1 = true → Completes .xbMonitorTrip s fun t =>
       t.bitR Reg.CLK_STATUS 1 = false ∧ t.bitR Reg.CLK_STATUS 13 = true ∧
       (s.bitR Reg.CLK_STATUS 13 = false → t.bitR Reg.TWN_STATUS 12 = false)) ∧
     (s.clk.rootArmed = true → Completes .rootMonitorTrip s fun t =>
       t.clk.rootArmed = false ∧ t.bitR Reg.CLK_STATUS 10 = true) ∧
     (∀ n : Bool, s.bitR Reg.CLK_STATUS (2 + n.toNat) = true → Completes (.mclkMonitorTrip n) s fun t =>
       t.bitR Reg.CLK_STATUS (2 + n.toNat) = false ∧ t.bitR Reg.CLK_STATUS (14 + n.toNat) = true ∧
       t.reg Reg.CLK_FB_COUNT = w32 (satU 32 ((s.reg Reg.CLK_FB_COUNT).toNat + 1)) ∧
       (s.bitR Reg.CLK_STATUS (14 + n.toNat) = false → t.bitR Reg.CLK_EVT 3 = true)) ∧
     (∀ mux : BitVec 3, (mux = 4 ∨ mux = 5) → s.bitR Reg.CLK_MUX_STAT (8 + mux.toNat) = false →
       s.bitR Reg.CLK_STATUS (mux.toNat - 2) = false → Completes (.muxHung mux) s fun t =>
       t.bitR Reg.CLK_MUX_STAT mux.toNat = true ∧ t.bitR Reg.CLK_MUX_STAT (8 + mux.toNat) = true ∧ t.bitR Reg.CLK_EVT 4 = true ∧
       OnlyRegsRec [Reg.CLK_MUX_STAT, Reg.CLK_EVT] s t)) ∧
  (∀ s : State, s.Inv →
     (∀ p : Pll, s.pwr.good = true → p ≠ .root → Completes (.pllLock p) s fun t =>
       t.bitR Reg.CLK_STATUS (lockBit p) = true ∧ OnlyRegs [Reg.CLK_STATUS] s t) ∧
     (s.pwr.good = true → s.clk.rootHeld = false → Completes (.pllLock .root) s fun t =>
       t.bitR Reg.CLK_STATUS 4 = true ∧ t.clk = { s.clk with rootStop := false } ∧
       (∀ g, g < 8 → s.bitR (Reg.SNS_GRP_STAT g) 3 = true → t.sns.pend.testBit g = true) ∧ RegsBut [Reg.CLK_STATUS] s t ∧
       SameMemories s t) ∧
     (s.pwr.good = true → s.clk.rootHeld = true → Completes (.pllLock .root) s fun t =>
       t.bitR Reg.CLK_STATUS 4 = true ∧ t.bitR Reg.CLK_STATUS 10 = false ∧ t.clk.rootHeld = false) ∧
     (∀ p ∈ [Pll.dpll, Pll.spllE, Pll.spllF], s.bitR Reg.CLK_STATUS (lockBit p) = true → Completes (.pllUnlock p) s fun t =>
       t.bitR Reg.CLK_STATUS (lockBit p) = false ∧ t.bitR Reg.CLK_EVT 1 = true ∧ OnlyRegs [Reg.CLK_STATUS, Reg.CLK_EVT] s t) ∧
     (s.bitR Reg.CLK_STATUS 8 = true → Completes (.pllUnlock .gpll) s fun t =>
       t.bitR Reg.CLK_STATUS 8 = false ∧ t.bitR Reg.CLK_STATUS 11 = true ∧ t.bitR Reg.CLK_EVT 1 = true) ∧
     (s.bitR Reg.CLK_STATUS 4 = true → s.clk.rootArmed = true → Completes (.pllUnlock .root) s fun t =>
       t.bitR Reg.CLK_STATUS 4 = false ∧ t.bitR Reg.CLK_STATUS 10 = true) ∧
     (s.pwr.good = true → Completes (.monitorArm .xa) s fun t => t.bitR Reg.CLK_STATUS 0 = true ∧ OnlyRegs [Reg.CLK_STATUS] s t) ∧
     (s.pwr.good = true → Completes (.monitorArm .xb) s fun t => t.bitR Reg.CLK_STATUS 1 = true ∧ OnlyRegs [Reg.CLK_STATUS] s t) ∧
     (s.pwr.good = true → Completes (.monitorArm .root) s fun t =>
       t = { s with clk := { s.clk with rootArmed := s.clk.rootArmed || s.bitR Reg.CLK_MON_EN 2, rootStop := false } }) ∧
     (s.pwr.good = true → s.bitR Reg.CLK_MON_EN 3 = true → 0 < s.clk.mclkHz.1 → Completes (.monitorArm .mclk0) s fun t =>
       t.bitR Reg.CLK_STATUS 2 = true ∧ OnlyRegs [Reg.CLK_STATUS] s t) ∧
     (s.pwr.good = true → s.bitR Reg.CLK_MON_EN 4 = true → 0 < s.clk.mclkHz.2 → Completes (.monitorArm .mclk1) s fun t =>
       t.bitR Reg.CLK_STATUS 3 = true ∧ OnlyRegs [Reg.CLK_STATUS] s t) ∧
     (s.bitR Reg.CLK_STATUS 9 = false → s.pwr.good = true → Completes .foscReady s fun t =>
       t.bitR Reg.CLK_STATUS 9 = true ∧ t.bitR Reg.CLK_STATUS 10 = !s.bitR Reg.CLK_STATUS 4 ∧ t.bitR Reg.CLK_STATUS 11 = true ∧
       t.pwr.appHold = false ∧
       (s.gnt.phase = 1 → t.gnt.phase = 2) ∧ RegsBut [Reg.CLK_STATUS] s t ∧ SameMemories s t) ∧
     (s.bitR Reg.CLK_STATUS 9 = false → s.pwr.good = true → s.fldR Reg.CLK_STATUS 10 4 ≠ 0 → Completes .foscNotReady s fun t =>
       t.held = true ∧ t.bitR Reg.INT_DET0 8 = true ∧ t.bitR Reg.CLK_EVT 2 = true ∧
       RegsBut [Reg.INT_DET0, Reg.CLK_EVT] s t ∧ SameMemories s t) ∧
     (s.bitR Reg.CLK_STATUS 10 = true → s.clk.rootHeld = false → s.isDuty = false → s.twin.yield = none → s.mode.fault = none →
       Completes .rootRelockTimeout s fun t => t = { s with mode := { s.mode with fault := some 7 } }))

/-- R265, R482 to R484, R506: the returns from a fallback clear its status bit; M_DPLL's is made under the self-refresh hold,
which ends when DPLL has held lock, with an initialisation first where full service had lost segments; SDS_RETURN is refused
while XB is not there. R485, R487, R488: a write of CLK_EN keeps the bits it may not clear now and applies the others; bit 13
reads 1; CODE is written in MAINTAIN while MANUAL is 1 and refused otherwise; a window of the trim moves CODE by the clamped
difference. -/
def Obligations.ClockReturns : Prop :=
  (∀ s : State, s.Inv →
     (s.bitR Reg.CLK_STATUS 10 = true → s.bitR Reg.CLK_STATUS 0 = true → s.bitR Reg.CLK_STATUS 4 = true →
       Completes .appReturn s fun t => t.bitR Reg.CLK_STATUS 10 = false ∧
         (renders s.pmode = true → t.blk.prep = true ∧ t.blk.base = 0)) ∧
     (s.bitR Reg.CLK_STATUS 11 = true → s.bitR Reg.CLK_STATUS 8 = true → s.bitR Reg.CLK_STATUS 0 = true →
       Completes .gpllReturn s fun t => t.bitR Reg.CLK_STATUS 11 = false ∧ OnlyRegsRec [Reg.CLK_STATUS] s t) ∧
     (s.bitR Reg.CLK_STATUS 12 = true → s.bitR Reg.CLK_STATUS 0 = true → Completes .dpllReturn s fun t =>
       t.bitR Reg.CLK_STATUS 12 = false ∧ (s.service = 1 ∨ s.service = 2 → t.service = 3 ∧ t.drc.heldSvc = s.service) ∧
       RegsButRec [Reg.CLK_STATUS, Reg.DRC_DEBT, Reg.DRC_STATUS] s t ∧ SameMemories s t) ∧
     (s.bitR Reg.CLK_STATUS 5 = true → s.bitR Reg.PWR_STATUS 8 = false → s.service = 3 → s.drc.heldSvc = 1 → s.drc.lost ≠ 0 →
       s.drc.trained = true → s.bitR Reg.CLK_EN 12 = true → Completes .selfRefreshHoldEnd s fun t =>
         t.service = 1 ∧ t.drc.heldSvc = 0 ∧ t.bitR Reg.DRC_STATUS 3 = true ∧ t.dramReady = false) ∧
     (s.bitR Reg.CLK_STATUS 5 = true → s.bitR Reg.PWR_STATUS 8 = false → s.service = 3 → s.drc.heldSvc < 4 →
       (s.drc.heldSvc = 1 → s.drc.lost = 0) → Completes .selfRefreshHoldEnd s fun t =>
         t.service = s.drc.heldSvc ∧ t.drc.heldSvc = 0 ∧ RegsBut [Reg.DRC_STATUS] s t ∧ SameMemories s t) ∧
     (∀ n : Bool, s.bitR Reg.CLK_STATUS (14 + n.toNat) = true → s.bitR Reg.CLK_STATUS (2 + n.toNat) = true →
       Completes (.mclkReturn n) s fun t => t.bitR Reg.CLK_STATUS (14 + n.toNat) = false ∧ SameMemories s t) ∧
     (∀ ini, Reaches s ini Reg.CLK_CMD →
       (s.bitR Reg.CLK_STATUS 1 = false → Completes (.sdsReturn ini) s fun t =>
         t.bitR Reg.CLK_EVT 6 = true ∧ OnlyRegsRec [Reg.CLK_EVT] s t) ∧
       (s.bitR Reg.CLK_STATUS 1 = true → s.bitR Reg.CLK_STATUS 13 = true → Completes (.sdsReturn ini) s fun t =>
         t.bitR Reg.CLK_STATUS 13 = false ∧ t.bitR Reg.TWN_STATUS 12 = false))) ∧
  (∀ s : State, s.Inv →
     (∀ (ini : Initiator) (v : Word), Reaches s ini Reg.CLK_EN → Completes (.clkEnWrite ini v) s fun t =>
       (∀ i, i < 13 → t.bitR Reg.CLK_EN i = (bitOf v i || (s.enFixed.testBit i && s.bitR Reg.CLK_EN i))) ∧
       t.bitR Reg.CLK_EN 13 = true ∧
       ((∃ i, i < 13 ∧ bitOf v i = false ∧ s.enFixed.testBit i = true ∧ s.bitR Reg.CLK_EN i = true) → t.bitR Reg.CLK_EVT 5 = true) ∧
       (t.bitR Reg.CLK_EN 12 = s.bitR Reg.CLK_EN 12 → OnlyRegsRec [Reg.CLK_EN, Reg.CLK_EVT] s t) ∧
       RegsButRec [Reg.CLK_EN, Reg.CLK_EVT, Reg.DRC_STATUS, Reg.DRC_DEBT, Reg.PWR_RET0 0] s t ∧ t.sram = s.sram ∧
       t.boot = s.boot ∧ t.gflash = s.gflash) ∧
     (∀ (ini : Initiator) (v : Word), Reaches s ini Reg.CLK_FTRIM →
       (s.pmode = 10 → s.bitR Reg.CLK_FTRIM_CFG 15 = true → Completes (.foscTrimCodeWrite ini v) s fun t =>
         t.fldR Reg.CLK_FTRIM 0 10 = fld v 0 10 ∧ OnlyRegs [Reg.CLK_FTRIM] s t) ∧
       ((s.pmode ≠ 10 ∨ s.bitR Reg.CLK_FTRIM_CFG 15 = false) → Completes (.foscTrimCodeWrite ini v) s fun t =>
         t.bitR Reg.CLK_EVT 6 = true ∧ OnlyRegsRec [Reg.CLK_EVT] s t)) ∧
     (∀ n : Nat, 1 ≤ s.fldR Reg.CLK_FTRIM_CFG 0 3 → s.fldR Reg.CLK_FTRIM_CFG 0 3 ≤ 3 →
       (Completes (.trimWindow n true) s fun t => t.bitR Reg.CLK_FTRIM 17 = true ∧ OnlyRegs [Reg.CLK_FTRIM] s t) ∧
       (s.bitR Reg.CLK_FTRIM_CFG 15 = false → Completes (.trimWindow n false) s fun t =>
         t.bitR Reg.CLK_FTRIM 17 = false ∧
         (t.fldR Reg.CLK_FTRIM 0 10 : Int) =
           min (max ((s.fldR Reg.CLK_FTRIM 0 10 : Int) + max (-8) (min 8 (rndDiv ((98304 - (n : Int)) * 16384) 98304))) 0) 1023 ∧
         RegsButRec [Reg.CLK_FTRIM, Reg.CLK_FTRIM_ERR, Reg.CLK_EVT, Reg.INT_DET0] s t ∧ SameMemories s t)))

/-- R137, R25: an accepted fade request waits for its block while a train runs, and switches the selected bank at once while
none runs; a request for a feed that fades or waits, or while COEF_PEND is 1, is refused and counted; feeds from 384 on are
ignored; ALL takes every feed. R129: a descriptor write that keeps the limits of R127 and changes no field of a live bank
takes effect; one that changes a live bank or breaks a limit is dropped and counted. R141: the group delay of the selected
bank: VALID with GD and PEAK 0 for length 0, and ZERO for a bank of zero coefficients. R130, R135: the last task of a feed's
block ends its FIR stage: the block after it is next, the task has cost LEN × B ÷ 4 unit-cycles, and RND_MARGIN3 is at most
the margin. -/
def Obligations.RoomCorrection : Prop :=
  (∀ (ini : Initiator) (f : BitVec 9) (s : State), s.Inv → Tracked s ini Reg.FIR_FADE_REQ →
     (f.toNat < 384 → s.firFading f.toNat = false → s.bitR (Reg.FIR_FST f.toNat) 2 = false → s.bitR Reg.FIR_STATUS 24 = false →
       (s.running = false → Completes (.firFadeReq ini f) s fun t =>
         t.firSel f.toNat = 1 - s.firSel f.toNat ∧ t.firFading f.toNat = false ∧ t.bitR (Reg.FIR_FST f.toNat) 2 = false ∧
         t.fir = s.fir ∧ RegsBut [Reg.FIR_FST f.toNat, Reg.FIR_GD f.toNat] s t ∧ SameMemories s t) ∧
       (s.running = true → Completes (.firFadeReq ini f) s fun t =>
         t.firSel f.toNat = s.firSel f.toNat ∧ t.bitR (Reg.FIR_FST f.toNat) 2 = true ∧
         t.fir = { s.fir with waits := s.fir.waits ++ [(f.toNat, s.blk.n + 1)] } ∧
         RegsBut [Reg.FIR_FST f.toNat, Reg.FIR_STATUS] s t ∧ SameMemories s t)) ∧
     (f.toNat < 384 → (s.firFading f.toNat || s.bitR (Reg.FIR_FST f.toNat) 2 || s.bitR Reg.FIR_STATUS 24) = true →
       Completes (.firFadeReq ini f) s fun t =>
         t.reg Reg.FIR_FADE_REFUSED = w32 (satU 32 ((s.reg Reg.FIR_FADE_REFUSED).toNat + 1)) ∧ t.bitR Reg.FIR_EVT 2 = true ∧
         RegsButRec [Reg.FIR_FADE_REFUSED, Reg.FIR_EVT] s t ∧ SameMemories s t) ∧
     (384 ≤ f.toNat → Completes (.firFadeReq ini f) s fun t => t.regs = s.regs ∧ t.fir = s.fir ∧ SameMemories s t) ∧
     (s.bitR Reg.FIR_STATUS 24 = true → Completes (.firFadeReqAll ini) s fun t =>
       t.reg Reg.FIR_FADE_REFUSED = w32 (satU 32 ((s.reg Reg.FIR_FADE_REFUSED).toNat + 384)) ∧ t.fir = s.fir ∧ SameMemories s t) ∧
     (s.bitR Reg.FIR_STATUS 24 = false → s.running = false →
       (∀ g, g < 384 → s.firFading g = false ∧ s.bitR (Reg.FIR_FST g) 2 = false) → Completes (.firFadeReqAll ini) s fun t =>
         (∀ g, g < 384 → t.firSel g = 1 - s.firSel g ∧ t.firFading g = false) ∧ t.fir = s.fir ∧ SameMemories s t)) ∧
  (∀ (ini : Initiator) (f : Nat) (v : Word) (s : State), s.Inv → f < 384 → Tracked s ini (Reg.FIR_A f) → s.firFading f = false →
     (s.firSel f = 1 → s.fldR (Reg.FIR_LEN f) 0 13 ≤ s.fldR Reg.FIR_MAX_TAPS 0 13 → -8 ≤ sfld v 22 5 → sfld v 22 5 ≤ 8 →
       fld v 0 22 + s.fldR (Reg.FIR_LEN f) 0 13 ≤ 2621440 → Completes (.firDescriptorWrite ini (Reg.FIR_A f) v) s fun t =>
         t.reg (Reg.FIR_A f) = v &&& regMask (Reg.FIR_A f) ∧ RegsBut [Reg.FIR_A f] s t ∧ SameMemories s t) ∧
     ((s.firSel f = 0 ∧ (fld v 0 22 ≠ s.fldR (Reg.FIR_A f) 0 22 ∨ sfld v 22 5 ≠ sfld (s.reg (Reg.FIR_A f)) 22 5) ∨
         8 < sfld v 22 5 ∨ sfld v 22 5 < -8) → Completes (.firDescriptorWrite ini (Reg.FIR_A f) v) s fun t =>
         t.reg Reg.FIR_WR_DROP = w32 (satU 32 ((s.reg Reg.FIR_WR_DROP).toNat + 1)) ∧ t.bitR Reg.FIR_EVT 3 = true ∧
         OnlyRegsRec [Reg.FIR_WR_DROP, Reg.FIR_EVT] s t)) ∧
  (∀ (f : BitVec 9) (s : State), s.Inv → s.reach 0x500000 = true → f.toNat < 384 → s.bitR (Reg.FIR_GD f.toNat) 31 = false →
     let b := bankOf s.reg f.toNat (s.firSel f.toNat)
     Completes (.firGdDone f) s fun t =>
       t.bitR (Reg.FIR_GD f.toNat) 31 = true ∧
       (b.len = 0 → t.reg (Reg.FIR_GD f.toNat) = 0x80000000) ∧
       (0 < b.len → (∀ j, j < b.len → sample24 (s.sramBytes (coefAddr (b.start + j)) 3) = 0) →
         t.reg (Reg.FIR_GD f.toNat) = 0xC0000000) ∧
       OnlyRegs [Reg.FIR_GD f.toNat] s t) ∧
  (∀ (f : BitVec 9) (bank : Bool) (margin : Word) (s : State), s.Inv → s.reach 0x500000 = true → f.toNat < 384 →
     Store.wf (fun _ => 0) s.fir.next = true → s.firTasks f.toNat (s.firNext f.toNat) = [bank.toNat] →
     (∀ p ∈ s.fir.part, p.1 ≠ f.toNat) →
     Completes (.firTaskDone f bank margin) s fun t =>
       t.firNext f.toNat = s.firNext f.toNat + 1 ∧
       t.fir.cycles = s.fir.cycles + (bankOf (s.firView (s.firNext f.toNat)).1 f.toNat bank.toNat).len * s.blk.b / 4 ∧
       (t.reg Reg.RND_MARGIN3).toInt ≤ margin.toInt ∧ t.dram = s.dram ∧ t.boot = s.boot ∧ t.gflash = s.gflash)

/-- R218: a legal general-pool descriptor that is FREE or DONE is in WAIT once its index is written, and then becomes READY if
it may; every other submit is refused and counted. R230: a cancel before any item was dispatched takes the descriptor away; a
cancel of one that is not live is counted as a miss, and of a block-bank index as an error. R37, R222: the oldest block that
waited and whose bank is free is instantiated: every template of its block becomes a descriptor of the bank, one with a parity
error marked for a task that ends with ERROR, and the other waiting blocks keep their order; while none is free nothing
changes. -/
def Obligations.DispatcherSubmit : Prop :=
  (∀ (ini : Initiator) (v : Word) (s : State), s.Inv → Reaches s ini Reg.SCH_SUBMIT →
     (1024 ≤ fld v 0 12 → (s.dState (fld v 0 12) = 0 ∨ s.dState (fld v 0 12) = 4) → s.descLegal (fld v 0 12) = true →
       Completes (.schSubmit ini v) s fun t => ∃ u : State,
         t = u.settle ∧ u.sch.descs = s.sch.descs ++ [{ idx := fld v 0 12 }] ∧ u.dState (fld v 0 12) = 1 ∧
         u.sch.run = s.sch.run ∧ u.dram = s.dram ∧
         SramOutside (descAddr (fld v 0 12) + 17) 1 s u) ∧
     ((fld v 0 12 < 1024 ∨ (s.dState (fld v 0 12) ≠ 0 ∧ s.dState (fld v 0 12) ≠ 4) ∨ s.descLegal (fld v 0 12) = false) →
       Completes (.schSubmit ini v) s fun t =>
         t.reg Reg.SCH_SUBMIT_ERR = w32 (satU 32 ((s.reg Reg.SCH_SUBMIT_ERR).toNat + 1)) ∧ t.bitR Reg.SCH_EVT 3 = true ∧
         OnlyRegs [Reg.SCH_SUBMIT_ERR, Reg.SCH_EVT] s t)) ∧
  (∀ (ini : Initiator) (v : Word) (s : State), s.Inv → Reaches s ini Reg.SCH_CANCEL →
     (∀ x, 1024 ≤ fld v 0 12 → s.desc? (fld v 0 12) = some x → x.next = 0 → x.subs = [] → Completes (.schCancel ini v) s fun t =>
       ∃ u : State, t = u.settle ∧ u.desc? (fld v 0 12) = none ∧ u.sch.run = s.sch.run ∧
         (u.fldR Reg.SCH_CPL_HEAD 0 10 = (s.fldR Reg.SCH_CPL_HEAD 0 10 + 1) % 1024 ∨ u.bitR Reg.SCH_EVT 4 = true)) ∧
     (1024 ≤ fld v 0 12 → s.desc? (fld v 0 12) = none → Completes (.schCancel ini v) s fun t =>
       t.reg Reg.SCH_CANCEL_MISS = w32 (satU 32 ((s.reg Reg.SCH_CANCEL_MISS).toNat + 1)) ∧
       OnlyRegs [Reg.SCH_CANCEL_MISS] s t) ∧
     (fld v 0 12 < 1024 → Completes (.schCancel ini v) s fun t =>
       t.reg Reg.SCH_SUBMIT_ERR = w32 (satU 32 ((s.reg Reg.SCH_SUBMIT_ERR).toNat + 1)) ∧ t.bitR Reg.SCH_EVT 3 = true ∧
       OnlyRegs [Reg.SCH_SUBMIT_ERR, Reg.SCH_EVT] s t)) ∧
  (∀ s : State, s.Inv → s.reach 0x300000 = true →
     (∀ n, s.sch.bankWait.find? (fun n => !s.bankBusy (n % 4)) = some n → Completes .bankInstantiateDeferred s fun t => ∃ u : State,
       t = u.settle ∧ u.sch.bankWait = s.sch.bankWait.erase n ∧ u.sch.run = s.sch.run ∧
       u.sch.descs = s.sch.descs ++ (List.range ((s.templates n).length / 32)).map fun i =>
         { idx := 256 * (n % 4) + i, bad := s.schBad (0x06FE6000 + 32 * i) 8 }) ∧
     ((∀ n ∈ s.sch.bankWait, s.bankBusy (n % 4) = true) → Completes .bankInstantiateDeferred s (· = s)))

/-- R225: the entry chosen may be dispatched, and no other that may comes before it by priority, cycle of entry and index.
R225, R226, R235: a dispatcher cycle counts SCH_CYCLE, which wraps; an item of another class than FIR goes to the slot of the
choice; with nothing live nothing else changes. R221, R227, R229: the end of an item, of a DMA job or of its time limit frees
its slot; a time-out is counted and raised, and a job of length 0 or of an illegal entry moves nothing. -/
def Obligations.DispatcherChoice : Prop :=
  (∀ (s : State) (x : SchDesc), s.pick = some x →
     x ∈ s.sch.descs ∧ s.canGo x = true ∧ ∀ y ∈ s.sch.descs, s.canGo y = true → s.goBefore y x = false) ∧
  (∀ s : State, s.Inv → s.reach 0x300000 = true →
     (s.sch.descs = [] → Completes .dispatchCycle s fun t =>
       t.reg Reg.SCH_CYCLE = s.reg Reg.SCH_CYCLE + 1 ∧ RegsBut [Reg.SCH_CYCLE, Reg.SCH_STATUS, Reg.SCH_READY_PEAK] s t ∧
       t = { s with regs := t.regs, sch := { s.sch with cyc := s.sch.cyc + 1 } }) ∧
     (∀ (x : SchDesc) (k : Nat),
       let u : State := s.schTick
       u.pick = some x → u.dClass x.idx ≠ 3 → u.emptyItem x = false → u.slotFor x.idx (u.dArg x.idx + x.next) = some k →
       Completes .dispatchCycle s fun t => ∃ w : State, t = w.settle ∧
         ∃ task : SchTask, w.sch.run = s.sch.run ++ [task] ∧ task.slot = k ∧ task.desc = x.idx ∧ task.item = x.next ∧
           w.reg Reg.SCH_CYCLE = s.reg Reg.SCH_CYCLE + 1)) ∧
  (∀ (slot : BitVec 7) (task : SchTask) (s : State), s.Inv → s.reach 0x300000 = true →
     s.sch.run.find? (fun t => decide (t.slot = slot.toNat)) = some task →
     ((∃ st, task.fin = some st) ∨ 4 < slotClass slot.toNat ∨ slotClass slot.toNat = 0 → Completes (.itemComplete slot) s fun t =>
       t.sch.run = s.sch.run.filter fun x => decide (x.slot ≠ slot.toNat)) ∧
     (slotClass slot.toNat = 4 → task.fin = none → task.arg < 1024 →
       Completes (.dmaJobDone slot) s fun t =>
         t = (s.dmaGeneral task.job).1.slotEnd slot.toNat (s.dmaGeneral task.job).2 ∧
         ((dmaJob task.job).legal = false → t = s.slotEnd slot.toNat 5) ∧
         ((dmaJob task.job).legal = true → (dmaJob task.job).len = 0 → t = s.slotEnd slot.toNat 1)) ∧
     (task.fin = none → (4 < slotClass slot.toNat ∨ slotClass slot.toNat = 0) → Completes (.itemTimeout slot) s fun t =>
       t.sch.run = (s.sch.run.filter fun x => decide (x.slot ≠ slot.toNat)) ∧ t.bitR Reg.SCH_EVT 2 = true ∧
       t.bitR Reg.INT_DET0 17 = true ∧
       t.reg Reg.SCH_TIMEOUT_COUNT = w32 (satU 32 ((s.reg Reg.SCH_TIMEOUT_COUNT).toNat + 1))))

/-- R25, R181: writing the commit word of a mixer-table entry stores its bits and puts the entry's words in line for the next
block. R163: writing a meter's CLIP word, or CLR of MIX_MTR_CTL for every meter, clears CLIP and restarts the hold. R168,
R169: a configured bridge that no Trail slot has taken or takes locks with its ratio, while its pair is steady; a newly routed
slot takes its bridge channel from a port, at once or, while the bridge puts out samples, by a ramp first; one no longer
routed gives it back. -/
def Obligations.MixerAndBridges : Prop :=
  (∀ (ini : Initiator) (a : Nat) (v : Word) (r : MixRow) (s : State), s.Inv → Tracked s ini a → a % 4 = 0 → mixRow? a = some r →
     (a - r.lo) % r.size / 4 = r.commit → r.ro.contains r.commit = false → s.flawAt a = none →
     s.armedSram 12 (wordIdx 12 a) = none →
     Completes (.commitWordWrite ini a v) s fun t =>
       t.sw a = v &&& nth r.mask r.commit 0 ∧ (a, v &&& nth r.mask r.commit 0) ∈ t.mix.pend ∧ SramOutside a 4 s t ∧
         t.regs = s.regs ∧ t.dram = s.dram ∧ t.boot = s.boot ∧ t.gflash = s.gflash) ∧
  (∀ (ini : Initiator) (v : Word) (s : State), s.Inv → Store.wf (fun _ => ({} : MeterSt)) s.mix.meters = true →
     (∀ m : BitVec 11, Tracked s ini (meterAddr m.toNat + 4) → Completes (.meterClearWrite ini m v) s fun t =>
       fld (t.sw (meterAddr m.toNat + 4)) 0 16 = 0 ∧ t.meter m.toNat = { s.meter m.toNat with clr := true } ∧
       SramOutside (meterAddr m.toNat + 4) 4 s t ∧ t.dram = s.dram) ∧
     (Tracked s ini Reg.MIX_MTR_CTL → bitOf v 0 = true → Completes (.mixMtrClr ini v) s fun t =>
       (∀ m, m < 2048 → fld (t.sw (meterAddr m + 4)) 0 16 = 0) ∧ t.dram = s.dram) ∧
     (Tracked s ini Reg.MIX_MTR_CTL → bitOf v 0 = false → Completes (.mixMtrClr ini v) s fun t =>
       t.regs = s.regs ∧ SameMemories s t)) ∧
  (∀ (v : Word) (s : State), s.Inv →
     (∀ ch : BitVec 7, s.reach 0x700000 = true → s.bitR (Reg.MIX_BRG_STAT ch.toNat) 31 = true →
       s.bitR (Reg.MIX_BRG_STAT ch.toNat) 29 = false → s.bitR (Reg.MIX_BRG_STAT ch.toNat) 28 = false →
       (s.bridge ch.toNat).take = false → (∀ i, i < 52 → s.unsteady i = false) →
       Completes (.bridgeLock ch v) s fun t =>
         t.bitR (Reg.MIX_BRG_STAT ch.toNat) 29 = true ∧ t.reg (Reg.MIX_BRG_RATIO ch.toNat) = v ∧
         RegsBut [Reg.MIX_BRG_STAT ch.toNat, Reg.MIX_BRG_RATIO ch.toNat] s t ∧ SameMemories s t) ∧
     (s.pwr.good = true → Completes (.gntTslotEnWrite .gauntlet v) s fun t =>
       t.reg Reg.GNT_TSLOT_EN = v &&& 0xFFF ∧
       (∀ k, k < 12 → bitOf v k = true → s.bitR Reg.GNT_TSLOT_EN k = false → s.bitR (Reg.MIX_BRG_STAT (116 + k)) 31 = true →
         if (s.bridge (116 + k)).lock = true ∧ (s.running = true ∨ s.bitR (Reg.MIX_BRG_STAT (116 + k)) 30 = true) then
           t.bridge (116 + k) = { s.bridge (116 + k) with lock := false, down := true, ramp := 0, take := true }
         else t.bitR (Reg.MIX_BRG_STAT (116 + k)) 28 = true ∧ t.bitR (Reg.MIX_BRG_STAT (116 + k)) 29 = false) ∧
       (∀ k, k < 12 → bitOf v k = false → s.bitR Reg.GNT_TSLOT_EN k = true →
         t.bitR (Reg.MIX_BRG_STAT (116 + k)) 28 = false) ∧ SameMemories s t))

/-- R173, R178: a commit of a zone bus or of a feed entry from the Gauntlet stages its words for the zero crossing and leaves
the setting in force; R262, R263: from any other initiator the commit is dropped and counted. R173, R178: a switch of the
Trail puts the staged setting of its entry in force if the output of the setting in force is zero or has changed its sign, or
GNT_ZXTO samples have passed since the commit; otherwise it stays staged. A committed OVR change applies to its feed. Nothing
else changes, but that while no train runs the duck gains of the override stage move on to the instant; with nothing staged
nothing else changes either. -/
def Obligations.TrailChanges : Prop :=
  (∀ (v : Word) (s : State), s.Inv → s.pwr.good = true →
     (∀ z : BitVec 8, Completes (.zoneBusCommit .gauntlet z v) s fun t =>
       t.reg (Reg.GNT_ZB_ACT z.toNat) = v &&& 0xFF ∧ t.trail.zb = s.trail.zb ∧
       (z.toNat, ⟨v &&& 0xFF, s.reg (Reg.GNT_ZB_SRCLO z.toNat), s.reg (Reg.GNT_ZB_SRCHI z.toNat), s.reg (Reg.GNT_ZB_LEVEL z.toNat)⟩) ∈
         t.trail.zbPend ∧ RegsBut [Reg.GNT_ZB_ACT z.toNat] s t ∧ SameMemories s t) ∧
     (∀ f : BitVec 9, f.toNat < 384 → Completes (.feedEntryCommit .gauntlet f v) s fun t =>
       t.reg (Reg.GNT_TF_CTL f.toNat) = v &&& 0xFFFFFF3F ∧ t.trail.tf = s.trail.tf ∧ t.trail.ovr = s.trail.ovr ∧
       (f.toNat, ⟨s.reg (Reg.GNT_TF_ZONES f.toNat), fld v 0 4⟩) ∈ t.trail.tfPend ∧
       RegsBut [Reg.GNT_TF_CTL f.toNat] s t ∧ SameMemories s t) ∧
     (∀ (ini : Initiator) (z : BitVec 8) (f : BitVec 9), ini ≠ .gauntlet → s.admits ini = true →
       ∀ p ∈ [(Instr.zoneBusCommit ini z v, Reg.GNT_ZB_ACT z.toNat), (Instr.feedEntryCommit ini f v, Reg.GNT_TF_CTL f.toNat),
         (Instr.gntTslotEnWrite ini v, Reg.GNT_TSLOT_EN)], Completes p.1 s fun t =>
         t.reg Reg.GNT_DENY_COUNT = w32 (satU 32 ((s.reg Reg.GNT_DENY_COUNT).toNat + 1)) ∧
         t.reg Reg.GNT_DENY_ADDR = w32 p.2 ∧ OnlyRegsRec [Reg.GNT_DENY_COUNT, Reg.GNT_DENY_ADDR] s t)) ∧
  (∀ s : State, s.Inv →
     let due (y0 y1 : Int) (from_ : Option (Nat × Nat)) : Prop :=
       y0 = 0 ∨ y0 * y1 < 0 ∨ s.fldR Reg.GNT_ZXTO 0 8 ≤ s.sai.gk - (from_.map (·.2)).getD s.sai.gk
     let feed (i : Nat) : Prop := due (trailOut ((s.tf i).sel s.zb) (s.gsrcAt 0))
       (trailOut ((s.tf i).sel fun z => s.zbAt z s.gPrev) (s.gsrcAt 1)) (s.trail.tfFrom.find? fun p => decide (p.1 = i))
     let bus (i : Nat) : Prop := due (trailOut (s.zb i).out (s.gsrcAt 0)) (trailOut (s.zb i).out (s.gsrcAt 1))
       (s.trail.zbFrom.find? fun p => decide (p.1 = i))
     (∀ (i : BitVec 9) (p : Nat × FeedZones), feed i.toNat → Store.wf (fun _ => ({} : FeedZones)) s.trail.tf = true →
       s.trail.tfPend.find? (fun p => decide (p.1 = i.toNat)) = some p → Completes (.trailSwitch true i) s fun t =>
         t.tf i.toNat = p.2 ∧ (∀ x ∈ t.trail.tfPend, x.1 ≠ i.toNat) ∧ (∀ j, j ≠ i.toNat → t.tf j = s.tf j) ∧
         t = { s with trail := t.trail } ∧ t.trail.zb = s.trail.zb ∧ (s.running = true → t.trail.ovr = s.trail.ovr)) ∧
     (∀ (i : BitVec 9) (p : Nat × BusWords), bus i.toNat → Store.wf (fun _ => ({} : BusWords)) s.trail.zb = true →
       s.trail.zbPend.find? (fun p => decide (p.1 = i.toNat)) = some p → Completes (.trailSwitch false i) s fun t =>
         t.zb i.toNat = p.2 ∧ (∀ x ∈ t.trail.zbPend, x.1 ≠ i.toNat) ∧ (∀ j, j ≠ i.toNat → t.zb j = s.zb j) ∧
         t = { s with trail := t.trail } ∧ t.trail.tf = s.trail.tf ∧ (s.running = true → t.trail.ovr = s.trail.ovr)) ∧
     let kept (t : State) : Prop := t = { s with trail := { s.trail with ovr := t.trail.ovr } } ∧ (s.running = true → t = s)
     (∀ i : BitVec 9, ((¬ feed i.toNat ∨ ∀ p ∈ s.trail.tfPend, p.1 ≠ i.toNat) → Completes (.trailSwitch true i) s kept) ∧
       ((¬ bus i.toNat ∨ ∀ p ∈ s.trail.zbPend, p.1 ≠ i.toNat) → Completes (.trailSwitch false i) s kept)) ∧
     (∀ (f : BitVec 9) (p : Nat × Nat × Int × Nat), Store.wf (fun _ => ({} : OvrSt)) s.trail.ovr = true →
       s.trail.ovrPend.find? (fun p => decide (p.1 = f.toNat)) = some p → Completes (.ovrApply f) s fun t =>
         t.ovrSt f.toNat = (s.ovrSt f.toNat).apply p.2.1 p.2.2.1 ∧ t.trail.ovrPend = s.trail.ovrPend.erase p ∧
         (∀ j, j ≠ f.toNat → t.ovrSt j = s.ovrSt j) ∧ t = { s with trail := t.trail }) ∧
     (∀ f : BitVec 9, s.trail.ovrPend.find? (fun p => decide (p.1 = f.toNat)) = none → Completes (.ovrApply f) s (· = s)))

/-- R194, R197, R198: with no accumulator leaving 72 bits, an arithmetic MAC slot gives every accumulator of MASK its exact
result and retires the instruction: the PC moves on by one and nothing outside the core changes. MAC_NOP only retires. R198,
R207: an accumulation on A0 that leaves 72 bits clamps under S and wraps otherwise; either way SCR_CORE_GOV and SCR_GOV show
it; a clamped accumulator keeps its value. R199: EXT writes the rounded, shifted accumulators of MASK to their X registers,
saturated or wrapped, and leaves the accumulators and every other X register. -/
def Obligations.MacSlot : Prop :=
  (∀ (c : BitVec 5) (f st : Bool) (xa : BitVec 4) (q : BitVec 2) (mask : BitVec 4) (k : CoreTask) (s : State), s.Inv →
     CoreReady s c.toNat k →
     let r := (s.core c.toNat).r
     let fits (g : Nat → Int) : Prop := ∀ i, mask.toNat.testBit i = true → -(2 ^ 71) ≤ g i ∧ g i < 2 ^ 71
     (Completes (.macNop c) s fun t => (t.core c.toNat).r = { r with pc := r.pc + 1 } ∧ OnlyCore c.toNat s t) ∧
     let gives (g : Nat → Int) (t : State) : Prop := (t.core c.toNat).r = r.accAll mask g ∧ OnlyCore c.toNat s t
     let prod (i : Nat) : Int := r.macY f xa i * r.macX q i
     let high (i : Nat) : Int := r.macX q i * 2 ^ 32
     let acc (i : Nat) : Int := nth r.a i 0
     (macLegal f xa = true →
       (fits (fun i => acc i + prod i) → Completes (.macAcc c f st xa q mask) s (gives fun i => acc i + prod i)) ∧
       (fits (fun i => acc i - prod i) → Completes (.msu c f st xa q mask) s (gives fun i => acc i - prod i)) ∧
       (fits prod → Completes (.mpy c f st xa q mask) s (gives prod))) ∧
     (fits (fun i => acc i + high i) → Completes (.addx c f st xa q mask) s (gives fun i => acc i + high i)) ∧
     (fits (fun i => acc i - high i) → Completes (.subx c f st xa q mask) s (gives fun i => acc i - high i)) ∧
     (fits high → Completes (.ldx c f st xa q mask) s (gives high)) ∧
     Completes (.aclr c f st xa q mask) s (gives fun _ => 0)) ∧
  (∀ (c : BitVec 5) (st : Bool) (q : BitVec 2) (k : CoreTask) (s : State), s.Inv → Store.wf (fun _ => ({} : CoreSt)) s.cores = true →
     s.coreRuns c.toNat = true → (s.core c.toNat).task = some k → (s.core c.toNat).start = none → (s.core c.toNat).r.pc < 2048 →
     (s.core c.toNat).r.loops = [] → (s.core c.toNat).r.a.length = 4 → (s.core c.toNat).r.cl.length = 4 → k.cyc + 1 < s.taskMax k →
     let r := (s.core c.toNat).r
     let z := nth r.a 0 0 + r.macX q 0 * 2 ^ 32
     (nth r.cl 0 false = false → (z < -(2 ^ 71) ∨ 2 ^ 71 ≤ z) → Completes (.addx c false st 0 q 1) s fun t =>
       nth (t.core c.toNat).r.a 0 0 = (if st then satN 72 z else sext 72 (toBits 72 z)) ∧
       nth (t.core c.toNat).r.cl 0 false = st ∧ t.bitR (Reg.SCR_CORE_GOV c.toNat) 0 = true ∧ t.bitR Reg.SCR_GOV c.toNat = true) ∧
     (nth r.cl 0 false = true → Completes (.addx c false st 0 q 1) s fun t =>
       nth (t.core c.toNat).r.a 0 0 = nth r.a 0 0 ∧ nth (t.core c.toNat).r.cl 0 false = true ∧ OnlyCore c.toNat s t)) ∧
  (∀ (c : BitVec 5) (st : Bool) (sh : BitVec 5) (rnd q : BitVec 2) (mask : BitVec 4) (k : CoreTask) (s : State), s.Inv →
     CoreReady s c.toNat k → (s.core c.toNat).r.x.length = 16 → extLegal sh rnd = true →
     let r := (s.core c.toNat).r
     let v (i : Nat) : Int := extRound rnd.toNat (nth r.a i 0) (32 - sh.toInt).toNat
     Completes (.extract c st sh rnd q mask) s fun t =>
       (∀ i, mask.toNat.testBit i = true → (t.core c.toNat).r.xr (4 * q.toNat + i) = i32 (if st then satN 32 (v i) else v i)) ∧
       (∀ j, j < 16 → (j / 4 ≠ q.toNat ∨ mask.toNat.testBit (j % 4) = false) → (t.core c.toNat).r.xr j = r.xr j) ∧
       (t.core c.toNat).r.a = r.a ∧ (t.core c.toNat).r.pc = r.pc + 1 ∧ OnlyCore c.toNat s t)

/-- R200, R202: the data operations of the ALU slot: those with S saturate or wrap, the others give their 32-bit result; CMP
sets the flags by the exact comparison; ALU_NOP has no effect of its own. R200, R201: the control operations: a loop is
entered with its body and count, a count of 0 skips the body, a loop to its own address or below is illegal, a branch that is
taken sets the target of the instruction, and NODE and END mark it. -/
def Obligations.AluSlot : Prop :=
  (∀ (c : BitVec 5) (st : Bool) (d sa sb : BitVec 4) (k : CoreTask) (s : State), s.Inv → CoreReady s c.toNat k →
     let r := (s.core c.toNat).r
     let a := r.xr sa.toNat
     let b := r.xr sb.toNat
     let put (v : Word) (t : State) : Prop := SlotGives c.toNat r (r.setX d.toNat v) s t
     let exact (v : Int) : Word := i32 (if st then satN 32 v else v)
     Completes (.addW c st d sa sb) s (put (exact (a.toInt + b.toInt))) ∧
     Completes (.subW c st d sa sb) s (put (exact (a.toInt - b.toInt))) ∧
     Completes (.addi c st d sa sb) s (put (exact (a.toInt + sb.toInt))) ∧
     Completes (.shl c st d sa sb) s (put (exact (a.toInt * (2 ^ (b.toNat % 32) : Nat)))) ∧
     Completes (.absW c st d sa sb) s (put (exact (a.toInt.natAbs))) ∧
     Completes (.negW c st d sa sb) s (put (exact (-a.toInt))) ∧
     Completes (.andW c st d sa sb) s (put (a &&& b)) ∧
     Completes (.orW c st d sa sb) s (put (a ||| b)) ∧
     Completes (.xorW c st d sa sb) s (put (a ^^^ b)) ∧
     Completes (.shra c st d sa sb) s (put (a.sshiftRight (b.toNat % 32))) ∧
     Completes (.shrl c st d sa sb) s (put (a >>> (b.toNat % 32))) ∧
     Completes (.minW c st d sa sb) s (put (if a.toInt ≤ b.toInt then a else b)) ∧
     Completes (.maxW c st d sa sb) s (put (if a.toInt ≤ b.toInt then b else a)) ∧
     Completes (.movW c st d sa sb) s (put (a)) ∧
     (Completes (.cmpW c st d sa sb) s fun t =>
       SlotGives c.toNat r { r with z := decide (a = b), n := decide (a.toInt < b.toInt) } s t) ∧
     (Completes (.aluNop c) s fun t => SlotGives c.toNat r r s t) ∧
     (∀ am, Completes (.amNop c am) s fun t => SlotGives c.toNat r r s t)) ∧
  (∀ (c : BitVec 5) (T : BitVec 11) (k : CoreTask) (s : State), s.Inv → CoreReady s c.toNat k →
     let r := (s.core c.toNat).r
     (r.pc < T.toNat → 0 < s.blk.b → Completes (.loopb c T) s fun t =>
       SlotGives c.toNat r { r with loops := [⟨r.pc + 1, T.toNat, s.blk.b⟩] } s t) ∧
     (r.pc < T.toNat → 0 < fld (r.xr 15) 0 16 → Completes (.loopr c T) s fun t =>
       SlotGives c.toNat r { r with loops := [⟨r.pc + 1, T.toNat, fld (r.xr 15) 0 16⟩] } s t) ∧
     (r.pc < T.toNat → fld (r.xr 15) 0 16 = 0 → Completes (.loopr c T) s fun t =>
       SlotGives c.toNat r { r with pc := T.toNat + 1 } s t ∧ (t.core c.toNat).skip = true) ∧
     (T.toNat ≤ r.pc → ∀ i ∈ [Instr.loopb c T, Instr.loopr c T], Completes i s fun t =>
       (t.core c.toNat).illegal = true ∧ (t.core c.toNat).r = r ∧ OnlyCore c.toNat s t) ∧
     (let goes (take : Bool) (t : State) : Prop :=
         SlotGives c.toNat r r s t ∧ (t.core c.toNat).target = if take then some T.toNat else none
      Completes (.br c T) s (goes true) ∧ Completes (.brz c T) s (goes r.z) ∧ Completes (.brnz c T) s (goes (!r.z)) ∧
      Completes (.brn c T) s (goes r.n)) ∧
     (Completes (.nodeMark c T) s fun t => SlotGives c.toNat r r s t ∧ (t.core c.toNat).node = some T.toNat) ∧
     (Completes (.endTask c T) s fun t => SlotGives c.toNat r r s t ∧ (t.core c.toNat).ended = true))

/-- R203, R204: loads, stores and moves of an address slot: an access at Pj, then, with M and linear addressing, Pj moves on
by Kj; a store waits for the end of the instruction (R206). R204: post-modification of a pointer inside a circular buffer by
no more than its length stays inside, congruent to the plain sum; one that a single wrap does not bring inside forces the
base. -/
def Obligations.AddressSlot : Prop :=
  (∀ (c : BitVec 5) (am m : Bool) (x : BitVec 4) (j sel : BitVec 3) (imm : BitVec 6) (k : CoreTask) (s : State), s.Inv →
     CoreReady s c.toNat k →
     let r := (s.core c.toNat).r
     let a := coreData c.toNat (nth r.p j.toNat 0)
     let v := r.xr x.toNat
     let post (r' : CoreRegs) : CoreRegs :=
       if m then { r' with p := putNth r'.p j.toNat ((((nth r.p j.toNat 0 : Nat) : Int) + sext 16 (nth r.k j.toNat 0)) % 16384).toNat } else r'
     (nth r.l j.toNat 0 = 0 →
       (s.flawAt a = none →
         (Completes (.ldw c am x j m) s fun t => SlotGives c.toNat r (post (r.setX x.toNat (s.sw a))) s t) ∧
         (Completes (.ldh c am x j m) s fun t => SlotGives c.toNat r (post (r.setX x.toNat (s.sw a <<< 8))) s t)) ∧
       (Completes (.stw c am x j m) s fun t => SlotGives c.toNat r (post r) s t ∧
         (t.core c.toNat).stores = [(nth r.p j.toNat 0 % 16384, v)]) ∧
       (Completes (.sth c am x j m) s fun t => SlotGives c.toNat r (post r) s t ∧
         (t.core c.toNat).stores = [(nth r.p j.toNat 0 % 16384, v.sshiftRight 8)])) ∧
     (∀ p ∈ [(0, { r with p := putNth r.p j.toNat (v.toNat % 2 ^ 14) }), (1, { r with k := putNth r.k j.toNat (v.toNat % 2 ^ 16) }),
         (2, { r with b := putNth r.b j.toNat (v.toNat % 2 ^ 14) }),
         (3, { r with l := putNth r.l j.toNat (min (v.toNat % 2 ^ 15) 16384) }),
         (4, r.setX x.toNat (w32 (nth r.p j.toNat 0))), (5, r.setX x.toNat (i32 (sext 16 (nth r.k j.toNat 0)))),
         (6, r.setX x.toNat (w32 (nth r.b j.toNat 0))), (7, r.setX x.toNat (w32 (nth r.l j.toNat 0)))],
       sel.toNat = p.1 → Completes (.mvr c am x j sel) s fun t => SlotGives c.toNat r p.2 s t) ∧
     (Completes (.lim c am x imm) s fun t => SlotGives c.toNat r (r.setX x.toNat (imm.signExtend 32)) s t)) ∧
  (∀ (r : CoreRegs) (j : Nat),
     let p := nth r.p j 0
     let b := nth r.b j 0
     let l := nth r.l j 0
     let k := sext 16 (nth r.k j 0)
     0 < l → b + l ≤ 16384 →
       (b ≤ p → p < b + l → -(l : Int) ≤ k → k ≤ l → ∃ q, postMod r j = (q, none) ∧ b ≤ q ∧ q < b + l ∧ (l : Int) ∣ q - (p + k)) ∧
       ((p : Int) + k - l ≥ b + l → ∃ u, postMod r j = (b, some u)))

/-- R189 to R191, R209, R229: a task that the dispatcher gave a core starts with the registers of R190; a task at its limit
and an illegal instruction end it, counted. R206: a store that waits reaches the core's data memory when the instruction
retires, and no other byte. -/
def Obligations.CoreTasks : Prop :=
  (∀ (c : BitVec 5) (s : State), s.Inv → Store.wf (fun _ => ({} : CoreSt)) s.cores = true → s.reach 0x600000 = true →
     (∀ t0 : SchTask, (s.core c.toNat).task = none → s.halted c.toNat = false →
       s.sch.run.find? (fun t => decide (t.slot = 2 + c.toNat) && t.fin.isNone) = some t0 →
       (s.graphOf (s.progOf t0.blk)).isSome = true →
       Completes (.coreTaskStart c none) s fun t =>
         let g := s.taskGraph (s.progOf t0.blk)
         let o := segOff g t0.arg
         (t.core c.toNat).r = taskRegs s.blk.b (leAt g (o + 4) 2) (leAt g (o + 2) 2 % 2048) ∧
           (t.core c.toNat).task = some { seg := t0.arg, blk := t0.blk, age := s.progOf t0.blk } ∧
           t.bitR (Reg.SCR_CORE_STAT c.toNat) 9 = true ∧ (∀ d, d ≠ c.toNat → t.core d = s.core d) ∧ t.dram = s.dram) ∧
     (∀ k : CoreTask, (s.core c.toNat).task = some k → Completes (.coreTaskTimeout c) s fun t =>
       (t.core c.toNat).task = none ∧ t.bitR Reg.SCH_EVT 2 = true ∧ t.bitR Reg.INT_DET0 17 = true ∧
         t.reg Reg.SCH_TIMEOUT_COUNT = w32 (satU 32 ((s.reg Reg.SCH_TIMEOUT_COUNT).toNat + 1))) ∧
     (∀ w : BitVec 64, s.coreRuns c.toNat = true → s.wordIllegal c w = true → Completes (.illegalInstruction c w) s fun t =>
       (t.core c.toNat).task = none ∧ t.bitR Reg.SCR_EVT 2 = true ∧
         t.reg Reg.SCR_ILLEGAL_COUNT = w32 (satU 32 ((s.reg Reg.SCR_ILLEGAL_COUNT).toNat + 1))) ∧
     (∀ w : BitVec 64, s.wordIllegal c w = false → Completes (.illegalInstruction c w) s (· = s))) ∧
  (∀ (c : BitVec 5) (k : CoreTask) (r0 : CoreRegs) (w : Nat) (v : Word) (s : State), s.Inv →
     Store.wf (fun _ => ({} : CoreSt)) s.cores = true → s.coreRuns c.toNat = true → (s.core c.toNat).task = some k →
     s.core c.toNat = { (s.core c.toNat) with start := some r0, stores := [(w, v)], illegal := false, gov := 0, addr := [],
                                              target := none, skip := false, node := none, ended := false } →
     k.cyc + 1 < s.taskMax k → s.armedSram 4 (wordIdx 4 (coreData c.toNat w)) = none →
     Completes (.macNop c) s fun t =>
       t.sw (coreData c.toNat w) = v ∧ SramOutside (coreData c.toNat w) 4 s t ∧ (t.core c.toNat).start = none ∧
         (∀ d, d ≠ c.toNat → t.core d = s.core d) ∧ t.regs = s.regs ∧ t.dram = s.dram)

/-- R248, R249, R251: a write of CFG_LOAD_GO starts a load from the source named, with the shadow set empty and no swap armed;
it is refused while a load runs or with SRC 3, changing LOAD_ERR and LOAD_FAIL only; with SRC 0 and a directory or an entry
that is not valid it fails at once, which leaves the active set and the memories as they are. R142: when the loader reaches
the COEF section, COEF_PEND sets and waiting fades are discarded; a load in which it has not been reached, or has been before,
is left as it is. R251: a load whose checks all pass leaves the shadow set VALID with the image's identity in CFG_SHADOW_ID;
one that fails leaves it INVALID, counted and raised, cancels an armed swap and touches neither the active set nor the mode
nor what the device sends. -/
def Obligations.ImageLoads : Prop :=
  (∀ (ini : Initiator) (s : State), s.Inv → Reaches s ini Reg.CFG_LOAD_GO →
     let src := s.fldR Reg.CFG_LOAD_CTL 0 2
     (s.shadowSt = 2 ∨ src = 3 → Completes (.cfgLoadGo ini) s fun t =>
       t.fldR Reg.CFG_STATUS 16 4 = 15 ∧ t.shadowSt = s.shadowSt ∧ t.bitR Reg.CFG_EVT 1 = true ∧ OnlyRegs [Reg.CFG_STATUS, Reg.CFG_EVT] s t) ∧
     let entry := s.fldR Reg.CFG_LOAD_CTL 4 2
     let found := dirOk (s.bootBytes 0 64) && dirValid (s.bootBytes 0 64) entry
     (s.shadowSt ≠ 2 → (src = 1 ∨ src = 2 ∨ src = 0 ∧ found = true) → Completes (.cfgLoadGo ini) s fun t =>
       t.shadowSt = 2 ∧ t.armed = false ∧ t.bitR Reg.FIR_STATUS 24 = false ∧ t.cfg.shadow = [] ∧ t.reg Reg.CFG_LOAD_DONE = 0 ∧
       t.cfg.loading = some (src, if src = 0 then entry else (s.reg Reg.CFG_LOAD_ADDR).toNat * 64) ∧ t.cfg.active = s.cfg.active ∧
       RegsBut [Reg.CFG_STATUS, Reg.FIR_STATUS, Reg.CFG_LOAD_DONE] s t ∧ SameMemories s t) ∧
     (s.shadowSt ≠ 2 → src = 0 → found = false → Completes (.cfgLoadGo ini) s fun t =>
       t.shadowSt = 4 ∧ t.fldR Reg.CFG_STATUS 16 4 = 12 ∧ t.fldR Reg.CFG_STATUS 8 8 = 0 ∧ t.reg Reg.CFG_ERR_OFFSET = 0 ∧
       t.reg Reg.CFG_LOAD_FAIL = w32 (satU 32 ((s.reg Reg.CFG_LOAD_FAIL).toNat + 1)) ∧ t.bitR Reg.INT_DET0 24 = true ∧
       t.cfg.loading = none ∧ t.cfg.active = s.cfg.active ∧ SameMemories s t)) ∧
  (∀ s : State, s.Inv → s.reach Reg.CFG_STATUS = true →
     (∀ p : List Byte, s.shadowSt = 2 → s.cfg.coefDone = false → s.coefReached none = some p → Completes .coefPendSet s fun t =>
       t.bitR Reg.FIR_STATUS 24 = true ∧ t.fir.waits = [] ∧ t.cfg.coefDone = true ∧ t.cfg.active = s.cfg.active ∧
         t.cfg.loading = s.cfg.loading ∧ t.dram = s.dram ∧ t.boot = s.boot ∧ t.gflash = s.gflash) ∧
     ((s.shadowSt ≠ 2 ∨ s.cfg.coefDone = true ∨ s.coefReached none = none) → Completes .coefPendSet s (· = s))) ∧
  (∀ s : State, s.Inv → s.reach Reg.CFG_STATUS = true → s.loadMay = true →
     ((s.loadEnd none).2 = some true → Completes .loadSuccess s fun t =>
       t.shadowSt = 3 ∧ t.bitR Reg.CFG_EVT 0 = true ∧ t.reg Reg.CFG_SHADOW_ID = w32 (leAt s.loadSource.1 16 4) ∧ t.cfg.loading = none ∧
       t.cfg.active = s.cfg.active ∧ t.out = s.out) ∧
     (∀ e, (s.loadEnd e).2 = some false → Completes (.loadFail e) s fun t =>
       t.shadowSt = 4 ∧ t.bitR Reg.CFG_EVT 1 = true ∧ t.bitR Reg.INT_DET0 24 = true ∧ t.armed = false ∧ t.cfg.loading = none ∧
         t.reg Reg.CFG_LOAD_FAIL = w32 (satU 32 ((s.reg Reg.CFG_LOAD_FAIL).toNat + 1)) ∧ t.cfg.shadow = [] ∧ t.cfg.active = s.cfg.active ∧ t.pmode = s.pmode ∧ t.out = s.out ∧
         t.dram = s.dram ∧ t.boot = s.boot ∧ t.gflash = s.gflash))

/-- R253 to R255, R301: SWAP arms a swap while the shadow set is LOADING or VALID, has no further effect while one is armed,
and is refused with NOT_VALID otherwise; FORCE acts on an armed swap only; a standby that follows its partner's record ignores
both. SWAP_DEFERRED shows whether the swap waits for a fade. R256: a pass of the periodic check shows in CHECK_RUN, while the
active set is VALID and the period is not 0; one that finds a section whose stored bytes cannot be read or fail their CRC, or
meets a fault in the devices (operand, log entry 41), is counted, raised as detector 0x18 and sets the active set to NONE,
which in a rendering mode is the fault of R57; with the DRAM in service and no stored error a pass that finds none changes
nothing else. -/
def Obligations.SwapAndCheck : Prop :=
  (∀ (ini : Initiator) (s : State), s.Inv → Reaches s ini Reg.CFG_SWAP →
     let shown (u : State) (b : Bool) : State := u.setBit Reg.CFG_STATUS 5 b
     let waits := decide (s.swapJudge s.blk.n = SwapAct.defer)
     let forced : State := { s with cfg := { s.cfg with force := true } }
     (s.pmode = 9 → s.syncOf ≠ 0 →
       (∀ force, Completes (.cfgSwapArm ini force) s (· = s)) ∧ Completes (.cfgSwapForce ini) s (· = s)) ∧
     ((s.pmode = 9 → s.syncOf = 0) →
       (∀ force, s.armed = false → (s.shadowSt = 2 ∨ s.shadowSt = 3) → Completes (.cfgSwapArm ini force) s fun t =>
         let u : State := (if force then forced else s).setBit Reg.CFG_STATUS 4 true
         t = shown u (decide (u.swapJudge s.blk.n = SwapAct.defer)) ∧ t.armed = true) ∧
       (∀ force, s.armed = false → s.shadowSt ≠ 2 → s.shadowSt ≠ 3 → Completes (.cfgSwapArm ini force) s fun t =>
         t.armed = false ∧ t.fldR Reg.CFG_STATUS 24 4 = 1 ∧ t.bitR Reg.CFG_EVT 3 = true ∧
         Recorded 0x13 0x40 ([3] ++ leBytes 4 (s.reg Reg.CFG_SHADOW_ID).toNat ++ leBytes 6 0 ++ [1]) s t ∧
         OnlyRegsRec [Reg.CFG_STATUS, Reg.CFG_EVT] s t) ∧
       (s.armed = true → Completes (.cfgSwapArm ini false) s (· = shown s waits) ∧
         Completes (.cfgSwapArm ini true) s (· = shown forced waits) ∧ Completes (.cfgSwapForce ini) s (· = shown forced waits)) ∧
       (s.armed = false → Completes (.cfgSwapForce ini) s (· = shown s false)))) ∧
  (∀ s : State, s.Inv → s.reach Reg.CFG_STATUS = true →
     let found := (s.setBit Reg.CFG_STATUS 6 false).checkPass.2
     (s.activeOk = true → s.fldR Reg.CFG_CHECK_PERIOD 0 16 ≠ 0 → Completes .periodicCheckStart s fun t =>
       t.bitR Reg.CFG_STATUS 6 = true ∧ OnlyRegs [Reg.CFG_STATUS] s t) ∧
     ((s.activeOk = false ∨ s.fldR Reg.CFG_CHECK_PERIOD 0 16 = 0) → Completes .periodicCheckStart s (· = s)) ∧
     (s.bitR Reg.CFG_STATUS 6 = true → s.activeOk = true → found = none → Completes (.periodicCheckDone none) s fun t =>
       t.bitR Reg.CFG_STATUS 6 = false ∧ t.activeOk = true ∧ t.reg Reg.CFG_CHECK_FAIL = s.reg Reg.CFG_CHECK_FAIL ∧
       (DramPlain s → OnlyRegs [Reg.CFG_STATUS] s t)) ∧
     (∀ bad, s.bitR Reg.CFG_STATUS 6 = true → s.activeOk = false → Completes (.periodicCheckDone bad) s fun t =>
       t.bitR Reg.CFG_STATUS 6 = false ∧ OnlyRegs [Reg.CFG_STATUS] s t) ∧
     (∀ bad, s.bitR Reg.CFG_STATUS 6 = true → s.activeOk = true → (found ≠ none ∨ bad ≠ none) →
       Completes (.periodicCheckDone bad) s fun t =>
         t.bitR Reg.CFG_STATUS 6 = false ∧ t.activeOk = false ∧ t.bitR Reg.CFG_EVT 4 = true ∧ t.bitR Reg.INT_DET0 24 = true ∧
         t.reg Reg.CFG_CHECK_FAIL = w32 (satU 32 ((s.reg Reg.CFG_CHECK_FAIL).toNat + 1)) ∧
         (DramPlain s → renders s.pmode = false → s.running = false → t.cfg.active = [] ∧ SameMemories s t) ∧
         (DramPlain s → renders s.pmode = true → s.isDuty = false → s.twin.yield = none → s.mode.fault = none →
           t.mode.fault = some 0x18)) ∧
     (∀ bad, s.bitR Reg.CFG_STATUS 6 = false → Completes (.periodicCheckDone bad) s (· = s)))

/-- R257, R259, R286: in MAINTAIN with CONFIRM 0xA5, while no fuse operation runs, PROGRAM of a blank slot and REVOKE of a
programmed slot that is not the last unrevoked one start a fuse operation; every other PROGRAM or REVOKE is refused with
FUSE_REFUSED; the end of an operation changes its slot alone, of the application or of the Gauntlet, and is recorded with its
kind and slot. -/
def Obligations.KeySlots : Prop :=
  ∀ (ini : Initiator) (slot : BitVec 2) (confirm : BitVec 8) (s : State), s.Inv →
    let k := nth s.fuse.app slot.toNat {}
    let may := s.pmode = 10 ∧ confirm = 0xA5 ∧ s.fuse.busy = none
    let blank := k.hash = none
    let spare := k.hash.isSome = true ∧ (k.revoked = true ∨ 1 < (s.fuse.app.filter fun x => x.hash.isSome && !x.revoked).length)
    let refused (t : State) : Prop := t.bitR Reg.CFG_EVT 6 = true ∧ OnlyRegs [Reg.CFG_EVT] s t
    (Reaches s ini Reg.CFG_FUSE_CTL →
      (may → blank → Completes (.cfgFuseProgram ini slot confirm) s fun t =>
        t = { s with fuse := { s.fuse with busy := some (.app slot.toNat (some (BitVec.ofNat 256 (leNat ((List.range 8).flatMap
          fun i => leBytes 4 (s.reg (Reg.CFG_FUSE_HASH i)).toNat))))) } }) ∧
      (¬ (may ∧ blank) → Completes (.cfgFuseProgram ini slot confirm) s refused) ∧
      (may → spare → Completes (.cfgFuseRevoke ini slot confirm) s fun t =>
        t = { s with fuse := { s.fuse with busy := some (.app slot.toNat none) } }) ∧
      (¬ (may ∧ spare) → Completes (.cfgFuseRevoke ini slot confirm) s refused)) ∧
    (∀ (n : Nat) (h : Option (BitVec 256)),
      let noted (t : State) : Prop := t.fuse.busy = none ∧
        Recorded 0x13 0x40 ([if h.isSome then 4 else 5] ++ List.replicate 10 0 ++ [b8 n]) s t ∧ RegsButRec [] s t ∧ SameMemories s t
      (n < s.fuse.app.length → s.fuse.busy = some (.app n h) → Completes .fuseDone s fun t =>
        noted t ∧ nth t.fuse.app n {} = (nth s.fuse.app n {}).after h ∧ (∀ j, j ≠ n → nth t.fuse.app j {} = nth s.fuse.app j {}) ∧
        t.fuse.gnt = s.fuse.gnt) ∧
      (n < s.fuse.gnt.length → s.fuse.busy = some (.gnt n h) → Completes .fuseDone s fun t =>
        noted t ∧ nth t.fuse.gnt n {} = (nth s.fuse.gnt n {}).after h ∧ (∀ j, j ≠ n → nth t.fuse.gnt j {} = nth s.fuse.gnt j {}) ∧
        t.fuse.app = s.fuse.app)) ∧
    (s.fuse.busy = none → Completes .fuseDone s (· = s))

/-- R445, R446: in MAINTAIN an injection raises its detector once, with its bit, its event bit and its counter; outside
MAINTAIN it is refused and counted. R447, R510: an SRAM or DRAM injection whose target is admitted arms in MAINTAIN; a target
that the rule shuts out, and any injection outside MAINTAIN, is refused. -/
def Obligations.Injection : Prop :=
  (∀ (ini : Initiator) (s : State), s.Inv → s.admits ini = true → s.appOn = true →
     (s.pmode = 10 →
       Completes (.intInjXaLoss ini) s (Raised Reg.INT_DET0 0x05 Reg.CLK_EVT 0 [] [Reg.CLK_FB_COUNT] s) ∧
       Completes (.intInjXbLoss ini) s (Raised Reg.INT_DET0 0x06 Reg.CLK_EVT 0 [] [Reg.CLK_FB_COUNT] s) ∧
       Completes (.intInjRootUnlock ini) s (Raised Reg.INT_DET0 0x07 Reg.CLK_EVT 1 [] [] s) ∧
       Completes (.intInjFoscRange ini) s (Raised Reg.INT_DET0 0x08 Reg.CLK_EVT 2 [] [] s) ∧
       Completes (.intInjSaiClkLoss ini) s (Raised Reg.INT_DET0 0x09 Reg.SAI_EVT 0 [] [Reg.SAI_LOST_COUNT] s) ∧
       Completes (.intInjSaiFrame ini) s (Raised Reg.INT_DET0 0x0A Reg.SAI_EVT 1 [] [Reg.SAI_FS_ERR_COUNT] s) ∧
       Completes (.intInjNonAudio ini) s (Raised Reg.INT_DET0 0x0B Reg.SAI_EVT 4 [] [Reg.SAI_NONAUDIO_COUNT] s) ∧
       Completes (.intInjRndLate ini) s (Raised Reg.INT_DET0 0x0C Reg.RND_BLK_STATUS 3 [] [Reg.RND_LATE] s) ∧
       Completes (.intInjCoreGov ini) s (Raised Reg.INT_DET0 0x0D Reg.SCR_EVT 0 [] [Reg.SCR_GOV_COUNT] s) ∧
       Completes (.intInjFirGov ini) s (Raised Reg.INT_DET0 0x0E Reg.FIR_EVT 0 [] [Reg.FIR_GOV_COUNT] s) ∧
       Completes (.intInjCircAddr ini) s (Raised Reg.INT_DET0 0x0F Reg.SCR_EVT 1 [] [Reg.SCR_ADDR_ERR_COUNT] s) ∧
       Completes (.intInjSchQfull ini) s (Raised Reg.INT_DET0 0x10 Reg.SCH_EVT 0 [] [Reg.SCH_QFULL_COUNT] s) ∧
       Completes (.intInjTaskTimeout ini) s (Raised Reg.INT_DET0 0x11 Reg.SCH_EVT 2 [] [Reg.SCH_TIMEOUT_COUNT] s) ∧
       Completes (.intInjBvlRetry ini) s (Raised Reg.INT_DET0 0x14 Reg.BVL_EVT 1 [] [] s) ∧
       Completes (.intInjBvlDown ini) s (Raised Reg.INT_DET0 0x15 Reg.BVL_EVT 0 [] [] s) ∧
       Completes (.intInjTwinHb ini) s (Raised Reg.INT_DET0 0x16 Reg.TWN_EVT 4 [] [Reg.TWN_HB_LOST] s) ∧
       Completes (.intInjTwinRec ini) s (Raised Reg.INT_DET0 0x17 Reg.TWN_EVT 5 [] [Reg.TWN_REC_BAD] s) ∧
       Completes (.intInjImageCheck ini) s (Raised Reg.INT_DET0 0x18 Reg.CFG_EVT 4 [] [Reg.CFG_CHECK_FAIL] s) ∧
       Completes (.intInjRecWrite ini) s (Raised Reg.INT_DET0 0x1C Reg.REC_EVT 2 [] [] s) ∧
       Completes (.intInjOverTemp ini) s (Raised Reg.INT_DET0 0x1F Reg.PWR_EVT 4 [] [] s) ∧
       Completes (.intInjSupply ini) s (Raised Reg.INT_DET1 0 Reg.PWR_EVT 3 [] [Reg.PWR_SUPPLY_EVENTS] s) ∧
       Completes (.intInjRefreshDebt ini) s (Raised Reg.INT_DET1 1 Reg.DRC_EVT 2 [] [Reg.DRC_STALLS] s) ∧
       Completes (.intInjFarClamp ini) s (Raised Reg.INT_DET1 2 Reg.RND_EVT 1 [] [Reg.RND_CLAMP_COUNT] s) ∧
       (Completes (.intInjMacFcs ini) s fun t => Raised Reg.INT_DET0 0x12 (Reg.MAC_EVT 0) 1 [Reg.MAC_EVT 1] [] s t ∧ t.bitR (Reg.MAC_EVT 1) 1 = true) ∧
       (Completes (.intInjTsOvf ini) s fun t => Raised Reg.INT_DET0 0x13 (Reg.MAC_EVT 0) 2 [Reg.MAC_EVT 1] [] s t ∧ t.bitR (Reg.MAC_EVT 1) 2 = true) ∧
       (Completes (.intInjLineZ ini) s fun t =>
         t.bitR Reg.INT_DET0 0x1E = true ∧ t.bitR Reg.SNS_EVT 4 = true ∧
         t.reg Reg.SNS_LINE_RAISES = w32 (satU 32 ((s.reg Reg.SNS_LINE_RAISES).toNat + 1)) ∧ t.bitR Reg.GNT_FAULTS 3 = true ∧
         (s.astate = 0 → t.astate = 4) ∧ SameMemories s t)) ∧
     (s.pmode ≠ 10 → ∀ c ∈ [Instr.intInjXaLoss ini, .intInjXbLoss ini, .intInjRootUnlock ini, .intInjFoscRange ini, .intInjSaiClkLoss ini, .intInjSaiFrame ini, .intInjNonAudio ini, .intInjRndLate ini, .intInjCoreGov ini, .intInjFirGov ini, .intInjCircAddr ini, .intInjSchQfull ini, .intInjTaskTimeout ini, .intInjBvlRetry ini, .intInjBvlDown ini, .intInjTwinHb ini, .intInjTwinRec ini, .intInjImageCheck ini, .intInjRecWrite ini, .intInjOverTemp ini, .intInjSupply ini, .intInjRefreshDebt ini, .intInjFarClamp ini, .intInjMacFcs ini, .intInjTsOvf ini, .intInjLineZ ini],
       Completes c s (InjectionRefused s))) ∧
  (∀ (ini : Initiator) (s : State), s.Inv → s.admits ini = true → s.appOn = true →
     let arr := s.fldR Reg.INT_SRAM_TGT 24 4
     let aimed : Prop := arr ≠ 3 ∧ arr ≠ 9 ∧ s.fldR Reg.INT_SRAM_TGT 0 21 < (arrayRow arr).size / 8
     let two : Prop := s.fldR Reg.INT_SRAM_BITS 0 6 ≠ s.fldR Reg.INT_SRAM_BITS 8 6
     let unit := (s.reg Reg.DRC_INJ_ADDR).toNat * 64
     let dram : Prop := unit < s.usable ∧ ((s.regionAt unit).any fun r => decide (r.kind = 3 ∨ r.kind = 4)) = false
     let armed (k : Nat) (t : State) : Prop := t.bitR Reg.INT_INJ0 k = true ∧ OnlyRegs [Reg.INT_INJ0] s t
     (s.pmode = 10 → aimed → Completes (.intInjSramCe ini) s (armed 1)) ∧
     (s.pmode = 10 → aimed → two → Completes (.intInjSramUe ini) s (armed 2)) ∧
     (s.pmode = 10 → dram → Completes (.intInjDramCe ini) s (armed 3)) ∧
     (s.pmode = 10 → dram → Completes (.intInjDramUe ini) s (armed 4)) ∧
     ((s.pmode ≠ 10 ∨ ¬ aimed) → Completes (.intInjSramCe ini) s (InjectionRefused s)) ∧
     ((s.pmode ≠ 10 ∨ ¬ aimed ∨ ¬ two) → Completes (.intInjSramUe ini) s (InjectionRefused s)) ∧
     ((s.pmode ≠ 10 ∨ ¬ dram) → ∀ c ∈ [Instr.intInjDramCe ini, .intInjDramUe ini], Completes c s (InjectionRefused s)))

/-- R448, R262, R263: the proof tests are the Gauntlet sequencer's, and act in TEST alone: a domain reset of causes 1 and 2,
the detector of a message check, and the detector of the pilot. Of another initiator the write is denied. R450, R452: the test
multiplexer is enabled in MAINTAIN while the fuse is intact; INT_DBG_LOCK starts the fuse in MAINTAIN with its key, and the
fuse that has blown clears the enable for good. -/
def Obligations.ProofAndDebug : Prop :=
  (∀ s : State, s.Inv → s.pwr.good = true →
     (s.astate = 3 →
       (Completes (.intInjGntWdt .gauntlet) s fun t => GauntletReset 1 s t ∧ t.bitR Reg.INT_DET0 0x19 = true) ∧
       (Completes (.intInjGntLockstep .gauntlet) s fun t => GauntletReset 2 s t ∧ t.bitR Reg.INT_DET0 0x1A = true) ∧
       (Completes (.intInjMsgCheck .gauntlet) s fun t =>
         t.bitR Reg.INT_DET0 0x1B = true ∧ t.bitR Reg.GNT_FAULTS 1 = true ∧
         OnlyRegsRec [Reg.INT_DET0, Reg.GNT_FAULTS, Reg.GNT_FLT_OUT] s t) ∧
       (Completes (.intInjPilot .gauntlet) s fun t =>
         t.bitR Reg.INT_DET0 0x1D = true ∧ t.bitR Reg.GNT_FAULTS 2 = true ∧
         OnlyRegsRec [Reg.INT_DET0, Reg.GNT_FAULTS, Reg.GNT_FLT_OUT] s t)) ∧
     (∀ (ini : Initiator), ∀ c ∈ [Instr.intInjGntWdt ini, .intInjGntLockstep ini, .intInjMsgCheck ini, .intInjPilot ini],
       (s.astate ≠ 3 → ini = .gauntlet → Completes c s (InjectionRefused s)) ∧
       (ini ≠ .gauntlet → s.admits ini = true → Completes c s (Denied Reg.INT_INJ0 s)))) ∧
  (∀ s : State, s.Inv →
     (∀ (ini : Initiator) (v : Word), Reaches s ini Reg.INT_TM_CTL →
       (bitOf v 0 = false → Completes (.intTmCtlWrite ini v) s fun t =>
         t.bitR Reg.INT_TM_CTL 0 = false ∧ OnlyRegs [Reg.INT_TM_CTL] s t) ∧
       (bitOf v 0 = true → s.pmode = 10 → s.fuse.dbg = false → Completes (.intTmCtlWrite ini v) s fun t =>
         t.bitR Reg.INT_TM_CTL 0 = true ∧ OnlyRegs [Reg.INT_TM_CTL] s t) ∧
       (bitOf v 0 = true → (s.pmode ≠ 10 ∨ s.fuse.dbg = true) → Completes (.intTmCtlWrite ini v) s fun t =>
         t.bitR Reg.INT_EVT 3 = true ∧ OnlyRegs [Reg.INT_EVT] s t)) ∧
     (∀ (ini : Initiator) (v : Word), Reaches s ini Reg.INT_DBG_LOCK →
       (bitOf v 0 = true → fld v 8 8 = 0xA5 → s.pmode = 10 → Completes (.intDbgLock ini v) s fun t =>
         t = { s with fuse := { s.fuse with dbgBusy := true } }) ∧
       ((bitOf v 0 = false ∨ fld v 8 8 ≠ 0xA5 ∨ s.pmode ≠ 10) → Completes (.intDbgLock ini v) s fun t =>
         t.bitR Reg.INT_EVT 3 = true ∧ OnlyRegs [Reg.INT_EVT] s t)) ∧
     (s.fuse.dbgBusy = true → Completes .dbgFuseDone s fun t =>
       t.fuse = { s.fuse with dbg := true, dbgBusy := false } ∧ t.bitR Reg.INT_TM_CTL 0 = false ∧ Recorded 0x12 0x40 [1] s t ∧
       RegsButRec [Reg.INT_TM_CTL] s t ∧ SameMemories s t) ∧
     (s.fuse.dbgBusy = false → Completes .dbgFuseDone s (· = s)))

/-- R271 to R273, R289: a command is checked in the order of R272: no known OP, no image, no permission, a bad tag, a replay,
a reserved bit or a field out of range, and a state that does not take it. What is refused has no effect but its record and
its answer. -/
def Obligations.CommandRefusals : Prop :=
  ∀ (src : CmdSource) (w0 w1 : Word) (w : List Word) (op : Nat) (c : Instr) (s : State), s.Inv → s.gnt.phase = 0 →
    (op, c) ∈ [(1, Instr.alert src w0 w1), (2, .evac src w0 w1), (3, .gntReset src w0 w1), (4, .page src w0 w1), (5, .pageEnd src w0 w1),
      (6, .testStart src w0 w1), (7, .testEnd src w0 w1), (8, .faultAck src w0 w1), (9, .imgActivate src w0 w1)] →
    CmdGiven s op src w0 w1 w →
    let perm := w32 (s.gim (0x50 + 4 * srcCode src))
    (s.bitR Reg.GNT_STATUS 7 = false → s.cmdCheck src w = 8) ∧
    (s.bitR Reg.GNT_STATUS 7 = true → bitOf perm op = false → s.cmdCheck src w = 2) ∧
    (s.bitR Reg.GNT_STATUS 7 = true → bitOf perm op = true → op ≠ 4 → op ≠ 5 →
      (src = .network → s.tagOk w = false → s.cmdCheck src w = 3) ∧
      (src = .network → s.tagOk w = true → (nth w 3 0).toNat ≤ (s.reg Reg.GNT_NET_CNT).toNat → s.cmdCheck src w = 4) ∧
      (src ≠ .network → nth w 2 0 ≠ 0 → s.cmdCheck src w = 6) ∧
      (src ≠ .network → nth w 2 0 = 0 → nth w 0 0 &&& 0xF800 = 0 → nth w 1 0 &&& 0xFFC0E0C0 = 0 → s.opAllowed op = false →
        s.cmdCheck src w = 5)) ∧
    (s.cmdCheck src w ≠ 0 → Completes c s fun t =>
      CmdAnswered src w (s.cmdCheck src w) s t ∧
      t = { s with regs := t.regs, log := t.log, out := t.out } ∧
      RegsButRec [Reg.GNT_HMBX_STAT, Reg.GNT_SMBX_STAT, Reg.HST_IRQ_LATCH] s t)

/-- R269, R274: an accepted ALERT or EVAC moves the alarm state, EVAC above ALERT, and its programme takes its level in every
zone of the group, or waits beneath the page that holds it; an accepted RESET returns to QUIET, or to FAULT while a fault is
latched, and releases every level that a programme held, while a page keeps its own and forgets the programme beneath it.
R274: an accepted PAGE takes its level in each zone of its group unless what holds the level outranks it, saving a programme
that held it, and PAGE_END returns the level to the programme beneath the page, or releases it; a level that was outranked
answers OUTRANKED and keeps its holder. Nothing else changes but the answer and its record. -/
def Obligations.AlarmAndPaging : Prop :=
  (∀ (src : CmdSource) (w0 w1 : Word) (w : List Word) (s : State), s.Inv → s.gnt.phase = 0 →
     let o := 0xE0 + 16 * fld (nth w 1 0) 8 5
     let l := s.gim o % 8
     let x := s.gim o / 256 % 64
     let zs := s.groupZones (fld (nth w 1 0) 0 6)
     let taken (t : State) : Prop :=
       (∀ z ∈ zs,
         (∀ h, s.holder z l = some h → h.page = true → t.holder z l = some { h with saved := some (x, 3) }) ∧
         ((s.holder z l).all (fun h => !h.page) = true → t.holder z l = some ⟨z, l, false, 3, x, none⟩ ∧ LevelTaken z l x t)) ∧
       ∀ z k, (z ∉ zs ∨ k ≠ l) → t.holder z k = s.holder z k
     (CmdPasses s 1 src w0 w1 w → Completes (.alert src w0 w1) s fun t =>
       t.astate = (if s.astate = 2 then 2 else 1) ∧ CmdAnswered src w 0 s t ∧ taken t) ∧
     (CmdPasses s 2 src w0 w1 w → Completes (.evac src w0 w1) s fun t => t.astate = 2 ∧ CmdAnswered src w 0 s t ∧ taken t) ∧
     (CmdPasses s 3 src w0 w1 w → Completes (.gntReset src w0 w1) s fun t =>
       t.astate = s.restState ∧ CmdAnswered src w 0 s t ∧ (∀ h ∈ t.gnt.holders, h.page = true ∧ h.saved = none) ∧
       (HoldersOnce s → ∀ z k h, s.holder z k = some h →
         (h.page = true → t.holder z k = some { h with saved := none }) ∧
         (h.page = false → t.holder z k = none ∧ (z < 256 → k < 8 → t.bitR (Reg.GNT_ZB_ACT z) k = false))))) ∧
  (∀ (src : CmdSource) (w0 w1 : Word) (w : List Word) (s : State), s.Inv → s.gnt.phase = 0 →
     let l := fld (nth w 0 0) 8 3
     let g := fld (nth w 1 0) 0 6
     let x := fld (nth w 1 0) 16 6
     let zs := s.groupZones g
     let above (z : Nat) : Bool := (s.holder z l).any fun h => decide (srcRank src < h.rank)
     let overPage (z : Nat) : Bool := (s.holder z l).any fun h => h.page && decide (srcRank src < h.rank)
     let rest (res : Nat) (t : State) : Prop :=
       CmdAnswered src w res s t ∧ t.log = (s.cmdNote src w res).log ∧ SameMemories s t ∧
       (∀ z k, (z ∉ zs ∨ k ≠ l) → t.holder z k = s.holder z k) ∧
       ∀ a, recReg a = false → a ∉ [Reg.GNT_HMBX_STAT, Reg.GNT_SMBX_STAT, Reg.GNT_NET_CNT, Reg.HST_IRQ_LATCH] →
         (∀ z ∈ zs, a ∉ [Reg.GNT_ZB_ACT z, Reg.GNT_ZB_SRCLO z, Reg.GNT_ZB_SRCHI z]) → t.reg a = s.reg a
     (CmdPasses s 4 src w0 w1 w → Completes (.page src w0 w1) s fun t =>
       rest (if zs.any above then 7 else 0) t ∧
       ∀ z ∈ zs,
         (above z = true → t.holder z l = s.holder z l) ∧
         (above z = false → LevelTaken z l x t ∧
           t.holder z l = some ⟨z, l, true, srcRank src, x, (s.holder z l).bind fun h => if h.page then h.saved else some (h.src, h.rank)⟩)) ∧
     (CmdPasses s 5 src w0 w1 w → Completes (.pageEnd src w0 w1) s fun t =>
       rest (if zs.any overPage then 7 else 0) t ∧
       ∀ z ∈ zs,
         ((overPage z = true ∨ (s.holder z l).all (fun h => !h.page) = true) → t.holder z l = s.holder z l) ∧
         (overPage z = false → ∀ h, s.holder z l = some h → h.page = true →
           (h.saved = none → t.holder z l = none ∧ t.bitR (Reg.GNT_ZB_ACT z) l = false) ∧
           ∀ p, h.saved = some p → t.holder z l = some ⟨z, l, false, p.2, p.1, none⟩ ∧ (p.1 < 64 → LevelTaken z l p.1 t))))

/-- R266, R269, R448: TEST_START enters TEST; TEST_END, or 60 min, leaves it and clears the proof-test bits; FAULT_ACK clears
each latched fault whose condition is gone, and with the last of them the state becomes QUIET; IMG_ACTIVATE resets the domain.
R266 to R268: what resets the domain, and its way back: a watchdog that is not kicked, a lockstep mismatch and an
uncorrectable word of the working memory reset it with their causes; the boot ROM releases it or sets UNUSABLE; firmware takes
it live; 60 s clear UNUSABLE. -/
def Obligations.MaintenanceAndResets : Prop :=
  (∀ (src : CmdSource) (w0 w1 : Word) (w : List Word) (s : State), s.Inv → s.gnt.phase = 0 →
     (CmdPasses s 6 src w0 w1 w → Completes (.testStart src w0 w1) s fun t =>
       t.astate = 3 ∧ CmdAnswered src w 0 s t ∧ OnlyAlarmRegs [] s t) ∧
     (CmdPasses s 7 src w0 w1 w → Completes (.testEnd src w0 w1) s fun t =>
       t.astate = s.restState ∧ t.reg Reg.INT_INJ0 = s.reg Reg.INT_INJ0 &&& 0xD1FFFFFF ∧ CmdAnswered src w 0 s t ∧
       OnlyAlarmRegs [Reg.INT_INJ0] s t) ∧
     (CmdPasses s 8 src w0 w1 w → Completes (.faultAck src w0 w1) s fun t =>
       (∀ i, i < 9 → t.bitR Reg.GNT_FAULTS i = (s.bitR Reg.GNT_FAULTS i && s.faultHolds i)) ∧
       t.astate = (if t.reg Reg.GNT_FAULTS = 0 then 0 else 4) ∧ CmdAnswered src w 0 s t ∧ OnlyAlarmRegs [Reg.GNT_FAULTS] s t) ∧
     (CmdPasses s 9 src w0 w1 w → Completes (.imgActivate src w0 w1) s fun t =>
       GauntletReset 4 s t ∧ t.gnt.activate = true ∧ (src = .console → CmdAnswered src w 0 s t)) ∧
     (s.astate = 3 → Completes .testTimeout s fun t =>
       t.astate = s.restState ∧ t.reg Reg.INT_INJ0 = s.reg Reg.INT_INJ0 &&& 0xD1FFFFFF ∧ OnlyAlarmRegs [Reg.INT_INJ0] s t) ∧
     (s.astate ≠ 3 → Completes .testTimeout s (· = s))) ∧
  (∀ s : State, s.Inv →
     (∀ (ini : Initiator) (v : Word), s.admits ini = true →
       (ini ≠ .gauntlet → Completes (.gntWdtKick ini v) s fun t => Denied Reg.GNT_WDT_KICK s t) ∧
       (ini = .gauntlet → v = 0x5A → Completes (.gntWdtKick ini v) s fun t =>
         t = { s with gnt := { s.gnt with wdt := min 1000 (max 10 (s.fldR Reg.GNT_WDT 0 16)) } }) ∧
       (ini = .gauntlet → v ≠ 0x5A → Completes (.gntWdtKick ini v) s (· = s))) ∧
     (s.gnt.phase ≠ 1 →
       (Completes .watchdogExpiry s fun t => GauntletReset 1 s t ∧ t.bitR Reg.INT_DET0 0x19 = true) ∧
       (Completes .lockstepMismatch s fun t => GauntletReset 2 s t ∧ t.bitR Reg.INT_DET0 0x1A = true) ∧
       (s.arrayBad 9 = false → Completes .gntMemoryError s fun t => GauntletReset 3 s t) ∧
       (s.arrayBad 9 = true → Completes .gntMemoryError s fun t =>
         t.gnt.phase = 1 ∧ t.gnt.fw = false ∧ t.fldR Reg.GNT_RST 0 4 = 3 ∧ t.bitR Reg.GNT_STATUS 6 = false ∧
         t.bitR Reg.INT_DET0 2 = true ∧ SameMemories s t)) ∧
     (s.gnt.phase = 1 →
       (∀ c ∈ [Instr.watchdogExpiry, .lockstepMismatch, .gntMemoryError], Completes c s (· = s))) ∧
     (s.gnt.phase ≠ 0 → s.bitR Reg.CLK_STATUS 9 = true →
       (Completes (.domainResetRelease true) s fun t => t = { s with gnt := { s.gnt with phase := 2 } }) ∧
       (Completes (.domainResetRelease false) s fun t => t.gnt.phase = 1 ∧ t.bitR Reg.GNT_STATUS 4 = true)) ∧
     ((s.gnt.phase = 0 ∨ s.bitR Reg.CLK_STATUS 9 = false) → ∀ ok, Completes (.domainResetRelease ok) s (· = s)) ∧
     (∀ us : Word,
       (s.gnt.phase = 2 → Completes (.trailLive us) s fun t => t.gnt.seen = none ∧ t.gnt.wait = []) ∧
       (s.gnt.phase = 2 → s.gnt.seen = none → s.gnt.wait = [] → Completes (.trailLive us) s fun t =>
         t.gnt.phase = 0 ∧ t.gnt.fw = true ∧ t.gnt.powerOn = false ∧ t.gnt.activate = false ∧ t.bitR Reg.GNT_STATUS 6 = true ∧
         (s.gnt.activate = false → s.gnt.powerOn = false → t.gnt.image = s.gnt.image)) ∧
       (s.gnt.phase ≠ 2 → Completes (.trailLive us) s (· = s))) ∧
     let counts : Prop :=
       s.gnt.phase = 0 ∧ s.bitR Reg.GNT_STATUS 6 = true ∧ s.bitR Reg.GNT_STATUS 7 = true ∧ s.bitR Reg.GNT_STATUS 4 = true
     (counts → Completes .unusableClear s fun t =>
       t.bitR Reg.GNT_STATUS 4 = false ∧ t.gnt.resets = [] ∧
       RegsBut [Reg.GNT_STATUS, Reg.GNT_FLT_OUT, Reg.HST_IRQ_LATCH] s t ∧ SameMemories s t) ∧
     (¬ counts → Completes .unusableClear s (· = s)))

/-- R275: a sample of the contacts shows in GNT_ALM_IN, an input's debounced level being its level after INV at once where DEB
is 0 or 1, and else where DEB samples have agreed (operand, log entry 57). Where one input, or one pair, alone has changed its
command acts; a paired input that reads as its partner does is a fault and takes no action. An input that rises in a
standing-by sleep ends it. While firmware does not run the sample waits for it (R48). -/
def Obligations.Contacts : Prop :=
  ∀ (raw deb : BitVec 8) (s : State), s.Inv → s.gnt.acted.length = 8 →
    let lvl (k : Nat) : Bool := raw.toNat.testBit k != s.bitR Reg.GNT_ALM_CFG (24 + k)
    let on (k : Nat) : Bool :=
      if s.fldR Reg.GNT_ALM_CFG 0 8 ≤ 1 ∨ deb.toNat.testBit k = lvl k then lvl k else nth s.gnt.deb k false
    let rises : Prop := ∃ k, k < 8 ∧ on k = true ∧ nth s.gnt.deb k false = false
    let shown (t : State) : Prop :=
      t.fldR Reg.GNT_ALM_IN 0 8 = raw.toNat ∧ (∀ k, k < 8 → t.bitR Reg.GNT_ALM_IN (8 + k) = on k) ∧ t.gnt.deb = (List.range 8).map on
    let acts (k : Nat) (u t : State) : Prop :=
      shown u ∧ RegsBut [Reg.GNT_ALM_IN] s u ∧
      u = { s with regs := u.regs, gnt := { s.gnt with deb := u.gnt.deb, acted := putNth s.gnt.acted k (on k) } } ∧
      let o := 0x60 + 16 * k + (if on k then 0 else 8)
      let w := [w32 (s.gim o), w32 (s.gim (o + 4))]
      (fld (w32 (s.gim o)) 0 8 = 0 → t = u) ∧
      (fld (w32 (s.gim o)) 0 8 ≠ 0 → fld (w32 (s.gim o)) 0 8 ≠ 9 → t = (u.gntCommand .contact w).1) ∧
      (fld (w32 (s.gim o)) 0 8 = 9 → t = u.contactRun w)
    (s.gnt.phase ≠ 0 → Completes (.contactEdge raw deb) s fun t =>
      t = { s with gnt := { s.gnt with seen := some (raw.toNat, deb.toNat) } }) ∧
    (s.gnt.phase = 0 → s.mode.sleep = 1 → rises → (∀ m, m < 4 → s.bitR Reg.GNT_ALM_CFG (16 + m) = false) →
      (∀ k, k < 8 → nth s.gnt.acted k false = on k) → Completes (.contactEdge raw deb) s fun t =>
        shown t ∧ t.mode.sleep = 0 ∧ t.bitR Reg.PWR_EVT 7 = true ∧ SameMemories s t ∧
        RegsButRec [Reg.GNT_ALM_IN, Reg.PWR_MODE_STATUS, Reg.PWR_EVT] s t) ∧
    (s.gnt.phase = 0 → (s.mode.sleep ≠ 1 ∨ ¬ rises) →
      ((∀ m, m < 4 → s.bitR Reg.GNT_ALM_CFG (16 + m) = false) →
        ((∀ k, k < 8 → nth s.gnt.acted k false = on k) → Completes (.contactEdge raw deb) s fun t =>
          shown t ∧ RegsBut [Reg.GNT_ALM_IN] s t ∧ t = { s with regs := t.regs, gnt := { s.gnt with deb := t.gnt.deb } }) ∧
        (∀ k, k < 8 → nth s.gnt.acted k false = !on k → (∀ j, j < 8 → j ≠ k → nth s.gnt.acted j false = on j) →
          Completes (.contactEdge raw deb) s fun t => ∃ u : State, acts k u t)) ∧
      (∀ m, m < 4 → (∀ i, i < 4 → s.bitR Reg.GNT_ALM_CFG (16 + i) = decide (i = m)) →
        (∀ k, k < 8 → k / 2 ≠ m → nth s.gnt.acted k false = on k) →
        (on (2 * m) = on (2 * m + 1) → Completes (.contactEdge raw deb) s fun t =>
          shown t ∧ t.bitR Reg.GNT_ALM_IN (16 + m) = true ∧ t.bitR Reg.GNT_FAULTS 4 = true ∧ t.gnt.acted = s.gnt.acted ∧
          OnlyAlarmRegs [Reg.GNT_ALM_IN, Reg.GNT_FAULTS] s t) ∧
        (on (2 * m) ≠ on (2 * m + 1) → nth s.gnt.acted (2 * m) false = on (2 * m) → Completes (.contactEdge raw deb) s fun t =>
          shown t ∧ t.bitR Reg.GNT_ALM_IN (16 + m) = false ∧ RegsBut [Reg.GNT_ALM_IN] s t ∧
          t = { s with regs := t.regs, gnt := { s.gnt with deb := t.gnt.deb } }) ∧
        (on (2 * m) ≠ on (2 * m + 1) → nth s.gnt.acted (2 * m) false = !on (2 * m) → Completes (.contactEdge raw deb) s fun t =>
          ∃ u : State, u.bitR Reg.GNT_ALM_IN (16 + m) = false ∧ acts (2 * m) u t)))

/-- R551: a console line acts as the row of its verb, with numbers in decimal and offsets, values and hashes in hexadecimal;
an argument that its field cannot hold answers RANGE, one that is no number and any line with no such verb, or of more than 80
characters, answers BAD_OP. STATUS answers with the two registers. Nothing reads a line while firmware does not run. R257,
R286, R333, R340, R467: the console's settings act in QUIET and answer OK: a key slot of the Gauntlet, the erase of the
recorder's region, its window, the claim of sensing groups, a claimed sensing register, and MS of the Trail's pairs. What a
setting does not allow answers NOT_PERMITTED, STATE or RANGE, and outside QUIET each answers STATE; nothing else changes then.
-/
def Obligations.Console : Prop :=
  (∀ s : State, s.Inv →
     (s.gnt.phase ≠ 0 → (∀ line, Completes (.consoleLine line) s (· = s)) ∧ Completes .consoleStatus s (· = s)) ∧
     (s.gnt.phase = 0 →
       (∀ line : List Byte, (80 < line.length ∨ (words line).headD [] ∉ ["ALERT", "EVAC", "RESET", "PAGE", "PAGE_END", "TEST", "ACK",
           "STATUS", "KEY", "REC", "CLAIM", "SNS", "SAI"].map verb) → Completes (.consoleLine line) s (OnlyAnswered 1 s)) ∧
       (∀ line : List Byte, ((words line).headD [], (words line).length) ∉ [("ALERT", 3), ("EVAC", 3), ("RESET", 1), ("PAGE", 4), ("PAGE_END", 3),
           ("TEST", 2), ("ACK", 1), ("STATUS", 1), ("KEY", 3), ("KEY", 4), ("REC", 2), ("REC", 3), ("CLAIM", 2), ("SNS", 3), ("SAI", 4)].map
             (fun x => (verb x.1, x.2)) → Completes (.consoleLine line) s (OnlyAnswered 1 s)) ∧
       (∀ line : List Byte, line.length ≤ 80 →
         let ws := words line
         let does (t : List (List Nat)) (c : Instr) : Prop := ws = t → exec (.consoleLine line) s = exec c s
         let reply (t : List (List Nat)) (r : Nat) : Prop := ws = t → Completes (.consoleLine line) s (OnlyAnswered r s)
         does [verb "RESET"] (.gntReset .console 0x3 0) ∧ does [verb "TEST", verb "START"] (.testStart .console 0x6 0) ∧
         does [verb "TEST", verb "END"] (.testEnd .console 0x7 0) ∧ does [verb "ACK"] (.faultAck .console 0x8 0) ∧
         does [verb "STATUS"] .consoleStatus ∧ does [verb "REC", verb "ERASE"] .recErase ∧
         (∀ (a b : List Nat) (g p : Nat), decOf a = some g → decOf b = some p →
           (g < 64 → p < 32 → does [verb "ALERT", a, b] (.alert .console 0x1 (w32 (g + 256 * p))) ∧
             does [verb "EVAC", a, b] (.evac .console 0x2 (w32 (g + 256 * p)))) ∧
           ((64 ≤ g ∨ 32 ≤ p) → reply [verb "ALERT", a, b] 6 ∧ reply [verb "EVAC", a, b] 6) ∧
           (g < 64 → p < 8 → does [verb "PAGE_END", a, b] (.pageEnd .console (w32 (5 + 256 * p)) (w32 g)) ∧
             ∀ (d : List Nat) (x : Nat), decOf d = some x →
               (x < 64 → does [verb "PAGE", a, b, d] (.page .console (w32 (4 + 256 * p)) (w32 (g + 65536 * x)))) ∧
               (64 ≤ x → reply [verb "PAGE", a, b, d] 6)) ∧
           ((64 ≤ g ∨ 8 ≤ p) → reply [verb "PAGE_END", a, b] 6 ∧ ∀ d x, decOf d = some x → reply [verb "PAGE", a, b, d] 6) ∧
           ((g = 22 ∨ g = 23) → p < 2 → does [verb "SAI", verb "MS", a, b] (.saiMs (decide (g = 23)) (decide (p = 1)))) ∧
           (((g ≠ 22 ∧ g ≠ 23) ∨ 2 ≤ p) → reply [verb "SAI", verb "MS", a, b] 6)) ∧
         (∀ a b d : List Nat, (decOf a = none ∨ decOf b = none ∨ decOf d = none) →
           reply [verb "PAGE", a, b, d] 1 ∧ ((decOf a = none ∨ decOf b = none) →
             reply [verb "ALERT", a, b] 1 ∧ reply [verb "EVAC", a, b] 1 ∧ reply [verb "PAGE_END", a, b] 1 ∧ reply [verb "SAI", verb "MS", a, b] 1)) ∧
         (∀ (a : List Nat) (k : Nat), decOf a = some k →
           (k < 4 → does [verb "CLAIM", a] (.claim (BitVec.ofNat 2 k))) ∧ (4 ≤ k → reply [verb "CLAIM", a] 6) ∧
           (k < 65536 → does [verb "REC", verb "WINDOW", a] (.recWindow (BitVec.ofNat 16 k))) ∧
           (k < 2 → does [verb "KEY", verb "REVOKE", a] (.keyRevoke (decide (k = 1)))) ∧ (2 ≤ k → reply [verb "KEY", verb "REVOKE", a] 6) ∧
           ∀ (b : List Nat) (x : Nat), numOf 16 b = some x →
             (k < 2 → b.length = 64 → does [verb "KEY", verb "PROGRAM", a, b]
               (.keyProgram (decide (k = 1)) (BitVec.ofNat 256 (leNat (leBytes 32 x).reverse)))) ∧
             ((2 ≤ k ∨ b.length ≠ 64) → reply [verb "KEY", verb "PROGRAM", a, b] 6)) ∧
         (∀ (a b : List Nat) (o v : Nat), hexOf a = some o → hexOf b = some v →
           (o < 65536 → v < 2 ^ 32 → does [verb "SNS", a, b] (.sns (BitVec.ofNat 16 o) (w32 v))) ∧
           ((65536 ≤ o ∨ 2 ^ 32 ≤ v) → reply [verb "SNS", a, b] 6)) ∧
         ∀ a b : List Nat,
           (decOf a = none → reply [verb "CLAIM", a] 1 ∧ reply [verb "REC", verb "WINDOW", a] 1 ∧ reply [verb "KEY", verb "REVOKE", a] 1) ∧
           ((decOf a = none ∨ numOf 16 b = none) → reply [verb "KEY", verb "PROGRAM", a, b] 1) ∧
           ((hexOf a = none ∨ hexOf b = none) → reply [verb "SNS", a, b] 1) ∧
           (a ≠ verb "START" → a ≠ verb "END" → reply [verb "TEST", a] 1) ∧ (a ≠ verb "ERASE" → reply [verb "REC", a] 1) ∧
           (a ≠ verb "WINDOW" → reply [verb "REC", a, b] 1) ∧ (a ≠ verb "REVOKE" → reply [verb "KEY", a, b] 1) ∧
           ∀ d : List Nat, (a ≠ verb "PROGRAM" → reply [verb "KEY", a, b, d] 1) ∧ (a ≠ verb "MS" → reply [verb "SAI", a, b, d] 1)) ∧
       Completes .consoleStatus s fun t =>
         t = { s with out := ⟨.uart, 0, ascii "OK" ++ [13]⟩ ::
           ⟨.uart, 0, hexWord (putBit (s.reg Reg.GNT_STATUS) 5 s.sleepOk) ++ [32] ++ hexWord (s.reg Reg.GNT_FAULTS) ++ [13]⟩ :: s.out })) ∧
  (∀ s : State, s.Inv → s.gnt.phase = 0 →
     (s.astate ≠ 0 → ∀ c : Instr,
       ((∃ n h, c = .keyProgram n h) ∨ (∃ n, c = .keyRevoke n) ∨ c = .recErase ∨ (∃ n, c = .recWindow n) ∨ (∃ n, c = .claim n) ∨
         (∃ o v, c = .sns o v) ∨ (∃ g v, c = .saiMs g v)) → Completes c s (OnlyAnswered 5 s)) ∧
     (s.astate = 0 →
       (∀ n : Bool,
         let k := nth s.fuse.gnt n.toNat {}
         let good : Prop := k.hash.isSome = true ∧ (k.revoked = true ∨ 1 < (s.fuse.gnt.filter fun x => x.hash.isSome && !x.revoked).length)
         (∀ h : BitVec 256,
           (s.fuse.busy = none → k.hash = none → Completes (.keyProgram n h) s fun t =>
             OnlyAnswered 0 { s with fuse := { s.fuse with busy := some (.gnt n.toNat (some h)) } } t) ∧
           ((s.fuse.busy ≠ none ∨ k.hash ≠ none) → Completes (.keyProgram n h) s (OnlyAnswered 2 s))) ∧
         (s.fuse.busy = none → good → Completes (.keyRevoke n) s fun t =>
           OnlyAnswered 0 { s with fuse := { s.fuse with busy := some (.gnt n.toNat none) } } t) ∧
         ((s.fuse.busy ≠ none ∨ ¬ good) → Completes (.keyRevoke n) s (OnlyAnswered 2 s))) ∧
       (2 ≤ s.recSlots → s.log.searching = false → Completes .recErase s fun t =>
         OnlyAnswered 0 { s with log := { s.log with erasing := true } } t) ∧
       ((s.recSlots < 2 ∨ s.log.searching = true) → Completes .recErase s (OnlyAnswered 5 s)) ∧
       (∀ sec : BitVec 16, sec.toNat ≤ 60 → Completes (.recWindow sec) s fun t =>
         (t.reg Reg.REC_WINDOW).toNat = 1000 * sec.toNat ∧ t.gflashBytes 52 4 = leBytes 4 (2 ^ 31 + 1000 * sec.toNat) ∧
         t.gflashBytes 60 4 = leBytes 4 (crc32 (t.gflashBytes 0 60)) ∧ RegsBut [Reg.REC_WINDOW] s t ∧
         (∀ b, b < 52 ∨ (56 ≤ b ∧ b < 60) ∨ 64 ≤ b → Store.get flashDef t.gflash b = Store.get flashDef s.gflash b) ∧
         Sent .uart 0 (ascii "OK" ++ [13]) s t) ∧
       (∀ sec : BitVec 16, 60 < sec.toNat → Completes (.recWindow sec) s (OnlyAnswered 6 s)) ∧
       (∀ m : BitVec 2, Completes (.claim m) s fun t =>
         t.fldR Reg.GNT_SNS_CLAIM 0 2 = m.toNat ∧ t.fldR Reg.SNS_STATUS 8 2 = m.toNat ∧
         (∀ i, i < 2 → s.bitR Reg.GNT_SNS_CLAIM i = !m.getLsbD i →
           t.fldR (Reg.SNS_GRP_STAT (6 + i)) 0 2 = (if m.getLsbD i then 2 else 0) ∧ t.sns.pend.testBit (6 + i) = true) ∧
         RegsButRec [Reg.GNT_SNS_CLAIM, Reg.SNS_STATUS, Reg.SNS_GRP_STAT 6, Reg.SNS_GRP_STAT 7, Reg.SNS_EVT] s t ∧ SameMemories s t ∧
         Sent .uart 0 (ascii "OK" ++ [13]) s t) ∧
       (∀ (off : BitVec 16) (v : Word),
         let a := 0x900000 + off.toNat
         let e := (a - 0x901000) / 32
         let w := (s.reg a &&& ~~~(regMask a)) ||| (v &&& regMask a)
         (s.gntSide a = true → off.toNat % 4 = 0 →
           (a < 0x901000 → a ≠ Reg.SNS_GRP_CTL 6 → a ≠ Reg.SNS_GRP_CTL 7 → Completes (.sns off v) s fun t =>
             t.reg a = w ∧ RegsBut [a] s t ∧ SameMemories s t ∧ Sent .uart 0 (ascii "OK" ++ [13]) s t) ∧
           (0x901000 ≤ a → Completes (.sns off v) s fun t =>
             (a ≠ Reg.SNS_LINE_STAT e → t.reg a = w) ∧ RegsBut [a, Reg.SNS_LINE_STAT e] s t ∧
             (t.bitR (Reg.SNS_LINE_CFG e) 31 = false → s.lineBusy e = false → t.fldR (Reg.SNS_LINE_STAT e) 0 5 = 3) ∧
             SameMemories s t ∧ Sent .uart 0 (ascii "OK" ++ [13]) s t) ∧
           (∀ i, i < 2 → a = Reg.SNS_GRP_CTL (6 + i) → Completes (.sns off v) s fun t =>
             t.sns.pend.testBit (6 + i) = (bitOf v 0 || s.sns.pend.testBit (6 + i)) ∧ t.regs = s.regs ∧ SameMemories s t ∧
             Sent .uart 0 (ascii "OK" ++ [13]) s t)) ∧
         ((s.gntSide a = false ∨ off.toNat % 4 ≠ 0) → Completes (.sns off v) s (OnlyAnswered 6 s))) ∧
       (∀ g v : Bool, Completes (.saiMs g v) s fun t =>
         t.bitR (Reg.SAI_CKA_CFG (22 + g.toNat)) 30 = v ∧ RegsBut [Reg.SAI_CKA_CFG (22 + g.toNat)] s t ∧ SameMemories s t ∧
         Sent .uart 0 (ascii "OK" ++ [13]) s t)))

/-- R277: a player starts with its message's check, or plays its substitute; a message of length 0 completes at once, and
REPEAT 0 starts nothing. It plays its repeats with their gaps and stops at the end of a play; PLAY = 0 stops it at once in a
gap; a message that fails its check is BAD from then on and raises detector 0x1B. A check that comes in the extension copy
copies up to its message. R276, R278, R281: a tone generator starts at phase 0, and a stop waits for the phase wrap unless the
cadence has it silent; an ON period starts at phase 0 and its sound ends at a wrap; the extension copy brings the messages and
marks those that fail their check; a run of pilot windows whose level (SNS_PIL_LEVEL) is out of tolerance raises the condition
and a run within ends it. -/
def Obligations.MessagesAndTones : Prop :=
  (∀ s : State, s.Inv → s.gnt.players.length = 16 →
     (∀ (p : BitVec 4) (v : Word), s.pwr.good = true →
       let m := fld v 0 10
       let cmd := putBit v 31 true
       let left := if fld v 16 8 = 255 then 255 else fld v 16 8 - 1
       let st := Reg.GNT_PLY_STAT p.toNat
       (fld v 16 8 ≠ 0 → (s.msg m).len ≠ 0 → s.playable m = true → Completes (.playStart .gauntlet p v) s fun t =>
         t.reg st = w32 (m + 65536 * left + 2 ^ 31) ∧ t.player p.toNat = { cmd := cmd, taps := (s.player p.toNat).taps } ∧
         RegsButRec [Reg.GNT_PLY_CTL p.toNat, st] s t ∧ SameMemories s t) ∧
       (fld v 16 8 ≠ 0 → (s.msg m).len ≠ 0 → s.playable m = false → Completes (.playStart .gauntlet p v) s fun t =>
         t.reg st = w32 ((s.fallback 8 m).getD 0x3FF + 65536 * left + 2 ^ 30 + 2 ^ 31) ∧ t.bitR Reg.INT_DET0 0x1B = true ∧
         t.bitR Reg.GNT_FAULTS 1 = true ∧ t.player p.toNat = { cmd := cmd, taps := (s.player p.toNat).taps } ∧ SameMemories s t) ∧
       (s.playing p.toNat = false → (s.msg m).len = 0 → Completes (.playStart .gauntlet p v) s fun t =>
         t.gnt = s.gnt ∧ RegsButRec [Reg.GNT_PLY_CTL p.toNat] s t ∧ SameMemories s t) ∧
       (s.playing p.toNat = false → fld v 16 8 = 0 → (s.msg m).len ≠ 0 → Completes (.playStart .gauntlet p v) s fun t =>
         OnlyRegs [Reg.GNT_PLY_CTL p.toNat] s t) ∧
       (s.playing p.toNat = true → (fld v 16 8 = 0 ∨ (s.msg m).len = 0) → Completes (.playStart .gauntlet p v) s fun t =>
         t.reg st = 0 ∧ t.player p.toNat = { ph := (s.player p.toNat).ph, taps := (s.player p.toNat).taps } ∧
         RegsButRec [Reg.GNT_PLY_CTL p.toNat, st] s t ∧ SameMemories s t) ∧
       (∀ ini, ini ≠ .gauntlet → s.admits ini = true →
         (Completes (.playStart ini p v) s fun t => Denied (Reg.GNT_PLY_CTL p.toNat) s t) ∧
         (Completes (.playStop ini p) s fun t => Denied (Reg.GNT_PLY_CTL p.toNat) s t)) ∧
       (s.playing p.toNat = false → Completes (.playStop .gauntlet p) s fun t => OnlyRegs [Reg.GNT_PLY_CTL p.toNat] s t) ∧
       (s.playing p.toNat = true →
         ((s.player p.toNat).gap = true → Completes (.playStop .gauntlet p) s fun t =>
           t.reg st = 0 ∧ t.player p.toNat = { ph := (s.player p.toNat).ph, taps := (s.player p.toNat).taps } ∧
           RegsButRec [Reg.GNT_PLY_CTL p.toNat, st] s t ∧ SameMemories s t) ∧
         ((s.player p.toNat).gap = false → Completes (.playStop .gauntlet p) s fun t =>
           t.player p.toNat = { s.player p.toNat with stop := true } ∧ t.bitR (Reg.GNT_PLY_CTL p.toNat) 31 = false ∧
           RegsBut [Reg.GNT_PLY_CTL p.toNat] s t))) ∧
     (∀ p : BitVec 4, s.playing p.toNat = true →
       let x := s.player p.toNat
       let st := Reg.GNT_PLY_STAT p.toNat
       (x.pos ≠ 0 → x.pos < s.playLen p.toNat →
         Completes (.playEnd p) s (· = s) ∧ Completes (.gapEnd p) s (· = s)) ∧
       ((x.pos = 0 ∨ s.playLen p.toNat ≤ x.pos) →
         (x.gap = false → (x.stop = true ∨ s.playLeft p.toNat = 0) → Completes (.playEnd p) s fun t =>
           t.reg st = 0 ∧ t.player p.toNat = { ph := x.ph, taps := x.taps } ∧ RegsButRec [st] s t) ∧
         (x.gap = false → x.stop = false → s.playLeft p.toNat ≠ 0 → fld x.cmd 24 7 ≠ 0 → Completes (.playEnd p) s fun t =>
           t.player p.toNat = { x with gap := true, pos := 0 } ∧ t.regs = s.regs) ∧
         (∀ c : Instr, ((c = .playEnd p ∧ x.gap = false ∧ x.stop = false ∧ s.playLeft p.toNat ≠ 0 ∧ fld x.cmd 24 7 = 0) ∨
             (c = .gapEnd p ∧ x.gap = true)) → s.playable (fld x.cmd 0 10) = true → Completes c s fun t =>
           t.reg st = w32 (fld x.cmd 0 10 +
             65536 * (if s.playLeft p.toNat = 255 then 255 else s.playLeft p.toNat - 1) + 2 ^ 31) ∧
           t.player p.toNat = { x with gap := false, pos := 0 } ∧ RegsBut [st] s t) ∧
         (∀ c : Instr, ((c = .playEnd p ∧ x.gap = false ∧ x.stop = false ∧ s.playLeft p.toNat ≠ 0 ∧ fld x.cmd 24 7 = 0) ∨
             (c = .gapEnd p ∧ x.gap = true)) → s.playable (fld x.cmd 0 10) = false → Completes c s fun t =>
           t.reg st = w32 ((s.fallback 8 (fld x.cmd 0 10)).getD 0x3FF +
             65536 * (if s.playLeft p.toNat = 255 then 255 else s.playLeft p.toNat - 1) + 2 ^ 30 + 2 ^ 31) ∧
           t.player p.toNat = { x with gap := false, pos := 0 } ∧ t.bitR Reg.INT_DET0 0x1B = true ∧ t.bitR Reg.GNT_FAULTS 1 = true)) ∧
       (x.gap = true → Completes (.playEnd p) s (· = s)) ∧ (x.gap = false → Completes (.gapEnd p) s (· = s))) ∧
     (∀ p : BitVec 4, s.playing p.toNat = false → Completes (.playEnd p) s (· = s) ∧ Completes (.gapEnd p) s (· = s)) ∧
     (∀ (m : BitVec 10) (uncorr : Bool),
       ((s.gnt.phase ≠ 0 ∨ s.msgCount ≤ m.toNat ∨ ((s.msg m.toNat).ext = true ∧ m.toNat ∉ s.gnt.ext ∧ s.gnt.extCopy = false)) →
         Completes (.msgCheckPass m uncorr) s (· = s)) ∧
       (s.gnt.phase = 0 → m.toNat < s.msgCount → (s.msg m.toNat).ext = true → m.toNat ∉ s.gnt.ext → s.gnt.extCopy = true →
         Completes (.msgCheckPass m uncorr) s (· = s.extUpTo m.toNat))) ∧
     (∀ (m : BitVec 10) (uncorr : Bool), s.gnt.phase = 0 → m.toNat < s.msgCount → m.toNat ∉ s.gnt.bad →
       (s.sramBad.map fun b => (b.array, b.word)).Nodup → ((s.msg m.toNat).ext = true → m.toNat ∈ s.gnt.ext) →
       ((uncorr = true ∨ (s.msgFlaw m.toNat).isSome = true ∨ crc32 (s.msgBytes m.toNat) ≠ (s.msg m.toNat).crc) →
         Completes (.msgCheckPass m uncorr) s fun t =>
           t.gnt.bad = m.toNat :: s.gnt.bad ∧ t.bitR Reg.INT_DET0 0x1B = true ∧ t.bitR Reg.GNT_FAULTS 1 = true) ∧
       (uncorr = false → ((s.msg m.toNat).ext = true ∨ s.sramBad = []) → crc32 (s.msgBytes m.toNat) = (s.msg m.toNat).crc →
         Completes (.msgCheckPass m uncorr) s (· = s)))) ∧
  (∀ s : State, s.Inv → s.gnt.tones.length = 4 → Store.wf (fun _ => ({} : PilotSt)) s.gnt.pilots = true →
     (∀ (g : BitVec 2) (v : Word), s.pwr.good = true →
       let x := s.tone g.toNat
       let ctl := Reg.GNT_TONE_RUN g.toNat
       let c := s.cadence g.toNat
       let mute : Prop := 0 < c.2 ∧ (c.1 = 0 ∨ x.silent = true)
       (x.run = false → Completes (.toneRun .gauntlet g v) s fun t =>
         t.tone g.toNat = { run := true } ∧ t.bitR ctl 31 = true ∧ RegsBut [ctl] s t ∧ SameMemories s t) ∧
       (x.run = true → Completes (.toneRun .gauntlet g v) s fun t =>
         t.tone g.toNat = { x with stop := false, prog := false } ∧ RegsBut [ctl] s t) ∧
       (x.run = false → Completes (.toneStopRequest .gauntlet g) s fun t => OnlyRegs [ctl] s t) ∧
       (x.run = true → Completes (.toneStopRequest .gauntlet g) s fun t =>
         (mute → t.tone g.toNat = {}) ∧ (¬ mute → t.tone g.toNat = { x with stop := true }) ∧ t.bitR ctl 31 = false ∧
         RegsBut [ctl] s t) ∧
       (∀ ini, ini ≠ .gauntlet → s.admits ini = true →
         (Completes (.toneRun ini g v) s fun t => Denied ctl s t) ∧ Completes (.toneStopRequest ini g) s fun t => Denied ctl s t) ∧
       (x.run = true → x.stop = true → (x.t = 0 ∨ mute ∨ s.toneWrapped g.toNat = true) → Completes (.toneStopped g) s fun t =>
         t.tone g.toNat = {} ∧ t.regs = s.regs) ∧
       ((x.run = false ∨ x.stop = false ∨ (x.t ≠ 0 ∧ ¬ mute ∧ s.toneWrapped g.toNat = false)) →
         Completes (.toneStopped g) s (· = s)) ∧
       (x.run = true → 0 < c.1 → 0 < c.2 →
         (x.t % (c.1 + c.2) = 0 → Completes (.toneCadence g) s fun t =>
           t.tone g.toNat = { x with phase := 0, silent := false } ∧ t.regs = s.regs) ∧
         (c.1 ≤ x.t % (c.1 + c.2) → s.toneWrapped g.toNat = true → Completes (.toneCadence g) s fun t =>
           t.tone g.toNat = (if x.stop then {} else { x with silent := true }) ∧ t.regs = s.regs) ∧
         (x.t % (c.1 + c.2) ≠ 0 → (x.t % (c.1 + c.2) < c.1 ∨ s.toneWrapped g.toNat = false) →
           Completes (.toneCadence g) s (· = s))) ∧
       ((x.run = false ∨ c.1 = 0 ∨ c.2 = 0) → Completes (.toneCadence g) s (· = s))) ∧
     (let starts : Prop := s.gnt.phase = 0 ∧ s.dramReady = true ∧ (s.regionOf 3).isSome = true ∧ s.gnt.ext = [] ∧ s.extMsgs ≠ [] ∧
         s.bitR Reg.GNT_STATUS 7 = true
      (starts → Completes .extCopyStart s fun t => t = { s with gnt := { s.gnt with extCopy := true } }) ∧
      (¬ starts → Completes .extCopyStart s (· = s))) ∧
     (s.gnt.extCopy = true → (s.regionOf 3).isSome = true → Completes .extCopyDone s fun t =>
       t.gnt.extCopy = false ∧ t.sram = s.sram ∧ t.gflash = s.gflash ∧
       (∀ m ∈ s.extMsgs, m < 1024 → ((s.regionOf 3).any fun r => decide ((s.msg m).start + 2 * (s.msg m).len ≤ r.size)) = true → m ∈ t.gnt.ext) ∧
       ∀ m ∈ t.gnt.ext, m ∉ s.gnt.ext → (s.msg m).ext = true ∧ (crc32 (t.msgBytes m) = (t.msg m).crc ∨ m ∈ t.gnt.bad)) ∧
     ((s.gnt.extCopy = false ∨ (s.regionOf 3).isSome = false) → Completes .extCopyDone s (· = s)) ∧
     (∀ (e : BitVec 7) (level : BitVec 16), s.gnt.phase = 0 → e.toNat < gSups s.gnt.image →
       let o := gSupOff s.gnt.image e.toNat
       let fails := max 1 (s.fldR Reg.GNT_PILOT_CTL 8 4)
       let x := Store.get (fun _ => ({} : PilotSt)) s.gnt.pilots e.toNat
       let lev := Reg.SNS_PIL_LEVEL (byteAt s.gnt.image (o + 2))
       let out := (256 * byteAt s.gnt.image (o + 6) : Int) < 10 * ((sfld (s.reg lev) 0 16 - sext 16 (leAt s.gnt.image (o + 4) 2)).natAbs : Int)
       let now (t : State) : PilotSt := Store.get (fun _ => ({} : PilotSt)) t.gnt.pilots e.toNat
       (s.bitR lev 31 = true → out →
         (x.bad + 1 < fails ∨ x.fault = true → Completes (.pilotWindowEnd e true level) s fun t =>
           now t = { x with inv := 0, good := 0, bad := min fails (x.bad + 1) } ∧ t.regs = s.regs ∧ SameMemories s t) ∧
         (fails ≤ x.bad + 1 → x.fault = false → Completes (.pilotWindowEnd e true level) s fun t =>
           now t = ⟨fails, 0, 0, true⟩ ∧ t.bitR Reg.INT_DET0 0x1D = true ∧ t.bitR Reg.GNT_FAULTS 2 = true ∧ SameMemories s t)) ∧
       (s.bitR lev 31 = true → ¬ out →
         (x.good + 1 < fails ∨ x.fault = false → Completes (.pilotWindowEnd e true level) s fun t =>
           now t = { x with inv := 0, bad := 0, good := min fails (x.good + 1) } ∧ t.regs = s.regs ∧ SameMemories s t) ∧
         (fails ≤ x.good + 1 → x.fault = true → Completes (.pilotWindowEnd e true level) s fun t =>
           now t = ⟨0, fails, 0, false⟩ ∧ RegsButRec [] s t ∧ SameMemories s t)) ∧
       (∀ valid : Bool, (valid = true → s.bitR lev 31 = false) →
         (x.inv + 1 ≠ fails → Completes (.pilotWindowEnd e valid level) s fun t =>
           now t = { x with inv := min fails (x.inv + 1) } ∧ t.regs = s.regs ∧ SameMemories s t) ∧
         (x.inv + 1 = fails → Completes (.pilotWindowEnd e valid level) s fun t =>
           now t = { x with inv := fails } ∧ t.bitR Reg.INT_DET0 0x1D = true ∧ t.bitR Reg.GNT_FAULTS 5 = true ∧ SameMemories s t))) ∧
     (∀ (e : BitVec 7) (valid : Bool) (level : BitVec 16), (s.gnt.phase ≠ 0 ∨ gSups s.gnt.image ≤ e.toNat) →
       Completes (.pilotWindowEnd e valid level) s (· = s)))

/-- R304, R311: heartbeats leave on each enabled path, a frozen unit's pin stays; a good heartbeat of an enabled path shows
the partner and holds the path up, and one whose PAIR_ID or CRC is wrong counts as not received; the loss of a path is counted
and raised. R305, R310: a standby takes duty, unless it does so already, when its partner yields, when a heartbeat reports
neither DUTY nor YIELD, and when every path to a duty partner is lost, where seat B waits if all were lost at once. -/
def Obligations.HeartbeatsAndTakeover : Prop :=
  (∀ s : State, s.Inv → s.reach Reg.TWN_CMD = true →
     (s.twinSect = none → Completes .heartbeatSend s (· = s)) ∧
     (∀ sec, s.twinSect = some sec → Completes .heartbeatSend s fun t =>
       t.regs = s.regs ∧ SameMemories s t ∧ t.twin.seq = (s.twin.seq + 1) % 2 ^ 32 ∧
       (0 ∈ s.hbPaths → ⟨.heartbeat, 0, s.hbFrame⟩ ∈ t.out) ∧
       ((1 ∉ s.hbPaths ∨ s.isFrozen = true ∨ s.twin.yield.isSome = true) → t.twin.pin = s.twin.pin) ∧
       (1 ∈ s.hbPaths → s.isFrozen = false → s.twin.yield = none →
         t.twin.pin = (!s.twin.pin) ∧ ⟨.heartbeat, 1, [b8 (!s.twin.pin).toNat]⟩ ∈ t.out) ∧
       ∀ p : Bool, 2 + p.toNat ∈ s.hbPaths → s.linkOn p.toNat = true →
         let vlan := leAt sec 6 2
         let f := (sec.drop 8).take 6 ++ s.macAddr p.toNat ++ [0x88, 0xB5] ++ s.hbFrame
         let g := if vlan.testBit 15 then withTag f (vlan % 2 ^ 12 + vlan / 2 ^ 12 % 8 * 2 ^ 13) else f
         let h := g ++ List.replicate (60 - g.length) 0
         ⟨.ethFrame, p.toNat, h ++ leBytes 4 (crc32 h)⟩ ∈ t.out) ∧
     (∀ (p : BitVec 2) (f : List Byte),
       (p.toNat ∉ s.hbPaths → Completes (.heartbeatReceive p f) s (· = s)) ∧
       (p ≠ 1 → (s.twinGood (f.take 32) = false ∨ byteAt f 0 ≠ 5) → Completes (.heartbeatReceive p f) s (· = s)) ∧
       (1 ∈ s.hbPaths → Completes (.heartbeatReceive 1 f) s fun t =>
         t.bitR Reg.TWN_STATUS 9 = true ∧ t.twin.last = some s.now ∧ OnlyRegs [Reg.TWN_STATUS] s { t with twin := s.twin }) ∧
       (p ≠ 1 → p.toNat ∈ s.hbPaths → s.twinGood (f.take 32) = true → byteAt f 0 = 5 → s.pmode ≠ 9 → s.isDuty = false →
         s.twin.yield = none → s.bitR Reg.TWN_STATUS 6 = false → Completes (.heartbeatReceive p f) s fun t =>
           t.reg Reg.TWN_PARTNER = w32 (byteAt f 1 + 65536 * leAt f 10 2) ∧ t.bitR Reg.TWN_STATUS 5 = (byteAt f 1).testBit 0 ∧
           t.bitR Reg.TWN_STATUS (8 + p.toNat) = true ∧ t.twin.last = some s.now ∧ t.twin.crc = leAt f 16 4 ∧
           RegsBut [Reg.TWN_PARTNER, Reg.TWN_STATUS] s t ∧ SameMemories s t)) ∧
     (∀ p : BitVec 2, p.toNat ∈ s.hbPaths → s.bitR Reg.TWN_STATUS (8 + p.toNat) = true → s.pmode ≠ 9 →
       Completes (.pathLost p) s fun t =>
         t.bitR Reg.TWN_STATUS (8 + p.toNat) = false ∧ t.bitR Reg.TWN_EVT 4 = true ∧ t.bitR Reg.INT_DET0 0x16 = true ∧
         t.reg Reg.TWN_HB_LOST = w32 (satU 32 ((s.reg Reg.TWN_HB_LOST).toNat + 1)) ∧
         RegsButRec [Reg.TWN_STATUS, Reg.TWN_EVT, Reg.INT_DET0, Reg.TWN_HB_LOST] s t ∧ SameMemories s t) ∧
     (∀ p : BitVec 2, (p.toNat ∉ s.hbPaths ∨ s.bitR Reg.TWN_STATUS (8 + p.toNat) = false) → Completes (.pathLost p) s (· = s)) ∧
     (Completes .twinLaneLoss s fun t => t.bitR Reg.TWN_STATUS 12 = false ∧ OnlyRegs [Reg.TWN_STATUS] s t) ∧
     Completes .twinLaneReturn s fun t => t.bitR Reg.TWN_STATUS 12 = true ∧ OnlyRegs [Reg.TWN_STATUS] s t) ∧
  (∀ s : State, s.Inv → s.reach Reg.TWN_CMD = true → s.pmode = 9 → s.takingDuty = false →
     (∀ f : List Byte, 0 ∈ s.hbPaths → s.twinGood (f.take 32) = true → byteAt f 0 = 5 →
       ((byteAt f 1).testBit 1 = true ∨ (byteAt f 1).testBit 0 = false) → Completes (.heartbeatReceive 0 f) s fun t =>
         TakesDuty ((epochMax (s.fldR Reg.TWN_EPOCH 0 16) (leAt f 10 2) + 1) % 65536) s t) ∧
     (∀ f : List Byte, s.twinGood f = true → byteAt f 0 = 4 → Completes (.yieldReceive 0 f) s (TakesDuty s.nextEpoch s)) ∧
     (∀ f : List Byte, (s.twinGood f = false ∨ byteAt f 0 ≠ 4) → Completes (.yieldReceive 0 f) s (· = s)) ∧
     (∀ (p : BitVec 2) (f : List Byte), p ≠ 0 → exec (.yieldReceive p f) s = exec (.heartbeatReceive p f) s) ∧
     (∀ p : BitVec 2, p.toNat ∈ s.hbPaths → s.bitR Reg.TWN_STATUS (8 + p.toNat) = true → s.bitR Reg.TWN_PARTNER 0 = true →
       (∀ q ∈ s.hbPaths, q ≠ p.toNat → s.bitR Reg.TWN_STATUS (8 + q) = false) →
       let atOnce : Prop := ∀ q ∈ s.hbPaths, q ≠ p.toNat → (q, s.now + 1) ∈ s.twin.lost
       ((s.strap.seat = false ∨ ¬ atOnce) → Completes (.pathLost p) s (TakesDuty s.nextEpoch s)) ∧
       (s.strap.seat = true → atOnce → Completes (.pathLost p) s fun t =>
         t.pmode = 9 ∧ t.bitR Reg.TWN_STATUS (8 + p.toNat) = false ∧
         RegsButRec [Reg.TWN_STATUS, Reg.TWN_EVT, Reg.INT_DET0, Reg.TWN_HB_LOST] s t)) ∧
     (s.strap.seat = true → s.allLost = true → s.bitR Reg.TWN_PARTNER 0 = true →
       Completes .seatBTakeover s (TakesDuty s.nextEpoch s)) ∧
     ((s.strap.seat = false ∨ s.allLost = false ∨ s.bitR Reg.TWN_PARTNER 0 = false) → Completes .seatBTakeover s (· = s)))

/-- R303, R306: a duty unit that may yield freezes on TWN_CMD.YIELD and sends YIELD, and otherwise the command is refused;
RESYNC restarts the pair while the partner is SHADOW; a yield without a takeover ramps the feeds and enters SAFE-HOLD. R298,
R301, R302: a standby takes the frames of the record in order; in TABLES it keeps the log from the first BULK frame on, and
the last BULK frame brings SHADOW; a bad CRC, a skip, a late frame or another plan fails the record; a block whose frame is
missing at its deadline goes on with the unit's own state; outside STANDBY nothing is taken. -/
def Obligations.YieldAndRecord : Prop :=
  (∀ s : State, s.Inv →
     (∀ ini, Reaches s ini Reg.TWN_CMD →
       (s.yieldMay = true → Completes (.twnCmdYield ini) s fun t =>
         t.twin.yield = some 0 ∧ t.isFrozen = true ∧ t.bitR Reg.TWN_EVT 1 = true ∧ t.twin.hold.length = 384 ∧
         (∃ d, Sent .twinFrame 0 d s t ∧ byteAt d 0 = 4) ∧
         RegsButRec [Reg.TWN_STATUS, Reg.TWN_EVT] s t ∧ SameMemories s t) ∧
       (s.yieldMay = false → Completes (.twnCmdYield ini) s fun t => t.bitR Reg.TWN_EVT 7 = true ∧ OnlyRegs [Reg.TWN_EVT] s t) ∧
       let may : Prop := s.isDuty = true ∧ s.running = true ∧ s.phase = 0 ∧ s.mode.stop = none ∧ s.twin.yield = none ∧
         s.fldR Reg.TWN_PARTNER 3 2 = 2
       (may → Completes (.twnCmdResync ini) s fun t => t = { s with mode := { s.mode with twin := some 0 } }) ∧
       (¬ may → Completes (.twnCmdResync ini) s fun t => t.bitR Reg.TWN_EVT 7 = true ∧ OnlyRegs [Reg.TWN_EVT] s t)) ∧
     (s.reach Reg.TWN_CMD = true →
       (∀ c, s.twin.yield = some c → s.twin.silent = false → s.twin.rampAt = none → Completes .yieldTimeout s fun t =>
         t.twin.rampAt.isSome = true ∧ t.mode.fault = some (c % 0x100) ∧ t.regs = s.regs ∧ SameMemories s t) ∧
       ((s.twin.yield = none ∨ s.twin.silent = true ∨ s.twin.rampAt.isSome = true) → Completes .yieldTimeout s (· = s)))) ∧
  (∀ s : State, s.Inv → s.reach Reg.TWN_CMD = true →
     ((s.pmode ≠ 9 ∨ s.syncOf = 0) → ∀ f m l w, Completes (.controlFrameReceive f m) s (· = s) ∧
       Completes (.audioFrameReceive f) s (· = s) ∧ Completes (.bulkFrameReceive l w) s (· = s)) ∧
     (s.pmode = 9 → s.syncOf ≠ 0 → s.arrayBad 10 = false →
       (∀ (f : List Byte) (m : Bool),
         ((s.twinGood f = false ∨ byteAt f 0 ≠ 1) → Completes (.controlFrameReceive f m) s (RecordFails 1 s)) ∧
         ((s.twinGood f = false ∨ byteAt f 0 ≠ 2) → Completes (.audioFrameReceive f) s (RecordFails 1 s)) ∧
         (∀ k, s.twin.lastC = some k → leAt f 4 6 ≠ k + 1 → Completes (.controlFrameReceive f m) s (RecordFails 1 s)) ∧
         (∀ k, s.twin.lastA = some k → leAt f 4 6 ≠ k + 1 → Completes (.audioFrameReceive f) s (RecordFails 1 s)) ∧
         (s.twinGood f = true → byteAt f 0 = 1 → (s.twin.lastC = none ∨ s.twin.lastC.map (· + 1) = some (leAt f 4 6)) →
           (byteAt f 1).testBit 1 = false →
           (leAt f 16 4 ≠ (s.reg Reg.TWN_PLAN_CRC).toNat → Completes (.controlFrameReceive f m) s (RecordFails 0 s)) ∧
           ((byteAt f 1).testBit 0 = false → leAt f 16 4 = (s.reg Reg.TWN_PLAN_CRC).toNat → s.running = false → s.blk.next = none →
             s.syncOf = 1 →
             let log := s.twin.kept ++ [(leAt f 4 6, (ctrlOf (f.drop 32) false).log)]
             let size : Nat := (log.map fun e => 8 * e.2.length).foldl (· + ·) 0
             (s.twin.bulk = [] → Completes (.controlFrameReceive f m) s fun t =>
               t = { s with twin := { s.twin with lastC := some (leAt f 4 6) } }) ∧
             (s.twin.bulk ≠ [] → size ≤ 262144 → Completes (.controlFrameReceive f m) s fun t =>
               t = { s with twin := { s.twin with lastC := some (leAt f 4 6), kept := log } }) ∧
             (s.twin.bulk ≠ [] → 262144 < size → Completes (.controlFrameReceive f m) s fun t =>
               t = { s with twin := { s.twin with lastC := some (leAt f 4 6), kept := [], bulk := [] } }))) ∧
         (s.twinGood f = true → byteAt f 0 = 2 → (s.twin.lastA = none ∨ s.twin.lastA.map (· + 1) = some (leAt f 4 6)) → s.syncOf = 1 →
           Completes (.audioFrameReceive f) s fun t => t = { s with twin := { s.twin with lastA := some (leAt f 4 6) } }))) ∧
     (s.pmode = 9 → s.syncOf ≠ 0 → s.arrayBad 10 = true → ∀ f m, Completes (.controlFrameReceive f m) s (RecordFails 1 s) ∧
       Completes (.audioFrameReceive f) s (RecordFails 1 s)) ∧
     (s.pmode = 9 → s.syncOf = 1 → ∀ w : List (Nat × Word),
       (Completes (.bulkFrameReceive false w) s fun t => t = { s with twin := { s.twin with bulk := s.twin.bulk ++ w } }) ∧
       Completes (.bulkFrameReceive true w) s fun t => t.syncOf = 2 ∧ t.twin.bulk = [] ∧ t.twin.kept = [] ∧ t.pmode = 9) ∧
     (s.pmode = 9 → s.syncOf = 2 ∨ s.syncOf = 3 → ∀ l w, Completes (.bulkFrameReceive l w) s (· = s)) ∧
     (s.pmode = 9 → s.syncOf = 1 → s.running = true →
       (lateAfter s.twin.lastC s.blk.n = true → Completes (.standbyRecordTimeout false) s (RecordFails 1 s)) ∧
       (lateAfter s.twin.lastA s.blk.n = true → Completes (.standbyRecordTimeout true) s (RecordFails 1 s)) ∧
       (lateAfter s.twin.lastC s.blk.n = false → Completes (.standbyRecordTimeout false) s (· = s)) ∧
       (lateAfter s.twin.lastA s.blk.n = false → Completes (.standbyRecordTimeout true) s (· = s))) ∧
     (s.follows = false → ¬ (s.pmode = 9 ∧ s.syncOf = 1 ∧ s.running = true) → ∀ a, Completes (.standbyRecordTimeout a) s (· = s)) ∧
     (s.follows = true →
       (s.twin.cWait = [] → Completes (.standbyRecordTimeout false) s (· = s)) ∧
       (s.twin.aWait = [] → Completes (.standbyRecordTimeout true) s (· = s)) ∧
       (∀ n r, s.twin.cWait = n :: r →
         (recLate s.twin.lastC n = false → Completes (.standbyRecordTimeout false) s fun t =>
           t.twin = { s.twin with cWait := r } ∧ t.regs = s.regs ∧ SameMemories s t ∧
           t.geo.snaps.map (·.blk) = s.geo.snaps.map (·.blk) ++ [n]) ∧
         (recLate s.twin.lastC n = true → Completes (.standbyRecordTimeout false) s (RecordFails 1 s))) ∧
       ∀ n r, s.twin.aWait = n :: r →
         (recLate s.twin.lastA n = false → Completes (.standbyRecordTimeout true) s fun t => t.twin.aWait = r) ∧
         (recLate s.twin.lastA n = true → Completes (.standbyRecordTimeout true) s (RecordFails 1 s))))

/-- R320 to R322, R329: a frame of an enabled pair or receiver shows its period; a slave's frame of another length than its FS
divider, and one beyond the frames that a block holds, is a frame error, counted and raised; a lost pair takes no frame but
counts the good ones towards its recovery, and a disabled one does nothing; an AES3 frame's parity errors are counted and its
channel status is shown. R330, R331: a slave pair or receiver that stops, or whose period has left the one at lock by more
than 0.5 % (in domain R), is lost, counted and raised; a receiver or a pair of domain A that leaves its rate says so and is
not lost; sixteen good frames in a row bring it back; a pair that is its own master is not supervised. -/
def Obligations.SerialFrames : Prop :=
  (∀ s : State, s.Inv → SaiWf s →
     let held (i : Nat) : Nat :=
       let p := s.pairSt i
       let nb := if s.running then (if s.domOf i = 1 then p.fs else s.blk.n) else 0
       if p.cur.blk = nb then p.cur.f else 0
     let excess (i : Nat) : Prop := s.running = true ∧ ¬ (s.slaved i = true ∧ s.domOf i = 0) ∧ (s.pairSt i).pre = false ∧ s.fmax i ≤ held i
     let failed (i : Nat) (t : State) : Prop :=
       t.bitR (pairStatReg i) 1 = true ∧ t.bitR Reg.SAI_EVT 1 = true ∧ t.bitR Reg.INT_DET0 0x0A = true ∧
         t.reg Reg.SAI_FS_ERR_COUNT = w32 (satU 32 ((s.reg Reg.SAI_FS_ERR_COUNT).toNat + 1))
     let passed (i : Nat) (t : State) : Prop :=
       t.bitR (pairStatReg i) 1 = false ∧ t.reg Reg.SAI_FS_ERR_COUNT = s.reg Reg.SAI_FS_ERR_COUNT
     (∀ (k : BitVec 5) (pair : Bool) (bclks : Nat) (period : Word) (slip : BitVec 2) (slots : List (List Word)) (src : List Int),
       let i := 2 * k.toNat + pair.toNat
       let cfg := s.pairCfg i
       let bad : Prop := s.slaved i = true ∧ bclks ≠ fld cfg 0 10
       let nom := nomPeriod (rateHz (fld cfg 24 3))
       let good : Prop := bclks = fld cfg 0 10 ∧
         (s.bitR (pairStatReg i) 2 = false ∨ 200 * ((period.toNat : Int) - (nom : Int)).natAbs ≤ nom)
       s.reach (pairCfgReg i) = true →
       ((24 ≤ k.toNat ∨ bitOf cfg 31 = false) → Completes (.saiFrame k pair bclks period slip slots src) s (· = s)) ∧
       (k.toNat < 24 → bitOf cfg 31 = true → (s.bitR (pairStatReg i) 0 = true ∨ (s.pairSt i).halt = true) →
         Completes (.saiFrame k pair bclks period slip slots src) s fun t =>
           t.reg (pairPerReg i) = period ∧ RegsBut [pairPerReg i] s t ∧ t = { s with regs := t.regs, sai := t.sai } ∧
           (s.bitR (pairStatReg i) 0 = true →
             (good → (t.pairSt i).good = (s.pairSt i).good + 1) ∧ (¬ good → (t.pairSt i).good = 0))) ∧
       (k.toNat < 24 → bitOf cfg 31 = true → s.bitR (pairStatReg i) 0 = false → (s.pairSt i).halt = false →
         Completes (.saiFrame k pair bclks period slip slots src) s fun t =>
           t.reg (pairPerReg i) = period ∧ (bad ∨ excess i → failed i t) ∧ (¬ bad → ¬ excess i → passed i t) ∧
           (k.toNat < 22 → t.dram = s.dram ∧ t.boot = s.boot ∧ t.gflash = s.gflash ∧ t.pmode = s.pmode ∧
             (s.running = false → t.sram = s.sram)))) ∧
     (∀ (r : BitVec 2) (a b : BitVec 24) (perr : BitVec 2) (cs : Option Word) (period : Word),
       let i := 48 + r.toNat
       s.reach 0x800000 = true →
       (s.bitR (pairCfgReg i) 31 = false → Completes (.aes3Frame r a b perr cs period) s (· = s)) ∧
       (s.bitR (pairCfgReg i) 31 = true → s.bitR (pairStatReg i) 0 = true → Completes (.aes3Frame r a b perr cs period) s fun t =>
         t.reg (pairPerReg i) = period ∧ RegsBut [pairPerReg i] s t ∧ t = { s with regs := t.regs, sai := t.sai } ∧
         (t.pairSt i).good = (s.pairSt i).good + 1) ∧
       (s.bitR (pairCfgReg i) 31 = true → s.bitR (pairStatReg i) 0 = false →
         Completes (.aes3Frame r a b perr cs period) s fun t =>
           t.reg (pairPerReg i) = period ∧ (∀ w, cs = some w → t.reg (Reg.SAI_AES_CS r.toNat) = w) ∧
           t.reg Reg.SAI_AES_PERR = w32 (satU 32 ((s.reg Reg.SAI_AES_PERR).toNat + popCount 2 perr.toNat)) ∧
           (perr ≠ 0 → t.bitR Reg.SAI_EVT 5 = true ∧ t.bitR Reg.INT_DET0 0x0A = true) ∧
           (excess i → failed i t) ∧ (¬ excess i → passed i t) ∧
           t.dram = s.dram ∧ t.boot = s.boot ∧ t.gflash = s.gflash ∧ t.out = s.out ∧ (s.running = false → t.sram = s.sram)))) ∧
  (∀ (aes : Bool) (k : BitVec 5) (pair rate : Bool) (s : State), s.Inv → SaiWf s →
     let i := if aes then 48 + k.toNat else 2 * k.toNat + pair.toNat
     let st := pairStatReg i
     let p := s.pairSt i
     let moved : Prop := p.lockP ≠ 0 ∧ p.lockP < 200 * (((s.reg (pairPerReg i)).toNat : Int) - (p.lockP : Int)).natAbs
     let lost (t : State) : Prop :=
       t.bitR st 0 = true ∧ t.bitR st 3 = false ∧ t.bitR st 2 = (s.bitR st 2 || rate) ∧
       t.reg Reg.SAI_LOST_COUNT = w32 (satU 32 ((s.reg Reg.SAI_LOST_COUNT).toNat + 1)) ∧
       t.reg Reg.SAI_RATE_CHG_COUNT = w32 (satU 32 ((s.reg Reg.SAI_RATE_CHG_COUNT).toNat + rate.toNat)) ∧
       t.bitR Reg.SAI_EVT 0 = true ∧ t.bitR Reg.INT_DET0 0x09 = true ∧ (rate = true → t.bitR Reg.SAI_EVT 2 = true) ∧ (t.pairSt i).good = 0
     (if aes then k.toNat < 4 else k.toNat < 24) → s.reach (pairCfgReg i) = true →
     ((s.slaved i = false ∨ s.bitR (pairCfgReg i) 31 = false ∨ s.bitR st 0 = true ∨ (rate = true ∧ (¬ moved ∨ s.bitR st 2 = true))) →
       Completes (.saiClockStop aes k pair rate) s (· = s)) ∧
     (s.bitR (pairCfgReg i) 31 = true → s.slaved i = true → s.bitR st 0 = false → (rate = true → moved ∧ s.bitR st 2 = false) →
       (s.domOf i = 0 → Completes (.saiClockStop aes k pair rate) s fun t =>
         lost t ∧ RegsButRec [st, Reg.SAI_LOST_COUNT, Reg.SAI_RATE_CHG_COUNT, Reg.SAI_EVT, Reg.INT_DET0] s t ∧ SameMemories s t) ∧
       (s.domOf i ≠ 0 → rate = false → Completes (.saiClockStop aes k pair rate) s fun t => lost t ∧ SameMemories s t) ∧
       (s.domOf i ≠ 0 → rate = true → Completes (.saiClockStop aes k pair rate) s fun t =>
         t.bitR st 0 = false ∧ t.bitR st 2 = true ∧ t.reg Reg.SAI_LOST_COUNT = s.reg Reg.SAI_LOST_COUNT ∧
         t.reg Reg.SAI_RATE_CHG_COUNT = w32 (satU 32 ((s.reg Reg.SAI_RATE_CHG_COUNT).toNat + 1)) ∧
         t.bitR Reg.SAI_EVT 2 = true ∧ t.bitR Reg.INT_DET0 0x0A = true)) ∧
     ((s.bitR st 0 = true ∨ s.bitR st 2 = true) → 16 ≤ p.good → Completes (.saiClockRecover aes k pair) s fun t =>
       t.bitR st 0 = false ∧ t.bitR st 2 = false ∧ (t.pairSt i).fs = s.blk.n ∧ (t.pairSt i).good = 0 ∧
       (s.domOf i = 0 → (t.pairSt i).zeroTo = s.blk.n + 1) ∧ (s.domOf i ≠ 0 → (t.pairSt i).txTo = s.blk.n + 1) ∧
       RegsBut [st] s t ∧ SameMemories s t) ∧
     (((s.bitR st 0 = false ∧ s.bitR st 2 = false) ∨ p.good < 16) → Completes (.saiClockRecover aes k pair) s (· = s)))

/-- R323, R324, R328, R333: a write of SAI_MASK waits for the next frame start, or for the one after where the write is late,
and the masks of the Gauntlet's lanes are its own; a slot whose start or stop is pending switches at a zero crossing or after
SAI_ZXTO frames; a muted pair of slots that has carried no burst for 4,096 frames is released, of a lane or of an AES3
receiver. -/
def Obligations.SlotMasks : Prop :=
  ∀ (l : BitVec 7) (s : State), s.Inv → SaiWf s →
    let n := l.toNat
    let x := s.laneSt n
    (∀ (ini : Initiator) (v : Word) (late : Bool), Reaches s ini (Reg.SAI_MASK n) →
      ((n < 88 ∨ (n < 96 ∧ ini = .gauntlet)) → Completes (.saiMaskWrite ini l v late) s fun t =>
        t.reg (Reg.SAI_MASK n) = v &&& 0xFFFF ∧
        t.laneSt n = (if late then { x with m2 := some (fld v 0 16) } else { x with m1 := some (fld v 0 16) }) ∧
        RegsBut [Reg.SAI_MASK n] s t ∧ SameMemories s t) ∧
      (88 ≤ n → n < 96 → ini ≠ .gauntlet → Completes (.saiMaskWrite ini l v late) s fun t => Denied (Reg.SAI_MASK n) s t) ∧
      (96 ≤ n → Completes (.saiMaskWrite ini l v late) s (· = s))) ∧
    (∀ slot : BitVec 4, s.reach 0x800000 = true →
      let want := s.laneEn n && decide (slot.toNat < s.laneSlots n) && x.tgt.testBit slot.toNat
      let pass : Prop := nth x.lastX slot.toNat 0 = 0 ∨ s.fldR Reg.SAI_ZXTO 0 8 ≤ nth x.cnt slot.toNat 0
      let due : Prop := n < 88 ∧ s.bitR (Reg.SAI_MASK_EFF n) slot.toNat = true ∧ x.live.testBit slot.toNat ≠ want ∧ pass
      (due → Completes (.slotZeroCrossSwitch l slot) s fun t =>
        t.laneSt n = { x with live := x.live ^^^ 2 ^ slot.toNat, cnt := putNth x.cnt slot.toNat 0 } ∧ t.regs = s.regs ∧ SameMemories s t) ∧
      (¬ due → Completes (.slotZeroCrossSwitch l slot) s (· = s))) ∧
    (∀ i : BitVec 3, s.reach 0x800000 = true →
      let own := if 96 ≤ n then x.naAcc / 2 ^ 16 else s.fldR (Reg.SAI_MASK_EFF n) 16 16
      let bits := 3 * 4 ^ i.toNat
      let due : Prop := n < 100 ∧ own.testBit (2 * i.toNat) = true ∧ x.csMute = false ∧ 4096 ≤ nth x.naCnt i.toNat 0
      (due → Completes (.nonaudioRelease l i) s fun t =>
        (t.laneSt n).live = x.live &&& (0xFFFF ^^^ bits) ∧ SameMemories s t ∧
        (n < 96 → t.fldR (Reg.SAI_MASK_EFF n) 16 16 = own &&& (0xFFFF ^^^ bits) ∧ RegsBut [Reg.SAI_MASK_EFF n] s t) ∧
        (96 ≤ n → (t.laneSt n).naAcc / 2 ^ 16 = own &&& (0xFFFF ^^^ bits) ∧ t.regs = s.regs)) ∧
      (¬ due → Completes (.nonaudioRelease l i) s (· = s)))

/-- R346, R347, R340, R361: a sync makes groups wait for their next sensing tick, the Gauntlet's alone those it has claimed;
the tick resets them, counts once and starts the span of invalid outputs; a stuck input is flagged, counted and recorded until
it changes; the coefficient memory reads on from its index. R339, R348 to R353: a group's chains take the ticks of its pins, a
group with a ring those of the block just complete, whose entry then shows its block, or is abandoned where it is late; a full
window of a channel shows WIN and VALID; a line's window, under the words in force at its start (R361), is decided once both
its channels have it: a disabled entry and one without valid data read UNSUP, and an open line, which draws no current, reads
HIGH and is a fault after FAILS windows. -/
def Obligations.Sensing : Prop :=
  (∀ s : State, s.Inv → Store.wf (fun _ => 0) s.sns.tau = true →
     (s.reach Reg.SNS_CTL = true →
       (s.bitR Reg.SNS_SYNC_CFG 0 = true → Completes .snsSyncPin s fun t => t = { s with sns := { s.sns with pend := s.sns.pend ||| 255 } }) ∧
       (s.bitR Reg.SNS_SYNC_CFG 0 = false → Completes .snsSyncPin s (· = s))) ∧
     (∀ (ini : Initiator) (v : Word), Reaches s ini Reg.SNS_CTL →
       (bitOf v 0 = true → Completes (.snsCtlSync ini v) s fun t =>
         (∀ g, g < 8 → t.sns.pend.testBit g = (s.sns.pend.testBit g || !s.claimed g)) ∧
         t = { s with sns := { s.sns with pend := t.sns.pend } }) ∧
       (bitOf v 0 = false → Completes (.snsCtlSync ini v) s (· = s))) ∧
     (∀ (ini : Initiator) (g : BitVec 3) (v : Word), Reaches s ini (Reg.SNS_GRP_CTL g.toNat) →
       ((s.claimed g.toNat = false ∨ ini = .gauntlet) → bitOf v 0 = true → Completes (.snsGrpCtlSync ini g v) s fun t =>
         t = { s with sns := { s.sns with pend := s.sns.pend ||| 2 ^ g.toNat } }) ∧
       ((s.claimed g.toNat = false ∨ ini = .gauntlet) → bitOf v 0 = false → Completes (.snsGrpCtlSync ini g v) s (· = s)) ∧
       (s.claimed g.toNat = true → ini ≠ .gauntlet → Completes (.snsGrpCtlSync ini g v) s fun t => Denied (Reg.SNS_GRP_CTL g.toNat) s t)) ∧
     (∀ m : BitVec 8,
       let due (g : Nat) : Prop := m.toNat.testBit g = true ∧ s.sns.pend.testBit g = true ∧ s.reach (Reg.SNS_GRP_CFG g) = true ∧
         (s.claimed g = true ∨ s.rootUp = true)
       ((∀ g, g < 8 → ¬ due g) → Completes (.groupReset m) s (· = s)) ∧
       (∀ g, g < 8 → due g → Completes (.groupReset m) s fun t =>
         let cfg := s.reg (Reg.SNS_GRP_CFG g)
         let st := Reg.SNS_GRP_STAT g
         t.sns.pend.testBit g = false ∧ t.fldR st 8 8 = (if bitOf cfg 31 then snsInvalid cfg else 0) ∧ t.bitR st 2 = bitOf cfg 31 ∧
         t.bitR st 3 = false ∧ t.fldR st 0 2 = (if s.claimed g then 2 else 0) ∧ t.bitR Reg.SNS_STATUS g = bitOf cfg 31 ∧
         t.bitR Reg.SNS_EVT 3 = true ∧ t.reg Reg.SNS_SYNC_COUNT = w32 (satU 32 ((s.reg Reg.SNS_SYNC_COUNT).toNat + 1)) ∧
         (∀ i, i < 16 → bitOf (t.snsChStat (16 * g + i)) 0 = false) ∧
         (∀ h, h < 8 → ¬ due h → t.sns.pend.testBit h = s.sns.pend.testBit h ∧
           t.reg (Reg.SNS_GRP_STAT h) = s.reg (Reg.SNS_GRP_STAT h)) ∧
         RegsBut (Reg.SNS_STATUS :: Reg.SNS_EVT :: Reg.SNS_SYNC_COUNT :: (List.range 8).map Reg.SNS_GRP_STAT) s t ∧ SameMemories s t)) ∧
     (∀ c : BitVec 7, s.reach (Reg.SNS_CH_STAT c.toNat) = true →
       let st := Reg.SNS_CH_STAT c.toNat
       (s.bitR (Reg.SNS_GRP_CFG (c.toNat / 16)) 31 = true → s.bitR st 1 = false → Completes (.channelStuck c) s fun t =>
         t.bitR st 1 = true ∧ t.bitR Reg.SNS_EVT 0 = true ∧
         t.reg Reg.SNS_STUCK_COUNT = w32 (satU 32 ((s.reg Reg.SNS_STUCK_COUNT).toNat + 1)) ∧
         OnlyRegsRec [st, Reg.SNS_EVT, Reg.SNS_STUCK_COUNT] s t) ∧
       ((s.bitR (Reg.SNS_GRP_CFG (c.toNat / 16)) 31 = false ∨ s.bitR st 1 = true) → Completes (.channelStuck c) s (· = s)) ∧
       Completes (.stuckInputChange c) s fun t => t.bitR st 1 = false ∧ OnlyRegs [st] s t) ∧
     (∀ ini, Reaches s ini Reg.SNS_COEF_DATA → Completes (.snsCoefDataRead ini) s fun t =>
       let i := s.fldR Reg.SNS_COEF_ADDR 0 9
       (t.reg Reg.SNS_COEF_ADDR).toNat = (if 286 ≤ i then 0 else i + 1) ∧ RegsBut [Reg.SNS_COEF_ADDR] s t ∧ SameMemories s t ∧
       Sent .rdata (iniCode ini) (leBytes 4 (if i < 287 then toBits 32 (sext 24 (Config.snsCoef i).toNat) else 0)) s t)) ∧
  (∀ s : State, s.Inv → Store.wf (fun _ => ((0, 0) : Int × Int)) s.sns.amp = true → Store.wf (fun _ => ((0, 0) : Nat × Nat)) s.sns.line = true →
     Store.wf (fun _ => 0) s.sns.gt = true →
     (∀ (g : BitVec 3) (late : Bool) (tns : Nat) (x : List (List Int)), s.reach (Reg.SNS_GRP_CFG g.toNat) = true →
       let on := s.bitR (Reg.SNS_GRP_CFG g.toNat) 31
       let ring := s.running && s.snsRing g.toNat
       let stopped := s.bitR (Reg.SNS_GRP_STAT g.toNat) 3
       ((on = false ∨ (ring = true ∧ s.blk.n = 0) ∨ (ring = false ∧ stopped = true)) → Completes (.ringEntryDone g late tns x) s (· = s)) ∧
       (on = true → ring = false → stopped = false → (∀ e ∈ s.sns.cuts, e.1 ≠ g.toNat) → Completes (.ringEntryDone g late tns x) s fun t =>
         Store.get (fun _ => 0) t.sns.gt g.toNat = Store.get (fun _ => 0) s.sns.gt g.toNat + x.length ∧ SameMemories s t ∧
         RegsButRec (Reg.SNS_EVT :: Reg.SNS_STUCK_COUNT :: (List.range 16).map fun c => Reg.SNS_CH_STAT (16 * g.toNat + c)) s t) ∧
       (ring = true → s.blk.n ≠ 0 →
         (late = true → Completes (.ringEntryDone g late tns x) s fun t =>
           t.bitR Reg.SNS_EVT 1 = true ∧ t.reg (Reg.SNS_RING_BLK g.toNat) = s.reg (Reg.SNS_RING_BLK g.toNat) ∧ SameMemories s t) ∧
         (late = false → Completes (.ringEntryDone g late tns x) s fun t =>
           t.reg (Reg.SNS_RING_BLK g.toNat) = w32 (s.blk.n - 1) ∧ t.sns.synced.testBit g.toNat = false ∧ t.sram = s.sram))) ∧
     (∀ (c : BitVec 7) (valid : Bool) (x : List Int), s.reach (Reg.SNS_PIL_LEVEL c.toNat) = true →
       let n := c.toNat
       let cfg := s.reg (Reg.SNS_GRP_CFG (n / 16))
       let off : Prop := bitOf cfg 31 = false ∨ bitOf cfg (n % 16) = false ∨ 2 ≤ fld cfg 28 2 ∨ s.bitR (Reg.SNS_GRP_STAT (n / 16)) 3 = true
       let win := (s.fldR (Reg.SNS_PIL_LEVEL n) 16 15 + 1) % 2 ^ 15
       let other := if n % 2 = 0 then n + 1 else n - 1
       let e := n / 2
       let same : Prop := ∀ ws, (s.sns.lcfg.find? fun p => decide (p.1 = e)) = some (e, ws) → ws = s.lineWords e
       let u := if s.running && s.snsRing (n / 16) then s else s.each x fun s v => (s.chainTick cfg n v).1
       let full := (Store.get (fun _ => ({} : PilWin)) u.sns.pil n).full
       (off → Completes (.snsPilotWindow c valid x) s (· = s)) ∧
       (¬ off → full = none → Completes (.snsPilotWindow c valid x) s (· = u)) ∧
       (∀ i q bad, ¬ off → full = some (i, q, bad) → Completes (.snsPilotWindow c valid x) s fun t =>
         let ok := valid && !bad
         let both : Prop := s.fldR (Reg.SNS_PIL_LEVEL other) 16 15 = win
         t.fldR (Reg.SNS_PIL_LEVEL n) 16 15 = win ∧ t.bitR (Reg.SNS_PIL_LEVEL n) 31 = ok ∧ SameMemories s t ∧
         (¬ both → t.reg (Reg.SNS_LINE_STAT e) = s.reg (Reg.SNS_LINE_STAT e)) ∧
         (both → (e, s.lineWords e) ∈ t.sns.lcfg) ∧
         (both → s.bitR (Reg.SNS_LINE_CFG e) 31 = false →
           t.fldR (Reg.SNS_LINE_STAT e) 0 2 = 3 ∧ t.bitR (Reg.SNS_LINE_STAT e) 4 = false) ∧
         (both → same → s.bitR (Reg.SNS_LINE_CFG e) 31 = true → ok = false →
           t.fldR (Reg.SNS_LINE_STAT e) 0 2 = 3 ∧ t.bitR (Reg.SNS_LINE_STAT e) 4 = s.bitR (Reg.SNS_LINE_STAT e) 4 ∧
           t.sns.line = s.sns.line) ∧
         (both → same → ok = true → i = 0 → q = 0 → n % 2 = 1 → s.bitR (Reg.SNS_PIL_LEVEL (n - 1)) 31 = true →
           s.bitR (Reg.SNS_LINE_CFG e) 31 = true →
           sfld (s.reg (Reg.SNS_LINE_VMIN e)) 0 16 ≤ sfld (s.reg (Reg.SNS_PIL_LEVEL (n - 1))) 0 16 →
           (s.reg (Reg.SNS_LINE_HI e)).toNat < 2 ^ 32 - 1 → s.bitR (Reg.SNS_LINE_STAT e) 4 = false →
           t.reg (Reg.SNS_LINE_Z e) = 0xFFFFFFFF ∧ t.fldR (Reg.SNS_LINE_STAT e) 0 2 = 2 ∧
           (max 1 (s.fldR (Reg.SNS_LINE_CFG e) 16 4) ≤ (Store.get (fun _ => ((0, 0) : Nat × Nat)) s.sns.line e).1 + 1 →
             t.bitR (Reg.SNS_LINE_STAT e) 4 = true ∧ t.bitR Reg.INT_DET0 0x1E = true ∧ t.bitR Reg.SNS_EVT 4 = true ∧
             t.bitR Reg.GNT_FAULTS 3 = true) ∧
           ((Store.get (fun _ => ((0, 0) : Nat × Nat)) s.sns.line e).1 + 1 < max 1 (s.fldR (Reg.SNS_LINE_CFG e) 16 4) →
             t.bitR (Reg.SNS_LINE_STAT e) 4 = false ∧
             Store.get (fun _ => ((0, 0) : Nat × Nat)) t.sns.line e = ((Store.get (fun _ => ((0, 0) : Nat × Nat)) s.sns.line e).1 + 1, 0))))))

/-- R355, R357 to R359, R549: a job is accepted in MEASURE with a block that keeps the limits, shows in SNS_MEAS_STAT, and
ends with its STATUS: 5 where no channel contributes, 2 with the responses, 6 where the bank cannot take the correction. The
bits of responses and corrections are free values. -/
def Obligations.MeasurementJobs : Prop :=
  ∀ s : State, s.Inv →
    (∀ c : BitVec 2, s.reach Reg.SNS_MEAS_STAT = true → Requested s c.toNat 4 1 →
      let addr := s.mbxArg c.toNat 0
      let job := (s.dramRead (addr * 64) 64 false).2.1
      (s.usable < addr * 64 + 64 → Completes (.measStart c) s fun t => Responded c.toNat 2 [] s t ∧ t.meas = s.meas ∧ t.dram = s.dram) ∧
      (addr * 64 + 64 ≤ s.usable → s.pmode ≠ 8 → Completes (.measStart c) s fun t =>
        Responded c.toNat 4 [] s t ∧ t.meas = s.meas ∧ t.dram = s.dram) ∧
      (addr * 64 + 64 ≤ s.usable → s.pmode = 8 → s.meas.phase ≠ 0 → Completes (.measStart c) s fun t =>
        Responded c.toNat 3 [] s t ∧ t.meas = s.meas) ∧
      (addr * 64 + 64 ≤ s.usable → s.pmode = 8 → s.meas.phase = 0 → s.jobBad job = false → Completes (.measStart c) s fun t =>
        Responded c.toNat 0 [] s t ∧ t.meas.phase = 1 ∧ t.meas.unfit = 0 ∧ t.meas.addr = addr ∧ t.meas.job = job ∧
        (s.running = true → 0 < s.blk.b → t.meas.wait = none ∧ s.blk.n < t.meas.n0 ∧
          (s.now + 1000000 - s.blk.t0) * s.blk.fr ≤ t.meas.n0 * (s.blk.b * 1000000000)) ∧
        (s.running = false → t.meas.wait = some (s.now + 1000000)) ∧
        t.bitR Reg.SNS_MEAS_STAT 31 = true ∧ t.fldR Reg.SNS_MEAS_STAT 16 8 = 1) ∧
      (addr * 64 + 64 ≤ s.usable → s.pmode = 8 → s.meas.phase = 0 → s.jobBad job = true → Completes (.measStart c) s fun t =>
        Responded c.toNat 0 [] s t ∧ t.meas.phase = 0 ∧ t.bitR Reg.SNS_MEAS_STAT 31 = false ∧ t.fldR Reg.SNS_MEAS_STAT 16 8 = 4)) ∧
    (∀ c : BitVec 2, Requested s c.toNat 4 2 → Completes (.measStatus c) s fun t =>
      Responded c.toNat 0 [s.reg Reg.SNS_MEAS_STAT] s t ∧ RegsBut (rspRegs c.toNat 1) s t) ∧
    (s.reach Reg.SNS_MEAS_STAT = true →
      (s.meas.phase = 1 → Completes .measCaptureDone s fun t => t = { s with meas := { s.meas with phase := 2 } }) ∧
      (s.meas.phase ≠ 1 → Completes .measCaptureDone s (· = s)) ∧
      (∀ clean : BitVec 8,
        (s.meas.phase ≠ 2 → Completes (.measResponsesDone clean) s (· = s)) ∧
        (s.meas.phase = 2 → (∀ i, i < byteAt s.meas.job 3 → clean.toNat.testBit i = true → s.meas.unfit.testBit i = true ∨ s.chFit i = false) →
          Completes (.measResponsesDone clean) s fun t =>
            t.meas.phase = 0 ∧ t.meas.used = 0 ∧ t.bitR Reg.SNS_MEAS_STAT 31 = false ∧ t.fldR Reg.SNS_MEAS_STAT 16 8 = 5) ∧
        (∀ i, s.meas.phase = 2 → i < byteAt s.meas.job 3 → i < 8 → clean.toNat.testBit i = true → s.meas.unfit.testBit i = false →
          s.chFit i = true → Completes (.measResponsesDone clean) s fun t =>
            t.meas.used.testBit i = true ∧
            ((byteAt s.meas.job 1).testBit 1 = true → t.meas.phase = 3) ∧
            ((byteAt s.meas.job 1).testBit 1 = false → t.meas.phase = 0 ∧ t.fldR Reg.SNS_MEAS_STAT 16 8 = 2))) ∧
      (s.meas.phase ≠ 3 → Completes .measSynthDone s (· = s)) ∧
      (s.meas.phase = 3 →
        let f := leAt s.meas.job 20 2
        let taps := leAt s.meas.job 40 2
        let start := (bankOf s.reg f (1 - s.firSel f)).start
        let cannot : Prop := 2621440 < start + taps ∨ s.firFading f = true ∨ s.bitR Reg.FIR_STATUS 24 = true ∨
          ∃ k, k < taps ∧ s.coefLive (start + k) = true
        (cannot → Completes .measSynthDone s fun t =>
          t.meas.phase = 0 ∧ t.bitR Reg.SNS_MEAS_STAT 31 = false ∧ t.fldR Reg.SNS_MEAS_STAT 16 8 = 6 ∧ t.sram = s.sram) ∧
        (¬ cannot → Completes .measSynthDone s fun t =>
          t.meas.phase = 0 ∧ t.bitR Reg.SNS_MEAS_STAT 31 = false ∧ t.fldR Reg.SNS_MEAS_STAT 16 8 = 2 ∧ t.pmode = s.pmode)))

/-- R365, R368, R373, R376, R386: the link's state, its event and the link-down count; a ring's tail moves unless it would
pass the head; a snapshot copies the counters and CLR restarts them; a timestamp is read once with its tag; a window of FCS
errors at its threshold raises detector 0x12. -/
def Obligations.EthernetPorts : Prop :=
  ∀ (p : Bool) (s : State), s.Inv → MacWf s →
    let n := p.toNat
    (s.reach (Reg.MAC_CTL n) = true →
      (s.bitR (Reg.MAC_CTL n) 0 = true → Completes (.linkUp p) s fun t =>
        t.linkOn n = true ∧ (s.linkOn n = false → t.bitR (Reg.MAC_EVT n) 0 = true) ∧
        OnlyRegsRec [Reg.MAC_STATUS n, Reg.MAC_EVT n] s t) ∧
      (s.bitR (Reg.MAC_CTL n) 0 = false → Completes (.linkUp p) s (· = s)) ∧
      (∀ st : BitVec 4, Completes (.linkDown p st) s fun t =>
        t.linkOn n = false ∧ t.fldR (Reg.MAC_STATUS n) 2 4 = st.toNat ∧
        (s.linkOn n = true → t.bitR (Reg.MAC_EVT n) 0 = true ∧ macCounter t n 30 = satU 64 (macCounter s n 30 + 1)) ∧
        RegsButRec [Reg.MAC_STATUS n, Reg.MAC_EVT n] s t ∧ SameMemories s t)) ∧
    (∀ (ini : Initiator) (q : BitVec 2) (v : Word), Reaches s ini (Reg.MAC_RING_TAIL n q.toNat) →
      let len := s.ringLen n q.toNat
      let tail := s.ringTail n q.toNat
      let room := (s.ringHead n q.toNat + len - tail) % len
      let step := (v.toNat % 4096 % len + len - tail) % len
      (room ≠ 0 → room < step → Completes (.macRingTailWrite ini p q v) s fun t =>
        t.bitR (Reg.MAC_EVT n) 5 = true ∧ OnlyRegs [Reg.MAC_EVT n] s t) ∧
      ((room = 0 ∨ step ≤ room) → Completes (.macRingTailWrite ini p q v) s fun t =>
        (t.reg (Reg.MAC_RING_TAIL n q.toNat)).toNat = v.toNat % 4096 % len ∧ OnlyRegs [Reg.MAC_RING_TAIL n q.toNat] s t)) ∧
    (∀ ini, Reaches s ini (Reg.MAC_SNAP n) →
      (∀ c ∈ [Instr.macSnap ini p, .macSnapClr ini p], Completes c s fun t =>
        (∀ i, i < 64 → t.reg (Reg.MAC_STAT_LO n i) = w32 (macCounter s n i) ∧
          t.reg (Reg.MAC_STAT_HI n i) = w32 (macCounter s n i / 2 ^ 32)) ∧ SameMemories s t) ∧
      (Completes (.macSnap ini p) s fun t => t.mac = s.mac) ∧
      Completes (.macSnapClr ini p) s fun t => (∀ i, macCounter t n i = 0) ∧ t.macP (1 - n) = s.macP (1 - n)) ∧
    (∀ (ini : Initiator) (tx : Bool), Reaches s ini (Reg.MAC_TSQ_RX_LO n) →
      let q := if tx then (s.macP n).tsTx else (s.macP n).tsRx
      let hi := if tx then Reg.MAC_TSQ_TX_HI n else Reg.MAC_TSQ_RX_HI n
      (q = [] → Completes (.tsqRead ini p tx) s fun t =>
        t.reg hi = 0 ∧ RegsBut [hi] s t ∧ t.mac = s.mac ∧ Sent .rdata (iniCode ini) (leBytes 4 0) s t) ∧
      (∀ e r, q = e :: r → e.tag < 16 → e.id < 65536 → Completes (.tsqRead ini p tx) s fun t =>
        t.bitR hi 31 = true ∧ t.fldR hi 16 4 = e.tag ∧ t.fldR hi 0 16 = e.id ∧
        (if tx then (t.macP n).tsTx else (t.macP n).tsRx) = r ∧ RegsBut [hi] s t ∧
        Sent .rdata (iniCode ini) (leBytes 4 (w32 e.ns).toNat) s t)) ∧
    (s.reach (Reg.MAC_FCS_CFG n) = true →
      let c := s.reg (Reg.MAC_FCS_CFG n)
      let len := fld c 16 16 * 1000000
      let from_ := ((s.macP n).winAt).getD s.now
      ((s.bitR (Reg.MAC_CTL n) 0 = false ∨ len = 0 ∨ (from_ ≤ s.now ∧ s.now < from_ + len)) → Completes (.fcsWindow p) s (· = s)) ∧
      (s.bitR (Reg.MAC_CTL n) 0 = true → len ≠ 0 → (from_ + len ≤ s.now ∨ s.now < from_) → Completes (.fcsWindow p) s fun t =>
        (t.macP n).winErr = 0 ∧ (t.macP n).winOk = 0 ∧ (t.macP n).winAt = some (if s.now < from_ then s.now else from_ + len) ∧
        (fld c 0 16 ≤ (s.macP n).winErr → t.bitR (Reg.MAC_EVT n) 1 = true ∧ t.bitR Reg.INT_DET0 0x12 = true) ∧
        ((s.macP n).winErr < fld c 0 16 → t.regs = s.regs) ∧
        RegsButRec [Reg.MAC_EVT n, Reg.INT_DET0] s t ∧ SameMemories s t))

/-- R366, R367, R369, R371: a runt is counted and dropped; a frame with a bad FCS is counted and, without KEEP_BAD, dropped; a
frame that the address filter stops is counted; one for a ring with room fills its descriptor, and a full ring drops it; a
transmit descriptor that waits is taken and its frames leave, padded and with their FCS; one that R369 rejects is counted and
sends nothing. R219, R365, R379, R384, R385: a stream packet whose samples have left is sent on the port of the slot where its
job runs, or on its entry's port where no job of its block is left, waits for a job that is still to run, is not sent with a
job that was stopped, is discarded and counted with the link down, and in STANDBY is withheld and counted; 10 ms without the
highest EPOCH let the next packet set it. -/
def Obligations.EthernetFrames : Prop :=
  (∀ (p : Bool) (s : State), s.Inv → MacWf s → s.reach (Reg.MAC_CTL p.toNat) = true →
     let n := p.toNat
     (∀ (frame : List Byte) (sfd : BitVec 36),
       let f := frame.take (frame.length - 4)
       let good := decide (crc32 f = leNat (frame.drop (frame.length - 4)))
       ((s.bitR (Reg.MAC_CTL n) 0 = false ∨ s.linkOn n = false) → Completes (.macFrameReceive p frame sfd) s fun t =>
         t.regs = s.regs ∧ SameMemories s t ∧ t.out = s.out) ∧
       (s.bitR (Reg.MAC_CTL n) 0 = true → s.linkOn n = true →
         (frame.length < 64 → Completes (.macFrameReceive p frame sfd) s fun t =>
           macCounter t n 6 = satU 64 (macCounter s n 6 + 1) ∧ macCounter t n 0 = macCounter s n 0 ∧ t.regs = s.regs ∧
           SameMemories s t) ∧
         (64 ≤ frame.length → frame.length ≤ s.fldR (Reg.MAC_MAXLEN n) 0 14 →
           (good = false → s.bitR (Reg.MAC_CTL n) 4 = false → Completes (.macFrameReceive p frame sfd) s fun t =>
             macCounter t n 5 = satU 64 (macCounter s n 5 + 1) ∧ (t.macP n).winErr = (s.macP n).winErr + 1 ∧ t.regs = s.regs ∧
             SameMemories s t) ∧
           ((good = true ∨ s.bitR (Reg.MAC_CTL n) 4 = true) → s.arrayBad 8 = false → eventFrame f (parseFrame f) = false →
             (s.frameTo n f (parseFrame f) = .filtered → Completes (.macFrameReceive p frame sfd) s fun t =>
               macCounter t n 17 = satU 64 (macCounter s n 17 + 1) ∧ macCounter t n 0 = satU 64 (macCounter s n 0 + 1) ∧
               t.regs = s.regs ∧ SameMemories s t) ∧
             (∀ q, q < 4 → s.frameTo n f (parseFrame f) = .ring q →
               ((s.bitR (Reg.MAC_CTL n) 7 = false ∨ s.ringUsed n q ≤ 1) → Completes (.macFrameReceive p frame sfd) s fun t =>
                 macCounter t n 18 = satU 64 (macCounter s n 18 + 1) ∧ t.bitR (Reg.MAC_EVT n) 3 = true ∧
                 OnlyRegs [Reg.MAC_EVT n] s { t with mac := s.mac }) ∧
               (s.bitR (Reg.MAC_CTL n) 7 = true → 1 < s.ringUsed n q → Completes (.macFrameReceive p frame sfd) s fun t =>
                 let st := s.ringDesc n q (s.ringHead n q) + 24
                 t.reg (Reg.MAC_RING_HEAD n q) = w32 ((s.ringHead n q + 1) % s.ringLen n q) ∧
                 macCounter t n 0 = satU 64 (macCounter s n 0 + 1) ∧ macCounter t n 18 = macCounter s n 18 ∧
                 (q = 3 → t.sramBytes (svcAddr st) 8 = [0x80, 0, 0, 0, 0, 0, 0, 0]) ∧
                 (q = 1 → DramPlain s → st + 8 ≤ s.usable → (s.dramDenied .engine st).isNone = true →
                   s.bitR Reg.INT_INJ0 3 = false → s.bitR Reg.INT_INJ0 4 = false →
                   t.dramBytes st 8 = [0x80, 0, 0, 0, 0, 0, 0, 0]))))))) ∧
     (∀ (sfd : BitVec 36) (held : Bool),
       ((s.txRing n = none ∨ s.linkOn n = false ∨ s.bitR (Reg.MAC_CTL n) 7 = false ∨ s.bitR (Reg.MAC_CTL n) 0 = false) →
         Completes (.txDescriptor p sfd held) s (· = s)) ∧
       (∀ q, s.txRing n = some q → s.linkOn n = true → s.bitR (Reg.MAC_CTL n) 7 = true → s.bitR (Reg.MAC_CTL n) 0 = true →
         let r := s.ringRead q (s.ringDesc n q (s.ringHead n q)) 32
         let f := (r.1.ringRead q (leAt r.2 0 8) (leAt r.2 8 4 % 2 ^ 18)).2
         (Completes (.txDescriptor p sfd held) s fun t =>
           t.reg (Reg.MAC_RING_HEAD n q) = w32 ((s.ringHead n q + 1) % s.ringLen n q) ∧ (t.macP n).turn = decide (q = 0)) ∧
         ((s.txReject n r.2 f (parseFrame f)).isSome = true → Completes (.txDescriptor p sfd held) s fun t =>
           t.out = s.out ∧ t.bitR (Reg.MAC_EVT n) 4 = true ∧ macCounter t n 47 = satU 64 (macCounter s n 47 + 1)) ∧
         (s.txReject n r.2 f (parseFrame f) = none → Completes (.txDescriptor p sfd held) s fun t =>
           t.out = ((txFrames r.2 f (parseFrame f)).map fun g => ⟨.ethFrame, n, onWire g⟩).reverse ++ s.out)))) ∧
  (∀ s : State, s.Inv → MacWf s → Store.wf (fun _ => ({} : RxBuf)) s.mac.rx = true → s.reach Reg.STR_CTL = true →
     (∀ t7 : BitVec 7,
       (s.strOn (s.rxW t7.toNat 0) = true → ((s.rxBuf t7.toNat).seen + 10000000 ≤ s.now ∨ s.now < (s.rxBuf t7.toNat).seen) → Completes (.epochTimeout t7) s fun t =>
         t.rxBuf t7.toNat = { s.rxBuf t7.toNat with fresh := true } ∧ t.regs = s.regs ∧ t.mac.ports = s.mac.ports ∧ t.mac.tx = s.mac.tx) ∧
       ((s.strOn (s.rxW t7.toNat 0) = false ∨ ((s.rxBuf t7.toNat).seen ≤ s.now ∧ s.now < (s.rxBuf t7.toNat).seen + 10000000)) →
         Completes (.epochTimeout t7) s (· = s))) ∧
     (∀ (t7 : BitVec 7) (j : Nat),
       let w := s.txW t7.toNat 0
       let p := (bitOf w 30).toNat
       let blk := s.packetBlk t7.toNat j
       let job (x : SchTask) : Bool := decide (97 ≤ x.slot) && decide (x.arg = t7.toNat) && decide (x.blk = blk) && x.fin.isNone
       (s.strOn w = false → Completes (.streamPacketSend t7 j) s (· = s)) ∧
       (s.strOn w = true → (s.packetSamples t7.toNat j).2 = none → Completes (.streamPacketSend t7 j) s (· = s)) ∧
       (s.strOn w = true → (s.packetSamples t7.toNat j).2.isSome = true →
         (s.pmode = 9 → Completes (.streamPacketSend t7 j) s fun t =>
           macCounter t p 49 = satU 64 (macCounter s p 49 + 1) ∧ t.out = s.out) ∧
         (s.pmode ≠ 9 → s.twin.silent = true → Completes (.streamPacketSend t7 j) s fun t =>
           t.out = s.out ∧ t.mac.ports = s.mac.ports ∧ SameMemories s t) ∧
         (s.pmode ≠ 9 → s.twin.silent = false → s.sch.run.find? job = none →
           (s.sch.stopped.contains (7, t7.toNat, blk) = true → Completes (.streamPacketSend t7 j) s fun t =>
             t.out = s.out ∧ t.sch = s.sch ∧ t.mac.ports = s.mac.ports) ∧
           (s.sch.stopped.contains (7, t7.toNat, blk) = false → s.jobWaits 7 t7.toNat blk = true → Completes (.streamPacketSend t7 j) s fun t =>
             (∃ smp, t.sch.jobs = s.sch.jobs ++ [⟨7, t7.toNat, blk, .packet t7.toNat j smp⟩]) ∧ t.out = s.out ∧ t.mac.ports = s.mac.ports) ∧
           (s.sch.stopped.contains (7, t7.toNat, blk) = false → s.jobWaits 7 t7.toNat blk = false →
             (s.linkOn p = true → Completes (.streamPacketSend t7 j) s (PacketSent p s)) ∧
             (s.linkOn p = false → Completes (.streamPacketSend t7 j) s (PacketLost p s)))) ∧
         (∀ x, s.pmode ≠ 9 → s.twin.silent = false → s.sch.run.find? job = some x → x.slot ≤ 98 →
           (s.linkOn (x.slot - 97) = true → Completes (.streamPacketSend t7 j) s (PacketSent (x.slot - 97) s)) ∧
           (s.linkOn (x.slot - 97) = false → Completes (.streamPacketSend t7 j) s (PacketLost (x.slot - 97) s))))))

/-- R414, R415, R418: a port trains with a signal, says hello once locked, waits after 10 ms, isolates itself from its own
identity and comes UP with the third good beacon; it sends beacons in HELLO, UP and ISOLATE; ISOLATE ends with another
identity; an UP port that loses lock or beacons raises detector 0x15 and goes DOWN. R413, R420: a flit with a bad CRC or out
of sequence is discarded with a NAK, and one in sequence is taken and acknowledged; before UP only beacons are taken; one for
this node is delivered, and one for another node goes on over its route with a TTL one higher, or is dropped and counted at
the ninth hop; an acknowledgement of everything empties the window; a resend round goes out after 2 µs without one, and the
sixteenth exhausts the retry. -/
def Obligations.FabricPorts : Prop :=
  (∀ (p : BitVec 3) (s : State), s.Inv → BvlWf s → p.toNat < 6 → s.reach (Reg.PORT_CTL p.toNat) = true →
     let n := p.toNat
     (s.portEn n = true → s.portState n = 0 → (s.bvlP n).wait = false → Completes (.portSignalDetect p) s fun t =>
       t.portState n = 1 ∧ OnlyRegsRec [Reg.PORT_STAT n] s t) ∧
     ((s.portEn n = false ∨ s.portState n ≠ 0 ∨ (s.bvlP n).wait = true) → Completes (.portSignalDetect p) s (· = s)) ∧
     ((s.portEn n = false ∨ s.portState n ≠ 0 ∨ (s.bvlP n).wait = false) → Completes (.portNewAttempt p) s (· = s)) ∧
     (s.portEn n = true → s.portState n = 0 → (s.bvlP n).wait = true → Completes (.portNewAttempt p) s fun t =>
       t.portState n = 1 ∧ (t.bvlP n).wait = false ∧ RegsButRec [Reg.PORT_STAT n] s t) ∧
     (s.portState n = 1 → Completes (.blockLockHeld p) s fun t =>
       t.portState n = 2 ∧ (t.bvlP n).good = 0 ∧ (∃ d, Sent .flit n d s t) ∧ RegsButRec [Reg.PORT_STAT n] s t) ∧
     (s.portState n ≠ 1 → Completes (.blockLockHeld p) s (· = s)) ∧
     ((s.portState n = 1 ∨ s.portState n = 2) → Completes (.portTrainTimeout p) s fun t =>
       t.portState n = 0 ∧ (t.bvlP n).wait = true ∧ RegsButRec [Reg.PORT_STAT n] s t ∧ t.out = s.out) ∧
     (s.portState n ≠ 1 → s.portState n ≠ 2 → Completes (.portTrainTimeout p) s (· = s)) ∧
     (let down (t : State) : Prop :=
         t.portState n = 0 ∧ t.bitR Reg.BVL_EVT 0 = true ∧ t.bitR Reg.INT_DET0 0x15 = true ∧
         t.reg (Reg.PORT_DOWN n) = w32 (satU 32 ((s.reg (Reg.PORT_DOWN n)).toNat + 1))
      (s.portState n = 3 → Completes (.lockLost p) s down ∧ Completes (.beaconTimeout p) s down) ∧
      (s.portState n ≠ 3 → Completes (.lockLost p) s (· = s) ∧ Completes (.beaconTimeout p) s (· = s))) ∧
     (s.portEn n = true →
       ((s.portState n = 2 ∨ s.portState n = 4) → Completes (.beaconSend p) s fun t => (∃ d, Sent .flit n d s t) ∧ t.regs = s.regs) ∧
       (LinkIdle s n → Completes (.beaconSend p) s fun t => (∃ d, Sent .flit n d s t ∧ flitKind d = 1) ∧ t.regs = s.regs) ∧
       ((s.portState n = 0 ∨ s.portState n = 1) → Completes (.beaconSend p) s (· = s))) ∧
     (s.portEn n = false → Completes (.beaconSend p) s (· = s)) ∧
     (s.takeFlit n 1 = none → Completes (.beaconReceive p) s (· = s)) ∧
     (∀ u f, s.takeFlit n 1 = some (u, f) →
       (s.portState n = 2 → s.ownEntry = some (flitSrc f) → Completes (.beaconReceive p) s fun t =>
         t.portState n = 4 ∧ t.fldR (Reg.PORT_STAT n) 8 6 = flitSrc f / 2) ∧
       (s.portState n = 2 → s.ownEntry ≠ some (flitSrc f) → (s.bvlP n).good < 2 → Completes (.beaconReceive p) s fun t =>
         t.portState n = 2 ∧ (t.bvlP n).good = (s.bvlP n).good + 1) ∧
       (s.portState n = 2 → s.ownEntry ≠ some (flitSrc f) → 2 ≤ (s.bvlP n).good → Completes (.beaconReceive p) s fun t =>
         t.portState n = 3 ∧ t.fldR (Reg.PORT_STAT n) 8 6 = flitSrc f / 2) ∧
       (s.portState n = 4 → Completes (.beaconReceive p) s fun t =>
         t.portState n = (if (s.fldR (Reg.PORT_STAT n) 8 6, s.fldR (Reg.PORT_STAT n) 14 1) = (flitSrc f / 2, flitSrc f % 2) then 4 else 0))) ∧
     (∀ (tx rx : BitVec 16) (dly : Word),
       (s.portState n = 3 → Completes (.latencyMeasure p tx rx dly) s fun t =>
         t.fldR (Reg.PORT_LAT n) 0 16 = tx.toNat ∧ t.fldR (Reg.PORT_LAT n) 16 16 = rx.toNat ∧ t.reg (Reg.PORT_DLY n) = dly ∧
         OnlyRegs [Reg.PORT_LAT n, Reg.PORT_DLY n] s t) ∧
       (s.portState n ≠ 3 → Completes (.latencyMeasure p tx rx dly) s (· = s)))) ∧
  (∀ (p : BitVec 3) (s : State), s.Inv → BvlWf s → p.toNat < 6 → s.reach (Reg.PORT_CTL p.toNat) = true →
     let n := p.toNat
     let x := s.bvlP n
     (∀ f : List Byte,
       let good := f.length = 76 ∧ crc32 (f.take 72) = leNat (f.drop 72)
       let nakOut (t : State) : Prop := (∃ d, Sent .flit n d s t ∧ (byteAt d 0).testBit 6 = true) ∧ (t.bvlP n).nak = false
       (s.portState n < 2 → Completes (.flitReceive p f) s (· = s)) ∧
       (s.portState n = 3 → s.arrayBad 11 = false → ¬ good → Completes (.flitReceive p f) s fun t =>
         t.reg (Reg.PORT_CRC n) = w32 (satU 32 ((s.reg (Reg.PORT_CRC n)).toNat + 1)) ∧ nakOut t ∧
         (t.bvlP n).seqRx = x.seqRx ∧ t.bvl.inbox = s.bvl.inbox ∧ RegsBut [Reg.PORT_CRC n] s t) ∧
       (s.portState n = 3 → s.arrayBad 11 = false → good → flitKind f ≠ 0 → byteAt f 3 ≠ x.seqRx → Completes (.flitReceive p f) s fun t =>
         nakOut t ∧ (t.bvlP n).seqRx = x.seqRx ∧ t.bvl.inbox = s.bvl.inbox ∧ t.regs = s.regs) ∧
       (s.portState n = 3 → s.arrayBad 11 = true → Completes (.flitReceive p f) s fun t =>
         (t.bvlP n).nak = false ∧ (t.bvlP n).seqRx = x.seqRx ∧ t.bvl.inbox = s.bvl.inbox) ∧
       (s.portState n = 3 → s.arrayBad 11 = false → good → flitKind f = 1 → byteAt f 3 = x.seqRx → x.unacked = [] → x.qa = [] → x.qc = [] → x.qb = [] →
         Completes (.flitReceive p f) s fun t =>
           (t.bvlP n).nak = false ∧ (t.bvlP n).seqRx = (x.seqRx + 1) % 256 ∧ t.bvl.inbox = s.bvl.inbox ++ [⟨n, f⟩] ∧
           (∃ d, Sent .flit n d s t) ∧ t.regs = s.regs) ∧
       ((s.portState n = 2 ∨ s.portState n = 4) → s.arrayBad 11 = false →
         (¬ good → Completes (.flitReceive p f) s fun t =>
           t.reg (Reg.PORT_CRC n) = w32 (satU 32 ((s.reg (Reg.PORT_CRC n)).toNat + 1)) ∧ OnlyRegs [Reg.PORT_CRC n] s t) ∧
         (good → flitKind f = 1 → Completes (.flitReceive p f) s fun t => t = { s with bvl := { s.bvl with inbox := s.bvl.inbox ++ [⟨n, f⟩] } }) ∧
         (good → flitKind f ≠ 1 → Completes (.flitReceive p f) s (· = s))) ∧
       (s.arrayBad 11 = false → good → 2 ≤ flitKind f → flitKind f ≤ 7 → byteAt f 3 = x.seqRx → LinkIdle s n → flitBcast f = false →
         (s.ownEntry = some (flitDst f) → Completes (.flitReceive p f) s fun t =>
           t.bvl.inbox = s.bvl.inbox ++ [⟨n, f⟩] ∧ (∃ d, Sent .flit n d s t) ∧ t.regs = s.regs) ∧
         (s.ownEntry ≠ some (flitDst f) → s.mayTalk = true → ∀ q, s.routePort (flitDst f) = some q →
           (8 ≤ byteAt f 6 % 16 → Completes (.flitReceive p f) s fun t =>
             t.reg Reg.BVL_TTL_DROP = w32 (satU 32 ((s.reg Reg.BVL_TTL_DROP).toNat + 1)) ∧ t.bvl.inbox = s.bvl.inbox ∧
             RegsBut [Reg.BVL_TTL_DROP] s t) ∧
           (byteAt f 6 % 16 < 8 → LinkIdle s q → Completes (.flitReceive p f) s fun t =>
             (∃ d e, t.out = ⟨.flit, q, d⟩ :: ⟨.flit, n, e⟩ :: s.out ∧ byteAt d 6 = byteAt f 6 % 16 + 1 ∧ flitPay d = flitPay f) ∧
             t.bvl.inbox = s.bvl.inbox ∧ t.regs = s.regs))) ∧
       (s.portState n = 3 → s.arrayBad 11 = false → good → flitKind f = 0 → (byteAt f 0).testBit 6 = false → x.qa = [] → x.qc = [] → x.qb = [] →
         byteAt f 4 = x.seqTx → (∀ u ∈ x.unacked, byteAt u 3 ≠ x.seqTx) → Completes (.flitReceive p f) s fun t =>
           (t.bvlP n).unacked = [] ∧ (x.unacked ≠ [] → (t.bvlP n).rounds = 0) ∧ t.regs = s.regs ∧ t.out = s.out)) ∧
     (s.portState n = 3 → x.unacked ≠ [] →
       (x.rounds < 15 → Completes (.retryTimeout p) s fun t =>
         t.reg (Reg.PORT_RETRY n) = w32 (satU 32 ((s.reg (Reg.PORT_RETRY n)).toNat + 1)) ∧ (t.bvlP n).rounds = x.rounds + 1 ∧
         (t.bvlP n).unacked = x.unacked ∧ t.out.length = s.out.length + x.unacked.length ∧ RegsBut [Reg.PORT_RETRY n] s t) ∧
       (15 ≤ x.rounds → Completes (.retryTimeout p) s fun t =>
         t.portState n = 0 ∧ t.bitR Reg.INT_DET0 0x14 = true ∧ t.bitR Reg.BVL_EVT 1 = true ∧ t.bitR Reg.INT_DET0 0x15 = true)) ∧
     ((s.portState n ≠ 3 ∨ x.unacked = []) → Completes (.retryTimeout p) s (· = s)))

/-- R416, R417, R423: a discovering device takes the lowest free node, and again at the end of the back-off of a conflict; a
beacon that shows the own identity reachable is a conflict: a discovered node is dropped, another sets CONFLICT, which its
command clears; a probe that leaves or arrives is timestamped, and a read of the queue takes the oldest entry. R422, R424,
R425, R428: an OBJECT or CHANNEL flit whose BTAG matches no block is counted as misaligned, and one nobody names is dropped;
the flit of an object's block of 16 samples completes the block, a copy of it is counted, and STANDBY takes none; a block that
has not arrived in time is missing, late and recorded; a published object goes out with its number and BTAG, or waits for its
job. -/
def Obligations.FabricTraffic : Prop :=
  (∀ s : State, s.Inv → BvlWf s →
     (s.reach Reg.BVL_CTL = true →
       (let finds (t : State) : Prop := ∃ d, s.freeNode = some d ∧ t.fldR Reg.BVL_NODE 0 6 = d ∧ t.bitR Reg.BVL_NODE 7 = true ∧
          t.bvl.found = true ∧ t.bvl.backoff = false
        let free := s.bitR Reg.BVL_CTL 0 = true ∧ s.fldR Reg.BVL_CTL 1 2 = 2 ∧ s.bitR Reg.CFG_STATUS 3 = true ∧
          s.bitR Reg.BVL_NODE 7 = false ∧ s.portsUp ≠ [] ∧ s.freeNode.isSome = true
        (s.bvl.backoff = false → free → Completes .nodeDiscovery s finds) ∧
        (s.bvl.backoff = true → free → Completes .conflictBackoff s finds) ∧
        ((s.bvl.backoff = true ∨ ¬ free) → Completes .nodeDiscovery s (· = s)) ∧
        (s.bvl.backoff = false → Completes .conflictBackoff s (· = s)) ∧
        (s.bvl.backoff = true → ¬ free → Completes .conflictBackoff s fun t => t = { s with bvl := { s.bvl with backoff := false } })) ∧
       (s.bitR Reg.BVL_NODE 8 = true → Completes .conflictClear s fun t => t.bitR Reg.BVL_NODE 8 = false) ∧
       (s.bitR Reg.BVL_NODE 8 = false → Completes .conflictClear s (· = s))) ∧
     (∀ p : BitVec 3, p.toNat < 6 →
       let n := p.toNat
       let x := s.bvlP n
       (s.reach (Reg.PORT_CTL n) = true → ∀ u f e, s.takeFlit n 1 = some (u, f) → s.portState n = 3 → s.ownEntry = some e →
         byteAt ((f.drop 8).take 64) (e / 2) / (if e % 2 = 0 then 1 else 16) % 16 ≤ 8 →
         (s.fldR Reg.BVL_CTL 1 2 = 2 → Completes (.beaconReceive p) s fun t =>
           t.bitR Reg.BVL_NODE 7 = false ∧ t.bvl.backoff = true ∧ t.bvl.found = false ∧ t.bitR Reg.BVL_EVT 3 = true) ∧
         (s.fldR Reg.BVL_CTL 1 2 ≠ 2 → Completes (.beaconReceive p) s fun t =>
           t.bitR Reg.BVL_NODE 8 = true ∧ (s.bitR Reg.BVL_NODE 8 = false → t.bitR Reg.BVL_EVT 3 = true))) ∧
       (s.reach (Reg.PORT_CTL n) = true → ∀ (dep : Bool) (t36 : BitVec 36) (id : BitVec 16),
         ((s.portState n ≠ 3 ∨ s.mayTalk = false) → Completes (.probe p dep t36 id) s (· = s)) ∧
         (s.takeFlit n 6 = none → Completes (.probe p false t36 id) s (· = s)) ∧
         (s.portState n = 3 → s.mayTalk = true → (s.takeFlit n 6).isSome = true →
           (x.tsq.length < 64 → Completes (.probe p false t36 id) s fun t =>
             (t.bvlP n).tsq = x.tsq ++ [{ ns := t36.toNat % 2 ^ 32, tag := t36.toNat / 2 ^ 32, id := id.toNat, dep := false }] ∧
             t.regs = s.regs ∧ t.out = s.out) ∧
           (64 ≤ x.tsq.length → Completes (.probe p false t36 id) s fun t =>
             (t.bvlP n).tsq = x.tsq ∧ t.reg Reg.BVL_TS_OVF = w32 (satU 32 ((s.reg Reg.BVL_TS_OVF).toNat + 1)) ∧
             RegsBut [Reg.BVL_TS_OVF] s t)) ∧
         (s.mayTalk = true → LinkIdle s n → x.tsq.length < 64 → Completes (.probe p true t36 id) s fun t =>
           (t.bvlP n).tsq = x.tsq ++ [{ ns := t36.toNat % 2 ^ 32, tag := t36.toNat / 2 ^ 32, id := id.toNat, dep := true }] ∧
           (∃ d, Sent .flit n d s t ∧ flitKind d = 6) ∧ t.regs = s.regs)) ∧
       (∀ ini, Reaches s ini (Reg.PORT_CTL n) →
         (x.tsq = [] → Completes (.portTsqRead ini p) s fun t =>
           t.reg (Reg.PORT_TSQ_HI n) = 0 ∧ RegsBut [Reg.PORT_TSQ_HI n] s t ∧ Sent .rdata (iniCode ini) (leBytes 4 0) s t) ∧
         (∀ e r, x.tsq = e :: r → e.tag < 16 → e.id < 65536 → Completes (.portTsqRead ini p) s fun t =>
           t.bitR (Reg.PORT_TSQ_HI n) 31 = true ∧ t.bitR (Reg.PORT_TSQ_HI n) 30 = e.dep ∧ t.fldR (Reg.PORT_TSQ_HI n) 16 4 = e.tag ∧ t.fldR (Reg.PORT_TSQ_HI n) 0 16 = e.id ∧
           (t.bvlP n).tsq = r ∧ RegsBut [Reg.PORT_TSQ_HI n] s t ∧ Sent .rdata (iniCode ini) (leBytes 4 (w32 e.ns).toNat) s t)))) ∧
  (∀ s : State, s.Inv → BvlWf s → Store.wf (fun _ => ({} : SubSt)) s.bvl.subs = true →
     (∀ p : BitVec 3, p.toNat < 6 → s.reach (Reg.PORT_CTL p.toNat) = true →
       (s.takeFlit p.toNat 2 = none → Completes (.objectFlit p) s (· = s)) ∧
       (s.takeFlit p.toNat 3 = none → Completes (.channelFlit p) s (· = s)) ∧
       (∀ u f, s.takeFlit p.toNat 2 = some (u, f) →
         (s.subscribers (flitSrc f / 2) (leAt (flitPay f) 0 2 % 512) = [] → Completes (.objectFlit p) s (· = u)) ∧
         (s.subscribers (flitSrc f / 2) (leAt (flitPay f) 0 2 % 512) ≠ [] → s.btagBlock (leAt (flitPay f) 2 2) = none →
           Completes (.objectFlit p) s fun t =>
             t.reg Reg.BVL_MISALIGN = w32 (satU 32 ((s.reg Reg.BVL_MISALIGN).toNat + 1)) ∧ t.bitR Reg.BVL_EVT 6 = true ∧
             RegsButRec [Reg.BVL_MISALIGN, Reg.BVL_EVT] s t ∧ SameMemories s t) ∧
         (∀ m, s.subscribers (flitSrc f / 2) (leAt (flitPay f) 0 2 % 512) ≠ [] → s.btagBlock (leAt (flitPay f) 2 2) = some m →
           (s.pmode = 9 → Completes (.objectFlit p) s (· = u)) ∧
           (∀ o, s.pmode ≠ 9 → s.subscribers (flitSrc f / 2) (leAt (flitPay f) 0 2 % 512) = [o] → m ∉ (s.sub o).missing →
             (m ∈ (s.sub o).done → Completes (.objectFlit p) s fun t =>
               t.reg Reg.BVL_DUP = w32 (satU 32 ((s.reg Reg.BVL_DUP).toNat + 1)) ∧ RegsBut [Reg.BVL_DUP] s t ∧ SameMemories s t) ∧
             (m ∉ (s.sub o).done → s.blk.b = 16 → byteAt f 7 = 0 → (∀ q ∈ (s.sub o).parts, q.1 ≠ m) → Completes (.objectFlit p) s fun t =>
               (t.sub o).done.head? = some m ∧ (t.sub o).gap = false)))) ∧
       (∀ u f, s.takeFlit p.toNat 3 = some (u, f) →
         let named (c : Nat) : Prop := s.bitR (Reg.BVL_RXCH c) 31 = true ∧ s.fldR (Reg.BVL_RXCH c) 16 6 = flitSrc f / 2 ∧
           s.fldR (Reg.BVL_RXCH c) 0 9 = leAt (flitPay f) 0 2 % 512
         ((∀ c, c < 512 → ¬ named c) → Completes (.channelFlit p) s (· = u)) ∧
         (∀ c, c < 512 → named c → s.btagBlock (leAt (flitPay f) 2 2) = none → Completes (.channelFlit p) s fun t =>
           t.reg Reg.BVL_MISALIGN = w32 (satU 32 ((s.reg Reg.BVL_MISALIGN).toNat + 1)) ∧ t.bitR Reg.BVL_EVT 6 = true ∧
           RegsButRec [Reg.BVL_MISALIGN, Reg.BVL_EVT] s t ∧ SameMemories s t))) ∧
     (s.reach Reg.BVL_CTL = true → ∀ o : BitVec 9,
       let x := s.sub o.toNat
       ((s.running = false ∨ s.subscribed o.toNat = false ∨ s.pmode = 9 ∨ s.blk.n = 0 ∨ (s.blk.n - 1) ∈ x.done ∨ (s.blk.n - 1) ∈ x.missing) → Completes (.objectLate o) s (· = s)) ∧
       (s.running = true → s.subscribed o.toNat = true → s.pmode ≠ 9 → s.blk.n ≠ 0 → (s.blk.n - 1) ∉ x.done → (s.blk.n - 1) ∉ x.missing →
         Completes (.objectLate o) s fun t =>
           (t.sub o.toNat).gap = true ∧ (s.blk.n - 1) ∈ (t.sub o.toNat).missing ∧
           t.reg Reg.BVL_OBJ_LATE = w32 (satU 32 ((s.reg Reg.BVL_OBJ_LATE).toNat + 1)) ∧ t.bitR Reg.BVL_EVT 4 = true) ∧
       ((s.bitR (Reg.BVL_PUB (o.toNat / 32)) (o.toNat % 32) = false ∨ s.bitR Reg.BVL_CTL 0 = false ∨ s.running = false ∨ s.blk.n = 0 ∨ s.pmode = 9 ∨
           s.twin.silent = true) →
         Completes (.objectPublish o) s (· = s)) ∧
       (s.bitR (Reg.BVL_PUB (o.toNat / 32)) (o.toNat % 32) = true → s.bitR Reg.BVL_CTL 0 = true → s.running = true → s.pmode ≠ 9 →
         s.twin.silent = false → s.blk.n ≠ 0 → s.sch.stopped.contains (6, o.toNat, s.blk.n - 1) = false →
         (s.jobWaits 6 o.toNat (s.blk.n - 1) = true → Completes (.objectPublish o) s fun t =>
           (∃ fs, t.sch.jobs = s.sch.jobs ++ [⟨6, o.toNat, s.blk.n - 1, .flits fs⟩] ∧ fs.length = ceilDiv s.blk.b 16) ∧
           t = { s with sch := t.sch }) ∧
         (∀ q, s.jobWaits 6 o.toNat (s.blk.n - 1) = false → s.blk.b = 16 → s.mayTalk = true → s.portsUp = [q] → LinkIdle s q →
           (s.bvlP q).hist = [] → Completes (.objectPublish o) s fun t =>
             (∃ d, Sent .flit q d s t ∧ (d.drop 8).take 4 = leBytes 2 o.toNat ++ leBytes 2 (s.btag (s.blk.n - 1))) ∧
             (t.bvlP q).unacked.length = 1 ∧ t.regs = s.regs))))

/-- R429, R430: a request takes its slot and goes out, or is unreachable without a route; a GO while BUSY is ignored; the
response to the slot's own TAG gives RESULT and the data of a read, and 100 µs without one give TIMEOUT; a request from a node
that is not allowed is answered and not run, the last one of its node and slot is answered again, and another is run and its
answer kept. -/
def Obligations.RemoteAccess : Prop :=
  ∀ s : State, s.Inv → BvlWf s →
    (∀ (ini : Initiator) (k : BitVec 2) (node : BitVec 6) (seat : Bool), Reaches s ini (Reg.BVL_RRA_CMD k.toNat) →
      let st := Reg.BVL_RRA_STAT k.toNat
      let tag := k.toNat + 4 * ((nth s.bvl.rraCnt k.toNat 0 + 1) % 64)
      let away (t : State) : Prop :=
        t.bitR st 31 = false ∧ t.fldR st 0 4 = 3 ∧ t.fldR st 8 8 = tag ∧ RegsBut [st] s t ∧ t.out = s.out
      let goes (wr : Bool) (t : State) : Prop :=
        t.bitR st 31 = true ∧ t.fldR st 8 8 = tag ∧ nth t.bvl.rraWr k.toNat false = wr ∧ RegsBut [st] s t ∧
        ∀ q, s.routePort (2 * node.toNat + seat.toNat) = some q → LinkIdle s q → ∃ d, Sent .flit q d s t ∧ flitKind d = 4
      (s.bitR st 31 = true → Completes (.rraRead ini k node seat) s (· = s) ∧ Completes (.rraWrite ini k node seat) s (· = s)) ∧
      (s.bitR st 31 = false → (s.routePort (2 * node.toNat + seat.toNat) = none ∨ s.mayTalk = false) →
        Completes (.rraRead ini k node seat) s away ∧ Completes (.rraWrite ini k node seat) s away) ∧
      (s.bitR st 31 = false → (s.routePort (2 * node.toNat + seat.toNat)).isSome = true → s.mayTalk = true →
        Completes (.rraRead ini k node seat) s (goes false) ∧ Completes (.rraWrite ini k node seat) s (goes true))) ∧
    (∀ p : BitVec 3, p.toNat < 6 → s.reach (Reg.PORT_CTL p.toNat) = true →
      (s.takeFlit p.toNat 5 = none → Completes (.rraResponse p) s (· = s)) ∧
      (∀ u f, s.takeFlit p.toNat 5 = some (u, f) →
        let tag := byteAt (flitPay f) 9
        let st := Reg.BVL_RRA_STAT (tag % 4)
        (s.bitR st 31 = true → s.fldR st 8 8 = tag → Completes (.rraResponse p) s fun t =>
          t.bitR st 31 = false ∧ t.fldR st 0 4 = byteAt (flitPay f) 8 % 16 ∧
          (byteAt (flitPay f) 8 % 16 = 0 → nth s.bvl.rraWr (tag % 4) false = false →
            t.reg (Reg.BVL_RRA_DATA (tag % 4)) = w32 (leAt (flitPay f) 4 4)) ∧
          RegsBut [st, Reg.BVL_RRA_DATA (tag % 4)] s t) ∧
        ((s.bitR st 31 = false ∨ s.fldR st 8 8 ≠ tag) → Completes (.rraResponse p) s (· = u))) ∧
      (s.takeFlit p.toNat 4 = none → Completes (.rraRequest p) s (· = s)) ∧
      (∀ u f, s.takeFlit p.toNat 4 = some (u, f) →
        let tag := byteAt (flitPay f) 9
        let mine (e : Nat × Nat × List Byte) : Bool := decide (e.1 = byteAt f 2 % 64) && decide (e.2.1 = tag % 4)
        let answered (t : State) : Prop :=
          ∀ q, s.mayTalk = true → s.routePort (flitSrc f) = some q → LinkIdle s q → ∃ d, Sent .flit q d s t ∧ flitKind d = 5
        let allowed := s.bitR Reg.BVL_CTL 3 && s.bitR (Reg.BVL_RRA_ALLOW_LO + 4 * (byteAt f 2 % 64 / 32)) (byteAt f 2 % 32)
        (allowed = false → Completes (.rraRequest p) s fun t =>
          t.regs = s.regs ∧ SameMemories s t ∧ t.bvl.rraDone = s.bvl.rraDone ∧ answered t) ∧
        (∀ e, allowed = true → s.bvl.rraDone.find? mine = some e → byteAt e.2.2 9 = tag → Completes (.rraRequest p) s fun t =>
          t.regs = s.regs ∧ SameMemories s t ∧ t.bvl.rraDone = s.bvl.rraDone ∧ answered t) ∧
        (allowed = true → (∀ e, s.bvl.rraDone.find? mine = some e → byteAt e.2.2 9 ≠ tag) → Completes (.rraRequest p) s fun t =>
          ∃ out, t.bvl.rraDone.head? = some (byteAt f 2 % 64, tag % 4, out) ∧ byteAt out 9 = tag ∧ out.length = 10))) ∧
    (∀ k : BitVec 2, s.reach (Reg.BVL_RRA_STAT k.toNat) = true →
      let st := Reg.BVL_RRA_STAT k.toNat
      (s.bitR st 31 = true → Completes (.rraTimeout k) s fun t =>
        t.bitR st 31 = false ∧ t.fldR st 0 4 = 1 ∧ t.fldR st 8 8 = s.fldR st 8 8 ∧ OnlyRegs [st] s t) ∧
      (s.bitR st 31 = false → Completes (.rraTimeout k) s (· = s)))

/-- R460, R461, R464 to R469: the recorder's rows. A submission takes a token and is recorded, merged with its like or, with a
supply failing, lost, or it is dropped and counted; the window's end commits the open record, or counts it as lost where the
queue is full or the log is not running; a programmed record that reads back as it was frees its entry, moves REC_NEXT and is
mirrored in DRAM, the last slot but one makes the log FULL, a mismatch is written again at the next slot and the third in a
row fails the log; search, erasure, fetch and refill. -/
def Obligations.Recorder : Prop :=
  ∀ s : State, s.Inv →
    let mir := (s.reg Reg.REC_MIR_BASE).toNat
    let noMir := s.drc.trained = false ∨ s.reg Reg.REC_MIR_BASE = 0
    let mirrors (i : Nat) : Prop := DramPlain s ∧ s.bitR Reg.INT_INJ0 3 = false ∧ s.bitR Reg.INT_INJ0 4 = false ∧ mir ≠ 0 ∧
      mir * 64 + 32 * i + 32 ≤ s.usable ∧ (s.dramDenied .recorder (mir * 64 + 32 * i)).isNone = true
    let lost (k : Nat) (t : State) : Prop := t.reg Reg.REC_LOST = w32 (satU 32 ((s.reg Reg.REC_LOST).toNat + k))
    (∀ (ini : Initiator) (v : Word), Reaches s ini Reg.REC_SUBMIT →
      (bitOf v 31 = false → Completes (.recSubmit ini v) s (· = s)) ∧
      (bitOf v 31 = true → (fld v 0 8 < 0x80 ∨ s.log.tokens = 0) → Completes (.recSubmit ini v) s fun t =>
        t.reg Reg.REC_SUB_DROP = w32 (satU 32 ((s.reg Reg.REC_SUB_DROP).toNat + 1)) ∧ t.bitR Reg.REC_EVT 3 = true ∧
        OnlyRegs [Reg.REC_SUB_DROP, Reg.REC_EVT] s t) ∧
      (bitOf v 31 = true → 0x80 ≤ fld v 0 8 → 0 < s.log.tokens → s.log.pfw = false → s.log.opened = none →
        0 < s.fldR Reg.REC_WINDOW 0 16 → Completes (.recSubmit ini v) s fun t =>
          t = { s with log := { s.log with
            tokens := s.log.tokens - 1
            opened := some { total := s.now, src := 0x14, code := fld v 0 8, count := 1, flags := s.recFlags true, seq := 0,
                             win := s.fldR Reg.REC_WINDOW 0 16 * 1000000,
                             data := (List.range 3).flatMap fun i => leBytes 4 (s.reg (Reg.REC_SUB_DATA i)).toNat } } }) ∧
      (bitOf v 31 = true → 0x80 ≤ fld v 0 8 → 0 < s.log.tokens → s.log.pfw = true → Completes (.recSubmit ini v) s fun t =>
        t.log = { s.log with tokens := s.log.tokens - 1 } ∧ lost 1 t ∧ t.bitR Reg.REC_EVT 0 = true ∧
        RegsBut [Reg.REC_LOST, Reg.REC_EVT] s t) ∧
      (∀ r, bitOf v 31 = true → 0x80 ≤ fld v 0 8 → 0 < s.log.tokens → s.log.pfw = false → s.log.opened = some r → r.src = 0x14 →
        r.code = fld v 0 8 → r.data = ((List.range 3).flatMap fun i => leBytes 4 (s.reg (Reg.REC_SUB_DATA i)).toNat) →
        s.now < r.total + r.win → r.count + 1 < 0xFFFF → Completes (.recSubmit ini v) s fun t =>
          t = { s with log := { s.log with tokens := s.log.tokens - 1, opened := some { r with count := r.count + 1 } } })) ∧
    (s.log.opened = none → Completes .recWindowExpiry s (· = s)) ∧
    (∀ r, s.log.opened = some r → (s.log.searching = true ∨ s.log.erasing = true ∨ s.recState = 1) → s.log.queue.length < 64 →
      s.recNext + 1 ≠ s.recSlots → r.total + r.win < 2 ^ 64 → Completes .recWindowExpiry s fun t =>
        t.log = { s.log with opened := none, queue := s.log.queue ++ [{ r with seq := s.fldR Reg.REC_SEQ 0 16 }] } ∧
        t.reg Reg.REC_SEQ = w32 ((s.fldR Reg.REC_SEQ 0 16 + 1) % 65536) ∧
        t.now = max s.now (r.total + r.win) ∧
        RegsBut [Reg.REC_SEQ, Reg.TIM_ERA, Reg.TIM_EVT] s t ∧ SameMemories s t) ∧
    (∀ r, s.log.opened = some r → ((s.log.searching = false ∧ s.log.erasing = false ∧ s.recState ≠ 1) ∨ 64 ≤ s.log.queue.length) →
      Completes .recWindowExpiry s fun t =>
        t.log.opened = none ∧ t.log.queue = s.log.queue ∧ lost 1 t ∧ t.bitR Reg.REC_EVT 0 = true ∧
        t.reg Reg.REC_SEQ = w32 ((s.fldR Reg.REC_SEQ 0 16 + 1) % 65536) ∧ SameMemories s t) ∧
    (∀ back : List Byte,
      let at_ := s.recBase + 32 * s.recNext
      let put (t : State) : Prop := t.gflashBytes at_ 32 = padTo 32 back ∧
        (∀ b, b < at_ ∨ at_ + 32 ≤ b → Store.get flashDef t.gflash b = Store.get flashDef s.gflash b) ∧
        t.sram = s.sram ∧ (noMir → t.dram = s.dram) ∧ t.boot = s.boot
      ((s.log.queue = [] ∨ s.log.searching = true ∨ s.log.erasing = true ∨ s.recState = 0 ∨ s.recState = 3) →
        Completes (.recProgramDone back) s (· = s)) ∧
      (∀ r rest, s.log.queue = r :: rest → s.log.searching = false → s.log.erasing = false → s.log.lostRun = 0 →
        (mirrors s.recNext → s.recState = 1 → s.recNext + 2 < s.recSlots → padTo 32 back = r.bytes → Completes (.recProgramDone back) s fun t =>
          put t ∧ t.log = { s.log with queue := rest, mism := 0 } ∧ t.reg Reg.REC_NEXT = w32 (s.recNext + 1) ∧
          t.dramBytes (mir * 64 + 32 * s.recNext) 32 = r.bytes ∧ RegsBut [Reg.REC_NEXT] s t) ∧
        (noMir → s.recState = 1 → s.recNext + 2 = s.recSlots → rest ≠ [] → padTo 32 back = r.bytes → Completes (.recProgramDone back) s fun t =>
          put t ∧ t.recState = 2 ∧ t.bitR Reg.REC_EVT 1 = true ∧ t.log.queue.map (·.code) = [0x42] ∧ lost rest.length t) ∧
        (noMir → s.recState = 1 → s.recNext + 2 < s.recSlots →
          (padTo 32 back = r.bytes → Completes (.recProgramDone back) s fun t =>
            put t ∧ t.log = { s.log with queue := rest, mism := 0 } ∧ t.reg Reg.REC_NEXT = w32 (s.recNext + 1) ∧
            RegsBut [Reg.REC_NEXT] s t) ∧
          (padTo 32 back ≠ r.bytes → Completes (.recProgramDone back) s fun t =>
            put t ∧ t.reg Reg.REC_NEXT = w32 (s.recNext + 1) ∧ t.bitR Reg.REC_EVT 2 = true ∧ t.bitR Reg.INT_DET0 0x1C = true ∧
            t.bitR Reg.GNT_FAULTS 0 = true ∧
            (s.log.mism < 2 → t.log.mism = s.log.mism + 1 ∧ t.log.queue.head? = some r ∧ t.recState = 1) ∧
            (2 ≤ s.log.mism → t.log.mism = 0 ∧ t.log.queue = [] ∧ t.recState = 3 ∧ t.bitR Reg.REC_EVT 0 = true))) ∧
        (noMir → s.recState = 2 →
          (padTo 32 back = r.bytes → Completes (.recProgramDone back) s fun t =>
            put t ∧ t.log = { s.log with queue := rest, mism := 0 } ∧ t.regs = s.regs) ∧
          (padTo 32 back ≠ r.bytes → Completes (.recProgramDone back) s fun t =>
            put t ∧ t.log.queue = [] ∧ t.bitR Reg.REC_EVT 2 = true ∧ t.bitR Reg.INT_DET0 0x1C = true)))) ∧
    (s.log.searching = false → Completes .recSearchDone s (· = s)) ∧
    (s.log.searching = true →
      (mir ≠ 0 → s.recUsed + 1 < s.recSlots → (∀ i, i < s.recUsed → mirrors i) → s.drc.trained = true → Completes .recSearchDone s fun t =>
        t.recState = 1 ∧ t.recNext = s.recUsed ∧ t.bitR Reg.REC_STATUS 11 = true ∧
        ∀ i, i < s.recUsed → t.dramBytes (mir * 64 + 32 * i) 32 = s.recSlot i) ∧
      (noMir → s.recUsed + 1 < s.recSlots → Completes .recSearchDone s fun t =>
        t.log = { s.log with searching := false, queue := s.log.queue.map fun (r : RecEntry) =>
          { r with seq := (r.seq + s.recResume s.recUsed) % 65536 } } ∧
        t.recState = 1 ∧ t.recNext = s.recUsed ∧ t.reg Reg.REC_SEQ = w32 ((s.fldR Reg.REC_SEQ 0 16 + s.recResume s.recUsed) % 65536) ∧
        RegsBut [Reg.REC_NEXT, Reg.REC_SEQ, Reg.REC_STATUS] s t ∧ SameMemories s t) ∧
      (noMir → s.recUsed = s.recSlots → Completes .recSearchDone s fun t =>
        t.log = { s.log with searching := false, queue := [] } ∧ t.recState = 2 ∧ t.recNext = s.recSlots ∧
        lost s.log.queue.length t ∧ SameMemories s t)) ∧
    (s.log.erasing = false → Completes .recEraseDone s (· = s)) ∧
    (s.log.erasing = true → s.recSlots < 2 → Completes .recEraseDone s fun t =>
      t.log = { s.log with erasing := false, mism := 0 } ∧ t.regs = s.regs) ∧
    (s.log.erasing = true → 2 ≤ s.recSlots → Completes .recEraseDone s fun t =>
      t.log = { s.log with erasing := false, mism := 0, queue := s.recOwn 0x40 (s.reg Reg.REC_LOST).toNat :: s.log.queue } ∧
      t.recState = 1 ∧ t.reg Reg.REC_NEXT = 0 ∧ t.reg Reg.REC_LOST = 0 ∧
      t.reg Reg.REC_SEQ = w32 ((s.fldR Reg.REC_SEQ 0 16 + 1) % 65536) ∧
      (∀ b, Store.get flashDef t.gflash b =
        if s.recBase ≤ b ∧ b < s.recBase + 32 * s.recSlots then 0xFF else Store.get flashDef s.gflash b) ∧
      RegsBut [Reg.REC_NEXT, Reg.REC_SEQ, Reg.REC_STATUS, Reg.REC_LOST] s t ∧ t.sram = s.sram ∧ t.dram = s.dram ∧ t.boot = s.boot) ∧
    (∀ (ini : Initiator) (v : Word), Reaches s ini Reg.REC_RD_SLOT → Completes (.recFetch ini v) s fun t =>
      t.reg Reg.REC_RD_SLOT = v &&& 0xFFFFF ∧ t.reg Reg.REC_RD_STAT = 0 ∧ t.log = { s.log with fetch := some (fld v 0 20) } ∧
      RegsBut [Reg.REC_RD_SLOT, Reg.REC_RD_STAT] s t ∧ SameMemories s t) ∧
    (s.log.fetch = none → Completes .recFetchDone s (· = s)) ∧
    (∀ slot, s.log.fetch = some slot → Completes .recFetchDone s fun t =>
      t.log = { s.log with fetch := none } ∧ t.bitR Reg.REC_RD_STAT 0 = true ∧
      (slot < s.recSlots → (∀ i, i < 8 → t.reg (Reg.REC_RD_DATA i) = w32 (leAt (s.recSlot slot) (4 * i) 4)) ∧
        t.bitR Reg.REC_RD_STAT 1 = (s.recSlot slot).all fun b => decide (b = 0xFF)) ∧
      RegsBut (Reg.REC_RD_STAT :: (List.range 8).map Reg.REC_RD_DATA) s t ∧ SameMemories s t) ∧
    Completes .recTokenRefill s fun t => t = { s with log := { s.log with tokens := min 16 (s.log.tokens + 1) } }

/-- R500 to R505: a refresh that falls due in real-time use is postponed and the debt kept at 5 or below by urgent refreshes;
the rate follows the MR4 codes, and 0b111 acts as the shutdown threshold; self-refresh is entered again after an idle
millisecond; initialisation ends with READY. R507, R508: RETRAIN is taken in MAINTAIN and refused elsewhere; a test point runs
with BUSY, ends with DONE and adds its mismatches, and one of no bursts is EMPTY; training that completes gives the density
and the usable size, and training that fails sets FAIL. -/
def Obligations.DramService : Prop :=
  (∀ s : State, s.Inv →
     (∀ (c : BitVec 2) (rt : Bool) (paid : Nat),
       (s.refreshes = false → Completes (.refreshDue c rt paid) s (· = s)) ∧
       (s.refreshes = true →
         let d := min 5 (s.debt c.toNat) - paid + rt.toNat
         Completes (.refreshDue c rt paid) s fun t =>
           t.debt c.toNat = min 5 d ∧
           t.reg Reg.DRC_URGENT = w32 (satU 32 ((s.reg Reg.DRC_URGENT).toNat + (s.debt c.toNat - 5) + (d - 5))) ∧
           (∀ k, k < 4 → k ≠ c.toNat → t.debt k = s.debt k) ∧ OnlyRegs [Reg.DRC_DEBT, Reg.DRC_URGENT] s t)) ∧
     (∀ c0 c1 c2 c3 : BitVec 3,
       let codes := [c0, c1, c2, c3]
       (s.refreshes = false → Completes (.mr4Poll c0 c1 c2 c3) s (· = s)) ∧
       (s.refreshes = true → s.fldR Reg.DRC_STATUS 4 2 ≤ 2 → (∀ c ∈ codes, c ≠ 7) → Completes (.mr4Poll c0 c1 c2 c3) s fun t =>
         (∀ i, i < 4 → t.fldR Reg.DRC_MR4 (4 * i) 3 = (nth codes i 0).toNat) ∧
         t.fldR Reg.DRC_STATUS 4 2 = max (max (rateOf c0.toNat) (rateOf c1.toNat)) (max (rateOf c2.toNat) (rateOf c3.toNat)) ∧
         RegsButRec [Reg.DRC_MR4, Reg.DRC_STATUS, Reg.DRC_DEBT, Reg.DRC_EVT, Reg.DRC_STALLS, Reg.INT_DET1] s t ∧ SameMemories s t) ∧
       (s.refreshes = true → 7 ∈ codes → Completes (.mr4Poll c0 c1 c2 c3) s fun t =>
         t.bitR Reg.DRC_EVT 7 = true ∧ t.bitR Reg.PWR_STATUS 10 = true)) ∧
     (s.service = 2 → s.drc.awake = true → Completes .selfRefreshIdle s fun t =>
       t.drc.awake = false ∧ t.drc.kept = s.keptMask false ∧ t.drc.lost = s.drc.lost ||| (0xFF - s.keptMask false) ∧
       t.reg Reg.DRC_DEBT = 0 ∧ t.fldR (Reg.PWR_RET0 0) 0 8 = s.keptMask false ∧
       RegsBut [Reg.PWR_RET0 0, Reg.DRC_DEBT, Reg.DRC_STATUS] s t ∧ SameMemories s t) ∧
     ((s.service ≠ 2 ∨ s.drc.awake = false) → Completes .selfRefreshIdle s (· = s)) ∧
     (s.bitR Reg.DRC_STATUS 3 = false → Completes .dramInitDone s (· = s)) ∧
     (s.bitR Reg.DRC_STATUS 3 = true → Completes .dramInitDone s fun t =>
       t.bitR Reg.DRC_STATUS 3 = false ∧ t.dramReady = true ∧ t.drc.lost = 0 ∧
       (s.pmode = 1 → s.mode.alarmFx = false → t.mode.w2 = some true) ∧
       SameMemories s t)) ∧
  (∀ s : State, s.Inv →
     (∀ ini, Reaches s ini Reg.DRC_CMD →
       (s.pmode = 10 → Completes (.drcRetrain ini) s fun t => t = { s with drc := { s.drc with retrain := true } }) ∧
       (s.pmode ≠ 10 → Completes (.drcRetrain ini) s fun t => t.bitR Reg.DRC_EVT 6 = true ∧ OnlyRegs [Reg.DRC_EVT] s t)) ∧
     (∀ ini, Reaches s ini Reg.DRC_TRN_GO →
       (s.bitR Reg.DRC_TRN_STAT 0 = true → Completes (.drcTrnGo ini) s (· = s)) ∧
       (s.bitR Reg.DRC_TRN_STAT 0 = false → s.fldR Reg.DRC_TRN_CTL 16 16 = 0 → Completes (.drcTrnGo ini) s fun t =>
         t.bitR Reg.DRC_TRN_STAT 7 = true ∧ t.bitR Reg.DRC_TRN_STAT 1 = true ∧ OnlyRegs [Reg.DRC_TRN_STAT] s t) ∧
       (s.bitR Reg.DRC_TRN_STAT 0 = false → s.fldR Reg.DRC_TRN_CTL 16 16 ≠ 0 → Completes (.drcTrnGo ini) s fun t =>
         t.bitR Reg.DRC_TRN_STAT 0 = true ∧ t.bitR Reg.DRC_TRN_STAT 1 = false ∧ t.bitR Reg.DRC_TRN_STAT 7 = false ∧
         t.drc = { s.drc with point := some (s.fldR Reg.DRC_TRN_CTL 0 2, s.fldR Reg.DRC_TRN_CTL 4 3) } ∧
         RegsBut [Reg.DRC_TRN_STAT] s t ∧ SameMemories s t)) ∧
     (∀ (errs : List Nat) (found : BitVec 2),
       (s.drc.point = none → Completes (.testPointDone errs found) s (· = s)) ∧
       (∀ ch step, s.drc.point = some (ch, step) → ch < 4 → Completes (.testPointDone errs found) s fun t =>
         t.bitR Reg.DRC_TRN_STAT 0 = false ∧ t.bitR Reg.DRC_TRN_STAT 1 = true ∧
         t.fldR Reg.DRC_TRN_STAT 2 2 = (if step = 1 then found.toNat else s.fldR Reg.DRC_TRN_STAT 2 2) ∧
         t.fldR Reg.DRC_TRN_STAT 4 2 = (if step = 2 then found.toNat else s.fldR Reg.DRC_TRN_STAT 4 2) ∧
         (∀ i, i < 27 → t.fldR (Reg.DRC_TRN_ERR ch i) 0 16 = satU 16 (s.fldR (Reg.DRC_TRN_ERR ch i) 0 16 + nth errs i 0)) ∧
         t.drc = { s.drc with point := none } ∧
         RegsBut (Reg.DRC_TRN_STAT :: (List.range 27).map (Reg.DRC_TRN_ERR ch)) s t ∧ SameMemories s t)) ∧
     (Reaches s .service Reg.DRC_TRN_STAT →
       let w2 := s.pmode = 1 ∧ s.phase = 2 ∧ s.mode.alarmFx = false
       let fails (t : State) : Prop := t.bitR Reg.DRC_TRN_STAT 8 = true ∧ t.bitR Reg.DRC_EVT 5 = true ∧
         t.drc = { s.drc with retrain := false } ∧ (w2 → t.mode.w2 = some false) ∧
         RegsBut [Reg.DRC_TRN_STAT, Reg.DRC_EVT] s t ∧ SameMemories s t
       (Completes .trainingFail s fails) ∧
       (∀ d : BitVec 2,
         (s.drc.retrain = false → ¬ w2 → Completes (.trainingComplete d) s (· = s)) ∧
         ((s.drc.retrain = true ∨ w2) → d = 0 → Completes (.trainingComplete d) s fails) ∧
         ((s.drc.retrain = true ∨ w2) → d ≠ 0 → Completes (.trainingComplete d) s fun t =>
           t.fldR Reg.DRC_STATUS 6 2 = d.toNat ∧ (t.reg Reg.DRC_USABLE).toNat = 1792 * 2 ^ (d.toNat - 1) ∧
           t.drc.trained = true ∧ t.drc.retrain = false ∧ t.drc.lost = s.drc.lost ∧
           (w2 → s.service ≠ 1 → s.bitR Reg.CLK_EN 12 = true → t.service = 1 ∧ t.bitR Reg.DRC_STATUS 3 = true ∧ t.dramReady = false ∧
             (0 < t.segSize → ∀ a, Store.get dramDef t.dram a =
               if s.drc.lost.testBit (a / t.segSize) = true then 0 else Store.get dramDef s.dram a)) ∧
           (¬ w2 → t.drc = { s.drc with trained := true, retrain := false } ∧
             RegsBut [Reg.DRC_STATUS, Reg.DRC_USABLE] s t ∧ t.dram = s.dram) ∧
           t.sram = s.sram ∧ t.boot = s.boot ∧ t.gflash = s.gflash))))
end

