-- ==== Sys2Proof/Laws/Store.lean ====
section
/-!
SUPPORT. The laws of sparse stores: a read after a write gives the value written, a write leaves every other address
alone, and every operation keeps the canonical form.
-/
namespace Sys2Proof.Machine

variable {α : Type} [DecidableEq α]

theorem Store.wfFrom_mono (d : Nat → α) {lo lo' : Nat} (h : lo' ≤ lo) :
    ∀ m : List (Nat × α), Store.wfFrom d lo m = true → Store.wfFrom d lo' m = true
  | [], _ => rfl
  | (b, v) :: r, hw => by
    simp only [Store.wfFrom, Bool.and_eq_true, decide_eq_true_eq] at hw ⊢
    exact ⟨⟨Nat.le_trans h hw.1.1, hw.1.2⟩, hw.2⟩

/-- An address below every listed one reads as unlisted. -/
theorem Store.get_below (d : Nat → α) {a lo : Nat} (h : a < lo) :
    ∀ m : List (Nat × α), Store.wfFrom d lo m = true → Store.get d m a = d a
  | [], _ => rfl
  | (b, v) :: r, hw => by
    simp only [Store.wfFrom, Bool.and_eq_true, decide_eq_true_eq] at hw
    have hb : b ≠ a := by omega
    simp only [Store.get, if_neg hb]
    exact Store.get_below d (by omega) r hw.2

theorem Store.get_set_same_from (d : Nat → α) (a : Nat) (v : α) :
    ∀ (lo : Nat) (m : List (Nat × α)), Store.wfFrom d lo m = true → Store.get d (Store.set d m a v) a = v
  | _, [], _ => by
    simp only [Store.set]
    split
    · rename_i h; simp [Store.get, h]
    · simp [Store.get]
  | lo, (b, w) :: r, hw => by
    simp only [Store.wfFrom, Bool.and_eq_true, decide_eq_true_eq] at hw
    simp only [Store.set]
    split
    · rename_i h
      have hb : b ≠ a := by omega
      simp only [Store.get, if_neg hb]
      exact Store.get_set_same_from d a v (b + 1) r hw.2
    · split
      · rename_i h; subst h
        split
        · rename_i h; rw [h]; exact Store.get_below d (Nat.lt_succ_self b) r hw.2
        · simp [Store.get]
      · split
        · rename_i h1 h2 h3
          have hb : b ≠ a := h2
          simp only [Store.get, if_neg hb]
          rw [h3]; exact Store.get_below d (by omega) r hw.2
        · simp [Store.get]

/-- Read after write, the same address. -/
theorem Store.get_set_same (d : Nat → α) (m : List (Nat × α)) (a : Nat) (v : α) (h : Store.wf d m = true) :
    Store.get d (Store.set d m a v) a = v := Store.get_set_same_from d a v 0 m h

/-- A write leaves every other address alone. -/
theorem Store.get_set_other (d : Nat → α) (a b : Nat) (v : α) (hab : b ≠ a) :
    ∀ m : List (Nat × α), Store.get d (Store.set d m a v) b = Store.get d m b
  | [] => by
    simp only [Store.set]
    split
    · rfl
    · simp [Store.get, Ne.symm hab]
  | (c, w) :: r => by
    simp only [Store.set]
    split
    · simp only [Store.get]
      split
      · rfl
      · exact Store.get_set_other d a b v hab r
    · split
      · rename_i h; subst h
        split
        · simp [Store.get, Ne.symm hab]
        · simp [Store.get, Ne.symm hab]
      · split
        · rfl
        · simp [Store.get, Ne.symm hab]

theorem Store.wfFrom_set (d : Nat → α) (a : Nat) (v : α) :
    ∀ (lo : Nat) (m : List (Nat × α)), lo ≤ a → Store.wfFrom d lo m = true → Store.wfFrom d lo (Store.set d m a v) = true
  | lo, [], hl, _ => by
    simp only [Store.set]
    split
    · rfl
    · rename_i h; simp [Store.wfFrom, hl, h]
  | lo, (b, w) :: r, hl, hw => by
    simp only [Store.wfFrom, Bool.and_eq_true, decide_eq_true_eq] at hw
    simp only [Store.set]
    split
    · simp only [Store.wfFrom, Bool.and_eq_true, decide_eq_true_eq]
      exact ⟨hw.1, Store.wfFrom_set d a v (b + 1) r (by omega) hw.2⟩
    · split
      · rename_i h; subst h
        split
        · exact Store.wfFrom_mono d (by omega) r hw.2
        · rename_i h
          simp only [Store.wfFrom, Bool.and_eq_true, decide_eq_true_eq]
          exact ⟨⟨hl, h⟩, hw.2⟩
      · split
        · simp only [Store.wfFrom, Bool.and_eq_true, decide_eq_true_eq]; exact hw
        · rename_i h1 h2 h
          simp only [Store.wfFrom, Bool.and_eq_true, decide_eq_true_eq]
          exact ⟨⟨hl, h⟩, ⟨by omega, hw.1.2⟩, hw.2⟩

/-- A write keeps the canonical form. -/
theorem Store.wf_set (d : Nat → α) (m : List (Nat × α)) (a : Nat) (v : α) (h : Store.wf d m = true) :
    Store.wf d (Store.set d m a v) = true := Store.wfFrom_set d a v 0 m (Nat.zero_le a) h

theorem Store.wfFrom_filter (d : Nat → α) (p : Nat × α → Bool) :
    ∀ (lo : Nat) (m : List (Nat × α)), Store.wfFrom d lo m = true → Store.wfFrom d lo (m.filter p) = true
  | _, [], _ => rfl
  | lo, (b, w) :: r, hw => by
    simp only [Store.wfFrom, Bool.and_eq_true, decide_eq_true_eq] at hw
    simp only [List.filter]
    split
    · simp only [Store.wfFrom, Bool.and_eq_true, decide_eq_true_eq]
      exact ⟨hw.1, Store.wfFrom_filter d p (b + 1) r hw.2⟩
    · exact Store.wfFrom_mono d (by omega) _ (Store.wfFrom_filter d p (b + 1) r hw.2)

/-- Forgetting addresses keeps the canonical form. -/
theorem Store.wf_clear (d : Nat → α) (p : Nat → Bool) (m : List (Nat × α)) (h : Store.wf d m = true) :
    Store.wf d (Store.clear p m) = true := Store.wfFrom_filter d _ 0 m h

/-- An address that is forgotten reads as unlisted. -/
theorem Store.get_clear (d : Nat → α) (p : Nat → Bool) (a : Nat) :
    ∀ m : List (Nat × α), Store.get d (Store.clear p m) a = if p a then d a else Store.get d m a
  | [] => by simp [Store.clear, Store.get]
  | (b, w) :: r => by
    have ih := Store.get_clear d p a r
    simp only [Store.clear, List.filter] at ih ⊢
    by_cases hb : b = a
    · subst hb
      cases hp : p b <;> simp [hp, Store.get] at ih ⊢
      exact ih
    · cases hp : p b <;> simp [hp, Store.get, hb] at ih ⊢ <;> exact ih

/-- Every listed address of a store lies below `hi`. -/
theorem Store.wfFrom_append (d : Nat → α) (hi : Nat) (n : List (Nat × α)) (hn : Store.wfFrom d hi n = true) :
    ∀ (lo : Nat) (m : List (Nat × α)), lo ≤ hi → (∀ e ∈ m, e.1 < hi) → Store.wfFrom d lo m = true →
      Store.wfFrom d lo (m ++ n) = true
  | lo, [], hl, _, _ => Store.wfFrom_mono d hl n hn
  | lo, (b, w) :: r, hl, hm, hw => by
    simp only [Store.wfFrom, Bool.and_eq_true, decide_eq_true_eq] at hw
    simp only [List.cons_append, Store.wfFrom, Bool.and_eq_true, decide_eq_true_eq]
    have hb : b < hi := hm (b, w) (List.mem_cons_self ..)
    exact ⟨hw.1, Store.wfFrom_append d hi n hn (b + 1) r hb (fun e he => hm e (List.mem_cons_of_mem _ he)) hw.2⟩

theorem Store.wfFrom_above (d : Nat → α) (hi : Nat) :
    ∀ (lo : Nat) (m : List (Nat × α)), Store.wfFrom d lo m = true →
      Store.wfFrom d hi (m.filter (fun e => decide (hi ≤ e.1))) = true
  | _, [], _ => rfl
  | lo, (b, w) :: r, hw => by
    simp only [Store.wfFrom, Bool.and_eq_true, decide_eq_true_eq] at hw
    simp only [List.filter]
    split
    · rename_i h
      simp only [decide_eq_true_eq] at h
      simp only [Store.wfFrom, Bool.and_eq_true, decide_eq_true_eq]
      exact ⟨⟨h, hw.1.2⟩, Store.wfFrom_filter d _ (b + 1) r hw.2⟩
    · exact Store.wfFrom_above d hi (b + 1) r hw.2

theorem Store.cells_bounds (d : Nat → Byte) : ∀ (bs : List Byte) (a : Nat),
    Store.wfFrom d a (Store.cells d a bs) = true ∧ ∀ e ∈ Store.cells d a bs, e.1 < a + bs.length
  | [], a => ⟨rfl, by simp [Store.cells]⟩
  | b :: bs, a => by
    obtain ⟨h1, h2⟩ := Store.cells_bounds d bs (a + 1)
    simp only [Store.cells, List.length_cons]
    split
    · exact ⟨Store.wfFrom_mono d (by omega) _ h1, fun e he => by have := h2 e he; omega⟩
    · rename_i h
      refine ⟨?_, fun e he => ?_⟩
      · simp only [Store.wfFrom, Bool.and_eq_true, decide_eq_true_eq]; exact ⟨⟨Nat.le_refl a, h⟩, h1⟩
      · cases he with
        | head => show a < _; omega
        | tail _ he => have := h2 e he; omega

/-- Putting bytes keeps the canonical form. -/
theorem Store.wf_putBytes (d : Nat → Byte) (m : List Host.Cell) (a : Nat) (bs : List Byte)
    (h : Store.wf d m = true) : Store.wf d (Store.putBytes d m a bs) = true := by
  obtain ⟨h1, h2⟩ := Store.cells_bounds d bs a
  unfold Store.putBytes
  refine Store.wfFrom_append d (a + bs.length) _ (Store.wfFrom_above d _ 0 m h) 0 _ (Nat.zero_le _) ?_ ?_
  · intro e he
    rcases List.mem_append.mp he with he | he
    · have := (List.mem_filter.mp he).2; simp only [decide_eq_true_eq] at this; omega
    · exact h2 e he
  · refine Store.wfFrom_append d a _ h1 0 _ (Nat.zero_le _) ?_ (Store.wfFrom_filter d _ 0 m h)
    intro e he
    have := (List.mem_filter.mp he).2
    simpa using this

end Sys2Proof.Machine
end

