-- ==== Sys2Proof/Laws/Keep.lean ====
section
/-!
SUPPORT. The relation that every operation of the model keeps: the invariant of Safety.lean carries over, and the queue of
commands and the board's straps are as before; with its rules for updates, folds, pairs and outcomes.
-/
namespace Sys2Proof.Machine

/-- From `r` to `s` the invariant carries over and the queue and the straps stay. -/
structure Keep (r s : State) : Prop where
  inv : r.Inv → s.Inv
  pending : s.pending = r.pending
  strap : s.strap = r.strap

/-- An outcome whose next state keeps. -/
structure KeepOut (r : State) (o : Out) : Prop where
  out : ∀ t, o = .next t → Keep r t

theorem Keep.refl (s : State) : Keep s s := ⟨id, rfl, rfl⟩

theorem Keep.trans {r s t : State} (h : Keep r s) (k : Keep s t) : Keep r t :=
  ⟨fun i => k.inv (h.inv i), k.pending.trans h.pending, k.strap.trans h.strap⟩

theorem KeepOut.next {r s : State} (h : Keep r s) : KeepOut r (.next s) := ⟨by intro t e; cases e; exact h⟩

/-- `Keep` of a state written out, by the fields it speaks of. -/
structure KeepF (r : State) (pending : List Instr) (regs : List (Nat × Word)) (sram dram boot gflash : List Host.Cell)
    (tim : TimSt) (strap : StrapSt) : Prop where
  keep : Keep r { r with
                   pending := pending, regs := regs, sram := sram, dram := dram, boot := boot, gflash := gflash
                   tim := tim, strap := strap }

theorem Keep.mk_iff {r : State} {pending : List Instr} {regs shadowRegs : List (Nat × Word)}
    {sram dram boot gflash : List Host.Cell} {out : List Emission} {freeCtr : Nat} {log : RecSt} {tim : TimSt}
    {mode : ModeSt} {pwr : PwrSt} {clk : ClkSt} {blk : BlkSt} {fuse : FuseSt} {strap : StrapSt} {sramBad : List BadWord}
    {cfg : CfgSt} {trail : TrailSt} {gnt : GntSt} {geo : GeoSt} {rnd : RndSt} {fir : FirSt} {mix : MixSt}
    {cores : List (Nat × CoreSt)} {sch : SchSt} {drc : DrcSt} {sai : SaiSt} {sns : SnsSt} {meas : MeasSt} {mac : MacSt}
    {bvl : BvlSt} {twin : TwinSt} {host : HostSt} :
    Keep r ⟨pending, regs, shadowRegs, sram, dram, boot, gflash, out, freeCtr, log, tim, mode, pwr, clk, blk, fuse, strap,
      sramBad, cfg, trail, gnt, geo, rnd, fir, mix, cores, sch, drc, sai, sns, meas, mac, bvl, twin, host⟩ ↔
    KeepF r pending regs sram dram boot gflash tim strap :=
  ⟨fun h => ⟨⟨h.inv, h.pending, h.strap⟩⟩, fun h => ⟨h.keep.inv, h.keep.pending, h.keep.strap⟩⟩

theorem KeepF.of {r s : State} (h : Keep r s) : KeepF r s.pending s.regs s.sram s.dram s.boot s.gflash s.tim s.strap :=
  ⟨⟨h.inv, h.pending, h.strap⟩⟩

theorem KeepF.tim {r s : State} {x : TimSt} (ha : x.acc = s.tim.acc) (hp : x.phase = s.tim.phase) (h : Keep r s) :
    KeepF r s.pending s.regs s.sram s.dram s.boot s.gflash x s.strap := by
  refine ⟨⟨fun i => ?_, h.pending, h.strap⟩⟩
  obtain ⟨a, b, c⟩ := h.inv i
  refine ⟨a, b, ?_⟩
  simp only [State.timeWf] at c ⊢
  rw [ha, hp]; exact c

/-- An update of the register file that keeps its canonical form. -/
theorem Keep.regs {r s : State} (h : Keep r s) (x : List (Nat × Word))
    (hx : Store.wf regReset s.regs = true → Store.wf regReset x = true) : Keep r { s with regs := x } := by
  refine ⟨fun i => ?_, h.pending, h.strap⟩
  obtain ⟨a, b, c⟩ := h.inv i
  exact ⟨hx a, b, c⟩

theorem Keep.sram {r s : State} (h : Keep r s) (x : List Host.Cell)
    (hx : Store.wf sramDef s.sram = true → Store.wf sramDef x = true) : Keep r { s with sram := x } := by
  refine ⟨fun i => ?_, h.pending, h.strap⟩
  obtain ⟨a, b, c⟩ := h.inv i
  refine ⟨a, ?_, c⟩
  simp only [Memory.wf, Bool.and_eq_true] at b ⊢
  exact ⟨⟨⟨hx b.1.1.1, b.1.1.2⟩, b.1.2⟩, b.2⟩

theorem Keep.dram {r s : State} (h : Keep r s) (x : List Host.Cell)
    (hx : Store.wf dramDef s.dram = true → Store.wf dramDef x = true) : Keep r { s with dram := x } := by
  refine ⟨fun i => ?_, h.pending, h.strap⟩
  obtain ⟨a, b, c⟩ := h.inv i
  refine ⟨a, ?_, c⟩
  simp only [Memory.wf, Bool.and_eq_true] at b ⊢
  exact ⟨⟨⟨b.1.1.1, hx b.1.1.2⟩, b.1.2⟩, b.2⟩

theorem Keep.boot {r s : State} (h : Keep r s) (x : List Host.Cell)
    (hx : Store.wf flashDef s.boot = true → Store.wf flashDef x = true) : Keep r { s with boot := x } := by
  refine ⟨fun i => ?_, h.pending, h.strap⟩
  obtain ⟨a, b, c⟩ := h.inv i
  refine ⟨a, ?_, c⟩
  simp only [Memory.wf, Bool.and_eq_true] at b ⊢
  exact ⟨⟨b.1.1, hx b.1.2⟩, b.2⟩

theorem Keep.gflash {r s : State} (h : Keep r s) (x : List Host.Cell)
    (hx : Store.wf flashDef s.gflash = true → Store.wf flashDef x = true) : Keep r { s with gflash := x } := by
  refine ⟨fun i => ?_, h.pending, h.strap⟩
  obtain ⟨a, b, c⟩ := h.inv i
  refine ⟨a, ?_, c⟩
  simp only [Memory.wf, Bool.and_eq_true] at b ⊢
  exact ⟨b.1, hx b.2⟩

theorem Keep.setReg {r s : State} (h : Keep r s) (a : Nat) (v : Word) : Keep r (s.setReg a v) :=
  h.regs _ (Store.wf_set _ _ _ _)

theorem Keep.resetRange {r s : State} (h : Keep r s) (lo hi : Nat) : Keep r (s.resetRange lo hi) :=
  h.regs _ (Store.wf_clear _ _ _)

theorem Keep.setSw {r s : State} (h : Keep r s) (a : Nat) (v : Word) : Keep r (s.setSw a v) :=
  h.sram _ (Store.wf_putBytes _ _ _ _)

theorem Keep.putSram {r s : State} (h : Keep r s) (a : Nat) (bs : List Byte) : Keep r (s.putSram a bs) :=
  h.sram _ (Store.wf_putBytes _ _ _ _)

theorem Keep.putDram {r s : State} (h : Keep r s) (a : Nat) (bs : List Byte) : Keep r (s.putDram a bs) :=
  h.dram _ (Store.wf_putBytes _ _ _ _)

theorem Keep.putGflash {r s : State} (h : Keep r s) (a : Nat) (bs : List Byte) : Keep r (s.putGflash a bs) :=
  h.gflash _ (Store.wf_putBytes _ _ _ _)

theorem Keep.emit {r s : State} (h : Keep r s) {k : EmKind} {p : Nat} {d : List Byte} : Keep r (s.emit k p d) :=
  ⟨h.inv, h.pending, h.strap⟩

theorem Keep.ite {r s t : State} {c : Prop} [Decidable c] (h : c → Keep r s) (k : ¬c → Keep r t) :
    Keep r (if c then s else t) := by
  split
  · exact h ‹_›
  · exact k ‹_›

theorem Keep.when {r s : State} {c : Bool} {f : State → State} (h : Keep r s) (k : ∀ x, Keep r x → Keep r (f x)) :
    Keep r (s.when c f) := by
  unfold State.when; exact Keep.ite (fun _ => k s h) (fun _ => h)

theorem Keep.foldl {α : Type} {r : State} {f : State → α → State} (k : ∀ s a, Keep r s → Keep r (f s a)) :
    ∀ (l : List α) {s : State}, Keep r s → Keep r (l.foldl f s)
  | [], _, h => h
  | a :: l, _, h => Keep.foldl k l (k _ a h)

theorem Keep.each {α : Type} {r s : State} {l : List α} {f : State → α → State} (h : Keep r s)
    (k : ∀ s a, Keep r s → Keep r (f s a)) : Keep r (s.each l f) := Keep.foldl k l h

theorem Keep.foldlFst {α β : Type} {r : State} {f : State × β → α → State × β}
    (k : ∀ p a, Keep r p.1 → Keep r (f p a).1) : ∀ (l : List α) {p : State × β}, Keep r p.1 → Keep r (l.foldl f p).1
  | [], _, h => h
  | a :: l, _, h => Keep.foldlFst k l (k _ a h)

/-- The state of a pair that a call answered. -/
theorem Keep.pair {β : Type} {r s : State} {x : β} {p : State × β} (e : p = (s, x)) (h : Keep r p.1) : Keep r s := by
  subst e; exact h

/-- The state that a call answered as an option. -/
theorem Keep.opt {r s : State} {o : Option State} (e : o = some s) (h : ∀ t, o = some t → Keep r t) : Keep r s := h s e

theorem KeepOut.access {r s : State} {ini : Initiator} {a : Nat} {f : State → State} (h : Keep r s)
    (k : ∀ x, Keep r x → Keep r (f x)) : KeepOut r (s.access ini a f) := KeepOut.next (Keep.ite (fun _ => k s h) (fun _ => h))

theorem KeepOut.event {r s : State} {a : Nat} {f : State → State} (h : Keep r s) (k : ∀ x, Keep r x → Keep r (f x)) :
    KeepOut r (s.event a f) := KeepOut.next (Keep.ite (fun _ => k s h) (fun _ => h))

theorem KeepOut.readRow {r s : State} {ini : Initiator} {a : Nat} {f : State → State × Word} (h : Keep r s)
    (k : ∀ x, Keep r x → Keep r (f x).1) : KeepOut r (s.readRow ini a f) := by
  refine KeepOut.next (Keep.ite (fun _ => h) (fun _ => Keep.ite (fun _ => ?_) (fun _ => ?_)))
  · exact Keep.emit (k s h)
  · exact Keep.emit h

end Sys2Proof.Machine
end

