-- ==== Sys2Proof/Laws/State.lean ====
section
/-!
SUPPORT. What each named update leaves alone: one lemma for each update and each field it does not write, and what a
memory or register read gives after an update elsewhere.
-/
namespace Sys2Proof.Machine

variable (s : State)

/-! ## setReg writes `regs` alone -/

@[simp] theorem State.setReg_pending (a : Nat) (v : Word) : (s.setReg a v).pending = s.pending := rfl
@[simp] theorem State.setReg_shadowRegs (a : Nat) (v : Word) : (s.setReg a v).shadowRegs = s.shadowRegs := rfl
@[simp] theorem State.setReg_sram (a : Nat) (v : Word) : (s.setReg a v).sram = s.sram := rfl
@[simp] theorem State.setReg_dram (a : Nat) (v : Word) : (s.setReg a v).dram = s.dram := rfl
@[simp] theorem State.setReg_boot (a : Nat) (v : Word) : (s.setReg a v).boot = s.boot := rfl
@[simp] theorem State.setReg_gflash (a : Nat) (v : Word) : (s.setReg a v).gflash = s.gflash := rfl
@[simp] theorem State.setReg_out (a : Nat) (v : Word) : (s.setReg a v).out = s.out := rfl
@[simp] theorem State.setReg_freeCtr (a : Nat) (v : Word) : (s.setReg a v).freeCtr = s.freeCtr := rfl
@[simp] theorem State.setReg_log (a : Nat) (v : Word) : (s.setReg a v).log = s.log := rfl
@[simp] theorem State.setReg_tim (a : Nat) (v : Word) : (s.setReg a v).tim = s.tim := rfl
@[simp] theorem State.setReg_mode (a : Nat) (v : Word) : (s.setReg a v).mode = s.mode := rfl
@[simp] theorem State.setReg_pwr (a : Nat) (v : Word) : (s.setReg a v).pwr = s.pwr := rfl
@[simp] theorem State.setReg_clk (a : Nat) (v : Word) : (s.setReg a v).clk = s.clk := rfl
@[simp] theorem State.setReg_blk (a : Nat) (v : Word) : (s.setReg a v).blk = s.blk := rfl
@[simp] theorem State.setReg_fuse (a : Nat) (v : Word) : (s.setReg a v).fuse = s.fuse := rfl
@[simp] theorem State.setReg_strap (a : Nat) (v : Word) : (s.setReg a v).strap = s.strap := rfl
@[simp] theorem State.setReg_sramBad (a : Nat) (v : Word) : (s.setReg a v).sramBad = s.sramBad := rfl
@[simp] theorem State.setReg_cfg (a : Nat) (v : Word) : (s.setReg a v).cfg = s.cfg := rfl
@[simp] theorem State.setReg_trail (a : Nat) (v : Word) : (s.setReg a v).trail = s.trail := rfl
@[simp] theorem State.setReg_gnt (a : Nat) (v : Word) : (s.setReg a v).gnt = s.gnt := rfl
@[simp] theorem State.setReg_geo (a : Nat) (v : Word) : (s.setReg a v).geo = s.geo := rfl
@[simp] theorem State.setReg_rnd (a : Nat) (v : Word) : (s.setReg a v).rnd = s.rnd := rfl
@[simp] theorem State.setReg_fir (a : Nat) (v : Word) : (s.setReg a v).fir = s.fir := rfl
@[simp] theorem State.setReg_mix (a : Nat) (v : Word) : (s.setReg a v).mix = s.mix := rfl
@[simp] theorem State.setReg_cores (a : Nat) (v : Word) : (s.setReg a v).cores = s.cores := rfl
@[simp] theorem State.setReg_sch (a : Nat) (v : Word) : (s.setReg a v).sch = s.sch := rfl
@[simp] theorem State.setReg_drc (a : Nat) (v : Word) : (s.setReg a v).drc = s.drc := rfl
@[simp] theorem State.setReg_sai (a : Nat) (v : Word) : (s.setReg a v).sai = s.sai := rfl
@[simp] theorem State.setReg_sns (a : Nat) (v : Word) : (s.setReg a v).sns = s.sns := rfl
@[simp] theorem State.setReg_meas (a : Nat) (v : Word) : (s.setReg a v).meas = s.meas := rfl
@[simp] theorem State.setReg_mac (a : Nat) (v : Word) : (s.setReg a v).mac = s.mac := rfl
@[simp] theorem State.setReg_bvl (a : Nat) (v : Word) : (s.setReg a v).bvl = s.bvl := rfl
@[simp] theorem State.setReg_twin (a : Nat) (v : Word) : (s.setReg a v).twin = s.twin := rfl
@[simp] theorem State.setReg_host (a : Nat) (v : Word) : (s.setReg a v).host = s.host := rfl

/-! ## setFld writes `regs` alone -/

@[simp] theorem State.setFld_pending (a lo n v : Nat) : (s.setFld a lo n v).pending = s.pending := rfl
@[simp] theorem State.setFld_shadowRegs (a lo n v : Nat) : (s.setFld a lo n v).shadowRegs = s.shadowRegs := rfl
@[simp] theorem State.setFld_sram (a lo n v : Nat) : (s.setFld a lo n v).sram = s.sram := rfl
@[simp] theorem State.setFld_dram (a lo n v : Nat) : (s.setFld a lo n v).dram = s.dram := rfl
@[simp] theorem State.setFld_boot (a lo n v : Nat) : (s.setFld a lo n v).boot = s.boot := rfl
@[simp] theorem State.setFld_gflash (a lo n v : Nat) : (s.setFld a lo n v).gflash = s.gflash := rfl
@[simp] theorem State.setFld_out (a lo n v : Nat) : (s.setFld a lo n v).out = s.out := rfl
@[simp] theorem State.setFld_freeCtr (a lo n v : Nat) : (s.setFld a lo n v).freeCtr = s.freeCtr := rfl
@[simp] theorem State.setFld_log (a lo n v : Nat) : (s.setFld a lo n v).log = s.log := rfl
@[simp] theorem State.setFld_tim (a lo n v : Nat) : (s.setFld a lo n v).tim = s.tim := rfl
@[simp] theorem State.setFld_mode (a lo n v : Nat) : (s.setFld a lo n v).mode = s.mode := rfl
@[simp] theorem State.setFld_pwr (a lo n v : Nat) : (s.setFld a lo n v).pwr = s.pwr := rfl
@[simp] theorem State.setFld_clk (a lo n v : Nat) : (s.setFld a lo n v).clk = s.clk := rfl
@[simp] theorem State.setFld_blk (a lo n v : Nat) : (s.setFld a lo n v).blk = s.blk := rfl
@[simp] theorem State.setFld_fuse (a lo n v : Nat) : (s.setFld a lo n v).fuse = s.fuse := rfl
@[simp] theorem State.setFld_strap (a lo n v : Nat) : (s.setFld a lo n v).strap = s.strap := rfl
@[simp] theorem State.setFld_sramBad (a lo n v : Nat) : (s.setFld a lo n v).sramBad = s.sramBad := rfl
@[simp] theorem State.setFld_cfg (a lo n v : Nat) : (s.setFld a lo n v).cfg = s.cfg := rfl
@[simp] theorem State.setFld_trail (a lo n v : Nat) : (s.setFld a lo n v).trail = s.trail := rfl
@[simp] theorem State.setFld_gnt (a lo n v : Nat) : (s.setFld a lo n v).gnt = s.gnt := rfl
@[simp] theorem State.setFld_geo (a lo n v : Nat) : (s.setFld a lo n v).geo = s.geo := rfl
@[simp] theorem State.setFld_rnd (a lo n v : Nat) : (s.setFld a lo n v).rnd = s.rnd := rfl
@[simp] theorem State.setFld_fir (a lo n v : Nat) : (s.setFld a lo n v).fir = s.fir := rfl
@[simp] theorem State.setFld_mix (a lo n v : Nat) : (s.setFld a lo n v).mix = s.mix := rfl
@[simp] theorem State.setFld_cores (a lo n v : Nat) : (s.setFld a lo n v).cores = s.cores := rfl
@[simp] theorem State.setFld_sch (a lo n v : Nat) : (s.setFld a lo n v).sch = s.sch := rfl
@[simp] theorem State.setFld_drc (a lo n v : Nat) : (s.setFld a lo n v).drc = s.drc := rfl
@[simp] theorem State.setFld_sai (a lo n v : Nat) : (s.setFld a lo n v).sai = s.sai := rfl
@[simp] theorem State.setFld_sns (a lo n v : Nat) : (s.setFld a lo n v).sns = s.sns := rfl
@[simp] theorem State.setFld_meas (a lo n v : Nat) : (s.setFld a lo n v).meas = s.meas := rfl
@[simp] theorem State.setFld_mac (a lo n v : Nat) : (s.setFld a lo n v).mac = s.mac := rfl
@[simp] theorem State.setFld_bvl (a lo n v : Nat) : (s.setFld a lo n v).bvl = s.bvl := rfl
@[simp] theorem State.setFld_twin (a lo n v : Nat) : (s.setFld a lo n v).twin = s.twin := rfl
@[simp] theorem State.setFld_host (a lo n v : Nat) : (s.setFld a lo n v).host = s.host := rfl

/-! ## setBit writes `regs` alone -/

@[simp] theorem State.setBit_pending (a i : Nat) (b : Bool) : (s.setBit a i b).pending = s.pending := rfl
@[simp] theorem State.setBit_shadowRegs (a i : Nat) (b : Bool) : (s.setBit a i b).shadowRegs = s.shadowRegs := rfl
@[simp] theorem State.setBit_sram (a i : Nat) (b : Bool) : (s.setBit a i b).sram = s.sram := rfl
@[simp] theorem State.setBit_dram (a i : Nat) (b : Bool) : (s.setBit a i b).dram = s.dram := rfl
@[simp] theorem State.setBit_boot (a i : Nat) (b : Bool) : (s.setBit a i b).boot = s.boot := rfl
@[simp] theorem State.setBit_gflash (a i : Nat) (b : Bool) : (s.setBit a i b).gflash = s.gflash := rfl
@[simp] theorem State.setBit_out (a i : Nat) (b : Bool) : (s.setBit a i b).out = s.out := rfl
@[simp] theorem State.setBit_freeCtr (a i : Nat) (b : Bool) : (s.setBit a i b).freeCtr = s.freeCtr := rfl
@[simp] theorem State.setBit_log (a i : Nat) (b : Bool) : (s.setBit a i b).log = s.log := rfl
@[simp] theorem State.setBit_tim (a i : Nat) (b : Bool) : (s.setBit a i b).tim = s.tim := rfl
@[simp] theorem State.setBit_mode (a i : Nat) (b : Bool) : (s.setBit a i b).mode = s.mode := rfl
@[simp] theorem State.setBit_pwr (a i : Nat) (b : Bool) : (s.setBit a i b).pwr = s.pwr := rfl
@[simp] theorem State.setBit_clk (a i : Nat) (b : Bool) : (s.setBit a i b).clk = s.clk := rfl
@[simp] theorem State.setBit_blk (a i : Nat) (b : Bool) : (s.setBit a i b).blk = s.blk := rfl
@[simp] theorem State.setBit_fuse (a i : Nat) (b : Bool) : (s.setBit a i b).fuse = s.fuse := rfl
@[simp] theorem State.setBit_strap (a i : Nat) (b : Bool) : (s.setBit a i b).strap = s.strap := rfl
@[simp] theorem State.setBit_sramBad (a i : Nat) (b : Bool) : (s.setBit a i b).sramBad = s.sramBad := rfl
@[simp] theorem State.setBit_cfg (a i : Nat) (b : Bool) : (s.setBit a i b).cfg = s.cfg := rfl
@[simp] theorem State.setBit_trail (a i : Nat) (b : Bool) : (s.setBit a i b).trail = s.trail := rfl
@[simp] theorem State.setBit_gnt (a i : Nat) (b : Bool) : (s.setBit a i b).gnt = s.gnt := rfl
@[simp] theorem State.setBit_geo (a i : Nat) (b : Bool) : (s.setBit a i b).geo = s.geo := rfl
@[simp] theorem State.setBit_rnd (a i : Nat) (b : Bool) : (s.setBit a i b).rnd = s.rnd := rfl
@[simp] theorem State.setBit_fir (a i : Nat) (b : Bool) : (s.setBit a i b).fir = s.fir := rfl
@[simp] theorem State.setBit_mix (a i : Nat) (b : Bool) : (s.setBit a i b).mix = s.mix := rfl
@[simp] theorem State.setBit_cores (a i : Nat) (b : Bool) : (s.setBit a i b).cores = s.cores := rfl
@[simp] theorem State.setBit_sch (a i : Nat) (b : Bool) : (s.setBit a i b).sch = s.sch := rfl
@[simp] theorem State.setBit_drc (a i : Nat) (b : Bool) : (s.setBit a i b).drc = s.drc := rfl
@[simp] theorem State.setBit_sai (a i : Nat) (b : Bool) : (s.setBit a i b).sai = s.sai := rfl
@[simp] theorem State.setBit_sns (a i : Nat) (b : Bool) : (s.setBit a i b).sns = s.sns := rfl
@[simp] theorem State.setBit_meas (a i : Nat) (b : Bool) : (s.setBit a i b).meas = s.meas := rfl
@[simp] theorem State.setBit_mac (a i : Nat) (b : Bool) : (s.setBit a i b).mac = s.mac := rfl
@[simp] theorem State.setBit_bvl (a i : Nat) (b : Bool) : (s.setBit a i b).bvl = s.bvl := rfl
@[simp] theorem State.setBit_twin (a i : Nat) (b : Bool) : (s.setBit a i b).twin = s.twin := rfl
@[simp] theorem State.setBit_host (a i : Nat) (b : Bool) : (s.setBit a i b).host = s.host := rfl

/-! ## evt writes `regs` alone -/

@[simp] theorem State.evt_pending (a i : Nat) : (s.evt a i).pending = s.pending := rfl
@[simp] theorem State.evt_shadowRegs (a i : Nat) : (s.evt a i).shadowRegs = s.shadowRegs := rfl
@[simp] theorem State.evt_sram (a i : Nat) : (s.evt a i).sram = s.sram := rfl
@[simp] theorem State.evt_dram (a i : Nat) : (s.evt a i).dram = s.dram := rfl
@[simp] theorem State.evt_boot (a i : Nat) : (s.evt a i).boot = s.boot := rfl
@[simp] theorem State.evt_gflash (a i : Nat) : (s.evt a i).gflash = s.gflash := rfl
@[simp] theorem State.evt_out (a i : Nat) : (s.evt a i).out = s.out := rfl
@[simp] theorem State.evt_freeCtr (a i : Nat) : (s.evt a i).freeCtr = s.freeCtr := rfl
@[simp] theorem State.evt_log (a i : Nat) : (s.evt a i).log = s.log := rfl
@[simp] theorem State.evt_tim (a i : Nat) : (s.evt a i).tim = s.tim := rfl
@[simp] theorem State.evt_mode (a i : Nat) : (s.evt a i).mode = s.mode := rfl
@[simp] theorem State.evt_pwr (a i : Nat) : (s.evt a i).pwr = s.pwr := rfl
@[simp] theorem State.evt_clk (a i : Nat) : (s.evt a i).clk = s.clk := rfl
@[simp] theorem State.evt_blk (a i : Nat) : (s.evt a i).blk = s.blk := rfl
@[simp] theorem State.evt_fuse (a i : Nat) : (s.evt a i).fuse = s.fuse := rfl
@[simp] theorem State.evt_strap (a i : Nat) : (s.evt a i).strap = s.strap := rfl
@[simp] theorem State.evt_sramBad (a i : Nat) : (s.evt a i).sramBad = s.sramBad := rfl
@[simp] theorem State.evt_cfg (a i : Nat) : (s.evt a i).cfg = s.cfg := rfl
@[simp] theorem State.evt_trail (a i : Nat) : (s.evt a i).trail = s.trail := rfl
@[simp] theorem State.evt_gnt (a i : Nat) : (s.evt a i).gnt = s.gnt := rfl
@[simp] theorem State.evt_geo (a i : Nat) : (s.evt a i).geo = s.geo := rfl
@[simp] theorem State.evt_rnd (a i : Nat) : (s.evt a i).rnd = s.rnd := rfl
@[simp] theorem State.evt_fir (a i : Nat) : (s.evt a i).fir = s.fir := rfl
@[simp] theorem State.evt_mix (a i : Nat) : (s.evt a i).mix = s.mix := rfl
@[simp] theorem State.evt_cores (a i : Nat) : (s.evt a i).cores = s.cores := rfl
@[simp] theorem State.evt_sch (a i : Nat) : (s.evt a i).sch = s.sch := rfl
@[simp] theorem State.evt_drc (a i : Nat) : (s.evt a i).drc = s.drc := rfl
@[simp] theorem State.evt_sai (a i : Nat) : (s.evt a i).sai = s.sai := rfl
@[simp] theorem State.evt_sns (a i : Nat) : (s.evt a i).sns = s.sns := rfl
@[simp] theorem State.evt_meas (a i : Nat) : (s.evt a i).meas = s.meas := rfl
@[simp] theorem State.evt_mac (a i : Nat) : (s.evt a i).mac = s.mac := rfl
@[simp] theorem State.evt_bvl (a i : Nat) : (s.evt a i).bvl = s.bvl := rfl
@[simp] theorem State.evt_twin (a i : Nat) : (s.evt a i).twin = s.twin := rfl
@[simp] theorem State.evt_host (a i : Nat) : (s.evt a i).host = s.host := rfl

/-! ## count writes `regs` alone -/

@[simp] theorem State.count_pending (a k : Nat) : (s.count a k).pending = s.pending := rfl
@[simp] theorem State.count_shadowRegs (a k : Nat) : (s.count a k).shadowRegs = s.shadowRegs := rfl
@[simp] theorem State.count_sram (a k : Nat) : (s.count a k).sram = s.sram := rfl
@[simp] theorem State.count_dram (a k : Nat) : (s.count a k).dram = s.dram := rfl
@[simp] theorem State.count_boot (a k : Nat) : (s.count a k).boot = s.boot := rfl
@[simp] theorem State.count_gflash (a k : Nat) : (s.count a k).gflash = s.gflash := rfl
@[simp] theorem State.count_out (a k : Nat) : (s.count a k).out = s.out := rfl
@[simp] theorem State.count_freeCtr (a k : Nat) : (s.count a k).freeCtr = s.freeCtr := rfl
@[simp] theorem State.count_log (a k : Nat) : (s.count a k).log = s.log := rfl
@[simp] theorem State.count_tim (a k : Nat) : (s.count a k).tim = s.tim := rfl
@[simp] theorem State.count_mode (a k : Nat) : (s.count a k).mode = s.mode := rfl
@[simp] theorem State.count_pwr (a k : Nat) : (s.count a k).pwr = s.pwr := rfl
@[simp] theorem State.count_clk (a k : Nat) : (s.count a k).clk = s.clk := rfl
@[simp] theorem State.count_blk (a k : Nat) : (s.count a k).blk = s.blk := rfl
@[simp] theorem State.count_fuse (a k : Nat) : (s.count a k).fuse = s.fuse := rfl
@[simp] theorem State.count_strap (a k : Nat) : (s.count a k).strap = s.strap := rfl
@[simp] theorem State.count_sramBad (a k : Nat) : (s.count a k).sramBad = s.sramBad := rfl
@[simp] theorem State.count_cfg (a k : Nat) : (s.count a k).cfg = s.cfg := rfl
@[simp] theorem State.count_trail (a k : Nat) : (s.count a k).trail = s.trail := rfl
@[simp] theorem State.count_gnt (a k : Nat) : (s.count a k).gnt = s.gnt := rfl
@[simp] theorem State.count_geo (a k : Nat) : (s.count a k).geo = s.geo := rfl
@[simp] theorem State.count_rnd (a k : Nat) : (s.count a k).rnd = s.rnd := rfl
@[simp] theorem State.count_fir (a k : Nat) : (s.count a k).fir = s.fir := rfl
@[simp] theorem State.count_mix (a k : Nat) : (s.count a k).mix = s.mix := rfl
@[simp] theorem State.count_cores (a k : Nat) : (s.count a k).cores = s.cores := rfl
@[simp] theorem State.count_sch (a k : Nat) : (s.count a k).sch = s.sch := rfl
@[simp] theorem State.count_drc (a k : Nat) : (s.count a k).drc = s.drc := rfl
@[simp] theorem State.count_sai (a k : Nat) : (s.count a k).sai = s.sai := rfl
@[simp] theorem State.count_sns (a k : Nat) : (s.count a k).sns = s.sns := rfl
@[simp] theorem State.count_meas (a k : Nat) : (s.count a k).meas = s.meas := rfl
@[simp] theorem State.count_mac (a k : Nat) : (s.count a k).mac = s.mac := rfl
@[simp] theorem State.count_bvl (a k : Nat) : (s.count a k).bvl = s.bvl := rfl
@[simp] theorem State.count_twin (a k : Nat) : (s.count a k).twin = s.twin := rfl
@[simp] theorem State.count_host (a k : Nat) : (s.count a k).host = s.host := rfl

/-! ## countFld writes `regs` alone -/

@[simp] theorem State.countFld_pending (a lo n k : Nat) : (s.countFld a lo n k).pending = s.pending := rfl
@[simp] theorem State.countFld_shadowRegs (a lo n k : Nat) : (s.countFld a lo n k).shadowRegs = s.shadowRegs := rfl
@[simp] theorem State.countFld_sram (a lo n k : Nat) : (s.countFld a lo n k).sram = s.sram := rfl
@[simp] theorem State.countFld_dram (a lo n k : Nat) : (s.countFld a lo n k).dram = s.dram := rfl
@[simp] theorem State.countFld_boot (a lo n k : Nat) : (s.countFld a lo n k).boot = s.boot := rfl
@[simp] theorem State.countFld_gflash (a lo n k : Nat) : (s.countFld a lo n k).gflash = s.gflash := rfl
@[simp] theorem State.countFld_out (a lo n k : Nat) : (s.countFld a lo n k).out = s.out := rfl
@[simp] theorem State.countFld_freeCtr (a lo n k : Nat) : (s.countFld a lo n k).freeCtr = s.freeCtr := rfl
@[simp] theorem State.countFld_log (a lo n k : Nat) : (s.countFld a lo n k).log = s.log := rfl
@[simp] theorem State.countFld_tim (a lo n k : Nat) : (s.countFld a lo n k).tim = s.tim := rfl
@[simp] theorem State.countFld_mode (a lo n k : Nat) : (s.countFld a lo n k).mode = s.mode := rfl
@[simp] theorem State.countFld_pwr (a lo n k : Nat) : (s.countFld a lo n k).pwr = s.pwr := rfl
@[simp] theorem State.countFld_clk (a lo n k : Nat) : (s.countFld a lo n k).clk = s.clk := rfl
@[simp] theorem State.countFld_blk (a lo n k : Nat) : (s.countFld a lo n k).blk = s.blk := rfl
@[simp] theorem State.countFld_fuse (a lo n k : Nat) : (s.countFld a lo n k).fuse = s.fuse := rfl
@[simp] theorem State.countFld_strap (a lo n k : Nat) : (s.countFld a lo n k).strap = s.strap := rfl
@[simp] theorem State.countFld_sramBad (a lo n k : Nat) : (s.countFld a lo n k).sramBad = s.sramBad := rfl
@[simp] theorem State.countFld_cfg (a lo n k : Nat) : (s.countFld a lo n k).cfg = s.cfg := rfl
@[simp] theorem State.countFld_trail (a lo n k : Nat) : (s.countFld a lo n k).trail = s.trail := rfl
@[simp] theorem State.countFld_gnt (a lo n k : Nat) : (s.countFld a lo n k).gnt = s.gnt := rfl
@[simp] theorem State.countFld_geo (a lo n k : Nat) : (s.countFld a lo n k).geo = s.geo := rfl
@[simp] theorem State.countFld_rnd (a lo n k : Nat) : (s.countFld a lo n k).rnd = s.rnd := rfl
@[simp] theorem State.countFld_fir (a lo n k : Nat) : (s.countFld a lo n k).fir = s.fir := rfl
@[simp] theorem State.countFld_mix (a lo n k : Nat) : (s.countFld a lo n k).mix = s.mix := rfl
@[simp] theorem State.countFld_cores (a lo n k : Nat) : (s.countFld a lo n k).cores = s.cores := rfl
@[simp] theorem State.countFld_sch (a lo n k : Nat) : (s.countFld a lo n k).sch = s.sch := rfl
@[simp] theorem State.countFld_drc (a lo n k : Nat) : (s.countFld a lo n k).drc = s.drc := rfl
@[simp] theorem State.countFld_sai (a lo n k : Nat) : (s.countFld a lo n k).sai = s.sai := rfl
@[simp] theorem State.countFld_sns (a lo n k : Nat) : (s.countFld a lo n k).sns = s.sns := rfl
@[simp] theorem State.countFld_meas (a lo n k : Nat) : (s.countFld a lo n k).meas = s.meas := rfl
@[simp] theorem State.countFld_mac (a lo n k : Nat) : (s.countFld a lo n k).mac = s.mac := rfl
@[simp] theorem State.countFld_bvl (a lo n k : Nat) : (s.countFld a lo n k).bvl = s.bvl := rfl
@[simp] theorem State.countFld_twin (a lo n k : Nat) : (s.countFld a lo n k).twin = s.twin := rfl
@[simp] theorem State.countFld_host (a lo n k : Nat) : (s.countFld a lo n k).host = s.host := rfl

/-! ## resetRange writes `regs` alone -/

@[simp] theorem State.resetRange_pending (lo hi : Nat) : (s.resetRange lo hi).pending = s.pending := rfl
@[simp] theorem State.resetRange_shadowRegs (lo hi : Nat) : (s.resetRange lo hi).shadowRegs = s.shadowRegs := rfl
@[simp] theorem State.resetRange_sram (lo hi : Nat) : (s.resetRange lo hi).sram = s.sram := rfl
@[simp] theorem State.resetRange_dram (lo hi : Nat) : (s.resetRange lo hi).dram = s.dram := rfl
@[simp] theorem State.resetRange_boot (lo hi : Nat) : (s.resetRange lo hi).boot = s.boot := rfl
@[simp] theorem State.resetRange_gflash (lo hi : Nat) : (s.resetRange lo hi).gflash = s.gflash := rfl
@[simp] theorem State.resetRange_out (lo hi : Nat) : (s.resetRange lo hi).out = s.out := rfl
@[simp] theorem State.resetRange_freeCtr (lo hi : Nat) : (s.resetRange lo hi).freeCtr = s.freeCtr := rfl
@[simp] theorem State.resetRange_log (lo hi : Nat) : (s.resetRange lo hi).log = s.log := rfl
@[simp] theorem State.resetRange_tim (lo hi : Nat) : (s.resetRange lo hi).tim = s.tim := rfl
@[simp] theorem State.resetRange_mode (lo hi : Nat) : (s.resetRange lo hi).mode = s.mode := rfl
@[simp] theorem State.resetRange_pwr (lo hi : Nat) : (s.resetRange lo hi).pwr = s.pwr := rfl
@[simp] theorem State.resetRange_clk (lo hi : Nat) : (s.resetRange lo hi).clk = s.clk := rfl
@[simp] theorem State.resetRange_blk (lo hi : Nat) : (s.resetRange lo hi).blk = s.blk := rfl
@[simp] theorem State.resetRange_fuse (lo hi : Nat) : (s.resetRange lo hi).fuse = s.fuse := rfl
@[simp] theorem State.resetRange_strap (lo hi : Nat) : (s.resetRange lo hi).strap = s.strap := rfl
@[simp] theorem State.resetRange_sramBad (lo hi : Nat) : (s.resetRange lo hi).sramBad = s.sramBad := rfl
@[simp] theorem State.resetRange_cfg (lo hi : Nat) : (s.resetRange lo hi).cfg = s.cfg := rfl
@[simp] theorem State.resetRange_trail (lo hi : Nat) : (s.resetRange lo hi).trail = s.trail := rfl
@[simp] theorem State.resetRange_gnt (lo hi : Nat) : (s.resetRange lo hi).gnt = s.gnt := rfl
@[simp] theorem State.resetRange_geo (lo hi : Nat) : (s.resetRange lo hi).geo = s.geo := rfl
@[simp] theorem State.resetRange_rnd (lo hi : Nat) : (s.resetRange lo hi).rnd = s.rnd := rfl
@[simp] theorem State.resetRange_fir (lo hi : Nat) : (s.resetRange lo hi).fir = s.fir := rfl
@[simp] theorem State.resetRange_mix (lo hi : Nat) : (s.resetRange lo hi).mix = s.mix := rfl
@[simp] theorem State.resetRange_cores (lo hi : Nat) : (s.resetRange lo hi).cores = s.cores := rfl
@[simp] theorem State.resetRange_sch (lo hi : Nat) : (s.resetRange lo hi).sch = s.sch := rfl
@[simp] theorem State.resetRange_drc (lo hi : Nat) : (s.resetRange lo hi).drc = s.drc := rfl
@[simp] theorem State.resetRange_sai (lo hi : Nat) : (s.resetRange lo hi).sai = s.sai := rfl
@[simp] theorem State.resetRange_sns (lo hi : Nat) : (s.resetRange lo hi).sns = s.sns := rfl
@[simp] theorem State.resetRange_meas (lo hi : Nat) : (s.resetRange lo hi).meas = s.meas := rfl
@[simp] theorem State.resetRange_mac (lo hi : Nat) : (s.resetRange lo hi).mac = s.mac := rfl
@[simp] theorem State.resetRange_bvl (lo hi : Nat) : (s.resetRange lo hi).bvl = s.bvl := rfl
@[simp] theorem State.resetRange_twin (lo hi : Nat) : (s.resetRange lo hi).twin = s.twin := rfl
@[simp] theorem State.resetRange_host (lo hi : Nat) : (s.resetRange lo hi).host = s.host := rfl

/-! ## setSw writes `sram` alone -/

@[simp] theorem State.setSw_pending (a : Nat) (v : Word) : (s.setSw a v).pending = s.pending := rfl
@[simp] theorem State.setSw_regs (a : Nat) (v : Word) : (s.setSw a v).regs = s.regs := rfl
@[simp] theorem State.setSw_shadowRegs (a : Nat) (v : Word) : (s.setSw a v).shadowRegs = s.shadowRegs := rfl
@[simp] theorem State.setSw_dram (a : Nat) (v : Word) : (s.setSw a v).dram = s.dram := rfl
@[simp] theorem State.setSw_boot (a : Nat) (v : Word) : (s.setSw a v).boot = s.boot := rfl
@[simp] theorem State.setSw_gflash (a : Nat) (v : Word) : (s.setSw a v).gflash = s.gflash := rfl
@[simp] theorem State.setSw_out (a : Nat) (v : Word) : (s.setSw a v).out = s.out := rfl
@[simp] theorem State.setSw_freeCtr (a : Nat) (v : Word) : (s.setSw a v).freeCtr = s.freeCtr := rfl
@[simp] theorem State.setSw_log (a : Nat) (v : Word) : (s.setSw a v).log = s.log := rfl
@[simp] theorem State.setSw_tim (a : Nat) (v : Word) : (s.setSw a v).tim = s.tim := rfl
@[simp] theorem State.setSw_mode (a : Nat) (v : Word) : (s.setSw a v).mode = s.mode := rfl
@[simp] theorem State.setSw_pwr (a : Nat) (v : Word) : (s.setSw a v).pwr = s.pwr := rfl
@[simp] theorem State.setSw_clk (a : Nat) (v : Word) : (s.setSw a v).clk = s.clk := rfl
@[simp] theorem State.setSw_blk (a : Nat) (v : Word) : (s.setSw a v).blk = s.blk := rfl
@[simp] theorem State.setSw_fuse (a : Nat) (v : Word) : (s.setSw a v).fuse = s.fuse := rfl
@[simp] theorem State.setSw_strap (a : Nat) (v : Word) : (s.setSw a v).strap = s.strap := rfl
@[simp] theorem State.setSw_sramBad (a : Nat) (v : Word) : (s.setSw a v).sramBad = s.sramBad := rfl
@[simp] theorem State.setSw_cfg (a : Nat) (v : Word) : (s.setSw a v).cfg = s.cfg := rfl
@[simp] theorem State.setSw_trail (a : Nat) (v : Word) : (s.setSw a v).trail = s.trail := rfl
@[simp] theorem State.setSw_gnt (a : Nat) (v : Word) : (s.setSw a v).gnt = s.gnt := rfl
@[simp] theorem State.setSw_geo (a : Nat) (v : Word) : (s.setSw a v).geo = s.geo := rfl
@[simp] theorem State.setSw_rnd (a : Nat) (v : Word) : (s.setSw a v).rnd = s.rnd := rfl
@[simp] theorem State.setSw_fir (a : Nat) (v : Word) : (s.setSw a v).fir = s.fir := rfl
@[simp] theorem State.setSw_mix (a : Nat) (v : Word) : (s.setSw a v).mix = s.mix := rfl
@[simp] theorem State.setSw_cores (a : Nat) (v : Word) : (s.setSw a v).cores = s.cores := rfl
@[simp] theorem State.setSw_sch (a : Nat) (v : Word) : (s.setSw a v).sch = s.sch := rfl
@[simp] theorem State.setSw_drc (a : Nat) (v : Word) : (s.setSw a v).drc = s.drc := rfl
@[simp] theorem State.setSw_sai (a : Nat) (v : Word) : (s.setSw a v).sai = s.sai := rfl
@[simp] theorem State.setSw_sns (a : Nat) (v : Word) : (s.setSw a v).sns = s.sns := rfl
@[simp] theorem State.setSw_meas (a : Nat) (v : Word) : (s.setSw a v).meas = s.meas := rfl
@[simp] theorem State.setSw_mac (a : Nat) (v : Word) : (s.setSw a v).mac = s.mac := rfl
@[simp] theorem State.setSw_bvl (a : Nat) (v : Word) : (s.setSw a v).bvl = s.bvl := rfl
@[simp] theorem State.setSw_twin (a : Nat) (v : Word) : (s.setSw a v).twin = s.twin := rfl
@[simp] theorem State.setSw_host (a : Nat) (v : Word) : (s.setSw a v).host = s.host := rfl
@[simp] theorem State.setSw_reg (a : Nat) (v : Word) (x : Nat) : (s.setSw a v).reg x = s.reg x := rfl

/-! ## putSram writes `sram` alone -/

@[simp] theorem State.putSram_pending (a : Nat) (bs : List Byte) : (s.putSram a bs).pending = s.pending := rfl
@[simp] theorem State.putSram_regs (a : Nat) (bs : List Byte) : (s.putSram a bs).regs = s.regs := rfl
@[simp] theorem State.putSram_shadowRegs (a : Nat) (bs : List Byte) : (s.putSram a bs).shadowRegs = s.shadowRegs := rfl
@[simp] theorem State.putSram_dram (a : Nat) (bs : List Byte) : (s.putSram a bs).dram = s.dram := rfl
@[simp] theorem State.putSram_boot (a : Nat) (bs : List Byte) : (s.putSram a bs).boot = s.boot := rfl
@[simp] theorem State.putSram_gflash (a : Nat) (bs : List Byte) : (s.putSram a bs).gflash = s.gflash := rfl
@[simp] theorem State.putSram_out (a : Nat) (bs : List Byte) : (s.putSram a bs).out = s.out := rfl
@[simp] theorem State.putSram_freeCtr (a : Nat) (bs : List Byte) : (s.putSram a bs).freeCtr = s.freeCtr := rfl
@[simp] theorem State.putSram_log (a : Nat) (bs : List Byte) : (s.putSram a bs).log = s.log := rfl
@[simp] theorem State.putSram_tim (a : Nat) (bs : List Byte) : (s.putSram a bs).tim = s.tim := rfl
@[simp] theorem State.putSram_mode (a : Nat) (bs : List Byte) : (s.putSram a bs).mode = s.mode := rfl
@[simp] theorem State.putSram_pwr (a : Nat) (bs : List Byte) : (s.putSram a bs).pwr = s.pwr := rfl
@[simp] theorem State.putSram_clk (a : Nat) (bs : List Byte) : (s.putSram a bs).clk = s.clk := rfl
@[simp] theorem State.putSram_blk (a : Nat) (bs : List Byte) : (s.putSram a bs).blk = s.blk := rfl
@[simp] theorem State.putSram_fuse (a : Nat) (bs : List Byte) : (s.putSram a bs).fuse = s.fuse := rfl
@[simp] theorem State.putSram_strap (a : Nat) (bs : List Byte) : (s.putSram a bs).strap = s.strap := rfl
@[simp] theorem State.putSram_sramBad (a : Nat) (bs : List Byte) : (s.putSram a bs).sramBad = s.sramBad := rfl
@[simp] theorem State.putSram_cfg (a : Nat) (bs : List Byte) : (s.putSram a bs).cfg = s.cfg := rfl
@[simp] theorem State.putSram_trail (a : Nat) (bs : List Byte) : (s.putSram a bs).trail = s.trail := rfl
@[simp] theorem State.putSram_gnt (a : Nat) (bs : List Byte) : (s.putSram a bs).gnt = s.gnt := rfl
@[simp] theorem State.putSram_geo (a : Nat) (bs : List Byte) : (s.putSram a bs).geo = s.geo := rfl
@[simp] theorem State.putSram_rnd (a : Nat) (bs : List Byte) : (s.putSram a bs).rnd = s.rnd := rfl
@[simp] theorem State.putSram_fir (a : Nat) (bs : List Byte) : (s.putSram a bs).fir = s.fir := rfl
@[simp] theorem State.putSram_mix (a : Nat) (bs : List Byte) : (s.putSram a bs).mix = s.mix := rfl
@[simp] theorem State.putSram_cores (a : Nat) (bs : List Byte) : (s.putSram a bs).cores = s.cores := rfl
@[simp] theorem State.putSram_sch (a : Nat) (bs : List Byte) : (s.putSram a bs).sch = s.sch := rfl
@[simp] theorem State.putSram_drc (a : Nat) (bs : List Byte) : (s.putSram a bs).drc = s.drc := rfl
@[simp] theorem State.putSram_sai (a : Nat) (bs : List Byte) : (s.putSram a bs).sai = s.sai := rfl
@[simp] theorem State.putSram_sns (a : Nat) (bs : List Byte) : (s.putSram a bs).sns = s.sns := rfl
@[simp] theorem State.putSram_meas (a : Nat) (bs : List Byte) : (s.putSram a bs).meas = s.meas := rfl
@[simp] theorem State.putSram_mac (a : Nat) (bs : List Byte) : (s.putSram a bs).mac = s.mac := rfl
@[simp] theorem State.putSram_bvl (a : Nat) (bs : List Byte) : (s.putSram a bs).bvl = s.bvl := rfl
@[simp] theorem State.putSram_twin (a : Nat) (bs : List Byte) : (s.putSram a bs).twin = s.twin := rfl
@[simp] theorem State.putSram_host (a : Nat) (bs : List Byte) : (s.putSram a bs).host = s.host := rfl
@[simp] theorem State.putSram_reg (a : Nat) (bs : List Byte) (x : Nat) : (s.putSram a bs).reg x = s.reg x := rfl

/-! ## putDram writes `dram` alone -/

@[simp] theorem State.putDram_pending (a : Nat) (bs : List Byte) : (s.putDram a bs).pending = s.pending := rfl
@[simp] theorem State.putDram_regs (a : Nat) (bs : List Byte) : (s.putDram a bs).regs = s.regs := rfl
@[simp] theorem State.putDram_shadowRegs (a : Nat) (bs : List Byte) : (s.putDram a bs).shadowRegs = s.shadowRegs := rfl
@[simp] theorem State.putDram_sram (a : Nat) (bs : List Byte) : (s.putDram a bs).sram = s.sram := rfl
@[simp] theorem State.putDram_boot (a : Nat) (bs : List Byte) : (s.putDram a bs).boot = s.boot := rfl
@[simp] theorem State.putDram_gflash (a : Nat) (bs : List Byte) : (s.putDram a bs).gflash = s.gflash := rfl
@[simp] theorem State.putDram_out (a : Nat) (bs : List Byte) : (s.putDram a bs).out = s.out := rfl
@[simp] theorem State.putDram_freeCtr (a : Nat) (bs : List Byte) : (s.putDram a bs).freeCtr = s.freeCtr := rfl
@[simp] theorem State.putDram_log (a : Nat) (bs : List Byte) : (s.putDram a bs).log = s.log := rfl
@[simp] theorem State.putDram_tim (a : Nat) (bs : List Byte) : (s.putDram a bs).tim = s.tim := rfl
@[simp] theorem State.putDram_mode (a : Nat) (bs : List Byte) : (s.putDram a bs).mode = s.mode := rfl
@[simp] theorem State.putDram_pwr (a : Nat) (bs : List Byte) : (s.putDram a bs).pwr = s.pwr := rfl
@[simp] theorem State.putDram_clk (a : Nat) (bs : List Byte) : (s.putDram a bs).clk = s.clk := rfl
@[simp] theorem State.putDram_blk (a : Nat) (bs : List Byte) : (s.putDram a bs).blk = s.blk := rfl
@[simp] theorem State.putDram_fuse (a : Nat) (bs : List Byte) : (s.putDram a bs).fuse = s.fuse := rfl
@[simp] theorem State.putDram_strap (a : Nat) (bs : List Byte) : (s.putDram a bs).strap = s.strap := rfl
@[simp] theorem State.putDram_sramBad (a : Nat) (bs : List Byte) : (s.putDram a bs).sramBad = s.sramBad := rfl
@[simp] theorem State.putDram_cfg (a : Nat) (bs : List Byte) : (s.putDram a bs).cfg = s.cfg := rfl
@[simp] theorem State.putDram_trail (a : Nat) (bs : List Byte) : (s.putDram a bs).trail = s.trail := rfl
@[simp] theorem State.putDram_gnt (a : Nat) (bs : List Byte) : (s.putDram a bs).gnt = s.gnt := rfl
@[simp] theorem State.putDram_geo (a : Nat) (bs : List Byte) : (s.putDram a bs).geo = s.geo := rfl
@[simp] theorem State.putDram_rnd (a : Nat) (bs : List Byte) : (s.putDram a bs).rnd = s.rnd := rfl
@[simp] theorem State.putDram_fir (a : Nat) (bs : List Byte) : (s.putDram a bs).fir = s.fir := rfl
@[simp] theorem State.putDram_mix (a : Nat) (bs : List Byte) : (s.putDram a bs).mix = s.mix := rfl
@[simp] theorem State.putDram_cores (a : Nat) (bs : List Byte) : (s.putDram a bs).cores = s.cores := rfl
@[simp] theorem State.putDram_sch (a : Nat) (bs : List Byte) : (s.putDram a bs).sch = s.sch := rfl
@[simp] theorem State.putDram_drc (a : Nat) (bs : List Byte) : (s.putDram a bs).drc = s.drc := rfl
@[simp] theorem State.putDram_sai (a : Nat) (bs : List Byte) : (s.putDram a bs).sai = s.sai := rfl
@[simp] theorem State.putDram_sns (a : Nat) (bs : List Byte) : (s.putDram a bs).sns = s.sns := rfl
@[simp] theorem State.putDram_meas (a : Nat) (bs : List Byte) : (s.putDram a bs).meas = s.meas := rfl
@[simp] theorem State.putDram_mac (a : Nat) (bs : List Byte) : (s.putDram a bs).mac = s.mac := rfl
@[simp] theorem State.putDram_bvl (a : Nat) (bs : List Byte) : (s.putDram a bs).bvl = s.bvl := rfl
@[simp] theorem State.putDram_twin (a : Nat) (bs : List Byte) : (s.putDram a bs).twin = s.twin := rfl
@[simp] theorem State.putDram_host (a : Nat) (bs : List Byte) : (s.putDram a bs).host = s.host := rfl
@[simp] theorem State.putDram_reg (a : Nat) (bs : List Byte) (x : Nat) : (s.putDram a bs).reg x = s.reg x := rfl

/-! ## putGflash writes `gflash` alone -/

@[simp] theorem State.putGflash_pending (a : Nat) (bs : List Byte) : (s.putGflash a bs).pending = s.pending := rfl
@[simp] theorem State.putGflash_regs (a : Nat) (bs : List Byte) : (s.putGflash a bs).regs = s.regs := rfl
@[simp] theorem State.putGflash_shadowRegs (a : Nat) (bs : List Byte) : (s.putGflash a bs).shadowRegs = s.shadowRegs := rfl
@[simp] theorem State.putGflash_sram (a : Nat) (bs : List Byte) : (s.putGflash a bs).sram = s.sram := rfl
@[simp] theorem State.putGflash_dram (a : Nat) (bs : List Byte) : (s.putGflash a bs).dram = s.dram := rfl
@[simp] theorem State.putGflash_boot (a : Nat) (bs : List Byte) : (s.putGflash a bs).boot = s.boot := rfl
@[simp] theorem State.putGflash_out (a : Nat) (bs : List Byte) : (s.putGflash a bs).out = s.out := rfl
@[simp] theorem State.putGflash_freeCtr (a : Nat) (bs : List Byte) : (s.putGflash a bs).freeCtr = s.freeCtr := rfl
@[simp] theorem State.putGflash_log (a : Nat) (bs : List Byte) : (s.putGflash a bs).log = s.log := rfl
@[simp] theorem State.putGflash_tim (a : Nat) (bs : List Byte) : (s.putGflash a bs).tim = s.tim := rfl
@[simp] theorem State.putGflash_mode (a : Nat) (bs : List Byte) : (s.putGflash a bs).mode = s.mode := rfl
@[simp] theorem State.putGflash_pwr (a : Nat) (bs : List Byte) : (s.putGflash a bs).pwr = s.pwr := rfl
@[simp] theorem State.putGflash_clk (a : Nat) (bs : List Byte) : (s.putGflash a bs).clk = s.clk := rfl
@[simp] theorem State.putGflash_blk (a : Nat) (bs : List Byte) : (s.putGflash a bs).blk = s.blk := rfl
@[simp] theorem State.putGflash_fuse (a : Nat) (bs : List Byte) : (s.putGflash a bs).fuse = s.fuse := rfl
@[simp] theorem State.putGflash_strap (a : Nat) (bs : List Byte) : (s.putGflash a bs).strap = s.strap := rfl
@[simp] theorem State.putGflash_sramBad (a : Nat) (bs : List Byte) : (s.putGflash a bs).sramBad = s.sramBad := rfl
@[simp] theorem State.putGflash_cfg (a : Nat) (bs : List Byte) : (s.putGflash a bs).cfg = s.cfg := rfl
@[simp] theorem State.putGflash_trail (a : Nat) (bs : List Byte) : (s.putGflash a bs).trail = s.trail := rfl
@[simp] theorem State.putGflash_gnt (a : Nat) (bs : List Byte) : (s.putGflash a bs).gnt = s.gnt := rfl
@[simp] theorem State.putGflash_geo (a : Nat) (bs : List Byte) : (s.putGflash a bs).geo = s.geo := rfl
@[simp] theorem State.putGflash_rnd (a : Nat) (bs : List Byte) : (s.putGflash a bs).rnd = s.rnd := rfl
@[simp] theorem State.putGflash_fir (a : Nat) (bs : List Byte) : (s.putGflash a bs).fir = s.fir := rfl
@[simp] theorem State.putGflash_mix (a : Nat) (bs : List Byte) : (s.putGflash a bs).mix = s.mix := rfl
@[simp] theorem State.putGflash_cores (a : Nat) (bs : List Byte) : (s.putGflash a bs).cores = s.cores := rfl
@[simp] theorem State.putGflash_sch (a : Nat) (bs : List Byte) : (s.putGflash a bs).sch = s.sch := rfl
@[simp] theorem State.putGflash_drc (a : Nat) (bs : List Byte) : (s.putGflash a bs).drc = s.drc := rfl
@[simp] theorem State.putGflash_sai (a : Nat) (bs : List Byte) : (s.putGflash a bs).sai = s.sai := rfl
@[simp] theorem State.putGflash_sns (a : Nat) (bs : List Byte) : (s.putGflash a bs).sns = s.sns := rfl
@[simp] theorem State.putGflash_meas (a : Nat) (bs : List Byte) : (s.putGflash a bs).meas = s.meas := rfl
@[simp] theorem State.putGflash_mac (a : Nat) (bs : List Byte) : (s.putGflash a bs).mac = s.mac := rfl
@[simp] theorem State.putGflash_bvl (a : Nat) (bs : List Byte) : (s.putGflash a bs).bvl = s.bvl := rfl
@[simp] theorem State.putGflash_twin (a : Nat) (bs : List Byte) : (s.putGflash a bs).twin = s.twin := rfl
@[simp] theorem State.putGflash_host (a : Nat) (bs : List Byte) : (s.putGflash a bs).host = s.host := rfl
@[simp] theorem State.putGflash_reg (a : Nat) (bs : List Byte) (x : Nat) : (s.putGflash a bs).reg x = s.reg x := rfl

/-! ## emit writes `out` alone -/

@[simp] theorem State.emit_pending (k : EmKind) (p : Nat) (d : List Byte) : (s.emit k p d).pending = s.pending := rfl
@[simp] theorem State.emit_regs (k : EmKind) (p : Nat) (d : List Byte) : (s.emit k p d).regs = s.regs := rfl
@[simp] theorem State.emit_shadowRegs (k : EmKind) (p : Nat) (d : List Byte) : (s.emit k p d).shadowRegs = s.shadowRegs := rfl
@[simp] theorem State.emit_sram (k : EmKind) (p : Nat) (d : List Byte) : (s.emit k p d).sram = s.sram := rfl
@[simp] theorem State.emit_dram (k : EmKind) (p : Nat) (d : List Byte) : (s.emit k p d).dram = s.dram := rfl
@[simp] theorem State.emit_boot (k : EmKind) (p : Nat) (d : List Byte) : (s.emit k p d).boot = s.boot := rfl
@[simp] theorem State.emit_gflash (k : EmKind) (p : Nat) (d : List Byte) : (s.emit k p d).gflash = s.gflash := rfl
@[simp] theorem State.emit_freeCtr (k : EmKind) (p : Nat) (d : List Byte) : (s.emit k p d).freeCtr = s.freeCtr := rfl
@[simp] theorem State.emit_log (k : EmKind) (p : Nat) (d : List Byte) : (s.emit k p d).log = s.log := rfl
@[simp] theorem State.emit_tim (k : EmKind) (p : Nat) (d : List Byte) : (s.emit k p d).tim = s.tim := rfl
@[simp] theorem State.emit_mode (k : EmKind) (p : Nat) (d : List Byte) : (s.emit k p d).mode = s.mode := rfl
@[simp] theorem State.emit_pwr (k : EmKind) (p : Nat) (d : List Byte) : (s.emit k p d).pwr = s.pwr := rfl
@[simp] theorem State.emit_clk (k : EmKind) (p : Nat) (d : List Byte) : (s.emit k p d).clk = s.clk := rfl
@[simp] theorem State.emit_blk (k : EmKind) (p : Nat) (d : List Byte) : (s.emit k p d).blk = s.blk := rfl
@[simp] theorem State.emit_fuse (k : EmKind) (p : Nat) (d : List Byte) : (s.emit k p d).fuse = s.fuse := rfl
@[simp] theorem State.emit_strap (k : EmKind) (p : Nat) (d : List Byte) : (s.emit k p d).strap = s.strap := rfl
@[simp] theorem State.emit_sramBad (k : EmKind) (p : Nat) (d : List Byte) : (s.emit k p d).sramBad = s.sramBad := rfl
@[simp] theorem State.emit_cfg (k : EmKind) (p : Nat) (d : List Byte) : (s.emit k p d).cfg = s.cfg := rfl
@[simp] theorem State.emit_trail (k : EmKind) (p : Nat) (d : List Byte) : (s.emit k p d).trail = s.trail := rfl
@[simp] theorem State.emit_gnt (k : EmKind) (p : Nat) (d : List Byte) : (s.emit k p d).gnt = s.gnt := rfl
@[simp] theorem State.emit_geo (k : EmKind) (p : Nat) (d : List Byte) : (s.emit k p d).geo = s.geo := rfl
@[simp] theorem State.emit_rnd (k : EmKind) (p : Nat) (d : List Byte) : (s.emit k p d).rnd = s.rnd := rfl
@[simp] theorem State.emit_fir (k : EmKind) (p : Nat) (d : List Byte) : (s.emit k p d).fir = s.fir := rfl
@[simp] theorem State.emit_mix (k : EmKind) (p : Nat) (d : List Byte) : (s.emit k p d).mix = s.mix := rfl
@[simp] theorem State.emit_cores (k : EmKind) (p : Nat) (d : List Byte) : (s.emit k p d).cores = s.cores := rfl
@[simp] theorem State.emit_sch (k : EmKind) (p : Nat) (d : List Byte) : (s.emit k p d).sch = s.sch := rfl
@[simp] theorem State.emit_drc (k : EmKind) (p : Nat) (d : List Byte) : (s.emit k p d).drc = s.drc := rfl
@[simp] theorem State.emit_sai (k : EmKind) (p : Nat) (d : List Byte) : (s.emit k p d).sai = s.sai := rfl
@[simp] theorem State.emit_sns (k : EmKind) (p : Nat) (d : List Byte) : (s.emit k p d).sns = s.sns := rfl
@[simp] theorem State.emit_meas (k : EmKind) (p : Nat) (d : List Byte) : (s.emit k p d).meas = s.meas := rfl
@[simp] theorem State.emit_mac (k : EmKind) (p : Nat) (d : List Byte) : (s.emit k p d).mac = s.mac := rfl
@[simp] theorem State.emit_bvl (k : EmKind) (p : Nat) (d : List Byte) : (s.emit k p d).bvl = s.bvl := rfl
@[simp] theorem State.emit_twin (k : EmKind) (p : Nat) (d : List Byte) : (s.emit k p d).twin = s.twin := rfl
@[simp] theorem State.emit_host (k : EmKind) (p : Nat) (d : List Byte) : (s.emit k p d).host = s.host := rfl
@[simp] theorem State.emit_reg (k : EmKind) (p : Nat) (d : List Byte) (x : Nat) : (s.emit k p d).reg x = s.reg x := rfl

/-! ## draw writes `freeCtr` alone -/

@[simp] theorem State.draw_pending : (s.draw).pending = s.pending := rfl
@[simp] theorem State.draw_regs : (s.draw).regs = s.regs := rfl
@[simp] theorem State.draw_shadowRegs : (s.draw).shadowRegs = s.shadowRegs := rfl
@[simp] theorem State.draw_sram : (s.draw).sram = s.sram := rfl
@[simp] theorem State.draw_dram : (s.draw).dram = s.dram := rfl
@[simp] theorem State.draw_boot : (s.draw).boot = s.boot := rfl
@[simp] theorem State.draw_gflash : (s.draw).gflash = s.gflash := rfl
@[simp] theorem State.draw_out : (s.draw).out = s.out := rfl
@[simp] theorem State.draw_log : (s.draw).log = s.log := rfl
@[simp] theorem State.draw_tim : (s.draw).tim = s.tim := rfl
@[simp] theorem State.draw_mode : (s.draw).mode = s.mode := rfl
@[simp] theorem State.draw_pwr : (s.draw).pwr = s.pwr := rfl
@[simp] theorem State.draw_clk : (s.draw).clk = s.clk := rfl
@[simp] theorem State.draw_blk : (s.draw).blk = s.blk := rfl
@[simp] theorem State.draw_fuse : (s.draw).fuse = s.fuse := rfl
@[simp] theorem State.draw_strap : (s.draw).strap = s.strap := rfl
@[simp] theorem State.draw_sramBad : (s.draw).sramBad = s.sramBad := rfl
@[simp] theorem State.draw_cfg : (s.draw).cfg = s.cfg := rfl
@[simp] theorem State.draw_trail : (s.draw).trail = s.trail := rfl
@[simp] theorem State.draw_gnt : (s.draw).gnt = s.gnt := rfl
@[simp] theorem State.draw_geo : (s.draw).geo = s.geo := rfl
@[simp] theorem State.draw_rnd : (s.draw).rnd = s.rnd := rfl
@[simp] theorem State.draw_fir : (s.draw).fir = s.fir := rfl
@[simp] theorem State.draw_mix : (s.draw).mix = s.mix := rfl
@[simp] theorem State.draw_cores : (s.draw).cores = s.cores := rfl
@[simp] theorem State.draw_sch : (s.draw).sch = s.sch := rfl
@[simp] theorem State.draw_drc : (s.draw).drc = s.drc := rfl
@[simp] theorem State.draw_sai : (s.draw).sai = s.sai := rfl
@[simp] theorem State.draw_sns : (s.draw).sns = s.sns := rfl
@[simp] theorem State.draw_meas : (s.draw).meas = s.meas := rfl
@[simp] theorem State.draw_mac : (s.draw).mac = s.mac := rfl
@[simp] theorem State.draw_bvl : (s.draw).bvl = s.bvl := rfl
@[simp] theorem State.draw_twin : (s.draw).twin = s.twin := rfl
@[simp] theorem State.draw_host : (s.draw).host = s.host := rfl
@[simp] theorem State.draw_reg (x : Nat) : (s.draw).reg x = s.reg x := rfl

/-! ## push writes `pending` alone -/

@[simp] theorem State.push_regs (c : Instr) : (s.push c).regs = s.regs := rfl
@[simp] theorem State.push_shadowRegs (c : Instr) : (s.push c).shadowRegs = s.shadowRegs := rfl
@[simp] theorem State.push_sram (c : Instr) : (s.push c).sram = s.sram := rfl
@[simp] theorem State.push_dram (c : Instr) : (s.push c).dram = s.dram := rfl
@[simp] theorem State.push_boot (c : Instr) : (s.push c).boot = s.boot := rfl
@[simp] theorem State.push_gflash (c : Instr) : (s.push c).gflash = s.gflash := rfl
@[simp] theorem State.push_out (c : Instr) : (s.push c).out = s.out := rfl
@[simp] theorem State.push_freeCtr (c : Instr) : (s.push c).freeCtr = s.freeCtr := rfl
@[simp] theorem State.push_log (c : Instr) : (s.push c).log = s.log := rfl
@[simp] theorem State.push_tim (c : Instr) : (s.push c).tim = s.tim := rfl
@[simp] theorem State.push_mode (c : Instr) : (s.push c).mode = s.mode := rfl
@[simp] theorem State.push_pwr (c : Instr) : (s.push c).pwr = s.pwr := rfl
@[simp] theorem State.push_clk (c : Instr) : (s.push c).clk = s.clk := rfl
@[simp] theorem State.push_blk (c : Instr) : (s.push c).blk = s.blk := rfl
@[simp] theorem State.push_fuse (c : Instr) : (s.push c).fuse = s.fuse := rfl
@[simp] theorem State.push_strap (c : Instr) : (s.push c).strap = s.strap := rfl
@[simp] theorem State.push_sramBad (c : Instr) : (s.push c).sramBad = s.sramBad := rfl
@[simp] theorem State.push_cfg (c : Instr) : (s.push c).cfg = s.cfg := rfl
@[simp] theorem State.push_trail (c : Instr) : (s.push c).trail = s.trail := rfl
@[simp] theorem State.push_gnt (c : Instr) : (s.push c).gnt = s.gnt := rfl
@[simp] theorem State.push_geo (c : Instr) : (s.push c).geo = s.geo := rfl
@[simp] theorem State.push_rnd (c : Instr) : (s.push c).rnd = s.rnd := rfl
@[simp] theorem State.push_fir (c : Instr) : (s.push c).fir = s.fir := rfl
@[simp] theorem State.push_mix (c : Instr) : (s.push c).mix = s.mix := rfl
@[simp] theorem State.push_cores (c : Instr) : (s.push c).cores = s.cores := rfl
@[simp] theorem State.push_sch (c : Instr) : (s.push c).sch = s.sch := rfl
@[simp] theorem State.push_drc (c : Instr) : (s.push c).drc = s.drc := rfl
@[simp] theorem State.push_sai (c : Instr) : (s.push c).sai = s.sai := rfl
@[simp] theorem State.push_sns (c : Instr) : (s.push c).sns = s.sns := rfl
@[simp] theorem State.push_meas (c : Instr) : (s.push c).meas = s.meas := rfl
@[simp] theorem State.push_mac (c : Instr) : (s.push c).mac = s.mac := rfl
@[simp] theorem State.push_bvl (c : Instr) : (s.push c).bvl = s.bvl := rfl
@[simp] theorem State.push_twin (c : Instr) : (s.push c).twin = s.twin := rfl
@[simp] theorem State.push_host (c : Instr) : (s.push c).host = s.host := rfl
@[simp] theorem State.push_reg (c : Instr) (x : Nat) : (s.push c).reg x = s.reg x := rfl

/-! ## pop writes `pending` alone -/

@[simp] theorem State.pop_regs : (s.pop).regs = s.regs := rfl
@[simp] theorem State.pop_shadowRegs : (s.pop).shadowRegs = s.shadowRegs := rfl
@[simp] theorem State.pop_sram : (s.pop).sram = s.sram := rfl
@[simp] theorem State.pop_dram : (s.pop).dram = s.dram := rfl
@[simp] theorem State.pop_boot : (s.pop).boot = s.boot := rfl
@[simp] theorem State.pop_gflash : (s.pop).gflash = s.gflash := rfl
@[simp] theorem State.pop_out : (s.pop).out = s.out := rfl
@[simp] theorem State.pop_freeCtr : (s.pop).freeCtr = s.freeCtr := rfl
@[simp] theorem State.pop_log : (s.pop).log = s.log := rfl
@[simp] theorem State.pop_tim : (s.pop).tim = s.tim := rfl
@[simp] theorem State.pop_mode : (s.pop).mode = s.mode := rfl
@[simp] theorem State.pop_pwr : (s.pop).pwr = s.pwr := rfl
@[simp] theorem State.pop_clk : (s.pop).clk = s.clk := rfl
@[simp] theorem State.pop_blk : (s.pop).blk = s.blk := rfl
@[simp] theorem State.pop_fuse : (s.pop).fuse = s.fuse := rfl
@[simp] theorem State.pop_strap : (s.pop).strap = s.strap := rfl
@[simp] theorem State.pop_sramBad : (s.pop).sramBad = s.sramBad := rfl
@[simp] theorem State.pop_cfg : (s.pop).cfg = s.cfg := rfl
@[simp] theorem State.pop_trail : (s.pop).trail = s.trail := rfl
@[simp] theorem State.pop_gnt : (s.pop).gnt = s.gnt := rfl
@[simp] theorem State.pop_geo : (s.pop).geo = s.geo := rfl
@[simp] theorem State.pop_rnd : (s.pop).rnd = s.rnd := rfl
@[simp] theorem State.pop_fir : (s.pop).fir = s.fir := rfl
@[simp] theorem State.pop_mix : (s.pop).mix = s.mix := rfl
@[simp] theorem State.pop_cores : (s.pop).cores = s.cores := rfl
@[simp] theorem State.pop_sch : (s.pop).sch = s.sch := rfl
@[simp] theorem State.pop_drc : (s.pop).drc = s.drc := rfl
@[simp] theorem State.pop_sai : (s.pop).sai = s.sai := rfl
@[simp] theorem State.pop_sns : (s.pop).sns = s.sns := rfl
@[simp] theorem State.pop_meas : (s.pop).meas = s.meas := rfl
@[simp] theorem State.pop_mac : (s.pop).mac = s.mac := rfl
@[simp] theorem State.pop_bvl : (s.pop).bvl = s.bvl := rfl
@[simp] theorem State.pop_twin : (s.pop).twin = s.twin := rfl
@[simp] theorem State.pop_host : (s.pop).host = s.host := rfl
@[simp] theorem State.pop_reg (x : Nat) : (s.pop).reg x = s.reg x := rfl

end Sys2Proof.Machine
end

