-- ==== Sys2Proof/Laws/Ops.lean ====
section
/-!
SUPPORT. What the shared operations do, said once: a register read after a write, counters and event bits, the rows that
are accesses, reads and events, and the step.
-/
namespace Sys2Proof.Machine

/-! ## Registers -/

/-- A register reads what was put into it. -/
theorem State.reg_setReg_self {s : State} (h : s.regsWf = true) (a : Nat) (v : Word) : (s.setReg a v).reg a = v :=
  Store.get_set_same regReset s.regs a v h

/-- Every other register reads as before. -/
theorem State.reg_setReg_ne (s : State) {a b : Nat} (v : Word) (h : b ≠ a) : (s.setReg a v).reg b = s.reg b :=
  Store.get_set_other regReset a b v h s.regs

/-- A write of a register keeps the register file canonical. -/
theorem State.regsWf_setReg {s : State} (h : s.regsWf = true) (a : Nat) (v : Word) : (s.setReg a v).regsWf = true :=
  Store.wf_set regReset s.regs a v h

/-- A field that is put leaves every other register as it was. -/
theorem State.reg_setFld_ne (s : State) {a b : Nat} (lo n v : Nat) (h : b ≠ a) : (s.setFld a lo n v).reg b = s.reg b :=
  s.reg_setReg_ne _ h

/-- The register of a field that is put. -/
theorem State.reg_setFld_self {s : State} (h : s.regsWf = true) (a lo n v : Nat) :
    (s.setFld a lo n v).reg a = putFld (s.reg a) lo n v := State.reg_setReg_self h a _

/-- An event bit that sets leaves every other register as it was. -/
theorem State.reg_evt_ne (s : State) {a b : Nat} (i : Nat) (h : b ≠ a) : (s.evt a i).reg b = s.reg b :=
  s.reg_setReg_ne _ h

/-- A counter counts and saturates (R12). -/
theorem State.reg_count_self {s : State} (h : s.regsWf = true) (a k : Nat) :
    (s.count a k).reg a = w32 (satU 32 ((s.reg a).toNat + k)) := State.reg_setReg_self h a _

/-- A counter leaves every other register as it was. -/
theorem State.reg_count_ne (s : State) {a b : Nat} (k : Nat) (h : b ≠ a) : (s.count a k).reg b = s.reg b :=
  s.reg_setReg_ne _ h

/-- Registers of a range that is reset read their reset value, and the others as before. -/
theorem State.reg_resetRange (s : State) (lo hi b : Nat) :
    (s.resetRange lo hi).reg b = if lo ≤ b ∧ b < hi then regReset b else s.reg b := by
  simp [State.reg, State.resetRange, Store.get_clear, Bool.and_eq_true]

/-! ## Rows that are accesses, reads and events (R449, R537, R539) -/

/-- An access that reaches its block acts. -/
theorem State.access_reaches {s : State} {ini : Initiator} {a : Nat} (f : State → State) (h : Reaches s ini a) :
    s.access ini a f = .next (f s) := by simp [State.access, h.1, h.2]

/-- An access that does not reach its block changes nothing. -/
theorem State.access_dropped {s : State} {ini : Initiator} {a : Nat} (f : State → State) (h : ¬ Reaches s ini a) :
    s.access ini a f = .next s := by
  unfold State.access
  rw [if_neg]
  intro e
  rw [Bool.and_eq_true] at e
  exact h e

/-- An event of a block that is reached acts. -/
theorem State.event_reaches {s : State} {a : Nat} (f : State → State) (h : s.reach a = true) :
    s.event a f = .next (f s) := by simp [State.event, h]

/-- An event of a block that is held or gated changes nothing. -/
theorem State.event_dropped {s : State} {a : Nat} (f : State → State) (h : s.reach a = false) :
    s.event a f = .next s := by simp [State.event, h]

/-- A read that reaches its block answers the word it finds. -/
theorem State.readRow_reaches {s : State} {ini : Initiator} {a : Nat} (f : State → State × Word) (h : Reaches s ini a) :
    s.readRow ini a f = .next ((f s).1.answer ini (f s).2) := by simp [State.readRow, h.1, h.2]

/-- A read of a held or gated block answers zero. -/
theorem State.readRow_zero {s : State} {ini : Initiator} {a : Nat} (f : State → State × Word) (h : s.admits ini = true)
    (k : s.reach a = false) : s.readRow ini a f = .next (s.answer ini 0) := by simp [State.readRow, h, k]

/-! ## Completion -/

/-- A command completes where its meaning answers a state of which the claim holds. -/
theorem Completes.of {c : Instr} {s t : State} {P : State → Prop} (h : exec c s = .next t) (k : P t) : Completes c s P :=
  ⟨t, h, k⟩

/-- What a completed command gives is what its meaning answers. -/
theorem Completes.elim {c : Instr} {s t : State} {P : State → Prop} (h : Completes c s P) (k : exec c s = .next t) : P t := by
  obtain ⟨u, e, p⟩ := h
  rw [e] at k
  cases k
  exact p

/-- A claim that follows from another carries over. -/
theorem Completes.mono {c : Instr} {s : State} {P Q : State → Prop} (h : Completes c s P) (k : ∀ t, P t → Q t) :
    Completes c s Q := by
  obtain ⟨t, e, p⟩ := h
  exact ⟨t, e, k t p⟩

end Sys2Proof.Machine
end

