-- ==== Sys2Proof/Laws/Units.lean ====
section
/-!
SUPPORT. The stores of single units (cores, pairs, lanes, stream buffers, subscribers, meters, bridges, override feeds, cells, ports): what a
write of one reads back as, that another reads as before, and that no other field of the state changes.
-/
namespace Sys2Proof.Machine

variable (s : State)

/-! ## setCore -/

/-- What was written is read back. -/
theorem State.setCore_same (c : Nat) (x : CoreSt) (h : Store.wf (fun _ => ({} : CoreSt)) s.cores = true) :
    (s.setCore c x).core c = x := Store.get_set_same _ _ _ _ h

/-- Another one reads as before. -/
theorem State.setCore_other (c j : Nat) (x : CoreSt) (h : j ≠ c) :
    (s.setCore c x).core j = s.core j := Store.get_set_other _ _ _ _ h _

/-- The store keeps its canonical form. -/
theorem State.setCore_wf (c : Nat) (x : CoreSt) (h : Store.wf (fun _ => ({} : CoreSt)) s.cores = true) :
    Store.wf (fun _ => ({} : CoreSt)) (s.setCore c x).cores = true := Store.wf_set _ _ _ _ h

@[simp] theorem State.setCore_pending (c : Nat) (x : CoreSt) : (s.setCore c x).pending = s.pending := rfl
@[simp] theorem State.setCore_shadowRegs (c : Nat) (x : CoreSt) : (s.setCore c x).shadowRegs = s.shadowRegs := rfl
@[simp] theorem State.setCore_regs (c : Nat) (x : CoreSt) : (s.setCore c x).regs = s.regs := rfl
@[simp] theorem State.setCore_sram (c : Nat) (x : CoreSt) : (s.setCore c x).sram = s.sram := rfl
@[simp] theorem State.setCore_dram (c : Nat) (x : CoreSt) : (s.setCore c x).dram = s.dram := rfl
@[simp] theorem State.setCore_boot (c : Nat) (x : CoreSt) : (s.setCore c x).boot = s.boot := rfl
@[simp] theorem State.setCore_gflash (c : Nat) (x : CoreSt) : (s.setCore c x).gflash = s.gflash := rfl
@[simp] theorem State.setCore_out (c : Nat) (x : CoreSt) : (s.setCore c x).out = s.out := rfl
@[simp] theorem State.setCore_freeCtr (c : Nat) (x : CoreSt) : (s.setCore c x).freeCtr = s.freeCtr := rfl
@[simp] theorem State.setCore_log (c : Nat) (x : CoreSt) : (s.setCore c x).log = s.log := rfl
@[simp] theorem State.setCore_tim (c : Nat) (x : CoreSt) : (s.setCore c x).tim = s.tim := rfl
@[simp] theorem State.setCore_mode (c : Nat) (x : CoreSt) : (s.setCore c x).mode = s.mode := rfl
@[simp] theorem State.setCore_pwr (c : Nat) (x : CoreSt) : (s.setCore c x).pwr = s.pwr := rfl
@[simp] theorem State.setCore_clk (c : Nat) (x : CoreSt) : (s.setCore c x).clk = s.clk := rfl
@[simp] theorem State.setCore_blk (c : Nat) (x : CoreSt) : (s.setCore c x).blk = s.blk := rfl
@[simp] theorem State.setCore_fuse (c : Nat) (x : CoreSt) : (s.setCore c x).fuse = s.fuse := rfl
@[simp] theorem State.setCore_strap (c : Nat) (x : CoreSt) : (s.setCore c x).strap = s.strap := rfl
@[simp] theorem State.setCore_sramBad (c : Nat) (x : CoreSt) : (s.setCore c x).sramBad = s.sramBad := rfl
@[simp] theorem State.setCore_cfg (c : Nat) (x : CoreSt) : (s.setCore c x).cfg = s.cfg := rfl
@[simp] theorem State.setCore_trail (c : Nat) (x : CoreSt) : (s.setCore c x).trail = s.trail := rfl
@[simp] theorem State.setCore_gnt (c : Nat) (x : CoreSt) : (s.setCore c x).gnt = s.gnt := rfl
@[simp] theorem State.setCore_geo (c : Nat) (x : CoreSt) : (s.setCore c x).geo = s.geo := rfl
@[simp] theorem State.setCore_rnd (c : Nat) (x : CoreSt) : (s.setCore c x).rnd = s.rnd := rfl
@[simp] theorem State.setCore_fir (c : Nat) (x : CoreSt) : (s.setCore c x).fir = s.fir := rfl
@[simp] theorem State.setCore_mix (c : Nat) (x : CoreSt) : (s.setCore c x).mix = s.mix := rfl
@[simp] theorem State.setCore_sch (c : Nat) (x : CoreSt) : (s.setCore c x).sch = s.sch := rfl
@[simp] theorem State.setCore_drc (c : Nat) (x : CoreSt) : (s.setCore c x).drc = s.drc := rfl
@[simp] theorem State.setCore_sai (c : Nat) (x : CoreSt) : (s.setCore c x).sai = s.sai := rfl
@[simp] theorem State.setCore_sns (c : Nat) (x : CoreSt) : (s.setCore c x).sns = s.sns := rfl
@[simp] theorem State.setCore_meas (c : Nat) (x : CoreSt) : (s.setCore c x).meas = s.meas := rfl
@[simp] theorem State.setCore_mac (c : Nat) (x : CoreSt) : (s.setCore c x).mac = s.mac := rfl
@[simp] theorem State.setCore_bvl (c : Nat) (x : CoreSt) : (s.setCore c x).bvl = s.bvl := rfl
@[simp] theorem State.setCore_twin (c : Nat) (x : CoreSt) : (s.setCore c x).twin = s.twin := rfl
@[simp] theorem State.setCore_host (c : Nat) (x : CoreSt) : (s.setCore c x).host = s.host := rfl

/-! ## setPair -/

/-- What was written is read back. -/
theorem State.setPair_same (i : Nat) (x : PairSt) (h : Store.wf (fun _ => ({} : PairSt)) s.sai.pairs = true) :
    (s.setPair i x).pairSt i = x := Store.get_set_same _ _ _ _ h

/-- Another one reads as before. -/
theorem State.setPair_other (i j : Nat) (x : PairSt) (h : j ≠ i) :
    (s.setPair i x).pairSt j = s.pairSt j := Store.get_set_other _ _ _ _ h _

/-- The store keeps its canonical form. -/
theorem State.setPair_wf (i : Nat) (x : PairSt) (h : Store.wf (fun _ => ({} : PairSt)) s.sai.pairs = true) :
    Store.wf (fun _ => ({} : PairSt)) (s.setPair i x).sai.pairs = true := Store.wf_set _ _ _ _ h

@[simp] theorem State.setPair_pending (i : Nat) (x : PairSt) : (s.setPair i x).pending = s.pending := rfl
@[simp] theorem State.setPair_shadowRegs (i : Nat) (x : PairSt) : (s.setPair i x).shadowRegs = s.shadowRegs := rfl
@[simp] theorem State.setPair_regs (i : Nat) (x : PairSt) : (s.setPair i x).regs = s.regs := rfl
@[simp] theorem State.setPair_sram (i : Nat) (x : PairSt) : (s.setPair i x).sram = s.sram := rfl
@[simp] theorem State.setPair_dram (i : Nat) (x : PairSt) : (s.setPair i x).dram = s.dram := rfl
@[simp] theorem State.setPair_boot (i : Nat) (x : PairSt) : (s.setPair i x).boot = s.boot := rfl
@[simp] theorem State.setPair_gflash (i : Nat) (x : PairSt) : (s.setPair i x).gflash = s.gflash := rfl
@[simp] theorem State.setPair_out (i : Nat) (x : PairSt) : (s.setPair i x).out = s.out := rfl
@[simp] theorem State.setPair_freeCtr (i : Nat) (x : PairSt) : (s.setPair i x).freeCtr = s.freeCtr := rfl
@[simp] theorem State.setPair_log (i : Nat) (x : PairSt) : (s.setPair i x).log = s.log := rfl
@[simp] theorem State.setPair_tim (i : Nat) (x : PairSt) : (s.setPair i x).tim = s.tim := rfl
@[simp] theorem State.setPair_mode (i : Nat) (x : PairSt) : (s.setPair i x).mode = s.mode := rfl
@[simp] theorem State.setPair_pwr (i : Nat) (x : PairSt) : (s.setPair i x).pwr = s.pwr := rfl
@[simp] theorem State.setPair_clk (i : Nat) (x : PairSt) : (s.setPair i x).clk = s.clk := rfl
@[simp] theorem State.setPair_blk (i : Nat) (x : PairSt) : (s.setPair i x).blk = s.blk := rfl
@[simp] theorem State.setPair_fuse (i : Nat) (x : PairSt) : (s.setPair i x).fuse = s.fuse := rfl
@[simp] theorem State.setPair_strap (i : Nat) (x : PairSt) : (s.setPair i x).strap = s.strap := rfl
@[simp] theorem State.setPair_sramBad (i : Nat) (x : PairSt) : (s.setPair i x).sramBad = s.sramBad := rfl
@[simp] theorem State.setPair_cfg (i : Nat) (x : PairSt) : (s.setPair i x).cfg = s.cfg := rfl
@[simp] theorem State.setPair_trail (i : Nat) (x : PairSt) : (s.setPair i x).trail = s.trail := rfl
@[simp] theorem State.setPair_gnt (i : Nat) (x : PairSt) : (s.setPair i x).gnt = s.gnt := rfl
@[simp] theorem State.setPair_geo (i : Nat) (x : PairSt) : (s.setPair i x).geo = s.geo := rfl
@[simp] theorem State.setPair_rnd (i : Nat) (x : PairSt) : (s.setPair i x).rnd = s.rnd := rfl
@[simp] theorem State.setPair_fir (i : Nat) (x : PairSt) : (s.setPair i x).fir = s.fir := rfl
@[simp] theorem State.setPair_mix (i : Nat) (x : PairSt) : (s.setPair i x).mix = s.mix := rfl
@[simp] theorem State.setPair_cores (i : Nat) (x : PairSt) : (s.setPair i x).cores = s.cores := rfl
@[simp] theorem State.setPair_sch (i : Nat) (x : PairSt) : (s.setPair i x).sch = s.sch := rfl
@[simp] theorem State.setPair_drc (i : Nat) (x : PairSt) : (s.setPair i x).drc = s.drc := rfl
@[simp] theorem State.setPair_sns (i : Nat) (x : PairSt) : (s.setPair i x).sns = s.sns := rfl
@[simp] theorem State.setPair_meas (i : Nat) (x : PairSt) : (s.setPair i x).meas = s.meas := rfl
@[simp] theorem State.setPair_mac (i : Nat) (x : PairSt) : (s.setPair i x).mac = s.mac := rfl
@[simp] theorem State.setPair_bvl (i : Nat) (x : PairSt) : (s.setPair i x).bvl = s.bvl := rfl
@[simp] theorem State.setPair_twin (i : Nat) (x : PairSt) : (s.setPair i x).twin = s.twin := rfl
@[simp] theorem State.setPair_host (i : Nat) (x : PairSt) : (s.setPair i x).host = s.host := rfl

/-! ## setLane -/

/-- What was written is read back. -/
theorem State.setLane_same (l : Nat) (x : LaneSt) (h : Store.wf (fun _ => ({} : LaneSt)) s.sai.lanes = true) :
    (s.setLane l x).laneSt l = x := Store.get_set_same _ _ _ _ h

/-- Another one reads as before. -/
theorem State.setLane_other (l j : Nat) (x : LaneSt) (h : j ≠ l) :
    (s.setLane l x).laneSt j = s.laneSt j := Store.get_set_other _ _ _ _ h _

/-- The store keeps its canonical form. -/
theorem State.setLane_wf (l : Nat) (x : LaneSt) (h : Store.wf (fun _ => ({} : LaneSt)) s.sai.lanes = true) :
    Store.wf (fun _ => ({} : LaneSt)) (s.setLane l x).sai.lanes = true := Store.wf_set _ _ _ _ h

@[simp] theorem State.setLane_pending (l : Nat) (x : LaneSt) : (s.setLane l x).pending = s.pending := rfl
@[simp] theorem State.setLane_shadowRegs (l : Nat) (x : LaneSt) : (s.setLane l x).shadowRegs = s.shadowRegs := rfl
@[simp] theorem State.setLane_regs (l : Nat) (x : LaneSt) : (s.setLane l x).regs = s.regs := rfl
@[simp] theorem State.setLane_sram (l : Nat) (x : LaneSt) : (s.setLane l x).sram = s.sram := rfl
@[simp] theorem State.setLane_dram (l : Nat) (x : LaneSt) : (s.setLane l x).dram = s.dram := rfl
@[simp] theorem State.setLane_boot (l : Nat) (x : LaneSt) : (s.setLane l x).boot = s.boot := rfl
@[simp] theorem State.setLane_gflash (l : Nat) (x : LaneSt) : (s.setLane l x).gflash = s.gflash := rfl
@[simp] theorem State.setLane_out (l : Nat) (x : LaneSt) : (s.setLane l x).out = s.out := rfl
@[simp] theorem State.setLane_freeCtr (l : Nat) (x : LaneSt) : (s.setLane l x).freeCtr = s.freeCtr := rfl
@[simp] theorem State.setLane_log (l : Nat) (x : LaneSt) : (s.setLane l x).log = s.log := rfl
@[simp] theorem State.setLane_tim (l : Nat) (x : LaneSt) : (s.setLane l x).tim = s.tim := rfl
@[simp] theorem State.setLane_mode (l : Nat) (x : LaneSt) : (s.setLane l x).mode = s.mode := rfl
@[simp] theorem State.setLane_pwr (l : Nat) (x : LaneSt) : (s.setLane l x).pwr = s.pwr := rfl
@[simp] theorem State.setLane_clk (l : Nat) (x : LaneSt) : (s.setLane l x).clk = s.clk := rfl
@[simp] theorem State.setLane_blk (l : Nat) (x : LaneSt) : (s.setLane l x).blk = s.blk := rfl
@[simp] theorem State.setLane_fuse (l : Nat) (x : LaneSt) : (s.setLane l x).fuse = s.fuse := rfl
@[simp] theorem State.setLane_strap (l : Nat) (x : LaneSt) : (s.setLane l x).strap = s.strap := rfl
@[simp] theorem State.setLane_sramBad (l : Nat) (x : LaneSt) : (s.setLane l x).sramBad = s.sramBad := rfl
@[simp] theorem State.setLane_cfg (l : Nat) (x : LaneSt) : (s.setLane l x).cfg = s.cfg := rfl
@[simp] theorem State.setLane_trail (l : Nat) (x : LaneSt) : (s.setLane l x).trail = s.trail := rfl
@[simp] theorem State.setLane_gnt (l : Nat) (x : LaneSt) : (s.setLane l x).gnt = s.gnt := rfl
@[simp] theorem State.setLane_geo (l : Nat) (x : LaneSt) : (s.setLane l x).geo = s.geo := rfl
@[simp] theorem State.setLane_rnd (l : Nat) (x : LaneSt) : (s.setLane l x).rnd = s.rnd := rfl
@[simp] theorem State.setLane_fir (l : Nat) (x : LaneSt) : (s.setLane l x).fir = s.fir := rfl
@[simp] theorem State.setLane_mix (l : Nat) (x : LaneSt) : (s.setLane l x).mix = s.mix := rfl
@[simp] theorem State.setLane_cores (l : Nat) (x : LaneSt) : (s.setLane l x).cores = s.cores := rfl
@[simp] theorem State.setLane_sch (l : Nat) (x : LaneSt) : (s.setLane l x).sch = s.sch := rfl
@[simp] theorem State.setLane_drc (l : Nat) (x : LaneSt) : (s.setLane l x).drc = s.drc := rfl
@[simp] theorem State.setLane_sns (l : Nat) (x : LaneSt) : (s.setLane l x).sns = s.sns := rfl
@[simp] theorem State.setLane_meas (l : Nat) (x : LaneSt) : (s.setLane l x).meas = s.meas := rfl
@[simp] theorem State.setLane_mac (l : Nat) (x : LaneSt) : (s.setLane l x).mac = s.mac := rfl
@[simp] theorem State.setLane_bvl (l : Nat) (x : LaneSt) : (s.setLane l x).bvl = s.bvl := rfl
@[simp] theorem State.setLane_twin (l : Nat) (x : LaneSt) : (s.setLane l x).twin = s.twin := rfl
@[simp] theorem State.setLane_host (l : Nat) (x : LaneSt) : (s.setLane l x).host = s.host := rfl

/-! ## setRxBuf -/

/-- What was written is read back. -/
theorem State.setRxBuf_same (i : Nat) (x : RxBuf) (h : Store.wf (fun _ => ({} : RxBuf)) s.mac.rx = true) :
    (s.setRxBuf i x).rxBuf i = x := Store.get_set_same _ _ _ _ h

/-- Another one reads as before. -/
theorem State.setRxBuf_other (i j : Nat) (x : RxBuf) (h : j ≠ i) :
    (s.setRxBuf i x).rxBuf j = s.rxBuf j := Store.get_set_other _ _ _ _ h _

/-- The store keeps its canonical form. -/
theorem State.setRxBuf_wf (i : Nat) (x : RxBuf) (h : Store.wf (fun _ => ({} : RxBuf)) s.mac.rx = true) :
    Store.wf (fun _ => ({} : RxBuf)) (s.setRxBuf i x).mac.rx = true := Store.wf_set _ _ _ _ h

@[simp] theorem State.setRxBuf_pending (i : Nat) (x : RxBuf) : (s.setRxBuf i x).pending = s.pending := rfl
@[simp] theorem State.setRxBuf_shadowRegs (i : Nat) (x : RxBuf) : (s.setRxBuf i x).shadowRegs = s.shadowRegs := rfl
@[simp] theorem State.setRxBuf_regs (i : Nat) (x : RxBuf) : (s.setRxBuf i x).regs = s.regs := rfl
@[simp] theorem State.setRxBuf_sram (i : Nat) (x : RxBuf) : (s.setRxBuf i x).sram = s.sram := rfl
@[simp] theorem State.setRxBuf_dram (i : Nat) (x : RxBuf) : (s.setRxBuf i x).dram = s.dram := rfl
@[simp] theorem State.setRxBuf_boot (i : Nat) (x : RxBuf) : (s.setRxBuf i x).boot = s.boot := rfl
@[simp] theorem State.setRxBuf_gflash (i : Nat) (x : RxBuf) : (s.setRxBuf i x).gflash = s.gflash := rfl
@[simp] theorem State.setRxBuf_out (i : Nat) (x : RxBuf) : (s.setRxBuf i x).out = s.out := rfl
@[simp] theorem State.setRxBuf_freeCtr (i : Nat) (x : RxBuf) : (s.setRxBuf i x).freeCtr = s.freeCtr := rfl
@[simp] theorem State.setRxBuf_log (i : Nat) (x : RxBuf) : (s.setRxBuf i x).log = s.log := rfl
@[simp] theorem State.setRxBuf_tim (i : Nat) (x : RxBuf) : (s.setRxBuf i x).tim = s.tim := rfl
@[simp] theorem State.setRxBuf_mode (i : Nat) (x : RxBuf) : (s.setRxBuf i x).mode = s.mode := rfl
@[simp] theorem State.setRxBuf_pwr (i : Nat) (x : RxBuf) : (s.setRxBuf i x).pwr = s.pwr := rfl
@[simp] theorem State.setRxBuf_clk (i : Nat) (x : RxBuf) : (s.setRxBuf i x).clk = s.clk := rfl
@[simp] theorem State.setRxBuf_blk (i : Nat) (x : RxBuf) : (s.setRxBuf i x).blk = s.blk := rfl
@[simp] theorem State.setRxBuf_fuse (i : Nat) (x : RxBuf) : (s.setRxBuf i x).fuse = s.fuse := rfl
@[simp] theorem State.setRxBuf_strap (i : Nat) (x : RxBuf) : (s.setRxBuf i x).strap = s.strap := rfl
@[simp] theorem State.setRxBuf_sramBad (i : Nat) (x : RxBuf) : (s.setRxBuf i x).sramBad = s.sramBad := rfl
@[simp] theorem State.setRxBuf_cfg (i : Nat) (x : RxBuf) : (s.setRxBuf i x).cfg = s.cfg := rfl
@[simp] theorem State.setRxBuf_trail (i : Nat) (x : RxBuf) : (s.setRxBuf i x).trail = s.trail := rfl
@[simp] theorem State.setRxBuf_gnt (i : Nat) (x : RxBuf) : (s.setRxBuf i x).gnt = s.gnt := rfl
@[simp] theorem State.setRxBuf_geo (i : Nat) (x : RxBuf) : (s.setRxBuf i x).geo = s.geo := rfl
@[simp] theorem State.setRxBuf_rnd (i : Nat) (x : RxBuf) : (s.setRxBuf i x).rnd = s.rnd := rfl
@[simp] theorem State.setRxBuf_fir (i : Nat) (x : RxBuf) : (s.setRxBuf i x).fir = s.fir := rfl
@[simp] theorem State.setRxBuf_mix (i : Nat) (x : RxBuf) : (s.setRxBuf i x).mix = s.mix := rfl
@[simp] theorem State.setRxBuf_cores (i : Nat) (x : RxBuf) : (s.setRxBuf i x).cores = s.cores := rfl
@[simp] theorem State.setRxBuf_sch (i : Nat) (x : RxBuf) : (s.setRxBuf i x).sch = s.sch := rfl
@[simp] theorem State.setRxBuf_drc (i : Nat) (x : RxBuf) : (s.setRxBuf i x).drc = s.drc := rfl
@[simp] theorem State.setRxBuf_sai (i : Nat) (x : RxBuf) : (s.setRxBuf i x).sai = s.sai := rfl
@[simp] theorem State.setRxBuf_sns (i : Nat) (x : RxBuf) : (s.setRxBuf i x).sns = s.sns := rfl
@[simp] theorem State.setRxBuf_meas (i : Nat) (x : RxBuf) : (s.setRxBuf i x).meas = s.meas := rfl
@[simp] theorem State.setRxBuf_bvl (i : Nat) (x : RxBuf) : (s.setRxBuf i x).bvl = s.bvl := rfl
@[simp] theorem State.setRxBuf_twin (i : Nat) (x : RxBuf) : (s.setRxBuf i x).twin = s.twin := rfl
@[simp] theorem State.setRxBuf_host (i : Nat) (x : RxBuf) : (s.setRxBuf i x).host = s.host := rfl

/-! ## setTxBuf -/

/-- What was written is read back. -/
theorem State.setTxBuf_same (i : Nat) (x : TxBuf) (h : Store.wf (fun _ => ({} : TxBuf)) s.mac.tx = true) :
    (s.setTxBuf i x).txBuf i = x := Store.get_set_same _ _ _ _ h

/-- Another one reads as before. -/
theorem State.setTxBuf_other (i j : Nat) (x : TxBuf) (h : j ≠ i) :
    (s.setTxBuf i x).txBuf j = s.txBuf j := Store.get_set_other _ _ _ _ h _

/-- The store keeps its canonical form. -/
theorem State.setTxBuf_wf (i : Nat) (x : TxBuf) (h : Store.wf (fun _ => ({} : TxBuf)) s.mac.tx = true) :
    Store.wf (fun _ => ({} : TxBuf)) (s.setTxBuf i x).mac.tx = true := Store.wf_set _ _ _ _ h

@[simp] theorem State.setTxBuf_pending (i : Nat) (x : TxBuf) : (s.setTxBuf i x).pending = s.pending := rfl
@[simp] theorem State.setTxBuf_shadowRegs (i : Nat) (x : TxBuf) : (s.setTxBuf i x).shadowRegs = s.shadowRegs := rfl
@[simp] theorem State.setTxBuf_regs (i : Nat) (x : TxBuf) : (s.setTxBuf i x).regs = s.regs := rfl
@[simp] theorem State.setTxBuf_sram (i : Nat) (x : TxBuf) : (s.setTxBuf i x).sram = s.sram := rfl
@[simp] theorem State.setTxBuf_dram (i : Nat) (x : TxBuf) : (s.setTxBuf i x).dram = s.dram := rfl
@[simp] theorem State.setTxBuf_boot (i : Nat) (x : TxBuf) : (s.setTxBuf i x).boot = s.boot := rfl
@[simp] theorem State.setTxBuf_gflash (i : Nat) (x : TxBuf) : (s.setTxBuf i x).gflash = s.gflash := rfl
@[simp] theorem State.setTxBuf_out (i : Nat) (x : TxBuf) : (s.setTxBuf i x).out = s.out := rfl
@[simp] theorem State.setTxBuf_freeCtr (i : Nat) (x : TxBuf) : (s.setTxBuf i x).freeCtr = s.freeCtr := rfl
@[simp] theorem State.setTxBuf_log (i : Nat) (x : TxBuf) : (s.setTxBuf i x).log = s.log := rfl
@[simp] theorem State.setTxBuf_tim (i : Nat) (x : TxBuf) : (s.setTxBuf i x).tim = s.tim := rfl
@[simp] theorem State.setTxBuf_mode (i : Nat) (x : TxBuf) : (s.setTxBuf i x).mode = s.mode := rfl
@[simp] theorem State.setTxBuf_pwr (i : Nat) (x : TxBuf) : (s.setTxBuf i x).pwr = s.pwr := rfl
@[simp] theorem State.setTxBuf_clk (i : Nat) (x : TxBuf) : (s.setTxBuf i x).clk = s.clk := rfl
@[simp] theorem State.setTxBuf_blk (i : Nat) (x : TxBuf) : (s.setTxBuf i x).blk = s.blk := rfl
@[simp] theorem State.setTxBuf_fuse (i : Nat) (x : TxBuf) : (s.setTxBuf i x).fuse = s.fuse := rfl
@[simp] theorem State.setTxBuf_strap (i : Nat) (x : TxBuf) : (s.setTxBuf i x).strap = s.strap := rfl
@[simp] theorem State.setTxBuf_sramBad (i : Nat) (x : TxBuf) : (s.setTxBuf i x).sramBad = s.sramBad := rfl
@[simp] theorem State.setTxBuf_cfg (i : Nat) (x : TxBuf) : (s.setTxBuf i x).cfg = s.cfg := rfl
@[simp] theorem State.setTxBuf_trail (i : Nat) (x : TxBuf) : (s.setTxBuf i x).trail = s.trail := rfl
@[simp] theorem State.setTxBuf_gnt (i : Nat) (x : TxBuf) : (s.setTxBuf i x).gnt = s.gnt := rfl
@[simp] theorem State.setTxBuf_geo (i : Nat) (x : TxBuf) : (s.setTxBuf i x).geo = s.geo := rfl
@[simp] theorem State.setTxBuf_rnd (i : Nat) (x : TxBuf) : (s.setTxBuf i x).rnd = s.rnd := rfl
@[simp] theorem State.setTxBuf_fir (i : Nat) (x : TxBuf) : (s.setTxBuf i x).fir = s.fir := rfl
@[simp] theorem State.setTxBuf_mix (i : Nat) (x : TxBuf) : (s.setTxBuf i x).mix = s.mix := rfl
@[simp] theorem State.setTxBuf_cores (i : Nat) (x : TxBuf) : (s.setTxBuf i x).cores = s.cores := rfl
@[simp] theorem State.setTxBuf_sch (i : Nat) (x : TxBuf) : (s.setTxBuf i x).sch = s.sch := rfl
@[simp] theorem State.setTxBuf_drc (i : Nat) (x : TxBuf) : (s.setTxBuf i x).drc = s.drc := rfl
@[simp] theorem State.setTxBuf_sai (i : Nat) (x : TxBuf) : (s.setTxBuf i x).sai = s.sai := rfl
@[simp] theorem State.setTxBuf_sns (i : Nat) (x : TxBuf) : (s.setTxBuf i x).sns = s.sns := rfl
@[simp] theorem State.setTxBuf_meas (i : Nat) (x : TxBuf) : (s.setTxBuf i x).meas = s.meas := rfl
@[simp] theorem State.setTxBuf_bvl (i : Nat) (x : TxBuf) : (s.setTxBuf i x).bvl = s.bvl := rfl
@[simp] theorem State.setTxBuf_twin (i : Nat) (x : TxBuf) : (s.setTxBuf i x).twin = s.twin := rfl
@[simp] theorem State.setTxBuf_host (i : Nat) (x : TxBuf) : (s.setTxBuf i x).host = s.host := rfl

/-! ## setSub -/

/-- What was written is read back. -/
theorem State.setSub_same (o : Nat) (x : SubSt) (h : Store.wf (fun _ => ({} : SubSt)) s.bvl.subs = true) :
    (s.setSub o x).sub o = x := Store.get_set_same _ _ _ _ h

/-- Another one reads as before. -/
theorem State.setSub_other (o j : Nat) (x : SubSt) (h : j ≠ o) :
    (s.setSub o x).sub j = s.sub j := Store.get_set_other _ _ _ _ h _

/-- The store keeps its canonical form. -/
theorem State.setSub_wf (o : Nat) (x : SubSt) (h : Store.wf (fun _ => ({} : SubSt)) s.bvl.subs = true) :
    Store.wf (fun _ => ({} : SubSt)) (s.setSub o x).bvl.subs = true := Store.wf_set _ _ _ _ h

@[simp] theorem State.setSub_pending (o : Nat) (x : SubSt) : (s.setSub o x).pending = s.pending := rfl
@[simp] theorem State.setSub_shadowRegs (o : Nat) (x : SubSt) : (s.setSub o x).shadowRegs = s.shadowRegs := rfl
@[simp] theorem State.setSub_regs (o : Nat) (x : SubSt) : (s.setSub o x).regs = s.regs := rfl
@[simp] theorem State.setSub_sram (o : Nat) (x : SubSt) : (s.setSub o x).sram = s.sram := rfl
@[simp] theorem State.setSub_dram (o : Nat) (x : SubSt) : (s.setSub o x).dram = s.dram := rfl
@[simp] theorem State.setSub_boot (o : Nat) (x : SubSt) : (s.setSub o x).boot = s.boot := rfl
@[simp] theorem State.setSub_gflash (o : Nat) (x : SubSt) : (s.setSub o x).gflash = s.gflash := rfl
@[simp] theorem State.setSub_out (o : Nat) (x : SubSt) : (s.setSub o x).out = s.out := rfl
@[simp] theorem State.setSub_freeCtr (o : Nat) (x : SubSt) : (s.setSub o x).freeCtr = s.freeCtr := rfl
@[simp] theorem State.setSub_log (o : Nat) (x : SubSt) : (s.setSub o x).log = s.log := rfl
@[simp] theorem State.setSub_tim (o : Nat) (x : SubSt) : (s.setSub o x).tim = s.tim := rfl
@[simp] theorem State.setSub_mode (o : Nat) (x : SubSt) : (s.setSub o x).mode = s.mode := rfl
@[simp] theorem State.setSub_pwr (o : Nat) (x : SubSt) : (s.setSub o x).pwr = s.pwr := rfl
@[simp] theorem State.setSub_clk (o : Nat) (x : SubSt) : (s.setSub o x).clk = s.clk := rfl
@[simp] theorem State.setSub_blk (o : Nat) (x : SubSt) : (s.setSub o x).blk = s.blk := rfl
@[simp] theorem State.setSub_fuse (o : Nat) (x : SubSt) : (s.setSub o x).fuse = s.fuse := rfl
@[simp] theorem State.setSub_strap (o : Nat) (x : SubSt) : (s.setSub o x).strap = s.strap := rfl
@[simp] theorem State.setSub_sramBad (o : Nat) (x : SubSt) : (s.setSub o x).sramBad = s.sramBad := rfl
@[simp] theorem State.setSub_cfg (o : Nat) (x : SubSt) : (s.setSub o x).cfg = s.cfg := rfl
@[simp] theorem State.setSub_trail (o : Nat) (x : SubSt) : (s.setSub o x).trail = s.trail := rfl
@[simp] theorem State.setSub_gnt (o : Nat) (x : SubSt) : (s.setSub o x).gnt = s.gnt := rfl
@[simp] theorem State.setSub_geo (o : Nat) (x : SubSt) : (s.setSub o x).geo = s.geo := rfl
@[simp] theorem State.setSub_rnd (o : Nat) (x : SubSt) : (s.setSub o x).rnd = s.rnd := rfl
@[simp] theorem State.setSub_fir (o : Nat) (x : SubSt) : (s.setSub o x).fir = s.fir := rfl
@[simp] theorem State.setSub_mix (o : Nat) (x : SubSt) : (s.setSub o x).mix = s.mix := rfl
@[simp] theorem State.setSub_cores (o : Nat) (x : SubSt) : (s.setSub o x).cores = s.cores := rfl
@[simp] theorem State.setSub_sch (o : Nat) (x : SubSt) : (s.setSub o x).sch = s.sch := rfl
@[simp] theorem State.setSub_drc (o : Nat) (x : SubSt) : (s.setSub o x).drc = s.drc := rfl
@[simp] theorem State.setSub_sai (o : Nat) (x : SubSt) : (s.setSub o x).sai = s.sai := rfl
@[simp] theorem State.setSub_sns (o : Nat) (x : SubSt) : (s.setSub o x).sns = s.sns := rfl
@[simp] theorem State.setSub_meas (o : Nat) (x : SubSt) : (s.setSub o x).meas = s.meas := rfl
@[simp] theorem State.setSub_mac (o : Nat) (x : SubSt) : (s.setSub o x).mac = s.mac := rfl
@[simp] theorem State.setSub_twin (o : Nat) (x : SubSt) : (s.setSub o x).twin = s.twin := rfl
@[simp] theorem State.setSub_host (o : Nat) (x : SubSt) : (s.setSub o x).host = s.host := rfl

/-! ## setFabRx -/

/-- What was written is read back. -/
theorem State.setFabRx_same (c : Nat) (x : RxBuf) (h : Store.wf (fun _ => ({} : RxBuf)) s.bvl.rx = true) :
    (s.setFabRx c x).fabRx c = x := Store.get_set_same _ _ _ _ h

/-- Another one reads as before. -/
theorem State.setFabRx_other (c j : Nat) (x : RxBuf) (h : j ≠ c) :
    (s.setFabRx c x).fabRx j = s.fabRx j := Store.get_set_other _ _ _ _ h _

/-- The store keeps its canonical form. -/
theorem State.setFabRx_wf (c : Nat) (x : RxBuf) (h : Store.wf (fun _ => ({} : RxBuf)) s.bvl.rx = true) :
    Store.wf (fun _ => ({} : RxBuf)) (s.setFabRx c x).bvl.rx = true := Store.wf_set _ _ _ _ h

@[simp] theorem State.setFabRx_pending (c : Nat) (x : RxBuf) : (s.setFabRx c x).pending = s.pending := rfl
@[simp] theorem State.setFabRx_shadowRegs (c : Nat) (x : RxBuf) : (s.setFabRx c x).shadowRegs = s.shadowRegs := rfl
@[simp] theorem State.setFabRx_regs (c : Nat) (x : RxBuf) : (s.setFabRx c x).regs = s.regs := rfl
@[simp] theorem State.setFabRx_sram (c : Nat) (x : RxBuf) : (s.setFabRx c x).sram = s.sram := rfl
@[simp] theorem State.setFabRx_dram (c : Nat) (x : RxBuf) : (s.setFabRx c x).dram = s.dram := rfl
@[simp] theorem State.setFabRx_boot (c : Nat) (x : RxBuf) : (s.setFabRx c x).boot = s.boot := rfl
@[simp] theorem State.setFabRx_gflash (c : Nat) (x : RxBuf) : (s.setFabRx c x).gflash = s.gflash := rfl
@[simp] theorem State.setFabRx_out (c : Nat) (x : RxBuf) : (s.setFabRx c x).out = s.out := rfl
@[simp] theorem State.setFabRx_freeCtr (c : Nat) (x : RxBuf) : (s.setFabRx c x).freeCtr = s.freeCtr := rfl
@[simp] theorem State.setFabRx_log (c : Nat) (x : RxBuf) : (s.setFabRx c x).log = s.log := rfl
@[simp] theorem State.setFabRx_tim (c : Nat) (x : RxBuf) : (s.setFabRx c x).tim = s.tim := rfl
@[simp] theorem State.setFabRx_mode (c : Nat) (x : RxBuf) : (s.setFabRx c x).mode = s.mode := rfl
@[simp] theorem State.setFabRx_pwr (c : Nat) (x : RxBuf) : (s.setFabRx c x).pwr = s.pwr := rfl
@[simp] theorem State.setFabRx_clk (c : Nat) (x : RxBuf) : (s.setFabRx c x).clk = s.clk := rfl
@[simp] theorem State.setFabRx_blk (c : Nat) (x : RxBuf) : (s.setFabRx c x).blk = s.blk := rfl
@[simp] theorem State.setFabRx_fuse (c : Nat) (x : RxBuf) : (s.setFabRx c x).fuse = s.fuse := rfl
@[simp] theorem State.setFabRx_strap (c : Nat) (x : RxBuf) : (s.setFabRx c x).strap = s.strap := rfl
@[simp] theorem State.setFabRx_sramBad (c : Nat) (x : RxBuf) : (s.setFabRx c x).sramBad = s.sramBad := rfl
@[simp] theorem State.setFabRx_cfg (c : Nat) (x : RxBuf) : (s.setFabRx c x).cfg = s.cfg := rfl
@[simp] theorem State.setFabRx_trail (c : Nat) (x : RxBuf) : (s.setFabRx c x).trail = s.trail := rfl
@[simp] theorem State.setFabRx_gnt (c : Nat) (x : RxBuf) : (s.setFabRx c x).gnt = s.gnt := rfl
@[simp] theorem State.setFabRx_geo (c : Nat) (x : RxBuf) : (s.setFabRx c x).geo = s.geo := rfl
@[simp] theorem State.setFabRx_rnd (c : Nat) (x : RxBuf) : (s.setFabRx c x).rnd = s.rnd := rfl
@[simp] theorem State.setFabRx_fir (c : Nat) (x : RxBuf) : (s.setFabRx c x).fir = s.fir := rfl
@[simp] theorem State.setFabRx_mix (c : Nat) (x : RxBuf) : (s.setFabRx c x).mix = s.mix := rfl
@[simp] theorem State.setFabRx_cores (c : Nat) (x : RxBuf) : (s.setFabRx c x).cores = s.cores := rfl
@[simp] theorem State.setFabRx_sch (c : Nat) (x : RxBuf) : (s.setFabRx c x).sch = s.sch := rfl
@[simp] theorem State.setFabRx_drc (c : Nat) (x : RxBuf) : (s.setFabRx c x).drc = s.drc := rfl
@[simp] theorem State.setFabRx_sai (c : Nat) (x : RxBuf) : (s.setFabRx c x).sai = s.sai := rfl
@[simp] theorem State.setFabRx_sns (c : Nat) (x : RxBuf) : (s.setFabRx c x).sns = s.sns := rfl
@[simp] theorem State.setFabRx_meas (c : Nat) (x : RxBuf) : (s.setFabRx c x).meas = s.meas := rfl
@[simp] theorem State.setFabRx_mac (c : Nat) (x : RxBuf) : (s.setFabRx c x).mac = s.mac := rfl
@[simp] theorem State.setFabRx_twin (c : Nat) (x : RxBuf) : (s.setFabRx c x).twin = s.twin := rfl
@[simp] theorem State.setFabRx_host (c : Nat) (x : RxBuf) : (s.setFabRx c x).host = s.host := rfl

/-! ## setMeter -/

/-- What was written is read back. -/
theorem State.setMeter_same (m : Nat) (x : MeterSt) (h : Store.wf (fun _ => ({} : MeterSt)) s.mix.meters = true) :
    (s.setMeter m x).meter m = x := Store.get_set_same _ _ _ _ h

/-- Another one reads as before. -/
theorem State.setMeter_other (m j : Nat) (x : MeterSt) (h : j ≠ m) :
    (s.setMeter m x).meter j = s.meter j := Store.get_set_other _ _ _ _ h _

/-- The store keeps its canonical form. -/
theorem State.setMeter_wf (m : Nat) (x : MeterSt) (h : Store.wf (fun _ => ({} : MeterSt)) s.mix.meters = true) :
    Store.wf (fun _ => ({} : MeterSt)) (s.setMeter m x).mix.meters = true := Store.wf_set _ _ _ _ h

@[simp] theorem State.setMeter_pending (m : Nat) (x : MeterSt) : (s.setMeter m x).pending = s.pending := rfl
@[simp] theorem State.setMeter_shadowRegs (m : Nat) (x : MeterSt) : (s.setMeter m x).shadowRegs = s.shadowRegs := rfl
@[simp] theorem State.setMeter_regs (m : Nat) (x : MeterSt) : (s.setMeter m x).regs = s.regs := rfl
@[simp] theorem State.setMeter_sram (m : Nat) (x : MeterSt) : (s.setMeter m x).sram = s.sram := rfl
@[simp] theorem State.setMeter_dram (m : Nat) (x : MeterSt) : (s.setMeter m x).dram = s.dram := rfl
@[simp] theorem State.setMeter_boot (m : Nat) (x : MeterSt) : (s.setMeter m x).boot = s.boot := rfl
@[simp] theorem State.setMeter_gflash (m : Nat) (x : MeterSt) : (s.setMeter m x).gflash = s.gflash := rfl
@[simp] theorem State.setMeter_out (m : Nat) (x : MeterSt) : (s.setMeter m x).out = s.out := rfl
@[simp] theorem State.setMeter_freeCtr (m : Nat) (x : MeterSt) : (s.setMeter m x).freeCtr = s.freeCtr := rfl
@[simp] theorem State.setMeter_log (m : Nat) (x : MeterSt) : (s.setMeter m x).log = s.log := rfl
@[simp] theorem State.setMeter_tim (m : Nat) (x : MeterSt) : (s.setMeter m x).tim = s.tim := rfl
@[simp] theorem State.setMeter_mode (m : Nat) (x : MeterSt) : (s.setMeter m x).mode = s.mode := rfl
@[simp] theorem State.setMeter_pwr (m : Nat) (x : MeterSt) : (s.setMeter m x).pwr = s.pwr := rfl
@[simp] theorem State.setMeter_clk (m : Nat) (x : MeterSt) : (s.setMeter m x).clk = s.clk := rfl
@[simp] theorem State.setMeter_blk (m : Nat) (x : MeterSt) : (s.setMeter m x).blk = s.blk := rfl
@[simp] theorem State.setMeter_fuse (m : Nat) (x : MeterSt) : (s.setMeter m x).fuse = s.fuse := rfl
@[simp] theorem State.setMeter_strap (m : Nat) (x : MeterSt) : (s.setMeter m x).strap = s.strap := rfl
@[simp] theorem State.setMeter_sramBad (m : Nat) (x : MeterSt) : (s.setMeter m x).sramBad = s.sramBad := rfl
@[simp] theorem State.setMeter_cfg (m : Nat) (x : MeterSt) : (s.setMeter m x).cfg = s.cfg := rfl
@[simp] theorem State.setMeter_trail (m : Nat) (x : MeterSt) : (s.setMeter m x).trail = s.trail := rfl
@[simp] theorem State.setMeter_gnt (m : Nat) (x : MeterSt) : (s.setMeter m x).gnt = s.gnt := rfl
@[simp] theorem State.setMeter_geo (m : Nat) (x : MeterSt) : (s.setMeter m x).geo = s.geo := rfl
@[simp] theorem State.setMeter_rnd (m : Nat) (x : MeterSt) : (s.setMeter m x).rnd = s.rnd := rfl
@[simp] theorem State.setMeter_fir (m : Nat) (x : MeterSt) : (s.setMeter m x).fir = s.fir := rfl
@[simp] theorem State.setMeter_cores (m : Nat) (x : MeterSt) : (s.setMeter m x).cores = s.cores := rfl
@[simp] theorem State.setMeter_sch (m : Nat) (x : MeterSt) : (s.setMeter m x).sch = s.sch := rfl
@[simp] theorem State.setMeter_drc (m : Nat) (x : MeterSt) : (s.setMeter m x).drc = s.drc := rfl
@[simp] theorem State.setMeter_sai (m : Nat) (x : MeterSt) : (s.setMeter m x).sai = s.sai := rfl
@[simp] theorem State.setMeter_sns (m : Nat) (x : MeterSt) : (s.setMeter m x).sns = s.sns := rfl
@[simp] theorem State.setMeter_meas (m : Nat) (x : MeterSt) : (s.setMeter m x).meas = s.meas := rfl
@[simp] theorem State.setMeter_mac (m : Nat) (x : MeterSt) : (s.setMeter m x).mac = s.mac := rfl
@[simp] theorem State.setMeter_bvl (m : Nat) (x : MeterSt) : (s.setMeter m x).bvl = s.bvl := rfl
@[simp] theorem State.setMeter_twin (m : Nat) (x : MeterSt) : (s.setMeter m x).twin = s.twin := rfl
@[simp] theorem State.setMeter_host (m : Nat) (x : MeterSt) : (s.setMeter m x).host = s.host := rfl

/-! ## setBridge -/

/-- What was written is read back. -/
theorem State.setBridge_same (c : Nat) (x : BridgeSt) (h : Store.wf (fun _ => ({} : BridgeSt)) s.mix.bridges = true) :
    (s.setBridge c x).bridge c = x := Store.get_set_same _ _ _ _ h

/-- Another one reads as before. -/
theorem State.setBridge_other (c j : Nat) (x : BridgeSt) (h : j ≠ c) :
    (s.setBridge c x).bridge j = s.bridge j := Store.get_set_other _ _ _ _ h _

/-- The store keeps its canonical form. -/
theorem State.setBridge_wf (c : Nat) (x : BridgeSt) (h : Store.wf (fun _ => ({} : BridgeSt)) s.mix.bridges = true) :
    Store.wf (fun _ => ({} : BridgeSt)) (s.setBridge c x).mix.bridges = true := Store.wf_set _ _ _ _ h

@[simp] theorem State.setBridge_pending (c : Nat) (x : BridgeSt) : (s.setBridge c x).pending = s.pending := rfl
@[simp] theorem State.setBridge_shadowRegs (c : Nat) (x : BridgeSt) : (s.setBridge c x).shadowRegs = s.shadowRegs := rfl
@[simp] theorem State.setBridge_regs (c : Nat) (x : BridgeSt) : (s.setBridge c x).regs = s.regs := rfl
@[simp] theorem State.setBridge_sram (c : Nat) (x : BridgeSt) : (s.setBridge c x).sram = s.sram := rfl
@[simp] theorem State.setBridge_dram (c : Nat) (x : BridgeSt) : (s.setBridge c x).dram = s.dram := rfl
@[simp] theorem State.setBridge_boot (c : Nat) (x : BridgeSt) : (s.setBridge c x).boot = s.boot := rfl
@[simp] theorem State.setBridge_gflash (c : Nat) (x : BridgeSt) : (s.setBridge c x).gflash = s.gflash := rfl
@[simp] theorem State.setBridge_out (c : Nat) (x : BridgeSt) : (s.setBridge c x).out = s.out := rfl
@[simp] theorem State.setBridge_freeCtr (c : Nat) (x : BridgeSt) : (s.setBridge c x).freeCtr = s.freeCtr := rfl
@[simp] theorem State.setBridge_log (c : Nat) (x : BridgeSt) : (s.setBridge c x).log = s.log := rfl
@[simp] theorem State.setBridge_tim (c : Nat) (x : BridgeSt) : (s.setBridge c x).tim = s.tim := rfl
@[simp] theorem State.setBridge_mode (c : Nat) (x : BridgeSt) : (s.setBridge c x).mode = s.mode := rfl
@[simp] theorem State.setBridge_pwr (c : Nat) (x : BridgeSt) : (s.setBridge c x).pwr = s.pwr := rfl
@[simp] theorem State.setBridge_clk (c : Nat) (x : BridgeSt) : (s.setBridge c x).clk = s.clk := rfl
@[simp] theorem State.setBridge_blk (c : Nat) (x : BridgeSt) : (s.setBridge c x).blk = s.blk := rfl
@[simp] theorem State.setBridge_fuse (c : Nat) (x : BridgeSt) : (s.setBridge c x).fuse = s.fuse := rfl
@[simp] theorem State.setBridge_strap (c : Nat) (x : BridgeSt) : (s.setBridge c x).strap = s.strap := rfl
@[simp] theorem State.setBridge_sramBad (c : Nat) (x : BridgeSt) : (s.setBridge c x).sramBad = s.sramBad := rfl
@[simp] theorem State.setBridge_cfg (c : Nat) (x : BridgeSt) : (s.setBridge c x).cfg = s.cfg := rfl
@[simp] theorem State.setBridge_trail (c : Nat) (x : BridgeSt) : (s.setBridge c x).trail = s.trail := rfl
@[simp] theorem State.setBridge_gnt (c : Nat) (x : BridgeSt) : (s.setBridge c x).gnt = s.gnt := rfl
@[simp] theorem State.setBridge_geo (c : Nat) (x : BridgeSt) : (s.setBridge c x).geo = s.geo := rfl
@[simp] theorem State.setBridge_rnd (c : Nat) (x : BridgeSt) : (s.setBridge c x).rnd = s.rnd := rfl
@[simp] theorem State.setBridge_fir (c : Nat) (x : BridgeSt) : (s.setBridge c x).fir = s.fir := rfl
@[simp] theorem State.setBridge_cores (c : Nat) (x : BridgeSt) : (s.setBridge c x).cores = s.cores := rfl
@[simp] theorem State.setBridge_sch (c : Nat) (x : BridgeSt) : (s.setBridge c x).sch = s.sch := rfl
@[simp] theorem State.setBridge_drc (c : Nat) (x : BridgeSt) : (s.setBridge c x).drc = s.drc := rfl
@[simp] theorem State.setBridge_sai (c : Nat) (x : BridgeSt) : (s.setBridge c x).sai = s.sai := rfl
@[simp] theorem State.setBridge_sns (c : Nat) (x : BridgeSt) : (s.setBridge c x).sns = s.sns := rfl
@[simp] theorem State.setBridge_meas (c : Nat) (x : BridgeSt) : (s.setBridge c x).meas = s.meas := rfl
@[simp] theorem State.setBridge_mac (c : Nat) (x : BridgeSt) : (s.setBridge c x).mac = s.mac := rfl
@[simp] theorem State.setBridge_bvl (c : Nat) (x : BridgeSt) : (s.setBridge c x).bvl = s.bvl := rfl
@[simp] theorem State.setBridge_twin (c : Nat) (x : BridgeSt) : (s.setBridge c x).twin = s.twin := rfl
@[simp] theorem State.setBridge_host (c : Nat) (x : BridgeSt) : (s.setBridge c x).host = s.host := rfl

/-! ## setOvr -/

/-- What was written is read back. -/
theorem State.setOvr_same (f : Nat) (x : OvrSt) (h : Store.wf (fun _ => ({} : OvrSt)) s.trail.ovr = true) :
    (s.setOvr f x).ovrSt f = x := Store.get_set_same _ _ _ _ h

/-- Another one reads as before. -/
theorem State.setOvr_other (f j : Nat) (x : OvrSt) (h : j ≠ f) :
    (s.setOvr f x).ovrSt j = s.ovrSt j := Store.get_set_other _ _ _ _ h _

/-- The store keeps its canonical form. -/
theorem State.setOvr_wf (f : Nat) (x : OvrSt) (h : Store.wf (fun _ => ({} : OvrSt)) s.trail.ovr = true) :
    Store.wf (fun _ => ({} : OvrSt)) (s.setOvr f x).trail.ovr = true := Store.wf_set _ _ _ _ h

@[simp] theorem State.setOvr_pending (f : Nat) (x : OvrSt) : (s.setOvr f x).pending = s.pending := rfl
@[simp] theorem State.setOvr_shadowRegs (f : Nat) (x : OvrSt) : (s.setOvr f x).shadowRegs = s.shadowRegs := rfl
@[simp] theorem State.setOvr_regs (f : Nat) (x : OvrSt) : (s.setOvr f x).regs = s.regs := rfl
@[simp] theorem State.setOvr_sram (f : Nat) (x : OvrSt) : (s.setOvr f x).sram = s.sram := rfl
@[simp] theorem State.setOvr_dram (f : Nat) (x : OvrSt) : (s.setOvr f x).dram = s.dram := rfl
@[simp] theorem State.setOvr_boot (f : Nat) (x : OvrSt) : (s.setOvr f x).boot = s.boot := rfl
@[simp] theorem State.setOvr_gflash (f : Nat) (x : OvrSt) : (s.setOvr f x).gflash = s.gflash := rfl
@[simp] theorem State.setOvr_out (f : Nat) (x : OvrSt) : (s.setOvr f x).out = s.out := rfl
@[simp] theorem State.setOvr_freeCtr (f : Nat) (x : OvrSt) : (s.setOvr f x).freeCtr = s.freeCtr := rfl
@[simp] theorem State.setOvr_log (f : Nat) (x : OvrSt) : (s.setOvr f x).log = s.log := rfl
@[simp] theorem State.setOvr_tim (f : Nat) (x : OvrSt) : (s.setOvr f x).tim = s.tim := rfl
@[simp] theorem State.setOvr_mode (f : Nat) (x : OvrSt) : (s.setOvr f x).mode = s.mode := rfl
@[simp] theorem State.setOvr_pwr (f : Nat) (x : OvrSt) : (s.setOvr f x).pwr = s.pwr := rfl
@[simp] theorem State.setOvr_clk (f : Nat) (x : OvrSt) : (s.setOvr f x).clk = s.clk := rfl
@[simp] theorem State.setOvr_blk (f : Nat) (x : OvrSt) : (s.setOvr f x).blk = s.blk := rfl
@[simp] theorem State.setOvr_fuse (f : Nat) (x : OvrSt) : (s.setOvr f x).fuse = s.fuse := rfl
@[simp] theorem State.setOvr_strap (f : Nat) (x : OvrSt) : (s.setOvr f x).strap = s.strap := rfl
@[simp] theorem State.setOvr_sramBad (f : Nat) (x : OvrSt) : (s.setOvr f x).sramBad = s.sramBad := rfl
@[simp] theorem State.setOvr_cfg (f : Nat) (x : OvrSt) : (s.setOvr f x).cfg = s.cfg := rfl
@[simp] theorem State.setOvr_gnt (f : Nat) (x : OvrSt) : (s.setOvr f x).gnt = s.gnt := rfl
@[simp] theorem State.setOvr_geo (f : Nat) (x : OvrSt) : (s.setOvr f x).geo = s.geo := rfl
@[simp] theorem State.setOvr_rnd (f : Nat) (x : OvrSt) : (s.setOvr f x).rnd = s.rnd := rfl
@[simp] theorem State.setOvr_fir (f : Nat) (x : OvrSt) : (s.setOvr f x).fir = s.fir := rfl
@[simp] theorem State.setOvr_mix (f : Nat) (x : OvrSt) : (s.setOvr f x).mix = s.mix := rfl
@[simp] theorem State.setOvr_cores (f : Nat) (x : OvrSt) : (s.setOvr f x).cores = s.cores := rfl
@[simp] theorem State.setOvr_sch (f : Nat) (x : OvrSt) : (s.setOvr f x).sch = s.sch := rfl
@[simp] theorem State.setOvr_drc (f : Nat) (x : OvrSt) : (s.setOvr f x).drc = s.drc := rfl
@[simp] theorem State.setOvr_sai (f : Nat) (x : OvrSt) : (s.setOvr f x).sai = s.sai := rfl
@[simp] theorem State.setOvr_sns (f : Nat) (x : OvrSt) : (s.setOvr f x).sns = s.sns := rfl
@[simp] theorem State.setOvr_meas (f : Nat) (x : OvrSt) : (s.setOvr f x).meas = s.meas := rfl
@[simp] theorem State.setOvr_mac (f : Nat) (x : OvrSt) : (s.setOvr f x).mac = s.mac := rfl
@[simp] theorem State.setOvr_bvl (f : Nat) (x : OvrSt) : (s.setOvr f x).bvl = s.bvl := rfl
@[simp] theorem State.setOvr_twin (f : Nat) (x : OvrSt) : (s.setOvr f x).twin = s.twin := rfl
@[simp] theorem State.setOvr_host (f : Nat) (x : OvrSt) : (s.setOvr f x).host = s.host := rfl

/-! ## setCellX -/

/-- What was written is read back. -/
theorem State.setCellX_same (k : Nat) (x : CellX) (h : Store.wf (fun _ => ({} : CellX)) s.rnd.cells = true) :
    (s.setCellX k x).cellX k = x := Store.get_set_same _ _ _ _ h

/-- Another one reads as before. -/
theorem State.setCellX_other (k j : Nat) (x : CellX) (h : j ≠ k) :
    (s.setCellX k x).cellX j = s.cellX j := Store.get_set_other _ _ _ _ h _

/-- The store keeps its canonical form. -/
theorem State.setCellX_wf (k : Nat) (x : CellX) (h : Store.wf (fun _ => ({} : CellX)) s.rnd.cells = true) :
    Store.wf (fun _ => ({} : CellX)) (s.setCellX k x).rnd.cells = true := Store.wf_set _ _ _ _ h

@[simp] theorem State.setCellX_pending (k : Nat) (x : CellX) : (s.setCellX k x).pending = s.pending := rfl
@[simp] theorem State.setCellX_shadowRegs (k : Nat) (x : CellX) : (s.setCellX k x).shadowRegs = s.shadowRegs := rfl
@[simp] theorem State.setCellX_regs (k : Nat) (x : CellX) : (s.setCellX k x).regs = s.regs := rfl
@[simp] theorem State.setCellX_sram (k : Nat) (x : CellX) : (s.setCellX k x).sram = s.sram := rfl
@[simp] theorem State.setCellX_dram (k : Nat) (x : CellX) : (s.setCellX k x).dram = s.dram := rfl
@[simp] theorem State.setCellX_boot (k : Nat) (x : CellX) : (s.setCellX k x).boot = s.boot := rfl
@[simp] theorem State.setCellX_gflash (k : Nat) (x : CellX) : (s.setCellX k x).gflash = s.gflash := rfl
@[simp] theorem State.setCellX_out (k : Nat) (x : CellX) : (s.setCellX k x).out = s.out := rfl
@[simp] theorem State.setCellX_freeCtr (k : Nat) (x : CellX) : (s.setCellX k x).freeCtr = s.freeCtr := rfl
@[simp] theorem State.setCellX_log (k : Nat) (x : CellX) : (s.setCellX k x).log = s.log := rfl
@[simp] theorem State.setCellX_tim (k : Nat) (x : CellX) : (s.setCellX k x).tim = s.tim := rfl
@[simp] theorem State.setCellX_mode (k : Nat) (x : CellX) : (s.setCellX k x).mode = s.mode := rfl
@[simp] theorem State.setCellX_pwr (k : Nat) (x : CellX) : (s.setCellX k x).pwr = s.pwr := rfl
@[simp] theorem State.setCellX_clk (k : Nat) (x : CellX) : (s.setCellX k x).clk = s.clk := rfl
@[simp] theorem State.setCellX_blk (k : Nat) (x : CellX) : (s.setCellX k x).blk = s.blk := rfl
@[simp] theorem State.setCellX_fuse (k : Nat) (x : CellX) : (s.setCellX k x).fuse = s.fuse := rfl
@[simp] theorem State.setCellX_strap (k : Nat) (x : CellX) : (s.setCellX k x).strap = s.strap := rfl
@[simp] theorem State.setCellX_sramBad (k : Nat) (x : CellX) : (s.setCellX k x).sramBad = s.sramBad := rfl
@[simp] theorem State.setCellX_cfg (k : Nat) (x : CellX) : (s.setCellX k x).cfg = s.cfg := rfl
@[simp] theorem State.setCellX_trail (k : Nat) (x : CellX) : (s.setCellX k x).trail = s.trail := rfl
@[simp] theorem State.setCellX_gnt (k : Nat) (x : CellX) : (s.setCellX k x).gnt = s.gnt := rfl
@[simp] theorem State.setCellX_geo (k : Nat) (x : CellX) : (s.setCellX k x).geo = s.geo := rfl
@[simp] theorem State.setCellX_fir (k : Nat) (x : CellX) : (s.setCellX k x).fir = s.fir := rfl
@[simp] theorem State.setCellX_mix (k : Nat) (x : CellX) : (s.setCellX k x).mix = s.mix := rfl
@[simp] theorem State.setCellX_cores (k : Nat) (x : CellX) : (s.setCellX k x).cores = s.cores := rfl
@[simp] theorem State.setCellX_sch (k : Nat) (x : CellX) : (s.setCellX k x).sch = s.sch := rfl
@[simp] theorem State.setCellX_drc (k : Nat) (x : CellX) : (s.setCellX k x).drc = s.drc := rfl
@[simp] theorem State.setCellX_sai (k : Nat) (x : CellX) : (s.setCellX k x).sai = s.sai := rfl
@[simp] theorem State.setCellX_sns (k : Nat) (x : CellX) : (s.setCellX k x).sns = s.sns := rfl
@[simp] theorem State.setCellX_meas (k : Nat) (x : CellX) : (s.setCellX k x).meas = s.meas := rfl
@[simp] theorem State.setCellX_mac (k : Nat) (x : CellX) : (s.setCellX k x).mac = s.mac := rfl
@[simp] theorem State.setCellX_bvl (k : Nat) (x : CellX) : (s.setCellX k x).bvl = s.bvl := rfl
@[simp] theorem State.setCellX_twin (k : Nat) (x : CellX) : (s.setCellX k x).twin = s.twin := rfl
@[simp] theorem State.setCellX_host (k : Nat) (x : CellX) : (s.setCellX k x).host = s.host := rfl

/-! ## setMacP -/

/-- What was written is read back. -/
theorem State.setMacP_same (p : Nat) (x : MacPort) (h : p < s.mac.ports.length) : (s.setMacP p x).macP p = x := by
  simp [State.macP, State.setMacP, nth, putNth, h]

/-- Another one reads as before. -/
theorem State.setMacP_other (p q : Nat) (x : MacPort) (h : q ≠ p) : (s.setMacP p x).macP q = s.macP q := by
  simp [State.macP, State.setMacP, nth, putNth, Ne.symm h]

/-- The number of ports stays. -/
@[simp] theorem State.setMacP_length (p : Nat) (x : MacPort) : (s.setMacP p x).mac.ports.length = s.mac.ports.length := by
  simp [State.setMacP, putNth]

@[simp] theorem State.setMacP_pending (p : Nat) (x : MacPort) : (s.setMacP p x).pending = s.pending := rfl
@[simp] theorem State.setMacP_shadowRegs (p : Nat) (x : MacPort) : (s.setMacP p x).shadowRegs = s.shadowRegs := rfl
@[simp] theorem State.setMacP_regs (p : Nat) (x : MacPort) : (s.setMacP p x).regs = s.regs := rfl
@[simp] theorem State.setMacP_sram (p : Nat) (x : MacPort) : (s.setMacP p x).sram = s.sram := rfl
@[simp] theorem State.setMacP_dram (p : Nat) (x : MacPort) : (s.setMacP p x).dram = s.dram := rfl
@[simp] theorem State.setMacP_boot (p : Nat) (x : MacPort) : (s.setMacP p x).boot = s.boot := rfl
@[simp] theorem State.setMacP_gflash (p : Nat) (x : MacPort) : (s.setMacP p x).gflash = s.gflash := rfl
@[simp] theorem State.setMacP_out (p : Nat) (x : MacPort) : (s.setMacP p x).out = s.out := rfl
@[simp] theorem State.setMacP_freeCtr (p : Nat) (x : MacPort) : (s.setMacP p x).freeCtr = s.freeCtr := rfl
@[simp] theorem State.setMacP_log (p : Nat) (x : MacPort) : (s.setMacP p x).log = s.log := rfl
@[simp] theorem State.setMacP_tim (p : Nat) (x : MacPort) : (s.setMacP p x).tim = s.tim := rfl
@[simp] theorem State.setMacP_mode (p : Nat) (x : MacPort) : (s.setMacP p x).mode = s.mode := rfl
@[simp] theorem State.setMacP_pwr (p : Nat) (x : MacPort) : (s.setMacP p x).pwr = s.pwr := rfl
@[simp] theorem State.setMacP_clk (p : Nat) (x : MacPort) : (s.setMacP p x).clk = s.clk := rfl
@[simp] theorem State.setMacP_blk (p : Nat) (x : MacPort) : (s.setMacP p x).blk = s.blk := rfl
@[simp] theorem State.setMacP_fuse (p : Nat) (x : MacPort) : (s.setMacP p x).fuse = s.fuse := rfl
@[simp] theorem State.setMacP_strap (p : Nat) (x : MacPort) : (s.setMacP p x).strap = s.strap := rfl
@[simp] theorem State.setMacP_sramBad (p : Nat) (x : MacPort) : (s.setMacP p x).sramBad = s.sramBad := rfl
@[simp] theorem State.setMacP_cfg (p : Nat) (x : MacPort) : (s.setMacP p x).cfg = s.cfg := rfl
@[simp] theorem State.setMacP_trail (p : Nat) (x : MacPort) : (s.setMacP p x).trail = s.trail := rfl
@[simp] theorem State.setMacP_gnt (p : Nat) (x : MacPort) : (s.setMacP p x).gnt = s.gnt := rfl
@[simp] theorem State.setMacP_geo (p : Nat) (x : MacPort) : (s.setMacP p x).geo = s.geo := rfl
@[simp] theorem State.setMacP_rnd (p : Nat) (x : MacPort) : (s.setMacP p x).rnd = s.rnd := rfl
@[simp] theorem State.setMacP_fir (p : Nat) (x : MacPort) : (s.setMacP p x).fir = s.fir := rfl
@[simp] theorem State.setMacP_mix (p : Nat) (x : MacPort) : (s.setMacP p x).mix = s.mix := rfl
@[simp] theorem State.setMacP_cores (p : Nat) (x : MacPort) : (s.setMacP p x).cores = s.cores := rfl
@[simp] theorem State.setMacP_sch (p : Nat) (x : MacPort) : (s.setMacP p x).sch = s.sch := rfl
@[simp] theorem State.setMacP_drc (p : Nat) (x : MacPort) : (s.setMacP p x).drc = s.drc := rfl
@[simp] theorem State.setMacP_sai (p : Nat) (x : MacPort) : (s.setMacP p x).sai = s.sai := rfl
@[simp] theorem State.setMacP_sns (p : Nat) (x : MacPort) : (s.setMacP p x).sns = s.sns := rfl
@[simp] theorem State.setMacP_meas (p : Nat) (x : MacPort) : (s.setMacP p x).meas = s.meas := rfl
@[simp] theorem State.setMacP_bvl (p : Nat) (x : MacPort) : (s.setMacP p x).bvl = s.bvl := rfl
@[simp] theorem State.setMacP_twin (p : Nat) (x : MacPort) : (s.setMacP p x).twin = s.twin := rfl
@[simp] theorem State.setMacP_host (p : Nat) (x : MacPort) : (s.setMacP p x).host = s.host := rfl

/-! ## setBvlP -/

/-- What was written is read back. -/
theorem State.setBvlP_same (p : Nat) (x : BvlPort) (h : p < s.bvl.ports.length) : (s.setBvlP p x).bvlP p = x := by
  simp [State.bvlP, State.setBvlP, nth, putNth, h]

/-- Another one reads as before. -/
theorem State.setBvlP_other (p q : Nat) (x : BvlPort) (h : q ≠ p) : (s.setBvlP p x).bvlP q = s.bvlP q := by
  simp [State.bvlP, State.setBvlP, nth, putNth, Ne.symm h]

/-- The number of ports stays. -/
@[simp] theorem State.setBvlP_length (p : Nat) (x : BvlPort) : (s.setBvlP p x).bvl.ports.length = s.bvl.ports.length := by
  simp [State.setBvlP, putNth]

@[simp] theorem State.setBvlP_pending (p : Nat) (x : BvlPort) : (s.setBvlP p x).pending = s.pending := rfl
@[simp] theorem State.setBvlP_shadowRegs (p : Nat) (x : BvlPort) : (s.setBvlP p x).shadowRegs = s.shadowRegs := rfl
@[simp] theorem State.setBvlP_regs (p : Nat) (x : BvlPort) : (s.setBvlP p x).regs = s.regs := rfl
@[simp] theorem State.setBvlP_sram (p : Nat) (x : BvlPort) : (s.setBvlP p x).sram = s.sram := rfl
@[simp] theorem State.setBvlP_dram (p : Nat) (x : BvlPort) : (s.setBvlP p x).dram = s.dram := rfl
@[simp] theorem State.setBvlP_boot (p : Nat) (x : BvlPort) : (s.setBvlP p x).boot = s.boot := rfl
@[simp] theorem State.setBvlP_gflash (p : Nat) (x : BvlPort) : (s.setBvlP p x).gflash = s.gflash := rfl
@[simp] theorem State.setBvlP_out (p : Nat) (x : BvlPort) : (s.setBvlP p x).out = s.out := rfl
@[simp] theorem State.setBvlP_freeCtr (p : Nat) (x : BvlPort) : (s.setBvlP p x).freeCtr = s.freeCtr := rfl
@[simp] theorem State.setBvlP_log (p : Nat) (x : BvlPort) : (s.setBvlP p x).log = s.log := rfl
@[simp] theorem State.setBvlP_tim (p : Nat) (x : BvlPort) : (s.setBvlP p x).tim = s.tim := rfl
@[simp] theorem State.setBvlP_mode (p : Nat) (x : BvlPort) : (s.setBvlP p x).mode = s.mode := rfl
@[simp] theorem State.setBvlP_pwr (p : Nat) (x : BvlPort) : (s.setBvlP p x).pwr = s.pwr := rfl
@[simp] theorem State.setBvlP_clk (p : Nat) (x : BvlPort) : (s.setBvlP p x).clk = s.clk := rfl
@[simp] theorem State.setBvlP_blk (p : Nat) (x : BvlPort) : (s.setBvlP p x).blk = s.blk := rfl
@[simp] theorem State.setBvlP_fuse (p : Nat) (x : BvlPort) : (s.setBvlP p x).fuse = s.fuse := rfl
@[simp] theorem State.setBvlP_strap (p : Nat) (x : BvlPort) : (s.setBvlP p x).strap = s.strap := rfl
@[simp] theorem State.setBvlP_sramBad (p : Nat) (x : BvlPort) : (s.setBvlP p x).sramBad = s.sramBad := rfl
@[simp] theorem State.setBvlP_cfg (p : Nat) (x : BvlPort) : (s.setBvlP p x).cfg = s.cfg := rfl
@[simp] theorem State.setBvlP_trail (p : Nat) (x : BvlPort) : (s.setBvlP p x).trail = s.trail := rfl
@[simp] theorem State.setBvlP_gnt (p : Nat) (x : BvlPort) : (s.setBvlP p x).gnt = s.gnt := rfl
@[simp] theorem State.setBvlP_geo (p : Nat) (x : BvlPort) : (s.setBvlP p x).geo = s.geo := rfl
@[simp] theorem State.setBvlP_rnd (p : Nat) (x : BvlPort) : (s.setBvlP p x).rnd = s.rnd := rfl
@[simp] theorem State.setBvlP_fir (p : Nat) (x : BvlPort) : (s.setBvlP p x).fir = s.fir := rfl
@[simp] theorem State.setBvlP_mix (p : Nat) (x : BvlPort) : (s.setBvlP p x).mix = s.mix := rfl
@[simp] theorem State.setBvlP_cores (p : Nat) (x : BvlPort) : (s.setBvlP p x).cores = s.cores := rfl
@[simp] theorem State.setBvlP_sch (p : Nat) (x : BvlPort) : (s.setBvlP p x).sch = s.sch := rfl
@[simp] theorem State.setBvlP_drc (p : Nat) (x : BvlPort) : (s.setBvlP p x).drc = s.drc := rfl
@[simp] theorem State.setBvlP_sai (p : Nat) (x : BvlPort) : (s.setBvlP p x).sai = s.sai := rfl
@[simp] theorem State.setBvlP_sns (p : Nat) (x : BvlPort) : (s.setBvlP p x).sns = s.sns := rfl
@[simp] theorem State.setBvlP_meas (p : Nat) (x : BvlPort) : (s.setBvlP p x).meas = s.meas := rfl
@[simp] theorem State.setBvlP_mac (p : Nat) (x : BvlPort) : (s.setBvlP p x).mac = s.mac := rfl
@[simp] theorem State.setBvlP_twin (p : Nat) (x : BvlPort) : (s.setBvlP p x).twin = s.twin := rfl
@[simp] theorem State.setBvlP_host (p : Nat) (x : BvlPort) : (s.setBvlP p x).host = s.host := rfl

end Sys2Proof.Machine
end

