-- ==== Sys2Proof/Tests/Slice0.lean ====
section
/-!
SUPPORT. Tests: for each statement with hypotheses, states and operands that meet them; ill-formed commands; words and
values that the spec prints.
-/
namespace Sys2Proof.Tests

open Sys2Proof Sys2Proof.Machine

set_option Elab.async false

/-- Registers of a state take values. -/
def mk (s : State) (l : List (Nat × Word)) : State := l.foldl (fun s p => s.setReg p.1 p.2) s

/-- A device in operation: the application side runs, every block clock is on, the Gauntlet runs. -/
def up : State :=
  mk { State.reset with pwr := { State.reset.pwr with appHold := false, autoDue := false }
                        gnt := { State.reset.gnt with phase := 0, fw := true, powerOn := false } }
    [(Reg.CLK_EN, 0x3FFF), (Reg.CLK_STATUS, 0x33F)]

/-- The device in a mode, no transition under way. -/
def inMode (m : Nat) (l : List (Nat × Word)) : State := mk up ((Reg.PWR_MODE_STATUS, w32 (17 * m)) :: l)

/-- The state meets the invariant and `P`. -/
abbrev At (s : State) (P : State → Prop) : Prop := s.Inv ∧ P s

/-- A request to service firmware on every mailbox channel. -/
def mb (s : State) (svc op : Nat) (args : List Word) : State :=
  mk s ([(Reg.HST_MBX_STAT, 0xF), (Reg.HST_STATUS, 0x101)] ++ (List.range 4).flatMap fun c =>
    (Reg.HST_MBX_REQ c 0, w32 (svc + 256 * op)) :: (Reg.HST_MBX_REQ c 1, w32 args.length) ::
      args.zipIdx.map fun p => (Reg.HST_MBX_REQ c (2 + p.2), p.1))

/-- The DRAM is trained and in full service. -/
def ram (s : State) : State :=
  { mk s [(Reg.DRC_STATUS, 0x43), (Reg.DRC_USABLE, 1792)] with drc := { trained := true, lost := 0 }, dram := [(131, 5)] }

theorem test_hyp_StepRunsFront : ({ State.reset with pending := [.pfwFall] } : State).pending = [.pfwFall] ∧ State.reset.pending = [] := by
  decide

theorem test_hyp_EveryStepKeepsInv : State.reset.Inv ∧ ∃ t, step State.reset = .next t := ⟨by decide, _, rfl⟩

theorem test_hyp_SlotEncoding :
    (Instr.mpy 31 true false 14 3 15).wf = true ∧ IsMacSlot 31 (.mpy 31 true false 14 3 15) ∧
      (Instr.extract 0 true 8 2 3 15).wf = true ∧ IsMacSlot 0 (.extract 0 true 8 2 3 15) ∧
      IsAluSlot 0 (.aluNop 0) ∧ IsAmSlot 0 true (.lim 0 true 15 63) ∧
      9 ≤ ((0x90000 : BitVec 20).extractLsb' 16 4).toNat ∧
      ((0x70001 : BitVec 20).extractLsb' 16 4).toNat = 7 ∧ (0x70001 : BitVec 20).extractLsb' 0 4 ≠ 0 ∧
      ((0x38400 : BitVec 20).extractLsb' 16 4).toNat = 3 ∧ (0x38400 : BitVec 20).getLsbD 15 = true ∧ (0x38400 : BitVec 20).getLsbD 10 = true ∧
      (0x80180 : BitVec 20).extractLsb' 16 4 = 8 ∧ (0x80180 : BitVec 20).extractLsb' 7 2 = 3 ∧
      (0x81200 : BitVec 20).extractLsb' 16 4 = 8 ∧ 8 < ((0x81200 : BitVec 20).extractLsb' 9 5).toInt ∧
      0x18 ≤ ((0x30000 : BitVec 18).extractLsb' 13 5).toNat ∧
      0x10 ≤ ((0x20800 : BitVec 18).extractLsb' 13 5).toNat ∧ (0x20800 : BitVec 18).extractLsb' 11 2 ≠ 0 ∧
      (0x1C00 : BitVec 13).extractLsb' 10 3 = 7 ∧ ((0x1001 : BitVec 13).extractLsb' 10 3).toNat = 4 ∧ (0x1001 : BitVec 13).extractLsb' 0 2 ≠ 0 := by
  refine ⟨by decide, .inr (.inl ⟨_, _, _, _, _, .inr (.inr (.inl rfl))⟩), by decide, .inr (.inr ⟨_, _, _, _, _, rfl⟩), .inl rfl,
    .inr (.inr (.inr ⟨_, _, rfl⟩)), ?_⟩
  decide

theorem test_hyp_Mailbox :
    At (mk up [(Reg.HST_MBX_STAT, 0x305)]) (fun s => s.admits .qspi = true ∧ (s.mbxBusy 0 || s.bitR Reg.HST_MBX_STAT 8) = true ∧
      bitOf (1 : Word) 0 = true ∧ s.appOn = true) ∧
    At (mb up 6 1 []) (fun s => Requested s 3 6 1 ∧ (List.replicate 14 (0 : Word)).length ≤ 14) ∧ At (mb up 6 2 []) (fun s => Requested s 0 6 2) ∧
    At (mb up 5 1 []) (fun s => Requested s 0 5 1) ∧ At (mb up 4 2 []) (fun s => Requested s 0 4 2) ∧
    At (mb (mk up [(Reg.TIM_SERVO_STAT, 0x80000011)]) 1 3 []) (fun s => Requested s 0 1 3 ∧ s.bitR Reg.TIM_SERVO_STAT 31 = true) := by
  decide +kernel

theorem test_hyp_StreamAndFabricServices :
    At (mb (ram up) 2 1 [127, 29360127, 64]) (fun s => Requested s 0 2 1 ∧ s.argsOk 0 3 = true ∧ s.mbxArg 0 0 < 128 ∧
      s.mbxArg 0 1 * 64 + s.mbxArg 0 2 = s.usable) ∧
    At (mb (ram up) 2 2 [127]) (fun s => Requested s 3 2 2 ∧ s.argsOk 3 1 = true ∧ s.mbxArg 3 0 < 128) ∧
    At (mb (ram up) 2 3 [5, 10]) (fun s => Requested s 0 2 3 ∧ s.argsOk 0 2 = true ∧ s.mbxArg 0 0 * 64 + s.mbxArg 0 1 ≤ s.usable) ∧
    At (mb (ram up) 3 1 [5]) (fun s => Requested s 0 3 1 ∧ s.argsOk 0 1 = true ∧ s.mbxArg 0 0 * 64 + 280 ≤ s.usable) ∧
    At { up with host := { sap := [(127, [1])] } } (fun s => s.appOn = true ∧
      s.host.sap.find? (fun e => decide (e.1 = 127)) = some (127, [1])) := by
  decide +kernel

/-- A linked host with an interrupt that waits on vector 0. -/
def irq : State :=
  { mk up [(Reg.HST_STATUS, 1), (Reg.HST_IRQ_LATCH, 0x40000000), (Reg.HST_IRQ_EN, 0xFFFFFFFF), (Reg.HST_MSIX_VCTL 30, 0), (Reg.HST_IRQ_VEC 7, 0x1E0000)] with host := { msix := true } }

theorem test_hyp_InterruptsAndPcie :
    At irq (fun s => s.admits .pcie = true ∧ s.vecPending (fld 30 0 5) = true ∧ s.host.msix = true ∧ s.bitR Reg.HST_STATUS 0 = true ∧
      s.bitR (Reg.HST_MSIX_VCTL (fld 30 0 5)) 0 = false ∧ s.pwr.good = true) ∧
    At up (fun s => s.admits .qspi = true ∧ s.vecPending (fld 31 0 5) = false ∧ s.pwr.good = true ∧ s.bitR Reg.HST_STATUS 0 = false) := by
  decide +kernel

theorem test_hyp_BusAccess :
    At up (fun s => s.admits .qspi = true ∧ s.pwr.good = true ∧ (0x7FFFFFC : BitVec 32).toNat % 4 = 0 ∧ (0x7FFFFFC : BitVec 32).toNat < 0x08000000 ∧
      (14 : BitVec 4) ≠ 15 ∧ s.reach 0x06C00000 = true ∧ s.flawAt 0x06C00000 = none ∧ s.armedSram 8 (wordIdx 8 0x06C00000) = none ∧
      s.reach 0x06CFFFFC = true ∧ s.flawAt 0x06CFFFFC = none ∧ s.armedSram 8 (wordIdx 8 0x06CFFFFC) = none ∧
      Initiator.qspi ≠ .gauntlet ∧ 0x057FFFFC % 4 = 0 ∧ 0x057FFFFC < 0x05800000 ∧ 0x03FFFFFC % 4 = 0 ∧ 0x03FFFFFC < 0x04000000) := by
  decide +kernel

/-- Both I2C controllers with entries, received bytes and the bus held or not. -/
def i2 (q : List Word) (rx : List Nat) (h : Bool) : State :=
  { mk up [(Reg.HST_I2C_CTL 0, 1), (Reg.HST_I2C_CTL 1, 1)] with host := { i2c := [⟨q, rx, h⟩, ⟨q, rx, h⟩] } }

theorem test_hyp_FlashI2cAndPins :
    At up (fun s => Reaches s .qspi Reg.HST_OSPI_CMD ∧ bitOf 0x80000000 31 = true ∧ s.bitR Reg.HST_OSPI_STAT 0 = false ∧ s.flashInUse = false ∧
      s.host.ospi = none ∧ s.host.i2c.length = 2 ∧ s.i2cFront 1 = none ∧ Reaches s .qspi (Reg.HST_I2C_RX 1) ∧ s.appOn = true ∧
      s.bitR Reg.HST_GPIO_DIR 31 = false) ∧
    At (mk up [(Reg.HST_OSPI_STAT, 1)]) (fun s => Reaches s .qspi Reg.HST_OSPI_CMD ∧ s.bitR Reg.HST_OSPI_STAT 0 = true) ∧
    At { up with cfg := { loading := some (0, 3) } } (fun s => Reaches s .qspi Reg.HST_OSPI_CMD ∧ s.bitR Reg.HST_OSPI_STAT 0 = false ∧
      s.flashInUse = true) ∧
    At { up with host := { ospi := some 0x81000005 } } (fun s => s.host.ospi = some 0x81000005 ∧ bitOf 0x81000005 26 = false ∧
      fld 0x81000005 16 9 = 256) ∧
    At { up with host := { ospi := some 0x85000005 } } (fun s => s.host.ospi = some 0x85000005 ∧ bitOf 0x85000005 26 = true) := by
  decide +kernel

theorem test_hyp_FlashI2cAndPins_entries :
    At (i2 [0x05] [1, 2] true) (fun s => s.host.i2c.length = 2 ∧ s.i2cFront 0 = some 0x05 ∧ fld 0x05 8 2 = 0) ∧
    At (i2 [0x105] (List.range 15) true) (fun s => s.i2cFront 0 = some 0x105 ∧ fld 0x105 8 2 = 1 ∧ (s.i2cSt 0).rx.length = 15) ∧
    At (i2 [0x105] (List.range 16) true) (fun s => s.i2cFront 0 = some 0x105 ∧ (s.i2cSt 0).rx.length = 16) ∧
    At (i2 [0x205] [] false) (fun s => s.i2cFront 1 = some 0x205 ∧ fld 0x205 8 2 = 2) ∧
    At (i2 [0x305] [] true) (fun s => s.i2cFront 1 = some 0x305 ∧ fld 0x305 8 2 = 3) ∧
    At (mk up [(Reg.HST_GPIO_RISE, 0xFFFFFFFF), (Reg.HST_GPIO_FALL, 0xFFFFFFFF), (Reg.HST_GPIO_IN, 2)]) (fun s => s.appOn = true ∧
      s.bitR Reg.HST_GPIO_DIR 0 = false ∧ s.bitR Reg.HST_GPIO_IN 0 = false ∧ s.bitR Reg.HST_GPIO_RISE 0 = true ∧
      s.bitR Reg.HST_GPIO_IN 1 = true ∧ s.bitR Reg.HST_GPIO_FALL 1 = true) := by
  decide +kernel

theorem test_hyp_ModeRequests :
    At (inMode 2 []) (fun s => s.admits .qspi = true ∧ s.appOn = true ∧ s.mode.sleep = 0 ∧ s.phase = 0 ∧ reqKnown s.pmode 10 = true ∧
      reqKnown s.pmode 0 = true) ∧
    At (inMode 10 []) (fun s => s.admits .qspi = true ∧ s.phase = 0 ∧ reqKnown s.pmode 5 = false) ∧
    At (inMode 4 [(Reg.PWR_MODE_STATUS, 0x144)]) (fun s => s.admits .qspi = true ∧ s.appOn = true ∧ s.mode.sleep = 0 ∧ s.phase ≠ 0) := by
  decide +kernel

/-- A request waits for the boundary. -/
def asks (s : State) (code : Nat) : State := { s with mode := { s.mode with req := some code } }

theorem test_hyp_ModeBoundary :
    (∀ p ∈ [(2, 10), (10, 2), (11, 2)], At (asks (inMode p.1 []) p.2) (fun s => s.appOn = true ∧ s.running = false ∧ OnlyRequest s p.2 ∧
      s.alarm = false ∧ (s.advanceTo s.msNext).swapJudge s.blk.n = SwapAct.wait ∧ s.pmode = p.1)) ∧
    At { inMode 4 [(Reg.PWR_MODE_STATUS, 0x444), (Reg.DRC_STATUS, 3)] with blk := { prep := true } } (fun s => s.appOn = true ∧
      s.blk.prep = true ∧ s.blk.base = 0 ∧ renders s.pmode = true ∧ s.phase = 4 ∧ s.blk.armed = false ∧ s.blk.next = none ∧
      s.running = false ∧ s.dramReady = true ∧ s.bitR Reg.CLK_STATUS 10 = false ∧ s.blk.realign = false ∧ s.mode.auto = false) ∧
    At { inMode 4 [(Reg.PWR_MODE_STATUS, 0x444), (Reg.DRC_STATUS, 3)] with blk := { prep := true, realign := true } } (fun s =>
      s.appOn = true ∧ s.blk.prep = true ∧ s.blk.realign = true ∧ renders s.pmode = true ∧ s.phase = 4 ∧ s.blk.armed = false ∧
      s.blk.next = none ∧ s.running = false ∧ s.dramReady = true ∧ s.bitR Reg.CLK_STATUS 10 = false) := by
  decide +kernel

/-- A train in its fifth block. -/
def train (n : Nat) (l : List (Nat × Word)) : State := { inMode 4 ((Reg.RND_BLK_STATUS, 1) :: l) with blk := { n := n, next := some (n + 1) } }

theorem test_hyp_BlockCycle :
    At (train 4 [(Reg.RND_PHASE_LIM, 100)]) (fun s => s.blk.next = some 5 ∧ s.appOn = true ∧ s.bitR Reg.CLK_STATUS 10 = false ∧
      s.running = true ∧ s.mode.stop = none ∧ s.blk.base < s.blk.n ∧ s.sch.cap = none ∧ s.blk.fb = none ∧ s.blk.base + 2 ≤ s.blk.n ∧
      (s.reg Reg.RND_PHASE_LIM).toNat < (((s.advanceTo 0).now : Int) - (s.snNs 5 : Int)).natAbs) ∧
    At { (train 2 []) with sch := { descs := [{ idx := 514 }] } } (fun s => s.blk.base + 2 = s.blk.n ∧ s.sch.dl = none ∧ s.running = true) ∧
    At { (train 4 []) with sch := { bankWait := [2], cap := some 2, dl := some 1 } } (fun s => s.appOn = true ∧ s.running = true ∧ s.mode.stop = none ∧
      s.blk.fb = none ∧ s.blk.base + 2 ≤ s.blk.n ∧ s.sch.dl = some 1 ∧ 1 < s.blk.n - 2 ∧ s.lateFeeds (s.blk.n - 2) ≠ []) := by
  decide +kernel

/-- The device with a counter value. -/
def tm (l : List (Nat × Word)) (a p : Nat) : State := { mk up l with tim := { acc := a, phase := p } }

theorem test_hyp_TimIncLimits :
    At up (fun s => Reaches s .qspi Reg.TIM_INC ∧ MaySteer s .qspi) ∧ (85250000 : Word).toNat = 85250000 ∧
    (85416667 : Word).toNat = 85416667 ∧ 85416667 < (85416668 : Word).toNat ∧ (85249999 : Word).toNat < 85250000 := by
  decide +kernel

theorem test_hyp_TimeWriteGuard :
    At (mk up [(Reg.TIM_SERVO_STAT, 0x80000011)]) (fun s => Reaches s .qspi Reg.TIM_INC ∧ Reaches s .service Reg.TIM_INC ∧
      s.bitR Reg.TIM_SERVO_STAT 31 = true ∧ ∀ i, i < 16 → s.cmpEn i = false) ∧ bitOf (1 : Word) 0 = true ∧
    (85250000 : Word).toNat = 85250000 ∧ (0xF2E48E8A : Word).toInt = -219902326 := by
  decide +kernel

theorem test_hyp_TimeCounter :
    At (tm [(Reg.TIM_CTL, 1)] (2 ^ 60 - 3) 2) (fun s => Reaches s .qspi Reg.TIM_NS ∧ Reaches s .qspi Reg.TIM_INC ∧ MaySteer s .qspi ∧
      s.now / 2 ^ 32 + 1 < 2 ^ 32 ∧ s.tick.tim.acc < s.tim.acc ∧ (∀ i, i < 16 → s.cmpEn i = false) ∧ s.running = false ∧
      s.bitR Reg.CLK_STATUS 4 = true ∧ s.rootUp = true) ∧
    At (tm [(Reg.RND_BLK_STATUS, 1)] 0 0) (fun s => MaySteer s .qspi ∧ s.running = true) ∧
    219902326 < (0x0D1B7177 : Word).toInt ∧ (0x0D1B7176 : Word).toInt = 219902326 := by
  decide +kernel

theorem test_hyp_Comparators :
    At { mk up [(Reg.TIM_CMP_CFG 15, 0x80000000), (Reg.TIM_CMP_VAL 15, 0x10), (Reg.TIM_CMP_CFG 5, 0x80000000), (Reg.TIM_CMP_VAL 5, 0x10),
        (Reg.TIM_CMP_PER 5, 0x5)] with tim := { acc := 0x100 * 2 ^ 24, pulse := [some 5, some 0x300, none, none] } } (fun s =>
      s.appOn = true ∧ s.cmpEn 15 = true ∧ s.fullOf (s.cmpV 15) ≤ s.now ∧ s.reg (Reg.TIM_CMP_PER 15) = 0 ∧
      s.cmpEn 5 = true ∧ s.fullOf (s.cmpV 5) ≤ s.now ∧ s.reg (Reg.TIM_CMP_PER 5) ≠ 0 ∧
      (∀ k, k < 4 → s.bitR (Reg.TIM_PULSE_CFG k) 31 = false) ∧ s.reg (Reg.TIM_CMP_SAI 15) = 0 ∧ s.reg (Reg.TIM_CMP_SAI 5) = 0 ∧
      s.bitR Reg.SNS_SYNC_CFG 1 = false ∧ s.blk.armed = false ∧ nth s.tim.pulse 1 none = some 0x300) ∧
    At (mk { up with tim := { acc := 0x100 * 2 ^ 24 } } [(Reg.TIM_CMP_VAL 0, 0x100)]) (fun s => Reaches s .qspi (Reg.TIM_CMP_CFG 0) ∧
      bitOf 0x80000000 31 = true ∧ s.cmpEn 0 = false ∧ passed s.int36 (s.cmpV 0) = true) ∧
    passed (2 ^ 36 - 1) (2 ^ 36 - 1) = true ∧ passed 5 (2 ^ 36 - 1) = true ∧
    At { mk up [(Reg.TIM_SERVO_STAT, 0x80000011), (Reg.RND_BLK_CTL, 3)] with mode := { autoWait := true } } (fun s =>
      s.appOn = true ∧ s.mode.autoWait = true ∧ s.servo ≠ 2 ∧ s.cmpEn (s.fldR Reg.RND_BLK_CTL 0 4) = false) := by
  decide +kernel

theorem test_hyp_PtpServo :
    At (mb up 1 1 [1, 255, 255, 255, 3, w32 (2 ^ 32 - 4)]) (fun s => Requested s 0 1 1 ∧ s.argsOk 0 6 = true ∧ s.mbxArg 0 0 = 1 ∧
      s.mbxArg 0 1 = 255 ∧ s.mbxArg 0 2 = 255 ∧ s.mbxArg 0 3 = 255 ∧ s.mbxArg 0 4 = 3 ∧ sext 32 (s.mbxArg 0 5) = -4 ∧
      s.bitR Reg.TIM_SERVO_STAT 31 = false) ∧
    At (mb (mk up [(Reg.TIM_SERVO_STAT, 0x80000012)]) 1 2 []) (fun s => Requested s 3 1 2 ∧ s.bitR Reg.TIM_SERVO_STAT 31 = true ∧
      s.mode.autoWait = false) ∧
    At { mk up [(Reg.TIM_SERVO_STAT, 0x80000012)] with tim := { servo := { fracs := [5, 7] } } } (fun s => s.appOn = true ∧
      s.bitR Reg.TIM_SERVO_STAT 31 = true ∧ s.fldR Reg.TIM_SERVO_STAT 4 3 ≠ 4 ∧ s.bitR Reg.CLK_STATUS 4 = true ∧ s.servo = 2 ∧
      s.reg Reg.TIM_ASYM0 = 0 ∧ s.tim.servo.mpds = [] ∧ (-10000 : Int).natAbs ≤ 10000 ∧ s.tim.servo.fracs ≠ []) ∧
    At (mk up [(Reg.TIM_SERVO_STAT, 0x80000011), (Reg.CLK_STATUS, 0x32F)]) (fun s => s.appOn = true ∧
      s.bitR Reg.TIM_SERVO_STAT 31 = true ∧ s.bitR Reg.CLK_STATUS 4 = false ∧ s.servo = 1) := by
  decide +kernel

theorem test_hyp_GeometryRegisters :
    At up (fun s => Tracked s .qspi Reg.GEO_C ∧ Tracked s .qspi Reg.GEO_CTL ∧ Reaches s .qspi Reg.RND_IPT_DATA ∧
      Reaches s .qspi Reg.RND_MARGIN_RST ∧ s.pmode ≠ 9 ∧ (s.isDuty = true → s.logSize ≤ 129024)) ∧
    (0x32000000 : Word).toNat = 200 * 2 ^ 22 ∧ (0x7D000000 : Word).toNat = 500 * 2 ^ 22 ∧ 500 * 2 ^ 22 < (0x7D000001 : Word).toNat ∧
    bitOf (1 : Word) 0 = true := by
  decide +kernel

theorem test_hyp_GeometryAndTiles :
    At { up with geo := { snaps := [{ blk := 3, tables := [], regs := [], fab := [], w11 := [] }] }, blk := { n := 4 } } (fun s =>
      s.reach 0x400000 = true ∧ s.geo.snaps.length = 1) ∧
    At { up with rnd := { plan := some { blk := 3, cells := [] }, done := List.range 382 }, blk := { n := 4 } } (fun s =>
      s.reach 0x401000 = true ∧ s.rnd.plan = some { blk := 3, cells := [] } ∧ (383 : BitVec 9).toNat < 384 ∧
      (383 : BitVec 9).toNat ∉ s.rnd.done ∧ s.rnd.done.length < 383) ∧ 15 < 2 ^ 4 := by
  decide +kernel

theorem test_hyp_PowerSignal :
    At up (fun s => s.pwr.good = true) ∧ At { up with pwr := { up.pwr with good := false } } (fun s => s.pwr.good = false) := by
  decide +kernel

theorem test_hyp_ResetPin :
    At (inMode 2 []) (fun s => s.pwr.good = true ∧ s.pwr.resetN = false ∧ s.mode.sleep ≠ 2) ∧
    At { inMode 2 [] with pwr := { up.pwr with resetN := true } } (fun s => s.pwr.good = true ∧ s.pwr.resetN = true ∧
      s.bitR Reg.PWR_STATUS 11 = false ∧ (s.pmode = 1 → s.phase ≠ 1)) ∧
    At { inMode 2 [(Reg.PWR_STATUS, 0x800)] with pwr := { up.pwr with resetN := true } } (fun s => s.pwr.good = true ∧ s.pwr.resetN = true ∧
      s.bitR Reg.PWR_STATUS 11 = true) := by
  decide +kernel

theorem test_hyp_SupplyAndTemperature :
    At (inMode 2 []) (fun s => s.pwr.good = true ∧ s.bitR Reg.PWR_STATUS 8 = false ∧ s.bitR Reg.PWR_STATUS (2 + true.toNat) = false ∧
      s.isDuty = false ∧ s.twin.yield = none ∧ s.mode.fault = none ∧ (hottest [31999, 0, 0, 0]).1 < 32000 ∧
      s.bitR Reg.PWR_STATUS 11 = false ∧ 32000 ≤ (hottest [0, 0, 0, 32000]).1) ∧
    At (inMode 2 [(Reg.PWR_STATUS, 0xD00)]) (fun s => s.pwr.good = true ∧ s.bitR Reg.PWR_STATUS 8 = true ∧ s.bitR Reg.PWR_STATUS 11 = true ∧
      (hottest [0, 0, 0, 0]).1 ≤ sext 16 (s.fldR Reg.PWR_TEMP_SHUT 0 16) - 2560 ∧ s.pwr.resetN = false ∧ (s.pmode = 1 → s.phase ≠ 1)) := by
  refine ⟨?_, ?_⟩ <;> decide +kernel

theorem test_hyp_ThermosIsland :
    At { up with pwr := { up.pwr with islandWr := some (Reg.PWR_WAKE_CTL, 0x7FF) } } (fun s => Reaches s .qspi Reg.PWR_SEC ∧
      s.bitR Reg.PWR_THM_STAT 0 = false ∧ islandWritable Reg.PWR_WAKE_CTL = true ∧ s.pwr.islandWr = some (Reg.PWR_WAKE_CTL, 0x7FF) ∧
      s.pwr.good = true ∧ s.mode.sleep = 0 ∧ s.mode.sleep ≠ 1) ∧
    At (mk up [(Reg.PWR_THM_STAT, 1)]) (fun s => Reaches s .qspi Reg.PWR_SEC ∧ s.bitR Reg.PWR_THM_STAT 0 = true) ∧
    At { mk up [(Reg.PWR_WAKE_CTL, 0x331), (Reg.PWR_RET0 0, 0xFF00)] with pwr := { up.pwr with good := false, thermos := true } } (fun s =>
      s.pwr.good = false ∧ s.pwr.thermos = true ∧ s.pwr.wakeLatch = 0 ∧ s.bitR Reg.PWR_WAKE_CTL 0 = true ∧
      s.bitR Reg.PWR_WAKE_CTL (4 + true.toNat) = true ∧ s.bitR (Reg.PWR_RET0 0) (8 + (7 : BitVec 3).toNat) = true) ∧
    At { up with mode := { sleep := 1 }, log := { up.log with opened := none } } (fun s => s.mode.sleep = 1 ∧ s.log.queue = [] ∧ s.log.opened = none) ∧
    At { up with pwr := { up.pwr with good := false, thermos := true, wakeLatch := 6 } } (fun s => s.pwr.good = false ∧ s.pwr.thermos = true ∧
      s.pwr.wakeLatch ≠ 0) ∧
    At { up with mode := { sleep := 2 } } (fun s => s.pwr.good = true ∧ s.mode.sleep = 2) := by
  refine ⟨?_, ?_, ?_, ?_, ?_, ?_⟩ <;> decide +kernel

/-- Clock status and the clocks' own state. -/
def ck (st : Word) (c : ClkSt) : State := { mk up [(Reg.CLK_STATUS, st), (Reg.CLK_MON_EN, 0x1F)] with clk := c }

theorem test_hyp_ClockFaults :
    At (ck 0x33F { rootArmed := true, rootHeld := false }) (fun s => s.bitR Reg.CLK_STATUS 0 = true ∧ s.bitR Reg.CLK_STATUS 1 = true ∧
      s.bitR Reg.CLK_STATUS 13 = false ∧ s.clk.rootArmed = true ∧ s.bitR Reg.CLK_STATUS (2 + true.toNat) = true ∧
      s.bitR Reg.CLK_STATUS (14 + true.toNat) = false ∧ s.bitR Reg.CLK_MUX_STAT (8 + (5 : BitVec 3).toNat) = false ∧ s.clk.rootHeld = false ∧
      s.bitR Reg.CLK_STATUS (lockBit .dpll) = true ∧ s.bitR Reg.CLK_STATUS 8 = true ∧ s.bitR Reg.CLK_STATUS 4 = true) ∧
    At (ck 0x401 { rootHeld := true, mclkHz := (5, 6) }) (fun s => s.clk.rootHeld = true ∧ s.bitR Reg.CLK_MON_EN 2 = true ∧
      s.bitR Reg.CLK_MON_EN 3 = true ∧ 0 < s.clk.mclkHz.1 ∧ s.bitR Reg.CLK_MON_EN 4 = true ∧ 0 < s.clk.mclkHz.2 ∧
      s.bitR Reg.CLK_STATUS 9 = false ∧ s.pwr.good = true ∧ s.fldR Reg.CLK_STATUS 10 4 ≠ 0 ∧
      s.bitR Reg.CLK_MUX_STAT (8 + (5 : BitVec 3).toNat) = false ∧ s.bitR Reg.CLK_STATUS ((5 : BitVec 3).toNat - 2) = false) ∧
    At (ck 0x73F { rootHeld := false }) (fun s => s.bitR Reg.CLK_STATUS 10 = true ∧ s.clk.rootHeld = false ∧ s.isDuty = false ∧
      s.twin.yield = none ∧ s.mode.fault = none) := by
  refine ⟨?_, ?_, ?_⟩ <;> decide +kernel

theorem test_hyp_ClockReturns :
    At { mk (ck 0xFF3F { rootHeld := false }) [(Reg.DRC_STATUS, 7)] with drc := { heldSvc := 3 } } (fun s => s.bitR Reg.CLK_STATUS 10 = true ∧
      s.bitR Reg.CLK_STATUS 0 = true ∧ s.bitR Reg.CLK_STATUS 4 = true ∧ s.bitR Reg.CLK_STATUS 11 = true ∧ s.bitR Reg.CLK_STATUS 8 = true ∧
      s.bitR Reg.CLK_STATUS 12 = true ∧ s.bitR Reg.CLK_STATUS 5 = true ∧ s.bitR Reg.PWR_STATUS 8 = false ∧ s.service = 3 ∧ s.drc.heldSvc < 4 ∧
      s.bitR Reg.CLK_STATUS (14 + true.toNat) = true ∧ s.bitR Reg.CLK_STATUS (2 + true.toNat) = true ∧ Reaches s .qspi Reg.CLK_CMD ∧
      s.bitR Reg.CLK_STATUS 1 = true ∧ s.bitR Reg.CLK_STATUS 13 = true) ∧
    At { mk (ck 0xFF3F {}) [(Reg.DRC_STATUS, 7)] with drc := { heldSvc := 1, lost := 4, trained := true } } (fun s => s.bitR Reg.CLK_STATUS 5 = true ∧
      s.bitR Reg.PWR_STATUS 8 = false ∧ s.service = 3 ∧ s.drc.heldSvc = 1 ∧ s.drc.lost ≠ 0 ∧ s.drc.trained = true ∧ s.bitR Reg.CLK_EN 12 = true) ∧
    At (ck 0x1 {}) (fun s => Reaches s .qspi Reg.CLK_CMD ∧ s.bitR Reg.CLK_STATUS 1 = false) ∧
    At (inMode 10 [(Reg.CLK_FTRIM_CFG, 0x8002)]) (fun s => Reaches s .qspi Reg.CLK_EN ∧ Reaches s .qspi Reg.CLK_FTRIM ∧ s.pmode = 10 ∧
      s.bitR Reg.CLK_FTRIM_CFG 15 = true) ∧
    At (inMode 5 [(Reg.CLK_FTRIM_CFG, 0x3)]) (fun s => Reaches s .qspi Reg.CLK_FTRIM ∧ s.pmode ≠ 10 ∧ 1 ≤ s.fldR Reg.CLK_FTRIM_CFG 0 3 ∧
      s.fldR Reg.CLK_FTRIM_CFG 0 3 = 3 ∧ s.bitR Reg.CLK_FTRIM_CFG 15 = false ∧ bitOf (0 : Word) 12 = false ∧ s.enFixed.testBit 12 = true ∧
      s.bitR Reg.CLK_EN 12 = true) := by
  decide +kernel

theorem test_hyp_RoomCorrection :
    At (mk up [(Reg.FIR_MAX_TAPS, 4096), (Reg.FIR_LEN 383, 0x00400040), (Reg.FIR_FST 383, 1)]) (fun s => Tracked s .qspi Reg.FIR_FADE_REQ ∧
      (383 : BitVec 9).toNat < 384 ∧ s.firFading 383 = false ∧ s.bitR (Reg.FIR_FST 383) 2 = false ∧ s.bitR Reg.FIR_STATUS 24 = false ∧
      s.running = false ∧ 384 ≤ (384 : BitVec 9).toNat ∧ (∀ g, g < 384 → s.firFading g = false ∧ s.bitR (Reg.FIR_FST g) 2 = false) ∧
      Tracked s .qspi (Reg.FIR_A 383) ∧ s.firSel 383 = 1 ∧ s.fldR (Reg.FIR_LEN 383) 0 13 ≤ s.fldR Reg.FIR_MAX_TAPS 0 13 ∧
      sfld 0x0227FFC0 22 5 = 8 ∧ fld 0x0227FFC0 0 22 + s.fldR (Reg.FIR_LEN 383) 0 13 = 2621440) ∧
    At (train 4 []) (fun s => Tracked s .qspi Reg.FIR_FADE_REQ ∧ s.firFading 0 = false ∧ s.bitR (Reg.FIR_FST 0) 2 = false ∧
      s.bitR Reg.FIR_STATUS 24 = false ∧ s.running = true) ∧
    At (mk up [(Reg.FIR_STATUS, 0x01000000)]) (fun s => Tracked s .qspi Reg.FIR_FADE_REQ ∧
      (s.firFading 0 || s.bitR (Reg.FIR_FST 0) 2 || s.bitR Reg.FIR_STATUS 24) = true) ∧
    At (mk up [(Reg.FIR_GD 0, 0)]) (fun s => Tracked s .qspi (Reg.FIR_A 0) ∧ s.firFading 0 = false ∧ s.firSel 0 = 0 ∧ fld 1 0 22 ≠ s.fldR (Reg.FIR_A 0) 0 22 ∧
      8 < sfld 0x02400000 22 5 ∧ s.reach 0x500000 = true ∧ s.bitR (Reg.FIR_GD 0) 31 = false ∧ (bankOf s.reg 0 (s.firSel 0)).len = 0) ∧
    At { mk up [(Reg.FIR_LEN 5, 0x2), (Reg.FIR_GD 5, 0)] with blk := { n := 3 } } (fun s => s.reach 0x500000 = true ∧ s.bitR (Reg.FIR_GD 5) 31 = false ∧
      (bankOf s.reg 5 (s.firSel 5)).len = 2 ∧ (∀ j, j < 2 → sample24 (s.sramBytes (coefAddr ((bankOf s.reg 5 (s.firSel 5)).start + j)) 3) = 0) ∧
      Store.wf (fun _ => 0) s.fir.next = true ∧ s.firTasks 5 (s.firNext 5) = [false.toNat] ∧ (∀ p ∈ s.fir.part, p.1 ≠ 5)) := by
  refine ⟨?_, ?_, ?_, ?_, ?_⟩ <;> decide +kernel

/-- The dispatcher's state. -/
def sc (f : SchSt) : State := { up with sch := f }

/-- A descriptor of class `c` in the table. -/
def ds (i c e : Nat) (s : State) : State :=
  s.putSram (descAddr i) ([b8 c, 0] ++ List.replicate 10 0 ++ [0, 1, 0, 0, 0, 0] ++ List.replicate 10 0xFF ++ [b8 e, 0, 0, 0])

/-- Two ready descriptors. -/
def two (c : Nat) : State :=
  mk { ds 1028 c 2 (ds 1027 c 1 up) with
    sch := { descs := [{ idx := 1027, listed := true, ready := true }, { idx := 1028, listed := true, ready := true }], cyc := 9 } } [(Reg.SCH_CYCLE, 9)]

/-- A task on an engine slot. -/
def task (slot : Nat) (fin : Option Nat) (job : List Byte) : SchTask :=
  { slot := slot, desc := 1030, item := 0, arg := 3, blk := 1, sub := 0, fin := fin, job := job }

theorem test_hyp_DispatcherSubmit :
    At (ds 1024 4 0 up) (fun s => Reaches s .qspi Reg.SCH_SUBMIT ∧ fld 1024 0 12 = 1024 ∧ s.dState (fld 1024 0 12) = 0 ∧
      s.descLegal (fld 1024 0 12) = true ∧ fld 1023 0 12 < 1024 ∧ s.descLegal (fld 4095 0 12) = false) ∧
    At (sc { descs := [{ idx := 1030 }] }) (fun s => Reaches s .qspi Reg.SCH_CANCEL ∧ 1024 ≤ fld 1030 0 12 ∧
      s.desc? (fld 1030 0 12) = some { idx := 1030 } ∧ s.desc? (fld 4095 0 12) = none ∧ fld 0 0 12 < 1024) ∧
    At (sc { descs := [{ idx := 1023 }], bankWait := [4, 7] }) (fun s => s.reach 0x300000 = true ∧ s.sch.bankWait = [4, 7] ∧
      s.bankBusy (4 % 4) = false) ∧
    At (sc { descs := [{ idx := 1023 }], bankWait := [7] }) (fun s => s.reach 0x300000 = true ∧ s.bankBusy (7 % 4) = true) := by
  decide +kernel

theorem test_hyp_DispatcherChoice :
    At (two 2) (fun s => s.reach 0x300000 = true ∧ s.schTick.pick =
        some { idx := 1027, listed := true, ready := true } ∧
      s.dClass 1027 ≠ 3 ∧ s.emptyItem { idx := 1027, listed := true, ready := true } = false ∧
      (s.slotFor 1027 (s.dArg 1027 + 0)).isSome = true ∧ s.pick.isSome = true) ∧
    At (sc { run := [task 88 none []] }) (fun s => s.sch.descs = [] ∧ s.reach 0x300000 = true ∧
      s.sch.run.find? (fun t => decide (t.slot = 88)) = some (task 88 none []) ∧ slotClass 88 = 4 ∧ (task 88 none []).arg < 1024 ∧
      (dmaJob []).legal = true ∧ (dmaJob []).len = 0 ∧ (dmaJob ((List.replicate 32 0).set 0 1)).legal = false) ∧
    At (sc { run := [task 98 none [], task 0 (some 1) []] }) (fun s => s.sch.run.find? (fun t => decide (t.slot = 98)) = some (task 98 none []) ∧
      4 < slotClass 98 ∧ s.sch.run.find? (fun t => decide (t.slot = 0)) = some (task 0 (some 1) []) ∧ slotClass 0 = 0) := by
  decide +kernel

theorem test_hyp_MixerAndBridges :
    At up (fun s => Tracked s .qspi 0x06E80000 ∧ (∀ p ∈ [(0x06E80000, 0), (0x06ED7FFC, 1), (0x06EF03F0, 5)],
        p.1 % 4 = 0 ∧ mixRow? p.1 = some (nth mixRows p.2 ⟨0, 0, 0, 0, [], []⟩) ∧
        (p.1 - (nth mixRows p.2 ⟨0, 0, 0, 0, [], []⟩).lo) % (nth mixRows p.2 ⟨0, 0, 0, 0, [], []⟩).size / 4 =
          (nth mixRows p.2 ⟨0, 0, 0, 0, [], []⟩).commit ∧
        (nth mixRows p.2 ⟨0, 0, 0, 0, [], []⟩).ro.contains (nth mixRows p.2 ⟨0, 0, 0, 0, [], []⟩).commit = false ∧
        s.flawAt p.1 = none ∧ s.armedSram 12 (wordIdx 12 p.1) = none) ∧
      Store.wf (fun _ => ({} : MeterSt)) s.mix.meters = true ∧ Tracked s .qspi (meterAddr 2047 + 4) ∧ Tracked s .qspi Reg.MIX_MTR_CTL ∧
      bitOf (1 : Word) 0 = true ∧ s.pwr.good = true) ∧
    At (mk up [(Reg.MIX_BRG_STAT 127, 0x80000000), (Reg.GNT_TSLOT_EN, 1)]) (fun s => s.reach 0x700000 = true ∧
      s.bitR (Reg.MIX_BRG_STAT 127) 31 = true ∧ s.bitR (Reg.MIX_BRG_STAT 127) 29 = false ∧ s.bitR (Reg.MIX_BRG_STAT 127) 28 = false ∧
      (s.bridge 127).take = false ∧ (∀ i, i < 52 → s.unsteady i = false) ∧ (s.bridge 127).lock = false ∧
      bitOf 0x800 11 = true ∧ s.bitR Reg.GNT_TSLOT_EN 11 = false ∧ bitOf 0x800 0 = false ∧ s.bitR Reg.GNT_TSLOT_EN 0 = true) ∧
    At { mk up [(Reg.MIX_BRG_STAT 127, 0xE0000000)] with mix := { bridges := [(127, { lock := true, ramp := 32 })] } } (fun s =>
      s.bitR (Reg.MIX_BRG_STAT 127) 31 = true ∧ (s.bridge 127).lock = true ∧ s.bitR (Reg.MIX_BRG_STAT 127) 30 = true) := by
  decide +kernel

/-- Bus 3 and feed 3 hold staged changes; source 0 had the sample `x` after 80, and three samples have passed since the commit. -/
def staged (x : Int) (zxto : Word) : State :=
  { mk up [(Reg.GNT_ZXTO, zxto)] with
    sai := { up.sai with gk := 3, gsrc := [⟨500, [x]⟩, ⟨400, [80]⟩] }
    trail := { tf := [(3, { zones := 3, valid := 1 })], tfPend := [(3, { zones := 8, valid := 1 })], tfFrom := [(3, 0)]
               zb := [(3, { act := 1, level := 0x400000 })], zbPend := [(3, { act := 2 })], zbFrom := [(3, 0)] } }

theorem test_hyp_TrailChanges :
    At { up with trail := { tfPend := [(383, { zones := 7, valid := 3 })], zbPend := [(255, { act := 9 })], ovrPend := [(3, (2, 500, 77))] } } (fun s =>
      s.pwr.good = true ∧ (383 : BitVec 9).toNat < 384 ∧ Initiator.qspi ≠ .gauntlet ∧ s.admits .qspi = true ∧
      Store.wf (fun _ => ({} : FeedZones)) s.trail.tf = true ∧
      s.trail.tfPend.find? (fun p => decide (p.1 = (383 : BitVec 9).toNat)) = some (383, { zones := 7, valid := 3 }) ∧
      Store.wf (fun _ => ({} : BusWords)) s.trail.zb = true ∧
      s.trail.zbPend.find? (fun p => decide (p.1 = (255 : BitVec 9).toNat)) = some (255, { act := 9 }) ∧
      Store.wf (fun _ => ({} : OvrSt)) s.trail.ovr = true ∧
      s.trail.ovrPend.find? (fun p => decide (p.1 = (3 : BitVec 9).toNat)) = some (3, (2, 500, 77)) ∧
      s.trail.ovrPend.find? (fun p => decide (p.1 = (4 : BitVec 9).toNat)) = none) ∧
    (let y (s : State) (i : Nat) := trailOut (s.zb 3).out (s.gsrcAt i)
     let z (s : State) (i : Nat) := trailOut ((s.tf 3).sel (if i = 0 then s.zb else fun b => s.zbAt b s.gPrev)) (s.gsrcAt i)
     At (staged 0 5) (fun s => y s 0 = 0 ∧ z s 0 = 0) ∧ At (staged (-1) 5) (fun s => y s 0 * y s 1 < 0 ∧ z s 0 * z s 1 < 0) ∧
     At (staged 1 3) (fun s => y s 0 * y s 1 = 80 ∧ z s 0 * z s 1 = 80 ∧ s.fldR Reg.GNT_ZXTO 0 8 ≤ s.sai.gk - 0) ∧
     At (staged 1 4) (fun s => y s 0 * y s 1 = 80 ∧ z s 0 * z s 1 = 80 ∧ ¬ s.fldR Reg.GNT_ZXTO 0 8 ≤ s.sai.gk - 0)) := by
  decide +kernel

/-- A graph of one segment whose cycle limit is not zero. -/
def graph : List Section := [{ ty := 8, crc := 0, body := List.replicate 0x221 0 ++ [1] ++ List.replicate 100 0 }]

/-- A core in a task of that graph. -/
def core (r : CoreRegs) : State := { up with cfg := { active := graph }, cores := [(3, { r := r, task := some { seg := 0, blk := 1, age := 0 } })] }

/-- The task. -/
def kt : CoreTask := { seg := 0, blk := 1, age := 0 }

theorem test_hyp_MacSlot :
    At (core { a := [2 ^ 71 - 1, -(2 ^ 71), 5, -7] }) (fun s => CoreReady s 3 kt ∧ macLegal true 14 = true ∧ (s.core 3).r.x.length = 16 ∧
      extLegal 8 2 = true ∧ extLegal 0x18 0 = true ∧
      (∀ i, i < 4 → (0xF : BitVec 4).toNat.testBit i = true → -(2 ^ 71) ≤ nth (s.core 3).r.a i 0 + (s.core 3).r.macY false 0 i * (s.core 3).r.macX 0 i ∧
        nth (s.core 3).r.a i 0 + (s.core 3).r.macY false 0 i * (s.core 3).r.macX 0 i < 2 ^ 71)) ∧
    At (core { x := List.replicate 16 1, a := [2 ^ 71 - 1, 0, 0, 0] }) (fun s => Store.wf (fun _ => ({} : CoreSt)) s.cores = true ∧
      s.coreRuns 3 = true ∧ (s.core 3).task = some kt ∧ (s.core 3).start = none ∧ (s.core 3).r.pc < 2048 ∧ (s.core 3).r.loops = [] ∧
      (s.core 3).r.a.length = 4 ∧ (s.core 3).r.cl.length = 4 ∧ kt.cyc + 1 < s.taskMax kt ∧ nth (s.core 3).r.cl 0 false = false ∧
      2 ^ 71 ≤ nth (s.core 3).r.a 0 0 + (s.core 3).r.macX 0 0 * 2 ^ 32) ∧
    At (core { cl := [true, false, false, false] }) (fun s => s.coreRuns 3 = true ∧ nth (s.core 3).r.cl 0 false = true) := by
  decide +kernel

theorem test_hyp_AluSlot :
    At (core { x := List.replicate 15 0 ++ [1] }) (fun s => CoreReady s 3 kt ∧ (s.core 3).r.pc < (1 : BitVec 11).toNat ∧ 0 < s.blk.b ∧
      0 < fld ((s.core 3).r.xr 15) 0 16 ∧ (0 : BitVec 11).toNat ≤ (s.core 3).r.pc) ∧
    At (core { pc := 2046 }) (fun s => CoreReady s 3 kt ∧ (s.core 3).r.pc < (2047 : BitVec 11).toNat ∧ fld ((s.core 3).r.xr 15) 0 16 = 0) := by
  decide +kernel

theorem test_hyp_AddressSlot :
    At (core { p := List.replicate 8 16383 }) (fun s => CoreReady s 3 kt ∧ nth (s.core 3).r.l (7 : BitVec 3).toNat 0 = 0 ∧
      s.flawAt (coreData 3 (nth (s.core 3).r.p (7 : BitVec 3).toNat 0)) = none ∧ (7 : BitVec 3).toNat = 7) ∧
    0 < nth [0, 4] 1 0 ∧ 16380 + nth [0, 4] 1 0 = 16384 ∧ ((16383 : Nat) : Int) + 32767 - 4 ≥ 16380 + 4 ∧ -(4 : Int) ≤ -4 := by
  decide +kernel

theorem test_hyp_CoreTasks :
    At { up with cfg := { active := graph }, sch := { run := [task 5 none []] } } (fun s => Store.wf (fun _ => ({} : CoreSt)) s.cores = true ∧
      s.reach 0x600000 = true ∧ (s.core 3).task = none ∧ s.halted 3 = false ∧ (s.active 8).isSome = true ∧
      s.sch.run.find? (fun t => decide (t.slot = 2 + 3) && t.fin.isNone) = some (task 5 none []) ∧ s.wordIllegal 3 0 = false) ∧
    At (core {}) (fun s => (s.core 3).task = some kt ∧ s.coreRuns 3 = true ∧ s.wordIllegal 3 0xFFFFFFFFFFFFFFFF = true) ∧
    At { core {} with cores := [(3, { task := some kt, start := some {}, stores := [(16383, 7)] })] } (fun s =>
      Store.wf (fun _ => ({} : CoreSt)) s.cores = true ∧ s.coreRuns 3 = true ∧ (s.core 3).task = some kt ∧
      s.core 3 = { (s.core 3) with start := some {}, stores := [(16383, 7)], illegal := false, gov := 0, addr := [], target := none, skip := false,
                                   node := none, ended := false } ∧
      kt.cyc + 1 < s.taskMax kt ∧ s.armedSram 4 (wordIdx 4 (coreData 3 16383)) = none) := by
  decide +kernel

/-- A section of an image: its header and its padded payload (R241). -/
def sect (ty : Nat) (body : List Byte) : List Byte :=
  [b8 ty, 1, 0, 0] ++ leBytes 4 body.length ++ leBytes 4 (crc32 body) ++ List.replicate 20 0 ++ padTo (up16 body.length) body

/-- An application image's header (R240). -/
def head (mode total nsec : Nat) : List Byte :=
  let h := leBytes 4 0x49524C56 ++ [1, 0, 1, b8 mode] ++ leBytes 4 total ++ leBytes 2 nsec ++ List.replicate 46 0
  h ++ leBytes 4 (crc32 h)

/-- A public key of order 1: a signature of zeros with the neutral R verifies under it (R244). -/
def pub : List Byte := 1 :: List.replicate 31 0

/-- An image of the four sections that every image carries (R239): clocks, pins, mode BALANCED, one far region. -/
def image : List Byte :=
  let b := head 4 768 4 ++
    sect 1 ([0x3F, 0x10] ++ List.replicate 18 0 ++ leBytes 2 1600 ++ List.replicate 10 0) ++
    sect 2 ([6] ++ List.replicate 357 0 ++ [0x10, 0x10] ++ List.replicate 8 0) ++
    sect 3 ([4, 1, 2, 0, 0, 2] ++ List.replicate 10 0) ++
    sect 4 ([1] ++ List.replicate 15 0 ++ leBytes 4 0 ++ leBytes 4 3145728 ++ [2] ++ List.replicate 7 0)
  b ++ sha256 b ++ pub ++ pub ++ List.replicate 32 0

/-- A load from the boot flash that the bytes are in. -/
def loads (img : List Byte) (keys : List KeySlot) : State :=
  { mk (ram up) [(Reg.CFG_STATUS, 0xA)] with
    boot := Store.putBytes flashDef [] 0 img, fuse := { app := keys }
    cfg := { loading := some (1, 0), active := [{ ty := 16, crc := 0, body := [] }] } }

/-- The slot of the key. -/
def key : KeySlot := { hash := some (BitVec.ofNat 256 (leNat (sha256 pub))) }

theorem test_hyp_ImageLoads :
    At (mk up [(Reg.CFG_STATUS, 2)]) (fun s => Reaches s .qspi Reg.CFG_LOAD_GO ∧ s.shadowSt = 2) ∧
    At (mk up [(Reg.CFG_LOAD_CTL, 2)]) (fun s => Reaches s .qspi Reg.CFG_LOAD_GO ∧ s.shadowSt ≠ 2 ∧ s.fldR Reg.CFG_LOAD_CTL 0 2 = 2) ∧
    At (mk up [(Reg.CFG_LOAD_CTL, 0)]) (fun s => Reaches s .qspi Reg.CFG_LOAD_GO ∧ s.shadowSt ≠ 2 ∧ s.fldR Reg.CFG_LOAD_CTL 0 2 = 0 ∧
      dirOk (s.bootBytes 0 64) = false) ∧
    At (loads (head 4 240 4 ++ sect 7 [9]) []) (fun s => s.reach Reg.CFG_STATUS = true ∧ s.shadowSt = 2 ∧ s.cfg.coefDone = false ∧
      s.coefReached none = some [9] ∧ s.loadMay = true ∧ (s.loadEnd none).2 = some false) ∧
    At up (fun s => s.reach Reg.CFG_STATUS = true ∧ s.shadowSt ≠ 2) := by
  decide +kernel

theorem test_hyp_ImageLoads_valid :
    At (loads image [key]) (fun s => s.reach Reg.CFG_STATUS = true ∧ s.loadMay = true ∧ (s.loadEnd none).2 = some true) := by
  decide +kernel

/-- A shadow set and an active set. -/
def sets (st : Word) : State := { mk up [(Reg.CFG_STATUS, st), (Reg.CFG_CHECK_PERIOD, 5)] with cfg := { active := graph } }

/-- A pass of the periodic check over a section whose stored byte is 0, in a mode. -/
def pass (m : Nat) (crc : Nat) : State :=
  { ram (mk (inMode m []) [(Reg.CFG_STATUS, 0x4B), (Reg.CFG_CHECK_PERIOD, 5)]) with cfg := { active := [{ ty := 3, crc := crc, body := [0] }] } }

theorem test_hyp_SwapAndCheck :
    At (sets 0x4B) (fun s => Reaches s .qspi Reg.CFG_SWAP ∧ s.pmode ≠ 9 ∧ s.armed = false ∧ s.shadowSt = 3 ∧
      s.reach Reg.CFG_STATUS = true ∧ s.activeOk = true ∧ s.fldR Reg.CFG_CHECK_PERIOD 0 16 ≠ 0) ∧
    At (sets 0x44) (fun s => Reaches s .qspi Reg.CFG_SWAP ∧ s.pmode ≠ 9 ∧ s.armed = false ∧ s.shadowSt ≠ 2 ∧ s.shadowSt ≠ 3 ∧
      s.bitR Reg.CFG_STATUS 6 = true ∧ s.activeOk = false) ∧
    At (sets 0x12) (fun s => Reaches s .qspi Reg.CFG_SWAP ∧ s.pmode ≠ 9 ∧ s.armed = true ∧ s.bitR Reg.CFG_STATUS 6 = false) ∧
    At (mk (inMode 9 []) [(Reg.TWN_STATUS, 0x10)]) (fun s => Reaches s .qspi Reg.CFG_SWAP ∧ s.pmode = 9 ∧ s.syncOf ≠ 0) ∧
    At (pass 2 0xD202EF8D) (fun s => s.bitR Reg.CFG_STATUS 6 = true ∧ s.activeOk = true ∧ DramPlain s ∧
      (s.setBit Reg.CFG_STATUS 6 false).checkPass.2 = none) ∧
    At (pass 2 0) (fun s => s.bitR Reg.CFG_STATUS 6 = true ∧ s.activeOk = true ∧ DramPlain s ∧ renders s.pmode = false ∧ s.running = false ∧
      (s.setBit Reg.CFG_STATUS 6 false).checkPass.2 ≠ none) ∧
    At (pass 4 0) (fun s => s.activeOk = true ∧ DramPlain s ∧ renders s.pmode = true ∧ s.isDuty = false ∧ s.twin.yield = none ∧ s.mode.fault = none ∧
      (s.setBit Reg.CFG_STATUS 6 false).checkPass.2 ≠ none) := by
  refine ⟨?_, ?_, ?_, ?_, ?_, ?_, ?_⟩ <;> decide +kernel

/-- Fuses with two programmed keys. -/
def keyed (m : Nat) (busy : Option FuseOp) : State :=
  { inMode m [] with fuse := { app := [{ hash := some 5 }, { hash := some 6 }, {}, { hash := some 7, revoked := true }]
                               gnt := [{ hash := some 5 }, { hash := some 6 }], busy := busy } }

theorem test_hyp_KeySlots :
    At (keyed 10 none) (fun s => Reaches s .qspi Reg.CFG_FUSE_CTL ∧ s.pmode = 10 ∧ s.fuse.busy = none ∧
      (nth s.fuse.app (2 : BitVec 2).toNat {}).hash = none ∧ (nth s.fuse.app (1 : BitVec 2).toNat {}).hash.isSome = true ∧
      (nth s.fuse.app (1 : BitVec 2).toNat {}).revoked = false ∧ 1 < (s.fuse.app.filter fun x => x.hash.isSome && !x.revoked).length ∧
      (nth s.fuse.app (3 : BitVec 2).toNat {}).revoked = true) ∧
    At (keyed 2 none) (fun s => Reaches s .qspi Reg.CFG_FUSE_CTL ∧ s.pmode ≠ 10) ∧
    At (keyed 10 (some (.app 3 none))) (fun s => s.fuse.busy = some (.app 3 none) ∧ 3 < s.fuse.app.length) ∧
    At (keyed 10 (some (.gnt 1 (some 9)))) (fun s => s.fuse.busy = some (.gnt 1 (some 9)) ∧ 1 < s.fuse.gnt.length) := by
  decide +kernel

theorem test_hyp_Injection :
    At (ram (inMode 10 [(Reg.INT_SRAM_TGT, 0x04000000), (Reg.INT_SRAM_BITS, 0x0100)])) (fun s => s.admits .qspi = true ∧ s.appOn = true ∧
      s.pmode = 10 ∧ s.fldR Reg.INT_SRAM_TGT 24 4 = 4 ∧ s.fldR Reg.INT_SRAM_TGT 0 21 < (arrayRow 4).size / 8 ∧
      s.fldR Reg.INT_SRAM_BITS 0 6 ≠ s.fldR Reg.INT_SRAM_BITS 8 6 ∧ (s.reg Reg.DRC_INJ_ADDR).toNat * 64 < s.usable ∧
      (s.regionAt ((s.reg Reg.DRC_INJ_ADDR).toNat * 64)).any (fun r => decide (r.kind = 3 ∨ r.kind = 4)) = false) ∧
    At (inMode 2 []) (fun s => s.admits .qspi = true ∧ s.appOn = true ∧ s.pmode ≠ 10) := by
  decide +kernel

theorem test_hyp_ProofAndDebug :
    At (mk (inMode 10 []) [(Reg.GNT_STATUS, 3)]) (fun s => s.pwr.good = true ∧ s.astate = 3 ∧ Initiator.qspi ≠ .gauntlet ∧ s.admits .qspi = true ∧
      Reaches s .qspi Reg.INT_TM_CTL ∧ s.pmode = 10 ∧ s.fuse.dbg = false ∧ Reaches s .qspi Reg.INT_DBG_LOCK ∧ bitOf 0xA501 0 = true ∧
      fld 0xA501 8 8 = 0xA5 ∧ s.fuse.dbgBusy = false) ∧
    At { inMode 2 [] with fuse := { dbgBusy := true } } (fun s => s.pwr.good = true ∧ s.astate ≠ 3 ∧ s.pmode ≠ 10 ∧ s.fuse.dbgBusy = true) := by
  decide +kernel

/-- A Gauntlet image's bytes: every source may send every command, group 0 holds zone 255, one message, one supervision entry. -/
def gimg : List Byte :=
  let b : List Byte := List.replicate 0x3000 0
  let put (b : List Byte) (o : Nat) (l : List Byte) : List Byte := b.take o ++ l ++ b.drop (o + l.length)
  put (put (put (put (put b 0 [1, 0, 0, 0, 1, 0]) 0x50 (((List.range 5).map fun _ => leBytes 4 0x703FE).flatten)) 0x60 [1]) 0x232F [0x80])
    0x2B20 [0, 0, 0, 0, 0, 0, 1, 0]

/-- A valid Gauntlet image is in use, in an alarm state. -/
def gnt (l : List (Nat × Word)) : State := { mk up ((Reg.GNT_STATUS, 0xC0) :: l) with gnt := { up.gnt with image := gimg } }

/-- A programme that a page sits on, in zone 255 at level 3. -/
def paged (rank : Nat) : State :=
  { gnt [] with gnt := { up.gnt with image := gimg, holders := [⟨255, 3, true, rank, 17, some (4, 3)⟩] } }

/-- A network command with a counter, and its tag or zeros. -/
def net (w0 w1 cnt : Word) (good : Bool) : State :=
  let s := gnt [(Reg.GNT_SMBX_STAT, 0x80000000), (Reg.GNT_SMBX 0, w0), (Reg.GNT_SMBX 1, w1), (Reg.GNT_SMBX 3, cnt)]
  let tag := (hmacSha256 ((gimg.drop 0x30).take 32) (leBytes 4 w0.toNat ++ leBytes 4 w1.toNat ++ leBytes 4 0 ++ leBytes 4 cnt.toNat)).take 16
  mk s ((List.range 4).map fun i => (Reg.GNT_SMBX (4 + i), if good then w32 (leAt tag (4 * i) 4) else 0))

theorem test_hyp_CommandRefusals :
    At (gnt []) (fun s => s.gnt.phase = 0 ∧ s.bitR Reg.GNT_STATUS 7 = true ∧
      bitOf (w32 (s.gim (0x50 + 4 * srcCode .contact))) 3 = true ∧ s.opAllowed 3 = false ∧ s.cmdCheck .contact [3, 0] = 5 ∧
      (3 : Word) &&& 0xF800 = 0 ∧ (0 : Word) &&& 0xFFC0E0C0 = 0) ∧
    CmdGiven (gnt []) 3 .contact 3 0 [3, 0] ∧
    At up (fun s => s.gnt.phase = 0 ∧ s.bitR Reg.GNT_STATUS 7 = false) ∧ CmdGiven up 1 .console 1 0 [1, 0] ∧
    At (mk up [(Reg.GNT_STATUS, 0x80)]) (fun s => s.gnt.phase = 0 ∧ s.bitR Reg.GNT_STATUS 7 = true ∧
      bitOf (w32 (s.gim (0x50 + 4 * srcCode .console))) 9 = false) ∧ CmdGiven (mk up [(Reg.GNT_STATUS, 0x80)]) 9 .console 9 0 [9, 0] ∧
    At (gnt [(Reg.GNT_HMBX_STAT, 0x80000000), (Reg.GNT_HMBX 0, 1), (Reg.GNT_HMBX 2, 1)]) (fun s => s.gnt.phase = 0 ∧
      nth (s.inboxWords false) 2 0 ≠ 0 ∧ s.cmdCheck .host (s.inboxWords false) = 6) ∧
    CmdGiven (gnt [(Reg.GNT_HMBX_STAT, 0x80000000), (Reg.GNT_HMBX 0, 1), (Reg.GNT_HMBX 2, 1)]) 1 .host 0 0
      ((gnt [(Reg.GNT_HMBX_STAT, 0x80000000), (Reg.GNT_HMBX 0, 1), (Reg.GNT_HMBX 2, 1)]).inboxWords false) ∧
    At (net 1 0 1 false) (fun s => s.gnt.phase = 0 ∧ s.tagOk (s.inboxWords true) = false ∧ s.cmdCheck .network (s.inboxWords true) = 3) ∧
    CmdGiven (net 1 0 1 false) 1 .network 0 0 ((net 1 0 1 false).inboxWords true) ∧
    At (net 1 0 0 true) (fun s => s.gnt.phase = 0 ∧ s.tagOk (s.inboxWords true) = true ∧
      (nth (s.inboxWords true) 3 0).toNat ≤ (s.reg Reg.GNT_NET_CNT).toNat ∧ s.cmdCheck .network (s.inboxWords true) = 4) ∧
    CmdGiven (net 1 0 0 true) 1 .network 0 0 ((net 1 0 0 true).inboxWords true) :=
  ⟨by decide +kernel, ⟨by decide, rfl⟩, by decide +kernel, ⟨by decide, rfl⟩, by decide +kernel, ⟨by decide, rfl⟩, by decide +kernel,
    ⟨by decide +kernel, by decide +kernel, rfl⟩, by decide +kernel, ⟨by decide +kernel, by decide +kernel, rfl⟩, by decide +kernel,
    ⟨by decide +kernel, by decide +kernel, rfl⟩⟩

/-- Zone 255 with a page over nothing at level 3 and a programme at level 2, in EVAC. -/
def heldTwo : State :=
  { gnt [(Reg.GNT_STATUS, 0xC2)] with gnt := { up.gnt with image := gimg, holders := [⟨255, 3, true, 1, 17, none⟩, ⟨255, 2, false, 3, 5, none⟩] } }

theorem test_hyp_AlarmAndPaging :
    (At (gnt []) (fun s => s.gnt.phase = 0 ∧ (byteAt s.gnt.image (0x2310 + 32 * fld 0x1F00 0 6 + 255 / 8)).testBit (255 % 8) = true ∧ s.gim (0xE0 + 16 * fld 0x1F00 8 5) % 8 = 0) ∧
      CmdPasses (gnt []) 1 .console 1 0x1F00 [1, 0x1F00] ∧ CmdPasses (gnt []) 2 .contact 2 0x1F00 [2, 0x1F00]) ∧
    (At heldTwo (fun s => s.gnt.phase = 0 ∧ HoldersOnce s ∧ s.holder 255 3 = some ⟨255, 3, true, 1, 17, none⟩ ∧
        s.holder 255 2 = some ⟨255, 2, false, 3, 5, none⟩ ∧ (s.holder 255 3).any (fun h => h.page && decide (srcRank .console < h.rank)) = false) ∧
      CmdPasses heldTwo 3 .console 3 0 [3, 0] ∧ CmdPasses heldTwo 5 .console 0x305 0 [0x305, 0]) :=
  ⟨⟨by decide +kernel, ⟨⟨by decide, rfl⟩, by decide +kernel⟩, ⟨by decide, rfl⟩, by decide +kernel⟩,
    ⟨by decide +kernel, ⟨⟨by decide, rfl⟩, by decide +kernel⟩, ⟨by decide, rfl⟩, by decide +kernel⟩⟩

theorem test_hyp_AlarmAndPaging_pages :
    (At (paged 1) (fun s => s.gnt.phase = 0 ∧ fld 0x110000 0 6 = 0 ∧
        (s.holder 255 3).any (fun h => decide (srcRank .console < h.rank)) = false ∧
        (s.holder 255 3).any (fun h => h.page && decide (srcRank .console < h.rank)) = false ∧ fld (0x304 : Word) 8 3 = 3 ∧
        s.holder 255 3 = some ⟨255, 3, true, 1, 17, some (4, 3)⟩) ∧
      CmdPasses (paged 1) 4 .console 0x304 0x110000 [0x304, 0x110000] ∧ CmdPasses (paged 1) 5 .console 0x305 0 [0x305, 0]) ∧
    (At (paged 4) (fun s => s.gnt.phase = 0 ∧ (s.holder 255 3).any (fun h => decide (srcRank .console < h.rank)) = true ∧
        (s.holder 255 3).any (fun h => h.page && decide (srcRank .console < h.rank)) = true) ∧
      CmdPasses (paged 4) 4 .console 0x304 0x110000 [0x304, 0x110000]) ∧
    (At (gnt []) (fun s => (s.holder 255 3).all (fun h => !h.page) = true) ∧ CmdPasses (gnt []) 5 .console 0x305 0 [0x305, 0]) :=
  ⟨⟨by decide +kernel, ⟨⟨by decide, rfl⟩, by decide +kernel⟩, ⟨by decide, rfl⟩, by decide +kernel⟩,
    ⟨by decide +kernel, ⟨by decide, rfl⟩, by decide +kernel⟩, ⟨by decide +kernel, ⟨by decide, rfl⟩, by decide +kernel⟩⟩

theorem test_hyp_MaintenanceAndResets :
    (At (gnt []) (fun s => s.gnt.phase = 0 ∧ s.astate ≠ 3 ∧ s.admits .qspi = true ∧ s.admits .gauntlet = true ∧ s.gnt.phase ≠ 1 ∧
        s.arrayBad 9 = false ∧ s.gnt.phase ≠ 2) ∧ CmdPasses (gnt []) 6 .console 6 0 [6, 0] ∧ CmdPasses (gnt []) 9 .console 9 0 [9, 0]) ∧
    (At (gnt [(Reg.GNT_STATUS, 0xC3)]) (fun s => s.gnt.phase = 0 ∧ s.astate = 3) ∧ CmdPasses (gnt [(Reg.GNT_STATUS, 0xC3)]) 7 .console 7 0 [7, 0]) ∧
    (At (gnt [(Reg.GNT_STATUS, 0xC4), (Reg.GNT_FAULTS, 0x1FF)]) (fun s => s.gnt.phase = 0 ∧ s.astate = 4) ∧
      CmdPasses (gnt [(Reg.GNT_STATUS, 0xC4), (Reg.GNT_FAULTS, 0x1FF)]) 8 .console 8 0 [8, 0]) ∧
    At { gnt [] with sramBad := [⟨9, 5, [1, 3], true⟩] } (fun s => s.gnt.phase ≠ 1 ∧ s.arrayBad 9 = true) ∧
    At { up with gnt := { up.gnt with phase := 1 } } (fun s => s.gnt.phase = 1 ∧ s.gnt.phase ≠ 0 ∧ s.bitR Reg.CLK_STATUS 9 = true) ∧
    At { up with gnt := { up.gnt with phase := 2 } } (fun s => s.gnt.phase = 2 ∧ s.gnt.seen = none ∧ s.gnt.wait = [] ∧ s.gnt.activate = false ∧
      s.gnt.powerOn = false) ∧
    At (gnt [(Reg.GNT_STATUS, 0xD0)]) (fun s => s.gnt.phase = 0 ∧ s.bitR Reg.GNT_STATUS 6 = true ∧ s.bitR Reg.GNT_STATUS 7 = true ∧
      s.bitR Reg.GNT_STATUS 4 = true) :=
  ⟨⟨by decide +kernel, ⟨⟨by decide, rfl⟩, by decide +kernel⟩, ⟨by decide, rfl⟩, by decide +kernel⟩,
    ⟨by decide +kernel, ⟨by decide, rfl⟩, by decide +kernel⟩, ⟨by decide +kernel, ⟨by decide, rfl⟩, by decide +kernel⟩,
    by decide +kernel, by decide +kernel, by decide +kernel, by decide +kernel⟩

/-- The debounced level that a sample gives input `k`. -/
def contactOn (s : State) (raw deb : BitVec 8) (k : Nat) : Bool :=
  let l := raw.toNat.testBit k != s.bitR Reg.GNT_ALM_CFG (24 + k)
  if s.fldR Reg.GNT_ALM_CFG 0 8 ≤ 1 ∨ deb.toNat.testBit k = l then l else nth s.gnt.deb k false

theorem test_hyp_Contacts :
    At (gnt [(Reg.GNT_ALM_CFG, 0xFF01)]) (fun s => s.gnt.phase = 0 ∧ s.mode.sleep ≠ 1 ∧ s.gnt.acted.length = 8 ∧ (∀ m, m < 4 → s.bitR Reg.GNT_ALM_CFG (16 + m) = false) ∧
      (∀ k, k < 8 → nth s.gnt.acted k false = contactOn s 0 0 k) ∧
      nth s.gnt.acted 0 false = !contactOn s 1 0 0 ∧ (∀ j, j < 8 → j ≠ 0 → nth s.gnt.acted j false = contactOn s 1 0 j) ∧
      fld (w32 (s.gim 0x60)) 0 8 ≠ 0 ∧ fld (w32 (s.gim 0x60)) 0 8 ≠ 9 ∧ nth s.gnt.acted 7 false = !contactOn s 0x80 0 7 ∧
      (∀ j, j < 8 → j ≠ 7 → nth s.gnt.acted j false = contactOn s 0x80 0 j) ∧ fld (w32 (s.gim 0xD0)) 0 8 = 0) ∧
    At { gnt [] with gnt := { (gnt []).gnt with image := gimg.set 0x60 9 } } (fun s => s.gnt.phase = 0 ∧ s.mode.sleep ≠ 1 ∧
      s.gnt.acted.length = 8 ∧ fld (w32 (s.gim 0x60)) 0 8 = 9) ∧
    At { gnt [(Reg.GNT_ALM_CFG, 0xFF01)] with mode := { sleep := 1 }, gnt := { (gnt []).gnt with acted := true :: List.replicate 7 false } } (fun s => s.gnt.phase = 0 ∧
      s.mode.sleep = 1 ∧ s.gnt.acted.length = 8 ∧ contactOn s 1 0 0 = true ∧ nth s.gnt.deb 0 false = false ∧
      (∀ m, m < 4 → s.bitR Reg.GNT_ALM_CFG (16 + m) = false) ∧ ∀ k, k < 8 → nth s.gnt.acted k false = contactOn s 1 0 k) ∧
    At { gnt [(Reg.GNT_ALM_CFG, 0x80080005)] with gnt := { (gnt []).gnt with deb := [false, true], acted := [false, true, false, false, false, false, false, false] } }
      (fun s => s.gnt.phase = 0 ∧ s.mode.sleep ≠ 1 ∧ s.gnt.acted.length = 8 ∧ (∀ i, i < 4 → s.bitR Reg.GNT_ALM_CFG (16 + i) = decide (i = 3)) ∧
      (∀ k, k < 8 → k / 2 ≠ 3 → nth s.gnt.acted k false = contactOn s 0x40 0xC2 k) ∧ contactOn s 0x40 0xC2 6 = contactOn s 0x40 0xC2 7 ∧
      contactOn s 0xC0 0x42 6 ≠ contactOn s 0xC0 0x42 7 ∧ nth s.gnt.acted 6 false = !contactOn s 0xC0 0x42 6 ∧
      (∀ k, k < 8 → k / 2 ≠ 3 → nth s.gnt.acted k false = contactOn s 0xC0 0x42 k) ∧
      contactOn s 0 0x82 6 ≠ contactOn s 0 0x82 7 ∧ nth s.gnt.acted 6 false = contactOn s 0 0x82 6 ∧
      (∀ k, k < 8 → k / 2 ≠ 3 → nth s.gnt.acted k false = contactOn s 0 0x82 k)) := by
  refine ⟨?_, ?_, ?_, ?_⟩ <;> decide +kernel

theorem test_hyp_Console_lines :
    words (ascii "RESET") = [verb "RESET"] ∧ words (ascii "TEST START") = [verb "TEST", verb "START"] ∧ words (ascii "ACK") = [verb "ACK"] ∧
    words (ascii "STATUS") = [verb "STATUS"] ∧ words (ascii "REC ERASE") = [verb "REC", verb "ERASE"] ∧
    (words (ascii "STOP")).headD [] ∉ ["ALERT", "EVAC", "RESET", "PAGE", "PAGE_END", "TEST", "ACK", "STATUS", "KEY", "REC", "CLAIM", "SNS",
      "SAI"].map verb ∧
    words (ascii "PAGE 63 7 5") = [verb "PAGE", verb "63", verb "7", verb "5"] ∧ decOf (verb "63") = some 63 ∧ decOf (verb "64") = some 64 ∧
    decOf (verb "x") = none ∧ words (ascii "SAI MS 23 1") = [verb "SAI", verb "MS", verb "23", verb "1"] ∧ decOf (verb "23") = some 23 ∧
    hexOf (verb "0x1C0") = some 0x1C0 ∧ numOf 16 (verb (String.ofList (List.replicate 64 'F'))) = some (2 ^ 256 - 1) ∧
    words (ascii "SNS 1C0 5") = [verb "SNS", verb "1C0", verb "5"] := by
  decide +kernel

theorem test_hyp_Console :
    At State.reset (fun s => s.gnt.phase ≠ 0) ∧
    At { keyed 2 none with fuse := { (keyed 2 none).fuse with gnt := [{ hash := some 5 }, {}] } } (fun s => s.gnt.phase = 0 ∧ s.astate = 0 ∧
      s.fuse.busy = none ∧ (nth s.fuse.gnt true.toNat {}).hash = none ∧ 80 < (List.replicate 81 (0 : Byte)).length) ∧
    At (keyed 2 none) (fun s => s.gnt.phase = 0 ∧ s.astate = 0 ∧ s.fuse.busy = none ∧ (nth s.fuse.gnt true.toNat {}).hash.isSome = true ∧
      (nth s.fuse.gnt true.toNat {}).revoked = false ∧ 1 < (s.fuse.gnt.filter fun x => x.hash.isSome && !x.revoked).length ∧ s.recSlots < 2 ∧
      (60 : BitVec 16).toNat ≤ 60 ∧ 60 < (61 : BitVec 16).toNat ∧ s.gntSide (0x900000 + (0x200 : BitVec 16).toNat) = false) ∧
    At (keyed 2 (some (.gnt 0 none))) (fun s => s.gnt.phase = 0 ∧ s.astate = 0 ∧ s.fuse.busy ≠ none) ∧
    At (mk up [(Reg.REC_SIZE, 2), (Reg.GNT_SNS_CLAIM, 3)]) (fun s => s.gnt.phase = 0 ∧ s.astate = 0 ∧ 2 ≤ s.recSlots ∧ s.log.searching = false ∧
      s.bitR Reg.GNT_SNS_CLAIM 1 = !(1 : BitVec 2).getLsbD 1 ∧ (0x1C0 : BitVec 16).toNat % 4 = 0 ∧
      s.gntSide (0x900000 + (0x1C0 : BitVec 16).toNat) = true ∧ 0x900000 + (0x1C0 : BitVec 16).toNat ≠ Reg.SNS_GRP_CTL 6 ∧
      0x900000 + (0x1C0 : BitVec 16).toNat ≠ Reg.SNS_GRP_CTL 7 ∧ 0x900000 + (0x1E4 : BitVec 16).toNat = Reg.SNS_GRP_CTL 7 ∧
      s.gntSide (0x900000 + (0x1E4 : BitVec 16).toNat) = true ∧ s.gntSide (0x900000 + (0x17FC : BitVec 16).toNat) = true ∧
      0x901000 ≤ 0x900000 + (0x17FC : BitVec 16).toNat ∧ s.lineBusy 63 = false ∧ s.bitR (Reg.SNS_LINE_CFG 63) 31 = false) ∧
    At (mk up [(Reg.GNT_STATUS, 1)]) (fun s => s.gnt.phase = 0 ∧ s.astate ≠ 0) := by
  decide +kernel

/-- Message 0 of two samples, and a player in a command. -/
def plays (x : PlayerSt) (left : Nat) : State :=
  (mk { gnt [] with gnt := { up.gnt with image := gimg, players := List.replicate 16 x } } [(Reg.GNT_PLY_STAT 15, w32 (2 ^ 31 + 65536 * left))]).putSram
    0x06D00000 ([0, 0, 0, 0, 2, 0, 0, 0] ++ leBytes 4 (crc32 [1, 2, 3, 4]) ++ [0xFF, 3, 0, 0])

theorem test_hyp_MessagesAndTones :
    At (plays {} 0) (fun s => s.gnt.players.length = 16 ∧ s.pwr.good = true ∧ s.playing 0 = false ∧ fld 0xFF0000 16 8 = 255 ∧
      (s.msg (fld 0xFF0000 0 10)).len ≠ 0 ∧ s.playable (fld 0xFF0000 0 10) = true ∧ fld 0 16 8 = 0 ∧ s.admits .qspi = true ∧
      s.playing 15 = true ∧ (s.player 15).gap = false ∧ s.playLeft 15 = 0 ∧ s.gnt.phase = 0 ∧ (0 : BitVec 10).toNat < s.msgCount ∧
      (0 : BitVec 10).toNat ∉ s.gnt.bad ∧ (s.sramBad.map fun b => (b.array, b.word)).Nodup ∧ (s.msg 0).ext = false ∧ (s.msg 0).start + 2 * (s.msg 0).len ≤ 0x400000 ∧
      crc32 (s.msgBytes 0) ≠ (s.msg 0).crc ∧ s.playable 1023 = true ∧ (s.msg 1023).len = 0 ∧ (s.player 15).pos = 0) ∧
    At { plays {} 0 with gnt := { (plays {} 0).gnt with bad := [0] } } (fun s => s.playing 0 = false ∧ (s.msg (fld 0xFF0000 0 10)).len ≠ 0 ∧
      s.playable (fld 0xFF0000 0 10) = false) ∧
    At { plays {} 0 with sramBad := [⟨3, 0, [1, 3], false⟩] } (fun s => (s.msgFlaw 0).isSome = true) ∧
    At ((plays { cmd := 0x01000000 } 255).putSram 0x06000000 [1, 2, 3, 4]) (fun s => s.playing 15 = true ∧ (s.player 15).gap = false ∧
      (s.player 15).stop = false ∧ s.playLeft 15 ≠ 0 ∧ fld (s.player 15).cmd 24 7 ≠ 0 ∧ s.sramBad = [] ∧ crc32 (s.msgBytes 0) = (s.msg 0).crc) ∧
    At (plays { gap := true } 1) (fun s => s.playing 15 = true ∧ (s.player 15).gap = true ∧ s.playable (fld (s.player 15).cmd 0 10) = true) ∧
    At (plays { pos := 1 } 1) (fun s => s.playing 15 = true ∧ (s.player 15).pos ≠ 0 ∧ (s.player 15).pos < s.playLen 15) ∧
    At (plays { pos := 2, stop := true } 1) (fun s => s.playing 15 = true ∧ s.playLen 15 ≤ (s.player 15).pos ∧ (s.player 15).stop = true) ∧
    At (plays {} 1) (fun s => s.playing 15 = true ∧ (s.player 15).stop = false ∧ s.playLeft 15 ≠ 0 ∧ fld (s.player 15).cmd 24 7 = 0) ∧
    At { plays { gap := true } 1 with gnt := { (plays { gap := true } 1).gnt with bad := [0] } } (fun s => s.playing 15 = true ∧
      (s.player 15).gap = true ∧ (s.player 15).pos = 0 ∧ s.playable (fld (s.player 15).cmd 0 10) = false) ∧
    At { (plays {} 0).putSram 0x06D0000E [1] with gnt := { (plays {} 0).gnt with extCopy := true } } (fun s => s.gnt.phase = 0 ∧
      (0 : BitVec 10).toNat < s.msgCount ∧ (s.msg 0).ext = true ∧ (0 : BitVec 10).toNat ∉ s.gnt.ext ∧ s.gnt.extCopy = true) := by
  refine ⟨?_, ?_, ?_, ?_, ?_, ?_, ?_, ?_, ?_, ?_⟩ <;> decide +kernel

/-- A MEMPLAN whose first region is the Gauntlet extension. -/
def memplan : Section := { ty := 4, crc := 0, body := [1] ++ List.replicate 19 0 ++ [1, 0, 0, 0, 3, 0, 0, 0, 0, 0, 0, 0] }

/-- The Gauntlet's tones, pilots and extension. -/
def tones (x : ToneSt) (p : PilotSt) (shape : Word) : State :=
  { ram (gnt [(Reg.GNT_TONE_SHAPE 3, shape)]) with
    cfg := { active := [memplan] }
    gnt := { up.gnt with image := gimg, tones := List.replicate 4 x, pilots := Store.set (fun _ => ({} : PilotSt)) [] 0 p } }

theorem test_hyp_MessagesAndTones_tones :
    At ((tones {} {} 0).putSram 0x06D0000E [1]) (fun s => s.gnt.tones.length = 4 ∧ Store.wf (fun _ => ({} : PilotSt)) s.gnt.pilots = true ∧
      s.pwr.good = true ∧ (s.tone 3).run = false ∧ s.admits .qspi = true ∧ s.gnt.phase = 0 ∧ s.dramReady = true ∧ (s.regionOf 3).isSome = true ∧
      s.gnt.ext = [] ∧ s.extMsgs ≠ [] ∧ s.bitR Reg.GNT_STATUS 7 = true) ∧
    At (mk (tones { run := true, stop := true, silent := true, t := 1 } { good := 0, fault := true } 0x01010000)
      [(Reg.SNS_PIL_LEVEL 0, 0x80000000), (Reg.GNT_PILOT_CTL, 0x100)]) (fun s => (s.tone 3).run = true ∧
      (s.tone 3).stop = true ∧ 0 < (s.cadence 3).1 ∧ 0 < (s.cadence 3).2 ∧ (s.tone 3).silent = true ∧ (0 : BitVec 7).toNat < gSups s.gnt.image ∧
      s.bitR (Reg.SNS_PIL_LEVEL (byteAt s.gnt.image (gSupOff s.gnt.image 0 + 2))) 31 = true ∧ 0 + 1 = max 1 (s.fldR Reg.GNT_PILOT_CTL 8 4) ∧
      ¬ ((256 * byteAt s.gnt.image (gSupOff s.gnt.image 0 + 6) : Int) < 10 *
        ((sfld (s.reg (Reg.SNS_PIL_LEVEL (byteAt s.gnt.image (gSupOff s.gnt.image 0 + 2)))) 0 16 -
          sext 16 (leAt s.gnt.image (gSupOff s.gnt.image 0 + 4) 2)).natAbs : Int))) ∧
    At (mk (tones { run := true, t := 1 } { bad := 0 } 0x01010000) [(Reg.GNT_PILOT_CTL, 0x100), (Reg.SNS_PIL_LEVEL 0, 0x80007FFF)]) (fun s =>
      (s.tone 3).run = true ∧ (s.tone 3).stop = false ∧ (s.tone 3).t % ((s.cadence 3).1 + (s.cadence 3).2) < (s.cadence 3).1 ∧
      (s.tone 3).t % ((s.cadence 3).1 + (s.cadence 3).2) ≠ 0 ∧ 0 + 1 = max 1 (s.fldR Reg.GNT_PILOT_CTL 8 4) ∧
      s.bitR (Reg.SNS_PIL_LEVEL (byteAt s.gnt.image (gSupOff s.gnt.image 0 + 2))) 31 = true ∧
      (256 * byteAt s.gnt.image (gSupOff s.gnt.image 0 + 6) : Int) < 10 *
        ((sfld (s.reg (Reg.SNS_PIL_LEVEL (byteAt s.gnt.image (gSupOff s.gnt.image 0 + 2)))) 0 16 -
          sext 16 (leAt s.gnt.image (gSupOff s.gnt.image 0 + 4) 2)).natAbs : Int)) ∧
    At (mk (tones { run := true, t := 480, phase := 5 } {} 0x01010000) [(Reg.GNT_TONE_F1 3, 16000)]) (fun s => (s.tone 3).run = true ∧
      (s.cadence 3).1 ≤ (s.tone 3).t % ((s.cadence 3).1 + (s.cadence 3).2) ∧ s.toneWrapped 3 = true) ∧
    At (tones { run := true, silent := true } {} 0x01010000) (fun s => 0 < (s.cadence 3).1 ∧ 0 < (s.cadence 3).2 ∧
      (s.tone 3).t % ((s.cadence 3).1 + (s.cadence 3).2) = 0) ∧
    At (tones { run := true, stop := true, t := 1 } {} 0) (fun s => (s.tone 3).run = true ∧ (s.tone 3).stop = true ∧ (s.tone 3).t ≠ 0 ∧
      ¬ (0 < (s.cadence 3).2 ∧ ((s.cadence 3).1 = 0 ∨ (s.tone 3).silent = true)) ∧ s.toneWrapped 3 = false) ∧
    At (mk (tones {} { inv := 13 } 0) [(Reg.GNT_PILOT_CTL, 0xF00)]) (fun s => 13 + 1 < max 1 (s.fldR Reg.GNT_PILOT_CTL 8 4) ∧
      s.bitR (Reg.SNS_PIL_LEVEL (byteAt s.gnt.image (gSupOff s.gnt.image 0 + 2))) 31 = false) ∧
    At (mk (tones {} { inv := 14 } 0) [(Reg.GNT_PILOT_CTL, 0xF00)]) (fun s => 14 + 1 = max 1 (s.fldR Reg.GNT_PILOT_CTL 8 4)) ∧
    At { (tones {} {} 0).putSram 0x06D0000E [1] with gnt := { (tones {} {} 0).gnt with extCopy := true } } (fun s =>
      s.gnt.extCopy = true ∧ (s.regionOf 3).isSome = true ∧ s.extMsgs ≠ []) ∧
    At (mk (tones {} {} 0) [(Reg.GNT_PILOT_CTL, 0xF00), (Reg.SNS_PIL_LEVEL 0, 0x80007FFF)]) (fun s => s.gnt.phase = 0 ∧
      0 + 1 < max 1 (s.fldR Reg.GNT_PILOT_CTL 8 4) ∧ s.bitR (Reg.SNS_PIL_LEVEL (byteAt s.gnt.image (gSupOff s.gnt.image 0 + 2))) 31 = true ∧
      (256 * byteAt s.gnt.image (gSupOff s.gnt.image 0 + 6) : Int) < 10 *
        ((sfld (s.reg (Reg.SNS_PIL_LEVEL (byteAt s.gnt.image (gSupOff s.gnt.image 0 + 2)))) 0 16 -
          sext 16 (leAt s.gnt.image (gSupOff s.gnt.image 0 + 4) 2)).natAbs : Int)) ∧
    At (mk (tones {} {} 0) [(Reg.GNT_PILOT_CTL, 0xF00), (Reg.SNS_PIL_LEVEL 0, 0x80000000)]) (fun s => s.gnt.phase = 0 ∧
      0 + 1 < max 1 (s.fldR Reg.GNT_PILOT_CTL 8 4) ∧
      ¬ ((256 * byteAt s.gnt.image (gSupOff s.gnt.image 0 + 6) : Int) < 10 *
        ((sfld (s.reg (Reg.SNS_PIL_LEVEL (byteAt s.gnt.image (gSupOff s.gnt.image 0 + 2)))) 0 16 -
          sext 16 (leAt s.gnt.image (gSupOff s.gnt.image 0 + 4) 2)).natAbs : Int))) := by
  refine ⟨?_, ?_, ?_, ?_, ?_, ?_, ?_, ?_, ?_, ?_, ?_⟩ <;> decide +kernel

/-- The TWIN section: pair 1, the heartbeat paths of a mask, YIELD_EN. -/
def twinSec (paths : Nat) : Section := { ty := 14, crc := 0, body := [1, 0, b8 paths] ++ List.replicate 11 0 ++ [1] ++ List.replicate 17 0 }

/-- A unit of a pair in a mode. -/
def pair (m paths : Nat) (l : List (Nat × Word)) (t : TwinSt) : State :=
  { inMode m l with cfg := { active := [{ ty := 3, crc := 0, body := [4] }, twinSec paths] }, twin := t }

/-- A frame of the partner: kind, flags, block. -/
def frame (kind flags blk : Nat) : List Byte := (pair 4 1 [] {}).twinFrame kind flags blk 0 []

theorem test_hyp_HeartbeatsAndTakeover :
    At up (fun s => s.reach Reg.TWN_CMD = true ∧ s.twinSect = none) ∧
    At (pair 4 3 [(Reg.TWN_STATUS, 0x204)] {}) (fun s => s.reach Reg.TWN_CMD = true ∧ s.hbPaths = [0, 1] ∧ s.isFrozen = true ∧
      (3 : BitVec 2).toNat ∉ s.hbPaths ∧ s.twinSect.isSome = true ∧ s.twinGood [] = false ∧ (1 : BitVec 2).toNat ∈ s.hbPaths ∧ s.bitR Reg.TWN_STATUS (8 + 1) = true ∧
      s.pmode ≠ 9 ∧ s.bitR Reg.TWN_STATUS (8 + 3) = false) ∧
    At (pair 4 15 [(Reg.MAC_STATUS 1, 1)] {}) (fun s => s.twinSect.isSome = true ∧ 2 + true.toNat ∈ s.hbPaths ∧ s.linkOn true.toNat = true) ∧
    At (pair 4 3 [] {}) (fun s => s.hbPaths = [0, 1] ∧ s.pmode ≠ 9 ∧ s.isFrozen = false ∧ s.twin.yield = none ∧ (0 : BitVec 2).toNat ∈ s.hbPaths ∧
      s.twinGood ((frame 5 1 7).take 32) = true ∧ byteAt (frame 5 1 7) 0 = 5 ∧ s.isDuty = false ∧ s.bitR Reg.TWN_STATUS 6 = false ∧
      byteAt (frame 4 1 7) 0 ≠ 5) ∧
    At (pair 9 3 [(Reg.TWN_STATUS, 0x118), (Reg.TWN_PARTNER, 1)] {}) (fun s => s.reach Reg.TWN_CMD = true ∧ s.pmode = 9 ∧ s.takingDuty = false ∧ 0 ∈ s.hbPaths ∧
      s.twinGood ((frame 5 2 7).take 32) = true ∧ byteAt (frame 5 2 7) 0 = 5 ∧ (byteAt (frame 5 2 7) 1).testBit 1 = true ∧
      s.twinGood (frame 4 0 7) = true ∧ byteAt (frame 4 0 7) 0 = 4 ∧ s.bitR Reg.TWN_STATUS 8 = true ∧ s.bitR Reg.TWN_PARTNER 0 = true ∧
      (∀ q ∈ s.hbPaths, q ≠ 0 → s.bitR Reg.TWN_STATUS (8 + q) = false) ∧ s.strap.seat = false ∧ 2 ≤ s.syncOf ∧ 4 ≤ s.activeMode ∧ s.activeMode ≤ 8) ∧
    At { pair 9 3 [(Reg.TWN_STATUS, 0x100), (Reg.TWN_PARTNER, 1)] { lost := [(1, 1)] } with strap := { seat := true } } (fun s =>
      s.pmode = 9 ∧ s.takingDuty = false ∧ s.strap.seat = true ∧ 0 ∈ s.hbPaths ∧ s.bitR Reg.TWN_STATUS 8 = true ∧ s.bitR Reg.TWN_PARTNER 0 = true ∧
      (∀ q ∈ s.hbPaths, q ≠ 0 → s.bitR Reg.TWN_STATUS (8 + q) = false) ∧ (∀ q ∈ s.hbPaths, q ≠ 0 → (q, s.now + 1) ∈ s.twin.lost) ∧ s.syncOf < 2) ∧
    At { pair 9 3 [(Reg.TWN_PARTNER, 1)] {} with strap := { seat := true } } (fun s => s.takingDuty = false ∧ s.strap.seat = true ∧ s.allLost = true ∧
      s.bitR Reg.TWN_PARTNER 0 = true) := by
  refine ⟨?_, ?_, ?_, ?_, ?_, ?_, ?_⟩ <;> decide +kernel

theorem test_hyp_YieldAndRecord :
    At { pair 4 3 [(Reg.TWN_STATUS, 0x102), (Reg.TWN_PARTNER, 0x10), (Reg.RND_BLK_STATUS, 1)] {} with blk := { n := 4, next := some 5 } } (fun s =>
      Reaches s .qspi Reg.TWN_CMD ∧ s.yieldMay = true ∧ s.isDuty = true ∧ s.running = true ∧ s.phase = 0 ∧ s.mode.stop = none ∧
      s.twin.yield = none ∧ s.fldR Reg.TWN_PARTNER 3 2 = 2) ∧
    At (pair 4 3 [] {}) (fun s => Reaches s .qspi Reg.TWN_CMD ∧ s.yieldMay = false ∧ s.isDuty = false ∧ s.pmode ≠ 9 ∧ s.follows = false) ∧
    At (pair 4 3 [(Reg.TWN_STATUS, 6)] { yield := some 0x100 }) (fun s => s.reach Reg.TWN_CMD = true ∧ s.twin.yield = some 0x100 ∧
      s.twin.silent = false ∧ s.twin.rampAt = none) ∧
    At (pair 9 3 [(Reg.TWN_STATUS, 0x8)] {}) (fun s => s.reach Reg.TWN_CMD = true ∧ s.pmode = 9 ∧ s.syncOf = 1 ∧ s.arrayBad 10 = false ∧
      s.twinGood [] = false ∧ s.twinGood (frame 1 0 7) = true ∧ byteAt (frame 1 0 7) 0 = 1 ∧ s.twin.lastC = none ∧
      (byteAt (frame 1 0 7) 1).testBit 1 = false ∧ (byteAt (frame 1 0 7) 1).testBit 0 = false ∧
      leAt (frame 1 0 7) 16 4 = (s.reg Reg.TWN_PLAN_CRC).toNat ∧ s.running = false ∧ s.blk.next = none ∧ s.twin.bulk = [] ∧
      s.twinGood (frame 2 0 7) = true ∧ byteAt (frame 2 0 7) 0 = 2 ∧ s.twin.lastA = none) ∧
    At (pair 9 3 [(Reg.TWN_STATUS, 0x10), (Reg.TWN_PLAN_CRC, 1)] { lastC := some 5, lastA := some 5, cWait := [8], aWait := [8] }) (fun s =>
      s.pmode = 9 ∧ s.syncOf = 2 ∧ s.arrayBad 10 = false ∧ s.twin.lastC = some 5 ∧ s.twin.lastA = some 5 ∧ leAt (frame 1 0 7) 4 6 ≠ 5 + 1 ∧
      leAt (frame 2 0 7) 4 6 ≠ 5 + 1 ∧ s.follows = true ∧ s.twin.cWait = [8] ∧ recLate s.twin.lastC 8 = false ∧ s.twin.aWait = [8] ∧
      recLate s.twin.lastA 8 = false) ∧
    At (pair 9 3 [(Reg.TWN_STATUS, 0x10), (Reg.TWN_PLAN_CRC, 1)] { cWait := [3], aWait := [3] }) (fun s => s.twin.lastC = none ∧
      s.follows = true ∧ leAt (frame 1 0 7) 16 4 ≠ (s.reg Reg.TWN_PLAN_CRC).toNat ∧ recLate s.twin.lastC 3 = true ∧ recLate s.twin.lastA 3 = true) := by
  refine ⟨?_, ?_, ?_, ?_, ?_, ?_⟩ <;> decide +kernel

theorem test_hyp_YieldAndRecord_tables :
    At (pair 9 3 [(Reg.TWN_STATUS, 0x8)] { bulk := [(0x06E80000, 1)], kept := [(6, [])] }) (fun s => s.pmode = 9 ∧ s.syncOf = 1 ∧ s.twin.bulk ≠ [] ∧
      s.arrayBad 10 = false ∧ (((s.twin.kept ++ [(7, (ctrlOf ((frame 1 0 7).drop 32) false).log)]).map fun (e : Nat × List (Nat × Word)) => 8 * e.2.length).foldl (· + ·) 0 : Nat) ≤ 262144) ∧
    At (pair 9 3 [(Reg.TWN_STATUS, 0x8)] { bulk := [(0x06E80000, 1)], kept := List.replicate 100 (6, List.replicate 400 (0, 0)) }) (fun s =>
      s.twin.bulk ≠ [] ∧ s.running = false ∧ s.blk.next = none ∧
      (262144 : Nat) < ((s.twin.kept ++ [(7, (ctrlOf ((frame 1 0 7).drop 32) false).log)]).map fun (e : Nat × List (Nat × Word)) => 8 * e.2.length).foldl (· + ·) 0) ∧
    At { pair 9 3 [(Reg.TWN_STATUS, 0x8)] {} with sramBad := [⟨10, 5, [1, 3], true⟩] } (fun s => s.pmode = 9 ∧ s.syncOf ≠ 0 ∧ s.arrayBad 10 = true) ∧
    At { pair 9 3 [(Reg.TWN_STATUS, 0x8), (Reg.RND_BLK_STATUS, 1)] { lastC := some 4 } with blk := { n := 9 } } (fun s => s.pmode = 9 ∧ s.syncOf = 1 ∧
      s.running = true ∧ lateAfter s.twin.lastC s.blk.n = true ∧ lateAfter s.twin.lastA s.blk.n = false) ∧
    At { pair 9 3 [(Reg.TWN_STATUS, 0x8), (Reg.RND_BLK_STATUS, 1)] { lastA := some 4 } with blk := { n := 9 } } (fun s => s.pmode = 9 ∧ s.syncOf = 1 ∧
      s.running = true ∧ lateAfter s.twin.lastA s.blk.n = true ∧ lateAfter s.twin.lastC s.blk.n = false) := by
  refine ⟨?_, ?_, ?_, ?_, ?_⟩ <;> decide +kernel

theorem test_hyp_SerialFrames :
    At (mk up [(Reg.SAI_CKB_CFG 21, 0x88000100), (Reg.SAI_CKA_CFG 0, 0x80000100), (Reg.SAI_AES_CFG 3, 0x80000000)]) (fun s => SaiWf s ∧
      (21 : BitVec 5).toNat < 22 ∧ s.reach (pairCfgReg 43) = true ∧ s.bitR (pairCfgReg 42) 31 = false ∧ s.bitR (pairCfgReg 43) 31 = true ∧
      s.bitR (pairStatReg 43) 0 = false ∧ s.running = false ∧ s.slaved 43 = true ∧ 255 ≠ s.fldR (pairCfgReg 43) 0 10 ∧
      256 = s.fldR (pairCfgReg 43) 0 10 ∧ s.reach 0x800000 = true ∧ s.bitR (pairCfgReg 48) 31 = false ∧ s.bitR (pairCfgReg 51) 31 = true ∧
      s.bitR (pairStatReg 51) 0 = false ∧ s.domOf 43 = 0 ∧ s.domOf 0 = 1 ∧ s.bitR (pairStatReg 0) 0 = false ∧ s.bitR (pairCfgReg 0) 31 = true ∧
      s.slaved 0 = true) ∧
    At (mk up [(Reg.SAI_CKB_CFG 21, 0xC8000100), (Reg.SAI_CKB_STAT 21, 1)]) (fun s => SaiWf s ∧ s.bitR (pairCfgReg 43) 31 = true ∧
      s.bitR (pairStatReg 43) 0 = true ∧ s.slaved 43 = false ∧ s.reach (pairCfgReg 47) = true) ∧
    At { mk up [(Reg.SAI_CKB_CFG 21, 0x88000100), (Reg.SAI_CKA_CFG 0, 0x80000100), (Reg.SAI_AES_CFG 3, 0x80000000),
        (Reg.SAI_CKA_PERIOD 0, 1005), (Reg.SAI_CKB_PERIOD 21, 1006), (Reg.SAI_AES_PERIOD 3, 994)] with
         sai := { pairs := [(0, { lockP := 1000 }), (43, { lockP := 1000 }), (51, { lockP := 1000 })] } } (fun s => SaiWf s ∧
      (s.pairSt 43).lockP < 200 * (((s.reg (pairPerReg 43)).toNat : Int) - ((s.pairSt 43).lockP : Int)).natAbs ∧
      (s.pairSt 51).lockP < 200 * (((s.reg (pairPerReg 51)).toNat : Int) - ((s.pairSt 51).lockP : Int)).natAbs ∧
      ¬ (s.pairSt 0).lockP < 200 * (((s.reg (pairPerReg 0)).toNat : Int) - ((s.pairSt 0).lockP : Int)).natAbs ∧
      s.domOf 43 = 0 ∧ s.domOf 51 ≠ 0 ∧ s.slaved 43 = true ∧ s.slaved 51 = true ∧ s.bitR (pairStatReg 43) 2 = false) ∧
    At { mk up [(Reg.SAI_CKB_STAT 21, 1), (Reg.SAI_CKA_STAT 0, 4)] with sai := { pairs := [(0, { good := 16 }), (43, { good := 15 })] } } (fun s =>
      SaiWf s ∧ s.bitR (pairStatReg 0) 2 = true ∧ 16 ≤ (s.pairSt 0).good ∧ (s.pairSt 43).good < 16) := by
  refine ⟨?_, ?_, ?_, ?_⟩ <;> decide +kernel

theorem test_hyp_SlotMasks :
    At { mk up [(Reg.SAI_LANE_CFG 87, 0xC0000010), (Reg.SAI_MASK_EFF 87, 0x40008000)] with
         sai := { lanes := [(87, { live := 0x8001, naCnt := List.replicate 8 4096 })] } } (fun s =>
      SaiWf s ∧ Reaches s .qspi (Reg.SAI_MASK 87) ∧ Reaches s .gauntlet (Reg.SAI_MASK 95) ∧ Reaches s .qspi (Reg.SAI_MASK 88) ∧
      Reaches s .qspi (Reg.SAI_MASK 96) ∧ s.reach 0x800000 = true ∧ s.bitR (Reg.SAI_MASK_EFF 87) (15 : BitVec 4).toNat = true ∧
      (s.laneSt 87).live.testBit (15 : BitVec 4).toNat =
        (s.laneEn 87 && decide ((15 : BitVec 4).toNat < s.laneSlots 87) && (s.laneSt 87).tgt.testBit (15 : BitVec 4).toNat) ∧
      (s.laneSt 87).csMute = false ∧ s.bitR (Reg.SAI_MASK_EFF 87) (16 + 2 * (7 : BitVec 3).toNat) = true ∧
      4096 ≤ nth (s.laneSt 87).naCnt (7 : BitVec 3).toNat 0 ∧
      s.bitR (Reg.SAI_MASK_EFF 87) (16 + 2 * (0 : BitVec 3).toNat) = false) ∧
    At { mk up [(Reg.SAI_LANE_CFG 87, 0xC0000010), (Reg.SAI_MASK_EFF 87, 0x40008001), (Reg.SAI_ZXTO, 4)] with
         sai := { lanes := [(87, { lastX := [0], naCnt := List.replicate 8 4095 })] } } (fun s =>
      (s.laneSt 87).live.testBit (0 : BitVec 4).toNat ≠
        (s.laneEn 87 && decide ((0 : BitVec 4).toNat < s.laneSlots 87) && (s.laneSt 87).tgt.testBit (0 : BitVec 4).toNat) ∧
      nth (s.laneSt 87).lastX 0 0 = 0 ∧ nth (s.laneSt 87).naCnt 7 0 < 4096) ∧
    At { mk up [(Reg.SAI_LANE_CFG 87, 0xC0000010), (Reg.SAI_MASK_EFF 87, 0x40008001), (Reg.SAI_ZXTO, 4)] with
         sai := { lanes := [(87, { live := 1, lastX := [5], cnt := [3] })] } } (fun s =>
      ¬ (nth (s.laneSt 87).lastX 0 0 = 0 ∨ s.fldR Reg.SAI_ZXTO 0 8 ≤ nth (s.laneSt 87).cnt 0 0)) ∧
    At { up with sai := { lanes := [(97, { naAcc := 0x10000, naCnt := List.replicate 8 4096 })] } } (fun s => SaiWf s ∧
      ((s.laneSt 97).naAcc / 2 ^ 16).testBit (2 * (0 : BitVec 3).toNat) = true ∧ (s.laneSt 97).csMute = false ∧
      4096 ≤ nth (s.laneSt 97).naCnt (0 : BitVec 3).toNat 0) := by
  refine ⟨?_, ?_, ?_, ?_⟩ <;> decide +kernel

theorem test_hyp_Sensing :
    At { mk up [(Reg.SNS_SYNC_CFG, 1), (Reg.GNT_SNS_CLAIM, 2), (Reg.SNS_GRP_CFG 5, 0x80000001), (Reg.SNS_COEF_ADDR, 286)] with
        sns := { pend := 0xA0 } } (fun s => Store.wf (fun _ => 0) s.sns.tau = true ∧ s.sns.pend.testBit 7 = true ∧ s.rootUp = true ∧
      s.reach Reg.SNS_CTL = true ∧ s.bitR Reg.SNS_SYNC_CFG 0 = true ∧ Reaches s .qspi Reg.SNS_CTL ∧
      bitOf (1 : Word) 0 = true ∧ Reaches s .qspi (Reg.SNS_GRP_CTL 7) ∧ s.claimed 7 = true ∧ s.claimed 5 = false ∧
      s.reach (Reg.SNS_GRP_CFG 5) = true ∧ s.bitR Reg.CLK_STATUS 4 = true ∧ s.sns.pend.testBit 5 = true ∧ s.sns.pend.testBit 0 = false ∧
      s.reach (Reg.SNS_CH_STAT 80) = true ∧ s.bitR (Reg.SNS_GRP_CFG (80 / 16)) 31 = true ∧ s.bitR (Reg.SNS_CH_STAT 80) 1 = false ∧
      Reaches s .qspi Reg.SNS_COEF_DATA ∧ s.fldR Reg.SNS_COEF_ADDR 0 9 = 286 ∧ s.running = false) ∧
    At { train 4 [(Reg.SNS_GRP_CFG 0, 0x80000003), (Reg.SNS_RING_DEPTH 0, 64), (Reg.SNS_PIL_LEVEL 0, 0x80010000), (Reg.SNS_LINE_CFG 0, 0x80000000),
        (Reg.SNS_LINE_HI 0, 0xFFFFFFFE)] with sns := { pil := [(1, { full := some (0, 0, false) })] } } (fun s => Store.wf (fun _ => 0) s.sns.gt = true ∧
      (Store.get (fun _ => ({} : PilWin)) s.sns.pil 1).full = some (0, 0, false) ∧ s.bitR (Reg.SNS_GRP_STAT 0) 3 = false ∧
      Store.wf (fun _ => ((0, 0) : Int × Int)) s.sns.amp = true ∧ Store.wf (fun _ => ((0, 0) : Nat × Nat)) s.sns.line = true ∧
      s.reach (Reg.SNS_GRP_CFG 0) = true ∧ s.running = true ∧ s.snsRing 0 = true ∧ s.blk.n ≠ 0 ∧ s.reach (Reg.SNS_PIL_LEVEL 1) = true ∧
      bitOf (s.reg (Reg.SNS_GRP_CFG 1)) 31 = false ∧ fld (s.reg (Reg.SNS_GRP_CFG 0)) 28 2 < 2 ∧ s.bitR (Reg.SNS_GRP_STAT 0) 3 = false ∧
      s.fldR (Reg.SNS_PIL_LEVEL 0) 16 15 = (s.fldR (Reg.SNS_PIL_LEVEL 1) 16 15 + 1) % 2 ^ 15 ∧ s.bitR (Reg.SNS_CH_STAT 1) 1 = false ∧
      s.bitR (Reg.SNS_PIL_LEVEL 0) 31 = true ∧ s.bitR (Reg.SNS_LINE_CFG 0) 31 = true ∧
      sfld (s.reg (Reg.SNS_LINE_VMIN 0)) 0 16 ≤ sfld (s.reg (Reg.SNS_PIL_LEVEL 0)) 0 16 ∧ (s.reg (Reg.SNS_LINE_HI 0)).toNat < 2 ^ 32 - 1 ∧
      s.bitR (Reg.SNS_LINE_STAT 0) 4 = false ∧
      max 1 (s.fldR (Reg.SNS_LINE_CFG 0) 16 4) ≤ (Store.get (fun _ => ((0, 0) : Nat × Nat)) s.sns.line 0).1 + 1 ∧
      s.sns.lcfg = [] ∧ s.sns.chain = []) ∧
    At { train 4 [(Reg.SNS_GRP_CFG 0, 0x80000003), (Reg.SNS_RING_DEPTH 0, 64), (Reg.SNS_PIL_LEVEL 0, 0x80010000), (Reg.SNS_LINE_CFG 0, 0x80030000),
        (Reg.SNS_LINE_HI 0, 0xFFFFFFFE)] with sns := { pil := [(1, { full := some (0, 0, false) })] } } (fun s =>
      s.sns.lcfg = [] ∧ (Store.get (fun _ => ((0, 0) : Nat × Nat)) s.sns.line 0).1 + 1 < max 1 (s.fldR (Reg.SNS_LINE_CFG 0) 16 4)) ∧
    At (train 0 [(Reg.SNS_GRP_CFG 0, 0x80000003), (Reg.SNS_RING_DEPTH 0, 64), (Reg.SNS_SYNC_CFG, 0)]) (fun s => s.reach (Reg.SNS_GRP_CFG 0) = true ∧
      s.running = true ∧ s.snsRing 0 = true ∧ s.blk.n = 0 ∧ s.bitR (Reg.SNS_GRP_CFG 1) 31 = false ∧
      s.bitR Reg.SNS_SYNC_CFG 0 = false ∧ s.reach (Reg.SNS_CH_STAT 16) = true ∧ s.reach Reg.SNS_CTL = true) ∧
    At { mk up [(Reg.SNS_GRP_CFG 0, 0x80000003), (Reg.SNS_GRP_CFG 1, 0x80000003), (Reg.SNS_GRP_STAT 1, 8), (Reg.SNS_PIL_LEVEL 0, 0x10000),
        (Reg.SNS_LINE_CFG 0, 0x80000000)] with
           sns := { pil := [(1, { full := some (5, 6, true) })] } } (fun s => s.running = false ∧ s.bitR (Reg.SNS_GRP_CFG 0) 31 = true ∧
      s.bitR (Reg.SNS_GRP_STAT 0) 3 = false ∧ (∀ e ∈ s.sns.cuts, e.1 ≠ 0) ∧ s.bitR (Reg.SNS_GRP_STAT 1) 3 = true ∧
      Store.get (fun _ => ({} : PilWin)) s.sns.pil 1 = { full := some (5, 6, true) } ∧ s.sns.lcfg = [] ∧ s.bitR (Reg.SNS_LINE_CFG 0) 31 = true ∧
      s.fldR (Reg.SNS_PIL_LEVEL 0) 16 15 = (s.fldR (Reg.SNS_PIL_LEVEL 1) 16 15 + 1) % 2 ^ 15) ∧
    At { mk up [(Reg.SNS_GRP_CFG 0, 0x80000003)] with
           sns := { chain := [(0, {}), (1, {})], pil := [(1, { full := some (5, 6, true) })], lcfg := [(0, [0x30000, 0, 0, 0, 0xFFFFFFFF, 0xE200])] } } (fun s =>
      (s.sns.chain.any fun p => decide (p.1 = 1)) = true ∧ (Store.get (fun _ => ({} : PilWin)) s.sns.pil 1).full = some (5, 6, true) ∧
      (Store.get (fun _ => ({} : PilWin)) s.sns.pil 0).full = none ∧ s.sns.lcfg = [(0, [Reg.SNS_LINE_CFG 0, Reg.SNS_LINE_VFS 0,
        Reg.SNS_LINE_IFS 0, Reg.SNS_LINE_LO 0, Reg.SNS_LINE_HI 0, Reg.SNS_LINE_VMIN 0].map s.reg)]) ∧
    At { mk up [(Reg.SNS_GRP_CFG 0, 0x80000003), (Reg.SNS_PIL_LEVEL 0, 0x10000)] with sns := { pil := [(1, { full := some (5, 6, true) })] } } (fun s =>
      (Store.get (fun _ => ({} : PilWin)) s.sns.pil 1).full = some (5, 6, true) ∧ bitOf (s.reg (Reg.SNS_GRP_CFG 0)) 31 = true ∧
      s.fldR (Reg.SNS_PIL_LEVEL 0) 16 15 = (s.fldR (Reg.SNS_PIL_LEVEL 1) 16 15 + 1) % 2 ^ 15 ∧ s.bitR (Reg.SNS_LINE_CFG 0) 31 = false ∧
      s.fldR (Reg.SNS_PIL_LEVEL 1) 16 15 ≠ (s.fldR (Reg.SNS_PIL_LEVEL 0) 16 15 + 1) % 2 ^ 15) := by
  refine ⟨?_, ?_, ?_, ?_, ?_, ?_, ?_⟩ <;> decide +kernel

/-- A measurement job: a sweep over one channel. -/
def job : List Byte :=
  [1, 0, 0, 1] ++ leBytes 4 160 ++ leBytes 4 368000 ++ leBytes 4 100 ++ [0, 0, 1, 0] ++ List.replicate 12 0 ++ leBytes 4 1024 ++ List.replicate 28 0

/-- The device in MEASURE with a request to start the job. -/
def meas (m : Nat) (addr : Word) (bytes : List Byte) (x : MeasSt) : State :=
  { ram (mb (inMode m [(Reg.SNS_GRP_CFG 0, 0x80000001), (Reg.SNS_RING_DEPTH 0, 64)]) 4 1 [addr]) with
    dram := Store.putBytes dramDef [] 64 bytes, meas := x }

theorem test_hyp_MeasurementJobs :
    At (meas 8 1 job {}) (fun s => s.reach Reg.SNS_MEAS_STAT = true ∧ Requested s 0 4 1 ∧ s.mbxArg 0 0 * 64 + 64 ≤ s.usable ∧ s.pmode = 8 ∧
      s.meas.phase = 0 ∧ s.jobBad (s.dramRead (s.mbxArg 0 0 * 64) 64 false).2.1 = false ∧ s.meas.phase ≠ 1 ∧ s.meas.phase ≠ 2 ∧ s.meas.phase ≠ 3) ∧
    At (meas 8 1 [] {}) (fun s => Requested s 0 4 1 ∧ s.jobBad (s.dramRead (s.mbxArg 0 0 * 64) 64 false).2.1 = true) ∧
    At (meas 4 29360127 [] {}) (fun s => Requested s 0 4 1 ∧ s.mbxArg 0 0 * 64 + 64 = s.usable ∧ s.pmode ≠ 8) ∧
    At (meas 8 29360128 [] { phase := 1 }) (fun s => Requested s 0 4 1 ∧ s.usable < s.mbxArg 0 0 * 64 + 64 ∧ s.meas.phase = 1) ∧
    At (meas 8 1 [] { phase := 2, job := job }) (fun s => Requested s 0 4 1 ∧ s.meas.phase ≠ 0 ∧ s.meas.phase = 2 ∧ 0 < byteAt s.meas.job 3 ∧
      (1 : BitVec 8).toNat.testBit 0 = true ∧ s.chFit 0 = true ∧ s.meas.unfit.testBit 0 = false ∧ (∀ i, i < byteAt s.meas.job 3 → (0 : BitVec 8).toNat.testBit i = true → s.chFit i = false)) ∧
    At (mk (meas 8 1 [] { phase := 3, job := job }) [(Reg.FIR_FST 0, 2)]) (fun s => s.meas.phase = 3 ∧ s.firFading (leAt s.meas.job 20 2) = true) ∧
    At (meas 8 1 [] { phase := 3, job := job }) (fun s => s.meas.phase = 3 ∧ s.firFading (leAt s.meas.job 20 2) = false ∧
      (bankOf s.reg (leAt s.meas.job 20 2) (1 - s.firSel (leAt s.meas.job 20 2))).start + leAt s.meas.job 40 2 ≤ 2621440 ∧
      s.bitR Reg.FIR_STATUS 24 = false ∧ ∀ k, k < leAt s.meas.job 40 2 →
        s.coefLive ((bankOf s.reg (leAt s.meas.job 20 2) (1 - s.firSel (leAt s.meas.job 20 2))).start + k) = false) ∧
    At { mk (meas 8 1 job {}) [(Reg.RND_BLK_STATUS, 1)] with blk := { n := 4, next := some 5 } } (fun s => Requested s 0 4 1 ∧ s.pmode = 8 ∧
      s.meas.phase = 0 ∧ s.running = true ∧ 0 < s.blk.b) ∧
    At (mb up 4 2 []) (fun s => Requested s 3 4 2) := by
  refine ⟨?_, ?_, ?_, ?_, ?_, ?_, ?_, ?_, ?_⟩ <;> decide +kernel

/-- Both Ethernet ports with the same registers and state, port 1's link on. -/
def eth (l : Nat → List (Nat × Word)) (x : MacPort) : State :=
  { mk up (l 0 ++ l 1) with mac := { ports := [x, x] } }

theorem test_hyp_EthernetPorts :
    At (eth (fun n => [(Reg.MAC_CTL n, 1), (Reg.MAC_FCS_CFG n, 0x00010002), (Reg.MAC_RING_SIZE n 3, 4), (Reg.MAC_RING_HEAD n 3, 2), (Reg.MAC_RING_TAIL n 3, 1)])
        { winErr := 2, tsRx := [⟨5, 15, 65535, false⟩] }) (fun s => MacWf s ∧
      s.reach (Reg.MAC_CTL 1) = true ∧ s.bitR (Reg.MAC_CTL 1) 0 = true ∧ s.linkOn 1 = false ∧
      Reaches s .qspi (Reg.MAC_RING_TAIL 1 3) ∧
      (s.ringHead 1 3 + s.ringLen 1 3 - s.ringTail 1 3) % s.ringLen 1 3 ≠ 0 ∧
      (s.ringHead 1 3 + s.ringLen 1 3 - s.ringTail 1 3) % s.ringLen 1 3 <
        ((3 : Word).toNat % 4096 % s.ringLen 1 3 + s.ringLen 1 3 - s.ringTail 1 3) % s.ringLen 1 3 ∧
      ((2 : Word).toNat % 4096 % s.ringLen 1 3 + s.ringLen 1 3 - s.ringTail 1 3) % s.ringLen 1 3 ≤
        (s.ringHead 1 3 + s.ringLen 1 3 - s.ringTail 1 3) % s.ringLen 1 3 ∧
      Reaches s .gauntlet (Reg.MAC_SNAP 1) ∧ Reaches s .qspi (Reg.MAC_TSQ_RX_LO 1) ∧ (s.macP 1).tsTx = [] ∧
      (s.macP 1).tsRx = [⟨5, 15, 65535, false⟩] ∧ s.reach (Reg.MAC_FCS_CFG 1) = true ∧ s.fldR (Reg.MAC_FCS_CFG 1) 16 16 ≠ 0 ∧
      s.fldR (Reg.MAC_FCS_CFG 1) 0 16 ≤ (s.macP 1).winErr) ∧
    At (eth (fun n => [(Reg.MAC_CTL n, 1), (Reg.MAC_STATUS n, 1), (Reg.MAC_FCS_CFG n, 0x00010003)]) { winErr := 2 }) (fun s => MacWf s ∧
      s.bitR (Reg.MAC_CTL 0) 0 = true ∧ s.fldR (Reg.MAC_FCS_CFG 0) 16 16 ≠ 0 ∧ (s.macP 0).winErr < s.fldR (Reg.MAC_FCS_CFG 0) 0 16 ∧
      s.linkOn 0 = true ∧ (s.ringHead 0 0 + s.ringLen 0 0 - s.ringTail 0 0) % s.ringLen 0 0 = 0) ∧
    At ((eth (fun n => [(Reg.MAC_CTL n, 1), (Reg.MAC_FCS_CFG n, 0x00010002)]) { winErr := 2, winAt := some 0 }).setTime 1000000) (fun s =>
      MacWf s ∧ s.reach (Reg.MAC_FCS_CFG 1) = true ∧ s.bitR (Reg.MAC_CTL 1) 0 = true ∧ fld (s.reg (Reg.MAC_FCS_CFG 1)) 16 16 * 1000000 ≠ 0 ∧
      ((s.macP 1).winAt).getD s.now + fld (s.reg (Reg.MAC_FCS_CFG 1)) 16 16 * 1000000 ≤ s.now ∧
      fld (s.reg (Reg.MAC_FCS_CFG 1)) 0 16 ≤ (s.macP 1).winErr) ∧
    At up (fun s => MacWf s ∧ s.reach (Reg.MAC_CTL 0) = true ∧ s.bitR (Reg.MAC_CTL 0) 0 = false) := by
  refine ⟨?_, ?_, ?_, ?_⟩ <;> decide +kernel

/-- The shortest frame to an address, with its FCS or a wrong one. -/
def frm (da : List Byte) (bad : Nat) : List Byte :=
  let f := da ++ List.replicate 54 0
  f ++ leBytes 4 (crc32 f + bad)

theorem test_hyp_EthernetFrames :
    At (eth (fun n => [(Reg.MAC_CTL n, 0x81), (Reg.MAC_STATUS n, 1), (Reg.MAC_RING_TAIL n 1, 2), (Reg.MAC_RING_TAIL n 2, 1)]) {}) (fun s =>
      MacWf s ∧ s.reach (Reg.MAC_CTL 1) = true ∧ s.bitR (Reg.MAC_CTL 1) 0 = true ∧ s.linkOn 1 = true ∧ 64 ≤ s.fldR (Reg.MAC_MAXLEN 1) 0 14 ∧
      (List.replicate 63 (0 : Byte)).length < 64 ∧ (frm [2, 0, 0, 0, 0, 1] 0).length = 64 ∧
      crc32 ((frm [2, 0, 0, 0, 0, 1] 0).take 60) = leNat ((frm [2, 0, 0, 0, 0, 1] 0).drop 60) ∧
      crc32 ((frm [2, 0, 0, 0, 0, 1] 1).take 60) ≠ leNat ((frm [2, 0, 0, 0, 0, 1] 1).drop 60) ∧ s.bitR (Reg.MAC_CTL 1) 4 = false ∧
      eventFrame ((frm [2, 0, 0, 0, 0, 1] 0).take 60) (parseFrame ((frm [2, 0, 0, 0, 0, 1] 0).take 60)) = false ∧
      s.frameTo 1 ((frm [2, 0, 0, 0, 0, 1] 0).take 60) (parseFrame ((frm [2, 0, 0, 0, 0, 1] 0).take 60)) = .filtered ∧
      s.frameTo 1 ((frm (List.replicate 6 255) 0).take 60) (parseFrame ((frm (List.replicate 6 255) 0).take 60)) = .ring 1 ∧
      s.bitR (Reg.MAC_CTL 1) 7 = true ∧ 1 < s.ringUsed 1 1 ∧ s.txRing 1 = some 2 ∧
      leAt (s.ringRead 2 (s.ringDesc 1 2 (s.ringHead 1 2)) 32).2 8 4 % 2 ^ 18 = 0) ∧
    At (eth (fun n => [(Reg.MAC_CTL n, 0x81), (Reg.MAC_STATUS n, 1), (Reg.MAC_RING_TAIL n 1, 1)]) {}) (fun s => MacWf s ∧
      s.frameTo 0 ((frm (List.replicate 6 255) 0).take 60) (parseFrame ((frm (List.replicate 6 255) 0).take 60)) = .ring 1 ∧
      s.ringUsed 0 1 ≤ 1 ∧ s.txRing 0 = none) ∧
    At up (fun s => MacWf s ∧ s.bitR (Reg.MAC_CTL 0) 0 = false ∧ s.linkOn 0 = false ∧ s.reach Reg.STR_CTL = true ∧
      Store.wf (fun _ => ({} : RxBuf)) s.mac.rx = true ∧ s.strOn (s.rxW 127 0) = false ∧ s.strOn (s.txW 127 0) = false) := by
  decide +kernel

/-- Transmit stream 127 on port 1 with packet 3 of one sample ready, and receive stream 127 on. -/
def pkt (m link : Nat) (smp : List (Nat × List Int)) : State :=
  { mk (inMode m [(Reg.MAC_STATUS 1, w32 link), (Reg.STR_CTL, 1)]) [(Reg.STR_RX 127 0, 0x80000001), (Reg.STR_TX 127 0, 0xC0000001)] with
    mac := { tx := [(127, { smp := smp })] } }

/-- The samples of packet 3. -/
def smp3 (s : State) : List (Nat × List Int) := (List.range (streamP (s.txW 127 0))).map fun i => (3 * streamP (s.txW 127 0) + i, [1])

theorem test_hyp_EthernetFrames_streams :
    At (pkt 4 1 (smp3 (pkt 4 1 []))) (fun s => MacWf s ∧ s.reach Reg.STR_CTL = true ∧ Store.wf (fun _ => ({} : RxBuf)) s.mac.rx = true ∧
      s.strOn (s.rxW 127 0) = true ∧ s.strOn (s.txW 127 0) = true ∧ strRate (s.txW 127 0) = s.blk.fr ∧ bitOf (s.txW 127 0) 30 = true ∧
      (s.packetSamples 127 3).2.isSome = true ∧ (s.packetSamples 127 4).2 = none ∧ s.pmode ≠ 9 ∧ s.twin.silent = false ∧ s.linkOn 1 = true) ∧
    At ((pkt 4 1 []).setTime 10000000) (fun s => MacWf s ∧ Store.wf (fun _ => ({} : RxBuf)) s.mac.rx = true ∧ s.reach Reg.STR_CTL = true ∧
      s.strOn (s.rxW 127 0) = true ∧ (s.rxBuf 127).seen + 10000000 ≤ s.now) ∧
    At (pkt 4 0 (smp3 (pkt 4 1 []))) (fun s => MacWf s ∧ s.strOn (s.txW 127 0) = true ∧ (s.packetSamples 127 3).2.isSome = true ∧ s.pmode ≠ 9 ∧
      s.twin.silent = false ∧ s.linkOn 1 = false) ∧
    At (pkt 9 1 (smp3 (pkt 4 1 []))) (fun s => MacWf s ∧ s.strOn (s.txW 127 0) = true ∧ strRate (s.txW 127 0) = s.blk.fr ∧
      (s.packetSamples 127 3).2.isSome = true ∧ s.pmode = 9) := by
  decide +kernel

/-- Port 5 in a state, the fabric enabled. -/
def prt (st : Nat) (l : List (Nat × Word)) (x : BvlPort) (inbox : List (List Byte)) : State :=
  { mk up ([(Reg.BVL_CTL, 1), (Reg.PORT_CTL 5, 1), (Reg.PORT_STAT 5, w32 st)] ++ l) with
    bvl := { ports := [{}, {}, {}, {}, {}, x], inbox := inbox.map fun f => ⟨5, f⟩ } }

/-- A flit with its sequence number and CRC. -/
def flt (kind seq : Nat) (pay : List Byte) (bad : Nat) : List Byte :=
  let f := patch (mkFlit kind 1 0 0x2A 0 0 pay) 3 [b8 seq]
  f ++ leBytes 4 (crc32 f + bad)

theorem test_hyp_FabricPorts :
    At (prt 0 [] {} []) (fun s => BvlWf s ∧ s.reach (Reg.PORT_CTL 5) = true ∧ s.portEn 5 = true ∧ s.portState 5 = 0 ∧ (s.bvlP 5).wait = false ∧
      s.takeFlit 5 1 = none ∧ s.portState 5 < 2) ∧
    At (prt 0 [] { wait := true } []) (fun s => BvlWf s ∧ s.portEn 5 = true ∧ s.portState 5 = 0 ∧ (s.bvlP 5).wait = true) ∧
    At (prt 1 [] {} []) (fun s => BvlWf s ∧ s.portState 5 = 1) ∧
    At (prt 2 [(Reg.BVL_NODE, 0xAA)] { good := 1 } [flt 1 0 [] 0]) (fun s => BvlWf s ∧ s.portState 5 = 2 ∧ s.portEn 5 = true ∧
      (s.takeFlit 5 1).map (·.2) = some (flt 1 0 [] 0) ∧ s.ownEntry = some (flitSrc (flt 1 0 [] 0))) ∧
    At (prt 2 [(Reg.BVL_NODE, 0xAB)] { good := 1 } [flt 1 0 [] 0]) (fun s => BvlWf s ∧ (s.takeFlit 5 1).map (·.2) = some (flt 1 0 [] 0) ∧
      s.ownEntry ≠ some (flitSrc (flt 1 0 [] 0)) ∧ (s.bvlP 5).good < 2) ∧
    At (prt 2 [] { good := 2 } [flt 1 0 [] 0]) (fun s => BvlWf s ∧ (s.takeFlit 5 1).map (·.2) = some (flt 1 0 [] 0) ∧
      s.ownEntry ≠ some (flitSrc (flt 1 0 [] 0)) ∧ 2 ≤ (s.bvlP 5).good) ∧
    At (prt 3 [] { seqRx := 255 } []) (fun s => BvlWf s ∧ s.portState 5 = 3 ∧ s.portState 5 ≠ 1 ∧ (flt 1 255 [] 0).length = 76 ∧
      crc32 ((flt 1 255 [] 0).take 72) = leNat ((flt 1 255 [] 0).drop 72) ∧ crc32 ((flt 1 255 [] 1).take 72) ≠ leNat ((flt 1 255 [] 1).drop 72) ∧
      crc32 ((flt 1 254 [] 0).take 72) = leNat ((flt 1 254 [] 0).drop 72) ∧ flitKind (flt 1 254 [] 0) ≠ 0 ∧
      byteAt (flt 1 254 [] 0) 3 ≠ (s.bvlP 5).seqRx ∧ flitKind (flt 1 255 [] 0) = 1 ∧ byteAt (flt 1 255 [] 0) 3 = (s.bvlP 5).seqRx ∧
      (s.bvlP 5).unacked = [] ∧ (s.bvlP 5).qa = [] ∧ (s.bvlP 5).qc = [] ∧ (s.bvlP 5).qb = []) ∧
    At { prt 3 [] {} [] with sramBad := [⟨11, 0, [1, 3], false⟩] } (fun s => BvlWf s ∧ s.portState 5 = 3 ∧ s.arrayBad 11 = true) ∧
    At (prt 3 [] { unacked := [flt 2 1 [] 0], rounds := 14 } []) (fun s => BvlWf s ∧ s.portState 5 = 3 ∧ (s.bvlP 5).unacked ≠ [] ∧ (s.bvlP 5).rounds < 15) ∧
    At (prt 3 [] { unacked := [flt 2 1 [] 0], rounds := 15 } []) (fun s => BvlWf s ∧ s.portState 5 = 3 ∧ (s.bvlP 5).unacked ≠ [] ∧ 15 ≤ (s.bvlP 5).rounds) := by
  refine ⟨?_, ?_, ?_, ?_, ?_, ?_, ?_, ?_, ?_, ?_⟩ <;> decide +kernel

theorem test_hyp_FabricTraffic :
    At (prt 3 [(Reg.BVL_CTL, 5), (Reg.CFG_STATUS, 8)] { vec := 3 :: List.replicate 127 15 } []) (fun s => BvlWf s ∧ s.reach Reg.BVL_CTL = true ∧
      s.bitR Reg.BVL_CTL 0 = true ∧ s.fldR Reg.BVL_CTL 1 2 = 2 ∧ s.bitR Reg.CFG_STATUS 3 = true ∧ s.bitR Reg.BVL_NODE 7 = false ∧ s.portsUp ≠ [] ∧
      s.freeNode = some 1 ∧ s.bitR Reg.BVL_NODE 8 = false ∧ s.mayTalk = false ∧ s.takeFlit 5 6 = none ∧ (s.bvlP 5).tsq = []) ∧
    At (prt 3 [(Reg.BVL_NODE, 0x81)] { tsq := [⟨5, 15, 65535, true⟩] } [flt 6 0 [] 0]) (fun s => BvlWf s ∧ s.reach (Reg.PORT_CTL 5) = true ∧
      s.portState 5 = 3 ∧ s.mayTalk = true ∧ (s.takeFlit 5 6).isSome = true ∧ (s.bvlP 5).tsq.length < 64 ∧ Reaches s .qspi (Reg.PORT_CTL 5) ∧
      (s.bvlP 5).tsq = [⟨5, 15, 65535, true⟩] ∧ s.bitR Reg.BVL_NODE 7 = true) ∧
    At { prt 3 [(Reg.BVL_CTL, 5), (Reg.CFG_STATUS, 8)] {} [] with bvl := { (prt 3 [] {} []).bvl with backoff := true } } (fun s => BvlWf s ∧
      s.bvl.backoff = true ∧ s.bitR Reg.BVL_CTL 0 = true ∧ s.fldR Reg.BVL_CTL 1 2 = 2 ∧ s.bitR Reg.CFG_STATUS 3 = true ∧
      s.bitR Reg.BVL_NODE 7 = false ∧ s.portsUp ≠ [] ∧ s.freeNode.isSome = true) ∧
    At { up with bvl := { up.bvl with backoff := true } } (fun s => BvlWf s ∧ s.reach Reg.BVL_CTL = true ∧ s.bvl.backoff = true ∧
      s.fldR Reg.BVL_CTL 1 2 ≠ 2) ∧
    At (prt 3 [(Reg.BVL_NODE, 0x181)] { tsq := List.replicate 64 ⟨5, 1, 1, true⟩ } [flt 6 0 [] 0]) (fun s => BvlWf s ∧ s.bitR Reg.BVL_NODE 8 = true ∧
      64 ≤ (s.bvlP 5).tsq.length) ∧
    At (prt 3 [(Reg.BVL_NODE, 0x81)] { tsq := List.replicate 64 ⟨5, 1, 1, true⟩ } [flt 6 0 [] 0]) (fun s => BvlWf s ∧ s.portState 5 = 3 ∧
      s.mayTalk = true ∧ (s.takeFlit 5 6).isSome = true ∧ 64 ≤ (s.bvlP 5).tsq.length) := by
  refine ⟨?_, ?_, ?_, ?_, ?_, ?_⟩ <;> decide +kernel

/-- A train with a fabric: object 511 subscribed to and published, channel 511 received. -/
def fab (m : Nat) (sub : Word) (inbox : List (List Byte)) : State :=
  { mk (train m [(Reg.BVL_CTL, 1), (Reg.BVL_NODE, 0x81), (Reg.PORT_CTL 5, 1), (Reg.PORT_STAT 5, 3)])
      [(Reg.BVL_SUB 511, sub), (Reg.BVL_RXCH 511, sub), (Reg.BVL_PUB 15, 0x80000000)] with
    bvl := { inbox := inbox.map fun f => ⟨5, f⟩ } }

theorem test_hyp_FabricTraffic_objects :
    At (fab 4 0x802A01FF [flt 2 0 [0xFF, 1, 0xEE, 0xEE] 0, flt 3 0 [0xFF, 1, 0xEE, 0xEE] 0]) (fun s => BvlWf s ∧
      Store.wf (fun _ => ({} : SubSt)) s.bvl.subs = true ∧ s.reach (Reg.PORT_CTL 5) = true ∧ s.takeFlit 0 2 = none ∧ s.takeFlit 0 3 = none ∧
      (s.takeFlit 5 2).map (·.2) = some (flt 2 0 [0xFF, 1, 0xEE, 0xEE] 0) ∧ s.subscribers 42 511 ≠ [] ∧ s.btagBlock 0xEEEE = none ∧
      (s.takeFlit 5 3).map (·.2) = some (flt 3 0 [0xFF, 1, 0xEE, 0xEE] 0) ∧ s.bitR (Reg.BVL_RXCH 511) 31 = true ∧
      s.fldR (Reg.BVL_RXCH 511) 16 6 = 42 ∧ s.fldR (Reg.BVL_RXCH 511) 0 9 = 511 ∧
      s.reach Reg.BVL_CTL = true ∧ s.running = true ∧ s.subscribed 511 = true ∧ s.pmode ≠ 9 ∧ s.blk.n ≠ 0 ∧ (s.blk.n - 1) ∉ (s.sub 511).done ∧
      s.bitR (Reg.BVL_PUB (511 / 32)) (511 % 32) = true ∧ s.bitR Reg.BVL_CTL 0 = true ∧ s.blk.b = 16 ∧ s.mayTalk = true ∧ s.portsUp = [5] ∧
      (s.bvlP 5).qa = [] ∧ (s.bvlP 5).qc = [] ∧ (s.bvlP 5).qb = [] ∧ (s.bvlP 5).unacked = [] ∧ (s.bvlP 5).hist = []) ∧
    At (fab 4 0 [flt 2 0 [0xFF, 1, 0xEE, 0xEE] 0, flt 3 0 [0xFF, 1, 0xEE, 0xEE] 0]) (fun s => (s.takeFlit 5 2).isSome = true ∧
      s.subscribers 42 511 = [] ∧ (s.takeFlit 5 3).isSome = true ∧ (∀ c, c < 512 → s.bitR (Reg.BVL_RXCH c) 31 = false) ∧ s.subscribed 511 = false) := by
  decide +kernel

/-- A fabric that admits requests of node 42, with request slot 3 in a state and a request done. -/
def rra (l : List (Nat × Word)) (inbox : List (List Byte)) (done : List (Nat × Nat × List Byte)) : State :=
  let s := prt 3 ([(Reg.BVL_NODE, 0x81)] ++ l) {} inbox
  { s with bvl := { s.bvl with rraDone := done } }

theorem test_hyp_RemoteAccess :
    At (rra [(Reg.BVL_ROUTE 63, 0x2525)] [flt 4 0 [0, 0, 0, 0, 0, 0, 0, 0, 0, 7] 0, flt 5 0 [0, 0, 0, 0, 1, 2, 3, 4, 0, 7] 0] []) (fun s => BvlWf s ∧
      Reaches s .qspi (Reg.BVL_RRA_CMD 3) ∧ s.bitR (Reg.BVL_RRA_STAT 3) 31 = false ∧ (s.routePort (2 * 63 + 1)).isSome = true ∧ s.mayTalk = true ∧
      s.reach (Reg.PORT_CTL 5) = true ∧ s.takeFlit 0 5 = none ∧ s.takeFlit 0 4 = none ∧
      (s.takeFlit 5 5).map (·.2) = some (flt 5 0 [0, 0, 0, 0, 1, 2, 3, 4, 0, 7] 0) ∧ (s.takeFlit 5 4).isSome = true ∧
      (s.bitR Reg.BVL_CTL 3 && s.bitR Reg.BVL_RRA_ALLOW_HI 10) = false ∧ s.reach (Reg.BVL_RRA_STAT 3) = true) ∧
    At (rra [(Reg.BVL_ROUTE 63, 7), (Reg.BVL_RRA_STAT 3, 0x80000700), (Reg.BVL_CTL, 9), (Reg.BVL_RRA_ALLOW_HI, 0x400)]
        [flt 4 0 [0, 0, 0, 0, 0, 0, 0, 0, 0, 7] 0, flt 5 0 [0, 0, 0, 0, 1, 2, 3, 4, 0, 7] 0] []) (fun s => BvlWf s ∧
      s.bitR (Reg.BVL_RRA_STAT 3) 31 = true ∧ s.bitR (Reg.BVL_RRA_STAT 2) 31 = false ∧ s.routePort (2 * 63 + 0) = none ∧
      (s.takeFlit 5 5).map (·.2) = some (flt 5 0 [0, 0, 0, 0, 1, 2, 3, 4, 0, 7] 0) ∧
      byteAt (flitPay (flt 5 0 [0, 0, 0, 0, 1, 2, 3, 4, 0, 7] 0)) 9 = 7 ∧ s.fldR (Reg.BVL_RRA_STAT (7 % 4)) 8 8 = 7 ∧
      byteAt (flitPay (flt 5 0 [0, 0, 0, 0, 1, 2, 3, 4, 0, 7] 0)) 8 % 16 = 0 ∧ nth s.bvl.rraWr (7 % 4) false = false ∧
      (s.takeFlit 5 4).map (·.2) = some (flt 4 0 [0, 0, 0, 0, 0, 0, 0, 0, 0, 7] 0) ∧ byteAt (flt 4 0 [0, 0, 0, 0, 0, 0, 0, 0, 0, 7] 0) 2 % 64 = 42 ∧
      (s.bitR Reg.BVL_CTL 3 && s.bitR (Reg.BVL_RRA_ALLOW_LO + 4 * (42 / 32)) (42 % 32)) = true ∧
      s.bvl.rraDone.find? (fun e => decide (e.1 = 42) && decide (e.2.1 = 3)) = none) ∧
    At (rra [(Reg.BVL_CTL, 9), (Reg.BVL_RRA_ALLOW_HI, 0x400)] [flt 4 0 [0, 0, 0, 0, 0, 0, 0, 0, 0, 7] 0] [(42, 3, [0, 0, 0, 0, 0, 0, 0, 0, 0, 7])]) (fun s =>
      BvlWf s ∧ (s.takeFlit 5 4).map (·.2) = some (flt 4 0 [0, 0, 0, 0, 0, 0, 0, 0, 0, 7] 0) ∧
      (s.bvl.rraDone.find? (fun e => decide (e.1 = 42) && decide (e.2.1 = 3))).map (fun e => byteAt e.2.2 9) = some 7) := by
  decide +kernel

/-- A recorded event. -/
def r1 : RecEntry := { total := 5, src := 3, code := 9, data := List.replicate 12 1, seq := 77 }

/-- A recorder in a state, with a next slot and a size. -/
def rcd (st nx sz : Word) (x : RecSt) (fl : List (Nat × Byte)) : State :=
  { mk up [(Reg.REC_STATUS, st), (Reg.REC_NEXT, nx), (Reg.REC_SIZE, sz), (Reg.REC_BASE, 2), (Reg.REC_SEQ, 0xFFFF)] with log := x, gflash := fl }

theorem test_hyp_Recorder :
    At (rcd 1 2 8 { opened := some r1, queue := [r1], tokens := 1 } []) (fun s => s.reg Reg.REC_MIR_BASE = 0 ∧ Reaches s .qspi Reg.REC_SUBMIT ∧
      bitOf (0x7FFFFFFF : Word) 31 = false ∧ bitOf (0x8000007F : Word) 31 = true ∧ fld (0x8000007F : Word) 0 8 < 0x80 ∧
      s.log.opened = some r1 ∧ s.recState = 1 ∧ s.log.queue.length < 64 ∧ s.recNext + 1 ≠ s.recSlots ∧
      r1.total + s.fldR Reg.REC_WINDOW 0 16 * 1000000 < 2 ^ 64 ∧ s.log.queue = [r1] ∧ s.log.searching = false ∧ s.log.erasing = false ∧
      s.log.lostRun = 0 ∧ s.recNext + 2 < s.recSlots ∧ padTo 32 r1.bytes = r1.bytes ∧ padTo 32 [] ≠ r1.bytes ∧ s.log.mism < 2 ∧
      Reaches s .qspi Reg.REC_RD_SLOT ∧ s.log.fetch = none) ∧
    At (rcd 1 2 8 { tokens := 1 } []) (fun s => s.reg Reg.REC_MIR_BASE = 0 ∧ bitOf (0x80000080 : Word) 31 = true ∧ 0x80 ≤ fld (0x80000080 : Word) 0 8 ∧
      0 < s.log.tokens ∧ s.log.pfw = false ∧ s.log.opened = none ∧ 0 < s.fldR Reg.REC_WINDOW 0 16 ∧ s.log.queue = []) ∧
    At (rcd 1 5 8 { queue := [r1], mism := 2, tokens := 0 } []) (fun s => s.reg Reg.REC_MIR_BASE = 0 ∧ s.log.tokens = 0 ∧ s.recState = 1 ∧
      s.recNext + 2 < s.recSlots ∧ s.log.queue = [r1] ∧ 2 ≤ s.log.mism ∧ padTo 32 [] ≠ r1.bytes) ∧
    At (rcd 2 7 8 { queue := [r1] } []) (fun s => s.reg Reg.REC_MIR_BASE = 0 ∧ s.recState = 2 ∧ s.log.queue = [r1] ∧ s.log.lostRun = 0) ∧
    At (rcd 0 0 4 { queue := [r1], searching := true, fetch := some 3 } [(2 * 64 + 63, 1)]) (fun s => s.reg Reg.REC_MIR_BASE = 0 ∧ s.log.searching = true ∧
      s.recUsed + 1 < s.recSlots ∧ s.log.fetch = some 3 ∧ 3 < s.recSlots) ∧
    At (rcd 0 0 2 { queue := [r1], searching := true, fetch := some 4 } [(2 * 64 + 63, 1)]) (fun s => s.reg Reg.REC_MIR_BASE = 0 ∧ s.log.searching = true ∧
      s.recUsed = s.recSlots ∧ s.log.fetch = some 4) ∧
    At (rcd 1 2 2 { queue := [r1], erasing := true } [(2 * 64 + 63, 1)]) (fun s => s.reg Reg.REC_MIR_BASE = 0 ∧ s.log.erasing = true ∧ 2 ≤ s.recSlots ∧
      s.log.searching = false) := by
  refine ⟨?_, ?_, ?_, ?_, ?_, ?_, ?_⟩ <;> decide +kernel

/-- The DRAM controller in a state. -/
def drm (l : List (Nat × Word)) (x : DrcSt) : State := { mk up l with drc := x }

theorem test_hyp_DramService :
    At (drm [(Reg.DRC_STATUS, 0x22), (Reg.DRC_DEBT, 0xE456)] {}) (fun s => s.refreshes = true ∧ s.debt (2 : BitVec 2).toNat - 0 + true.toNat ≤ 5 ∧
      6 ≤ s.debt (3 : BitVec 2).toNat - 0 + true.toNat ∧ s.debt (3 : BitVec 2).toNat - 0 + true.toNat ≤ 15 ∧ s.fldR Reg.DRC_STATUS 4 2 ≤ 2 ∧
      (∀ c ∈ [(6 : BitVec 3), 0, 3, 5], c ≠ 7) ∧ (7 : BitVec 3) ∈ [(6 : BitVec 3), 0, 3, 7] ∧ s.service ≠ 2 ∧ s.bitR Reg.DRC_STATUS 3 = false) ∧
    At (drm [(Reg.DRC_STATUS, 0x4C), (Reg.DRC_USABLE, 1792), (Reg.PWR_MODE_STATUS, 0x11)] { awake := true, lost := 1 }) (fun s => s.service = 2 ∧
      s.drc.awake = true ∧ s.bitR Reg.DRC_STATUS 3 = true ∧ s.pmode = 1 ∧ 0 < s.segSize) ∧
    At (drm [(Reg.DRC_TRN_STAT, 1), (Reg.DRC_TRN_CTL, 0x00030012)] { point := some (3, 2) }) (fun s => s.refreshes = false ∧
      Reaches s .qspi Reg.DRC_CMD ∧ s.pmode ≠ 10 ∧ Reaches s .qspi Reg.DRC_TRN_GO ∧ s.bitR Reg.DRC_TRN_STAT 0 = true ∧
      s.drc.point = some (3, 2) ∧ (3 : Nat) < 4 ∧ s.drc.retrain = false ∧ (s.pmode ≠ 1 ∨ s.phase ≠ 2)) ∧
    At (drm [(Reg.PWR_MODE_STATUS, 0xAA), (Reg.DRC_TRN_CTL, 0xFFFF0012)] { retrain := true }) (fun s => s.pmode = 10 ∧ s.bitR Reg.DRC_TRN_STAT 0 = false ∧
      s.fldR Reg.DRC_TRN_CTL 16 16 ≠ 0 ∧ s.drc.point = none ∧ s.drc.retrain = true ∧ (s.pmode ≠ 1 ∨ s.phase ≠ 2) ∧ Reaches s .service Reg.DRC_TRN_STAT) ∧
    At (drm [(Reg.PWR_MODE_STATUS, 0x211)] {}) (fun s => s.pmode = 1 ∧ s.phase = 2 ∧ s.service ≠ 1 ∧ s.fldR Reg.DRC_TRN_CTL 16 16 = 0 ∧
      Reaches s .service Reg.DRC_TRN_STAT) := by
  refine ⟨?_, ?_, ?_, ?_, ?_⟩ <;> decide +kernel


/-- A broadcast PTP frame, which the service processor takes. -/
def ptp : List Byte := List.replicate 6 255 ++ List.replicate 6 0 ++ [0x88, 0xF7, 8] ++ List.replicate 45 0

/-- A transmit descriptor in ring 2 of port 0: 60 bytes, no offload. -/
def txd (len : Nat) : State :=
  let s := eth (fun n => [(Reg.MAC_CTL n, 0x81), (Reg.MAC_STATUS n, 1), (Reg.MAC_RING_TAIL n 2, 1)]) {}
  s.putSram (svcAddr (s.ringDesc 0 2 0)) (List.replicate 8 0 ++ leBytes 4 len ++ List.replicate 20 0)

theorem test_hyp_EthernetFrames_paths :
    At (eth (fun n => [(Reg.MAC_CTL n, 0x11), (Reg.MAC_STATUS n, 1), (Reg.MAC_RING_TAIL n 3, 4)]) {}) (fun s => MacWf s ∧ s.bitR (Reg.MAC_CTL 1) 4 = true ∧
      s.arrayBad 8 = false ∧ eventFrame ptp (parseFrame ptp) = false ∧ s.frameTo 1 ptp (parseFrame ptp) = .ring 3 ∧ s.bitR (Reg.MAC_CTL 1) 7 = false) ∧
    At (eth (fun n => [(Reg.MAC_CTL n, 0x81), (Reg.MAC_STATUS n, 1), (Reg.MAC_RING_TAIL n 3, 4)]) {}) (fun s => s.bitR (Reg.MAC_CTL 1) 7 = true ∧
      s.frameTo 1 ptp (parseFrame ptp) = .ring 3 ∧ 1 < s.ringUsed 1 3) ∧
    At (ram (eth (fun n => [(Reg.MAC_CTL n, 0x81), (Reg.MAC_STATUS n, 1), (Reg.MAC_RING_TAIL n 1, 4)]) {})) (fun s => MacWf s ∧ DramPlain s ∧
      s.frameTo 1 ((frm (List.replicate 6 255) 0).take 60) (parseFrame ((frm (List.replicate 6 255) 0).take 60)) = .ring 1 ∧ 1 < s.ringUsed 1 1 ∧
      s.ringDesc 1 1 (s.ringHead 1 1) + 24 + 8 ≤ s.usable ∧ (s.dramDenied .engine (s.ringDesc 1 1 (s.ringHead 1 1) + 24)).isNone = true ∧
      s.bitR Reg.INT_INJ0 3 = false ∧ s.bitR Reg.INT_INJ0 4 = false) ∧
    At (txd 60) (fun s => MacWf s ∧ s.txRing 0 = some 2 ∧ s.linkOn 0 = true ∧
      (let r := s.ringRead 2 (s.ringDesc 0 2 (s.ringHead 0 2)) 32
       let f := (r.1.ringRead 2 (leAt r.2 0 8) (leAt r.2 8 4 % 2 ^ 18)).2
       s.txReject 0 r.2 f (parseFrame f) = none)) ∧
    At (txd 0) (fun s => s.txRing 0 = some 2 ∧
      (let r := s.ringRead 2 (s.ringDesc 0 2 (s.ringHead 0 2)) 32
       let f := (r.1.ringRead 2 (leAt r.2 0 8) (leAt r.2 8 4 % 2 ^ 18)).2
       (s.txReject 0 r.2 f (parseFrame f)).isSome = true)) := by
  refine ⟨?_, ?_, ?_, ?_, ?_⟩ <;> decide +kernel

/-- Packet 3 ready on the dispatcher's state `x`. -/
def job3 (x : SchSt) (link : Nat) : State := { pkt 4 link (smp3 (pkt 4 1 [])) with sch := x }

/-- The block of packet 3. -/
def blk3 : Nat := (pkt 4 1 []).packetBlk 127 3

theorem test_hyp_EthernetFrames_jobs :
    At (job3 { run := [⟨98, 1030, 0, 127, blk3, 0, none, []⟩] } 1) (fun s => (s.packetSamples 127 3).2.isSome = true ∧
      s.sch.run.find? (fun x => decide (97 ≤ x.slot) && decide (x.arg = 127) && decide (x.blk = s.packetBlk 127 3) && x.fin.isNone) =
        some ⟨98, 1030, 0, 127, blk3, 0, none, []⟩ ∧ s.linkOn (98 - 97) = true) ∧
    At (job3 { run := [⟨97, 1030, 0, 127, blk3, 0, none, []⟩] } 1) (fun s => (s.packetSamples 127 3).2.isSome = true ∧
      s.sch.run.find? (fun x => decide (97 ≤ x.slot) && decide (x.arg = 127) && decide (x.blk = s.packetBlk 127 3) && x.fin.isNone) =
        some ⟨97, 1030, 0, 127, blk3, 0, none, []⟩ ∧ s.linkOn (97 - 97) = false) ∧
    At (job3 { stopped := [(7, 127, blk3)] } 1) (fun s => (s.packetSamples 127 3).2.isSome = true ∧ s.pmode ≠ 9 ∧ s.twin.silent = false ∧
      s.sch.run = [] ∧ s.sch.stopped.contains (7, 127, s.packetBlk 127 3) = true) ∧
    At ((job3 { descs := [{ idx := 1030 }] } 1).putSram (descAddr 1030) ([7, 0, 0, 0] ++ leBytes 6 blk3 ++ List.replicate 18 0 ++ [1, 0, 127, 0])) (fun s =>
      (s.packetSamples 127 3).2.isSome = true ∧ s.sch.run = [] ∧ s.sch.stopped = [] ∧ s.jobWaits 7 127 (s.packetBlk 127 3) = true) ∧
    At (job3 {} 1) (fun s => s.sch.run = [] ∧ s.sch.stopped = [] ∧ s.jobWaits 7 127 (s.packetBlk 127 3) = false ∧ s.linkOn 1 = true) ∧
    At (job3 {} 0) (fun s => s.jobWaits 7 127 (s.packetBlk 127 3) = false ∧ s.linkOn 1 = false) ∧
    At { job3 {} 1 with twin := { silent := true } } (fun s => s.twin.silent = true ∧ (s.packetSamples 127 3).2.isSome = true ∧ s.pmode ≠ 9) := by
  refine ⟨?_, ?_, ?_, ?_, ?_, ?_, ?_⟩ <;> decide +kernel

/-- A flit of a kind with a sequence number, a destination entry, a TTL and a payload. -/
def flx (kind seq dst ttl : Nat) (pay : List Byte) : List Byte :=
  let f := patch (patch (patch (mkFlit kind 1 0 0x2A 0 0 pay) 1 [b8 (dst / 2)]) 3 [b8 seq]) 6 [b8 ttl]
  f ++ leBytes 4 (crc32 f)

theorem test_hyp_FabricPorts_links :
    At (prt 3 [] {} []) (fun s => s.portEn 5 = true ∧ LinkIdle s 5 ∧ s.arrayBad 11 = false) ∧
    At (prt 4 [(Reg.BVL_NODE, 0xAA)] {} [flt 1 0 [] 0]) (fun s => BvlWf s ∧ s.portState 5 = 4 ∧ (s.takeFlit 5 1).map (·.2) = some (flt 1 0 [] 0)) ∧
    At (prt 2 [] {} []) (fun s => s.portState 5 = 2 ∧ s.arrayBad 11 = false ∧ (flt 1 0 [] 0).length = 76 ∧ flitKind (flt 1 0 [] 0) = 1 ∧
      crc32 ((flt 1 0 [] 0).take 72) = leNat ((flt 1 0 [] 0).drop 72) ∧ flitKind (flt 2 0 [] 0) ≠ 1 ∧
      crc32 ((flt 2 0 [] 0).take 72) = leNat ((flt 2 0 [] 0).drop 72)) ∧
    At (prt 3 [(Reg.BVL_NODE, 0x81), (Reg.BVL_ROUTE 63, 0x4545)] {} []) (fun s => LinkIdle s 5 ∧ s.arrayBad 11 = false ∧ s.mayTalk = true ∧
      (flx 4 0 127 9 []).length = 76 ∧ crc32 ((flx 4 0 127 9 []).take 72) = leNat ((flx 4 0 127 9 []).drop 72) ∧ flitKind (flx 4 0 127 9 []) = 4 ∧
      byteAt (flx 4 0 127 9 []) 3 = (s.bvlP 5).seqRx ∧ flitBcast (flx 4 0 127 9 []) = false ∧ s.ownEntry ≠ some (flitDst (flx 4 0 127 9 [])) ∧
      s.routePort (flitDst (flx 4 0 127 9 [])) = some 5 ∧ 8 ≤ byteAt (flx 4 0 127 9 []) 6 % 16 ∧
      crc32 ((flx 4 0 127 3 []).take 72) = leNat ((flx 4 0 127 3 []).drop 72) ∧ byteAt (flx 4 0 127 3 []) 6 % 16 < 8 ∧
      s.ownEntry = some (flitDst (flx 4 0 2 3 [])) ∧ flitBcast (flx 4 0 2 3 []) = false ∧
      crc32 ((flx 4 0 2 3 []).take 72) = leNat ((flx 4 0 2 3 []).drop 72)) ∧
    At (prt 3 [] { seqTx := 7, unacked := [flt 2 6 [] 0] } []) (fun s => s.arrayBad 11 = false ∧
      byteAt (patch (flt 0 0 [] 0) 4 [7]) 4 = (s.bvlP 5).seqTx ∧ flitKind (patch (flt 0 0 [] 0) 4 [7]) = 0 ∧
      (byteAt (patch (flt 0 0 [] 0) 4 [7]) 0).testBit 6 = false ∧ (∀ u ∈ (s.bvlP 5).unacked, byteAt u 3 ≠ (s.bvlP 5).seqTx) ∧
      (s.bvlP 5).qa = [] ∧ (s.bvlP 5).qc = [] ∧ (s.bvlP 5).qb = []) := by
  refine ⟨?_, ?_, ?_, ?_, ?_⟩ <;> decide +kernel

theorem test_hyp_FabricTraffic_conflicts :
    At (prt 3 [(Reg.BVL_CTL, 5), (Reg.BVL_NODE, 0x81)] {} [flt 1 0 [] 0]) (fun s => BvlWf s ∧ s.reach (Reg.PORT_CTL 5) = true ∧ s.portState 5 = 3 ∧
      (s.takeFlit 5 1).map (·.2) = some (flt 1 0 [] 0) ∧ s.ownEntry = some 2 ∧
      byteAt (((flt 1 0 [] 0).drop 8).take 64) (2 / 2) / (if 2 % 2 = 0 then 1 else 16) % 16 ≤ 8 ∧ s.fldR Reg.BVL_CTL 1 2 = 2) ∧
    At (prt 3 [(Reg.BVL_CTL, 1), (Reg.BVL_NODE, 0x81)] {} [flt 1 0 [] 0]) (fun s => (s.takeFlit 5 1).map (·.2) = some (flt 1 0 [] 0) ∧
      s.ownEntry = some 2 ∧ s.fldR Reg.BVL_CTL 1 2 ≠ 2 ∧ s.bitR Reg.BVL_NODE 8 = false ∧ s.mayTalk = true ∧ LinkIdle s 5 ∧
      (s.bvlP 5).tsq.length < 64) := by
  refine ⟨?_, ?_⟩ <;> decide +kernel

/-- The BTAG of block 4. -/
def tag4 : List Byte := leBytes 2 ((fab 4 0 []).btag 4)

/-- Object 511 subscribed to with a block done or not, in a mode, a flit of block 4 taken in. -/
def obj (m : Nat) (x : SubSt) : State :=
  let s := mk (fab 4 0x802A01FF [flt 2 0 ([0xFF, 1] ++ tag4) 0]) [(Reg.PWR_MODE_STATUS, w32 (17 * m))]
  { s with bvl := { s.bvl with subs := [(511, x)] } }

theorem test_hyp_FabricTraffic_blocks :
    At (obj 4 { last := 5 }) (fun s => BvlWf s ∧ Store.wf (fun _ => ({} : SubSt)) s.bvl.subs = true ∧ (s.takeFlit 5 2).map (·.2) = some (flt 2 0 ([0xFF, 1] ++ tag4) 0) ∧ s.pmode ≠ 9 ∧ s.twin.silent = false ∧
      s.subscribers (flitSrc (flt 2 0 ([0xFF, 1] ++ tag4) 0) / 2) 511 = [511] ∧ s.btagBlock (leNat tag4) = some 4 ∧ 4 ∉ (s.sub 511).missing ∧
      4 ∉ (s.sub 511).done ∧ s.blk.b = 16 ∧ byteAt (flt 2 0 ([0xFF, 1] ++ tag4) 0) 7 = 0 ∧ (∀ q ∈ (s.sub 511).parts, q.1 ≠ 4) ∧
      s.jobWaits 6 511 3 = false ∧ s.sch.stopped = [] ∧ s.portsUp = [5] ∧ LinkIdle s 5) ∧
    At (obj 4 { done := [4] }) (fun s => Store.wf (fun _ => ({} : SubSt)) s.bvl.subs = true ∧ 4 ∈ (s.sub 511).done ∧ 4 ∉ (s.sub 511).missing) ∧
    At (obj 9 { last := 5 }) (fun s => Store.wf (fun _ => ({} : SubSt)) s.bvl.subs = true ∧ s.pmode = 9 ∧ (s.takeFlit 5 2).isSome = true ∧ s.btagBlock (leNat tag4) = some 4) ∧
    At ({ fab 4 0 [] with sch := { descs := [{ idx := 1030 }] } }.putSram (descAddr 1030) ([6, 0, 0, 0] ++ leBytes 6 3 ++ List.replicate 18 0 ++
      [1, 0, 0xFF, 1])) (fun s => s.jobWaits 6 511 3 = true ∧ s.blk.n - 1 = 3 ∧ s.twin.silent = false ∧ s.sch.stopped = [] ∧
      s.bitR (Reg.BVL_PUB (511 / 32)) (511 % 32) = true) := by
  refine ⟨?_, ?_, ?_, ?_⟩ <;> decide +kernel

theorem test_hyp_RemoteAccess_links :
    At (rra [(Reg.BVL_ROUTE 63, 0x2525), (Reg.BVL_ROUTE 42, 0x0505)] [flt 4 0 [0, 0, 0, 0, 0, 0, 0, 0, 0, 7] 0] []) (fun s => BvlWf s ∧
      s.bitR (Reg.BVL_RRA_STAT 3) 31 = false ∧ s.mayTalk = true ∧ s.routePort (2 * 63 + true.toNat) = some 5 ∧ LinkIdle s 5 ∧
      s.routePort (flitSrc (flt 4 0 [0, 0, 0, 0, 0, 0, 0, 0, 0, 7] 0)) = some 5 ∧ (s.takeFlit 5 4).isSome = true) ∧
    At (rra [(Reg.BVL_CTL, 9), (Reg.BVL_RRA_ALLOW_HI, 0x400)] [flt 4 0 [0, 0, 0, 0, 0, 0, 0, 0, 0, 7] 0] [(42, 3, [0, 0, 0, 0, 0, 0, 0, 0, 0, 11])]) (fun s =>
      (s.bitR Reg.BVL_CTL 3 && s.bitR (Reg.BVL_RRA_ALLOW_LO + 4 * (42 / 32)) (42 % 32)) = true ∧
      ∀ e, s.bvl.rraDone.find? (fun e => decide (e.1 = 42) && decide (e.2.1 = 3)) = some e → byteAt e.2.2 9 ≠ 7) := by
  refine ⟨?_, ?_⟩
  · decide +kernel
  · exact ⟨by decide +kernel, by decide +kernel, fun e h => by cases h; decide⟩

/-- A recorder with a mirror in DRAM. -/
def mir (s : State) : State := mk (ram s) [(Reg.REC_MIR_BASE, 3)]

theorem test_hyp_Recorder_mirror :
    At (mir (rcd 1 2 8 { queue := [r1] } [])) (fun s => s.recState = 1 ∧ s.recNext + 2 < s.recSlots ∧ s.log.lostRun = 0 ∧ DramPlain s ∧
      s.bitR Reg.INT_INJ0 3 = false ∧ s.bitR Reg.INT_INJ0 4 = false ∧ 192 + 32 * s.recNext + 32 ≤ s.usable ∧ (s.reg Reg.REC_MIR_BASE).toNat = 3 ∧
      (s.dramDenied .recorder (192 + 32 * s.recNext)).isNone = true) ∧
    At (mir (rcd 0 0 4 { queue := [r1], searching := true } [(2 * 64 + 63, 1)])) (fun s => s.log.searching = true ∧ s.recUsed + 1 < s.recSlots ∧
      DramPlain s ∧ ∀ i, i < s.recUsed → 192 + 32 * i + 32 ≤ s.usable ∧ (s.dramDenied .recorder (192 + 32 * i)).isNone = true) ∧
    At (rcd 1 6 8 { queue := [r1, r1] } []) (fun s => s.drc.trained = false ∧ s.recState = 1 ∧ s.recNext + 2 = s.recSlots ∧ s.log.queue = [r1, r1]) ∧
    At (rcd 2 7 8 { queue := [r1, r1], tokens := 2, pfw := true, opened := some r1 } []) (fun s => s.recState = 2 ∧ 0 < s.log.tokens ∧
      s.log.pfw = true ∧ s.log.opened = some r1 ∧ s.log.searching = false ∧ s.log.erasing = false ∧ s.recState ≠ 1) ∧
    At (rcd 1 7 8 { opened := some r1, queue := List.replicate 64 r1 } []) (fun s => 64 ≤ s.log.queue.length) ∧
    At (rcd 1 7 1 { erasing := true } []) (fun s => s.log.erasing = true ∧ s.recSlots < 2) ∧
    At (mk (rcd 1 2 8 { tokens := 1, opened := some { src := 0x14, code := 0x80, win := 100, data := List.replicate 12 0 } } [])
        [(Reg.REC_SUB_DATA 0, 0)]) (fun s => s.log.pfw = false ∧ fld (0x80000080 : Word) 0 8 = 0x80 ∧ s.now < 0 + 100 ∧
      List.replicate 12 0 = ((List.range 3).flatMap fun i => leBytes 4 (s.reg (Reg.REC_SUB_DATA i)).toNat)) := by
  refine ⟨?_, ?_, ?_, ?_, ?_, ?_, ?_⟩ <;> decide +kernel

/-- A train with pair 0 of domain A and receiver 3 enabled, each in a state. -/
def frames (x : PairSt) : State :=
  { train 4 [(Reg.SAI_CKA_CFG 0, 0x80000100), (Reg.SAI_AES_CFG 3, 0x80000000)] with sai := { pairs := [(0, x), (51, x)] } }

theorem test_hyp_SerialFrames_running :
    At (frames { cur := { f := 1000 } }) (fun s => SaiWf s ∧ s.reach (pairCfgReg 0) = true ∧ s.running = true ∧ s.domOf 0 = 1 ∧
      (s.pairSt 0).pre = false ∧ (s.pairSt 0).halt = false ∧ bitOf (s.pairCfg 0) 31 = true ∧ s.bitR (pairStatReg 0) 0 = false ∧
      (s.pairSt 0).cur.blk = (s.pairSt 0).fs ∧ s.fmax 0 ≤ (s.pairSt 0).cur.f ∧ s.domOf 51 = 1 ∧ s.fmax 51 ≤ (s.pairSt 51).cur.f ∧
      s.reach 0x800000 = true ∧ s.bitR (pairCfgReg 51) 31 = true ∧ s.bitR (pairStatReg 51) 0 = false) ∧
    At (frames { cur := { f := 3 } }) (fun s => SaiWf s ∧ (s.pairSt 0).cur.blk = (s.pairSt 0).fs ∧ (s.pairSt 0).cur.f < s.fmax 0 ∧
      (s.pairSt 51).cur.f < s.fmax 51) ∧
    At (frames { halt := true }) (fun s => SaiWf s ∧ bitOf (s.pairCfg 0) 31 = true ∧ (s.pairSt 0).halt = true ∧ s.reach (pairCfgReg 48) = true) ∧
    At (mk (frames { good := 3 }) [(Reg.SAI_CKA_STAT 0, 1), (Reg.SAI_AES_STAT 3, 1)]) (fun s => s.bitR (pairStatReg 0) 0 = true ∧
      s.bitR (pairStatReg 0) 2 = false ∧ 256 = fld (s.pairCfg 0) 0 10 ∧ s.bitR (pairStatReg 51) 0 = true) := by
  refine ⟨?_, ?_, ?_, ?_⟩ <;> decide +kernel

/-! ## Ill-formed commands, one for each check -/

theorem test_wf_feed : (Instr.geometryDone 0).wf = true ∧ (Instr.firGdDone 383).wf = true ∧ (Instr.firGdDone 384).wf = false ∧
    (Instr.ovrApply 511).wf = false ∧ (Instr.trailSwitch true 384).wf = false ∧ (Instr.trailSwitch false 256).wf = false := by decide

theorem test_wf_addresses : (Instr.registerWrite .qspi 0x7FFFFFC 15 0).wf = true ∧ (Instr.registerWrite .qspi 0x7FFFFFD 15 0).wf = false ∧
    (Instr.rcRead .qspi 0x8000000).wf = false ∧ (Instr.sramWindowWrite .qspi 0x7000000 0).wf = false ∧
    (Instr.islandRegisterWrite .qspi 0x100380 0).wf = false ∧ (Instr.firDescriptorWrite .qspi 0x600000 0).wf = false ∧
    (Instr.commitWordWrite .qspi 0x6EF0400 0).wf = false ∧ (Instr.qspiRead 2 1 false).wf = false ∧ (Instr.qspiQread 1 1 false).wf = false := by decide

theorem test_wf_numbers : (Instr.muxHung 6).wf = false ∧ (Instr.itemTimeout 99).wf = false ∧ (Instr.retryTimeout 6).wf = false ∧
    (Instr.nonaudioRelease 100 0).wf = false ∧ (Instr.slotZeroCrossSwitch 96 0).wf = false ∧ (Instr.saiClockStop false 24 false false).wf = false ∧
    (Instr.saiClockRecover true 4 false).wf = false := by decide

theorem test_wf_slots : (Instr.mpy 0 true false 3 0 15).wf = false ∧ (Instr.macAcc 0 true false 2 0 15).wf = true ∧
    (Instr.extract 0 false 9 0 0 15).wf = false ∧ (Instr.extract 0 false 0x17 0 0 15).wf = false ∧ (Instr.extract 0 false 8 3 0 15).wf = false ∧
    (Instr.extract 0 false 0x18 2 0 15).wf = true := by decide

theorem test_wf_lengths : (Instr.consoleLine (List.replicate 81 0)).wf = false ∧ (Instr.consoleLine (List.replicate 80 0)).wf = true ∧
    (Instr.recProgramDone (List.replicate 31 0)).wf = false ∧ (Instr.testPointDone (List.replicate 26 0) 0).wf = false ∧
    (Instr.flitReceive 0 (List.replicate 75 0)).wf = false ∧ (Instr.macFrameReceive false [] 0).wf = false ∧
    (Instr.saiFrame 0 false 0 0 0 [] []).wf = false := by decide

/-! ## Words written out from the spec's encodings -/

/-- R196: MOP 3 (MPY), F = 0, S = 1, XA = 4, Q = 2, MASK = 0xF; MOP 8 (EXT), S = 1, SH = 2, RND = 1, Q = 3, MASK = 0xF. -/
theorem test_decode_mac (c : BitVec 5) :
    decodeMac c 0b0011_0_1_0100_10_1111_0000 = some (.mpy c false true 4 2 15) ∧
      decodeMac c 0b1000_0_1_00010_01_11_1111_0 = some (.extract c true 2 1 3 15) ∧
      decodeMac c 0b0001_1_0_0110_01_0011_0000 = some (.macAcc c true false 6 1 3) ∧ decodeMac c 0b1001_0_0_0000_00_0000_0000 = none := by
  decide +revert

/-- R200: AOP 1 (ADD), S = 1, D = 5, SA = 6, SB = 7; AOP 0x10 (LOOPB) to 0x7FF. -/
theorem test_decode_alu (c : BitVec 5) :
    decodeAlu c 0b00001_1_0101_0110_0111 = some (.addW c true 5 6 7) ∧ decodeAlu c 0b10000_00_11111111111 = some (.loopb c 0x7FF) ∧
      decodeAlu c 0b10111_00_00000000001 = some (.endTask c 1) ∧ decodeAlu c 0b11000_00_00000000000 = none := by
  decide +revert

/-- R203: MV 1 (LDW), X4, P1, M = 1; MV 5 (MVR); MV 6 (LIM). -/
theorem test_decode_am (c : BitVec 5) :
    decodeAm c false 0b001_0100_001_1_00 = some (.ldw c false 4 1 true) ∧ decodeAm c true 0b101_1111_111_010 = some (.mvr c true 15 7 2) ∧
      decodeAm c true 0b110_0001_100001 = some (.lim c true 1 0x21) ∧ decodeAm c false 0b111_0000_000000 = none := by
  decide +revert

/-- The printed words of R201's example. -/
theorem test_decode_word :
    decodeWord 3 0x352F00000000050C = [some (.ldw 3 false 4 1 true), some (.amNop 3 true), some (.aluNop 3), some (.mpy 3 false true 4 2 15)] := by
  decide

theorem test_table_words : decodeTableWord 64 0x352F00000000050C = none ∧ decodeTableWord 0 0 = none := ⟨rfl, rfl⟩

/-! ## Values that the spec prints -/

/-- R243: the CRC-32 of "123456789". -/
theorem test_crc32 : crc32 [0x31, 0x32, 0x33, 0x34, 0x35, 0x36, 0x37, 0x38, 0x39] = 0xCBF43926 := by decide +kernel

/-- R457: the CRC-16 of "123456789". -/
theorem test_crc16 : crc16 [0x31, 0x32, 0x33, 0x34, 0x35, 0x36, 0x37, 0x38, 0x39] = 0x29B1 := by decide +kernel

theorem test_reset_inv : State.reset.Inv := by decide

/-- R14, R527: after reset the mode is WAKE and the application side is held. -/
theorem test_reset_mode : State.reset.pmode = 1 ∧ State.reset.appOn = false := by decide

/-- A command in front of the queue runs: PFW_N falls. -/
theorem test_step_front : ∃ t, step { State.reset with pending := [.pfwFall, .pfwRise] } = .next t ∧ t.pending = [.pfwRise] := ⟨_, rfl, rfl⟩


end Sys2Proof.Tests
end

section
namespace Sys2Proof.Machine

/-! # The state after reset -/

/-- Settles O3: the store of registers lists nothing at reset, so that each reads its Reset column. -/
theorem resetState : Obligations.ResetState := by
  unfold Obligations.ResetState
  refine ⟨by decide, fun _ => rfl, ?_⟩
  decide

end Sys2Proof.Machine
end

section
/-!
# What the functions of the model keep

`Keep r s` (of the model's laws) says of two states that the invariant of `r` gives the invariant of `s`, and that they have
the same queue and the same straps. Below stands one such lemma for each function from which a step is built: a function's
body is a chain of functions that keep, of branches, of folds and of updates of parts of the state that the invariant does
not read (`Keep.frame`), so that a lemma's proof is this chain, in the function's own order. The registers, the memories
and the time counter change in few places alone: `setReg`, `putArray` and their like of the laws, the resets that clear a
range of cells, and the functions that move the counter (`putTime`, `tick`).
-/
namespace Sys2Proof.Machine

variable {r s t : State}

/-! ## The parts of the state that `Keep` does not speak of -/

/-- The invariant, the queue and the straps do not read the other parts of the state, and of the counters they read the
time counter's value and phase alone. -/
theorem Keep.frame (h : Keep r s)
    {shadowRegs out freeCtr log mode pwr clk blk fuse sramBad cfg trail gnt geo rnd fir mix cores sch drc sai sns meas
      mac bvl twin host} {tim : TimSt} (acc : tim.acc = s.tim.acc := by rfl) (phase : tim.phase = s.tim.phase := by rfl) :
    Keep r { s with
      shadowRegs, out, freeCtr, log, mode, pwr, clk, blk, fuse, sramBad, cfg, trail, gnt, geo, rnd, fir, mix, cores, sch
      drc, sai, sns, meas, mac, bvl, twin, host, tim } := by
  refine h.trans ⟨fun ⟨hr, hm, ht⟩ => ⟨hr, hm, ?_⟩, rfl, rfl⟩
  simpa only [State.timeWf, acc, phase] using ht

/-- The time counter takes a value in its range (R392). -/
theorem Keep.setTim (h : Keep r s) {x : TimSt} (hx : s.tim.phase < 3 → x.acc < 2 ^ 60 ∧ x.phase < 3) :
    Keep r { s with tim := x } := by
  refine h.trans ⟨fun ⟨hr, hm, ht⟩ => ⟨hr, hm, ?_⟩, rfl, rfl⟩
  simp only [State.timeWf, Bool.and_eq_true, decide_eq_true_eq] at ht ⊢
  exact hx ht.2

theorem Keep.clearRegs (h : Keep r s) (p : Nat → Bool) : Keep r { s with regs := Store.clear p s.regs } :=
  h.regs _ (Store.wf_clear _ _ _)

theorem Keep.clearSram (h : Keep r s) (p : Nat → Bool) : Keep r { s with sram := Store.clear p s.sram } :=
  h.sram _ (Store.wf_clear _ _ _)

theorem Keep.clearDram (h : Keep r s) (p : Nat → Bool) : Keep r { s with dram := Store.clear p s.dram } :=
  h.dram _ (Store.wf_clear _ _ _)

theorem Keep.clearGflash (h : Keep r s) (p : Nat → Bool) : Keep r { s with gflash := Store.clear p s.gflash } :=
  h.gflash _ (Store.wf_clear _ _ _)

/-! ## Branches and folds -/

theorem Keep.paired {β : Type} {b : β} (h : Keep r s) : Keep r (s, b).1 := h

theorem Keep.branch {c : Prop} [Decidable c] (h : Keep r s) (k : Keep r t) : Keep r (if c then s else t) :=
  Keep.ite (fun _ => h) fun _ => k

theorem Keep.branchFst {β : Type} {p q : State × β} {c : Prop} [Decidable c] (h : Keep r p.1) (k : Keep r q.1) :
    Keep r (if c then p else q).1 := by
  split
  · exact h
  · exact k

theorem Keep.fold {α : Type} {f : State → α → State} {l : List α} (h : Keep r s)
    (k : ∀ s a, Keep r s → Keep r (f s a)) :
    Keep r (l.foldl f s) := Keep.foldl k l h

theorem Keep.foldFst {α β : Type} {f : State × β → α → State × β} {l : List α} {p : State × β} (h : Keep r p.1)
    (k : ∀ p a, Keep r p.1 → Keep r (f p a).1) : Keep r (l.foldl f p).1 := Keep.foldlFst k l h

end Sys2Proof.Machine
end

section
-- The lemmas are many and short: one thread elaborates them within the memory limit.
set_option Elab.async false
/-!
# The functions of the model, in its order

Each part has the name of the model's file that it speaks of.
-/
namespace Sys2Proof.Machine

variable {r s t : State}

/-! ## Ops -/

theorem Keep.setFld {a lo n v} (h : Keep r s) : Keep r (s.setFld a lo n v) :=
  h.setReg _ _

theorem Keep.setBit {a i b} (h : Keep r s) : Keep r (s.setBit a i b) :=
  h.setFld

theorem Keep.evt {a i} (h : Keep r s) : Keep r (s.evt a i) :=
  h.setBit

theorem Keep.count {a k'} (h : Keep r s) : Keep r (s.count a k') :=
  h.setReg _ _

theorem Keep.countFld {a lo n k'} (h : Keep r s) : Keep r (s.countFld a lo n k') :=
  h.setFld

theorem Keep.draw (h : Keep r s) : Keep r s.draw :=
  h.frame

theorem putTime_acc_lt (t : Nat) : (t % 2 ^ 36) <<< 24 < 2 ^ 60 := by
  rw [Nat.shiftLeft_eq]
  omega

theorem Keep.putTime {t} (h : Keep r s) : Keep r (s.putTime t) := by
  unfold State.putTime
  refine Keep.setReg ?_ _ _
  refine h.setTim fun hp => ⟨?_, hp⟩
  dsimp only
  exact putTime_acc_lt t

theorem Keep.setTime {t} (h : Keep r s) : Keep r (s.setTime t) :=
  h.frame.putTime

theorem Keep.advanceTo {t} (h : Keep r s) : Keep r (s.advanceTo t) :=
  Keep.branch (h.putTime.when fun _ k => k.evt) h

theorem Keep.recLose (h : Keep r s) : Keep r s.recLose :=
  h.count.evt

theorem Keep.recSeq (h : Keep r s) : Keep r s.recSeq :=
  h.setReg _ _

theorem Keep.recFull (h : Keep r s) : Keep r s.recFull :=
  Keep.branch h.recSeq.setFld.evt.count.evt.frame h

theorem Keep.recCommit {r'} (h : Keep r s) : Keep r (s.recCommit r') :=
  Keep.branch (Keep.branch h.recSeq.frame.recFull h.recSeq.frame.recLose) h.recSeq.recLose

theorem Keep.recCommitOpen (h : Keep r s) : Keep r s.recCommitOpen := by
  unfold State.recCommitOpen
  extract_lets
  split
  · exact h
  · exact h.frame.recCommit

theorem Keep.recEvent {src code data submitted} (h : Keep r s) : Keep r (s.recEvent src code data submitted) := by
  unfold State.recEvent
  extract_lets _ _ _ openNew
  have hopenNew : ∀ x, Keep r x → Keep r (openNew x) := fun _ k => Keep.branch k.recCommit k.frame
  refine Keep.branch h.recLose ?_
  split
  · exact hopenNew _ h
  · extract_lets
    exact Keep.branch (Keep.branch h.frame.recCommit h.frame) <| hopenNew _ h.recCommitOpen

theorem Keep.note {src code data} (h : Keep r s) : Keep r (s.note src code data) :=
  h.recEvent

theorem Keep.detBit {d} (h : Keep r s) : Keep r (s.detBit d) :=
  Keep.branch h.evt h.evt

theorem Keep.raiseDet {d src data} (h : Keep r s) : Keep r (s.raiseDet d src data) :=
  h.detBit.note

theorem Keep.evtFirst {a i src code data} (h : Keep r s) : Keep r (s.evtFirst a i src code data) :=
  Keep.branch h h.evt.note

theorem Keep.setGntStatus {v} (h : Keep r s) : Keep r (s.setGntStatus v) :=
  (h.setReg _ _).when fun _ k => k.evt

theorem Keep.alarmSync (h : Keep r s) : Keep r s.alarmSync :=
  h.setBit.setBit

theorem Keep.fltSync (h : Keep r s) : Keep r s.fltSync :=
  h.setReg _ _

theorem Keep.setAstate {st srcCode op group prog} (h : Keep r s) : Keep r (s.setAstate st srcCode op group prog) :=
  Keep.branch h h.setGntStatus.note.alarmSync.fltSync

theorem Keep.gntFault {bit} (h : Keep r s) : Keep r (s.gntFault bit) :=
  Keep.fltSync <| Keep.branch h.setBit.setAstate h.setBit

theorem Keep.deny {ini a} (h : Keep r s) : Keep r (s.deny ini a) :=
  (h.count.setReg _ _).note

theorem Keep.appFault (h : Keep r s) : Keep r s.appFault :=
  h.gntFault

/-! ## Freeze -/

theorem Keep.twinNote {kind gap} (h : Keep r s) : Keep r (s.twinNote kind gap) :=
  h.note

theorem Keep.logWrite {a v} (h : Keep r s) : Keep r (s.logWrite a v) :=
  Keep.branch h.frame h

theorem Keep.gateTracked {f : State → State} {ini a v} (h : Keep r s) (k : ∀ x, Keep r x → Keep r (f x)) :
    Keep r (s.gateTracked ini a v f) :=
  Keep.branch (k _ h) <| Keep.branch h.count.evt <| Keep.branch h.count.frame <| k _ h

theorem Keep.writeTracked {f : State → State} {ini a v} (h : Keep r s) (k : ∀ x, Keep r x → Keep r (f x)) :
    KeepOut r (s.writeTracked ini a v f) :=
  KeepOut.access h fun _ k1 => k1.gateTracked k

theorem Keep.freeze {cause} (h : Keep r s) : Keep r (s.freeze cause) := by
  unfold State.freeze
  split
  rename_i t1 _ _ e
  have k : Keep r t1 := by
    refine Keep.pair e ?_
    split
    · exact h
    · exact h.draw
  extract_lets _ s2
  have hs2 : Keep r s2 := k.frame.setBit.evt
  exact hs2.emit.twinNote

theorem Keep.fatal {det} (h : Keep r s) : Keep r (s.fatal det) := by
  unfold State.fatal
  extract_lets
  refine Keep.branch h <| Keep.branch h.freeze ?_
  split
  · exact h
  · exact h.frame

/-! ## Sram -/

theorem Keep.raiseSram {b kind} (h : Keep r s) : Keep r (s.raiseSram b kind) := by
  unfold State.raiseSram
  extract_lets _ s1 _ s2
  have hs1 : Keep r s1 := h.draw
  have hs2 : Keep r s2 := hs1.setReg _ _
  exact Keep.branch hs2.detBit.count.evtFirst hs2.detBit.count.evt.note

theorem Keep.dropFlaw {b} (h : Keep r s) : Keep r (s.dropFlaw b) :=
  h.frame

theorem Keep.scrub1 {b} (h : Keep r s) : Keep r (s.scrub1 b) :=
  Keep.branch h.raiseSram h.dropFlaw.raiseSram

theorem Keep.scrub {a n} (h : Keep r s) : Keep r (s.scrub a n) :=
  Keep.branch h <| h.each fun _ _ k => k.scrub1

theorem Keep.arraySweep {c} (h : Keep r s) : Keep r (s.arraySweep c) :=
  Keep.branch h h.scrub.frame

theorem Keep.sramRead {a} (h : Keep r s) : Keep r (s.sramRead a).1 := by
  unfold State.sramRead
  split
  · exact h.scrub1
  · exact h

theorem Keep.corruptIfArmed {c w} (h : Keep r s) : Keep r (s.corruptIfArmed c w) := by
  unfold State.corruptIfArmed
  extract_lets
  split
  · exact h
  · exact h.frame.setBit

theorem Keep.putArray {a bs} (h : Keep r s) : Keep r (s.putArray a bs) := by
  unfold State.putArray
  extract_lets s1
  have hs1 : Keep r s1 := h.putSram _ _
  split
  · exact hs1
  · extract_lets _ _ s2
    have hs2 : Keep r s2 := Keep.branch hs1 hs1.frame
    exact Keep.branch hs2.corruptIfArmed hs2

theorem Keep.putWord {a v} (h : Keep r s) : Keep r (s.putWord a v) :=
  h.putArray

theorem Keep.sramHostWrite {a v} (h : Keep r s) : Keep r (s.sramHostWrite a v) := by
  unfold State.sramHostWrite
  extract_lets
  split
  · exact h
  · extract_lets s1
    have hs1 : Keep r s1 := by
      unfold s1
      split
      · exact h.setSw _ _
      · extract_lets
        exact Keep.branch (Keep.setSw (Keep.branch h.dropFlaw h) _ _) <|
          Keep.branch ((h.dropFlaw.putSram _ _).setSw _ _).raiseSram (h.scrub1.setSw _ _)
    exact hs1.corruptIfArmed

/-! ## Jobs -/

theorem Keep.dPut {d i bs} (h : Keep r s) : Keep r (s.dPut d i bs) :=
  h.putArray

theorem Keep.release {send : State → State} {cls code blk what} (h : Keep r s) (k : ∀ x, Keep r x → Keep r (send x)) :
    Keep r (s.release cls code blk what send) :=
  Keep.branch h <| Keep.branch h.frame <| k _ h

theorem Keep.twinJob {code blk frame} (h : Keep r s) : Keep r (s.twinJob code blk frame) :=
  h.release fun _ k => k.emit

/-! ## Graph -/

theorem Keep.mixKeep {m} (h : Keep r s) : Keep r (s.mixKeep m) :=
  Keep.branch h h.frame

theorem Keep.setMixLive {a v} (h : Keep r s) : Keep r (s.setMixLive a v) :=
  h.frame

theorem Keep.gainStart {n slot w} (h : Keep r s) : Keep r (s.gainStart n slot w) :=
  Keep.branch h <| Keep.frame <| Keep.branch h.draw h

theorem Keep.gainWords {n l} (h : Keep r s) : Keep r (s.gainWords n l) :=
  h.each fun _ _ k => k.gainStart

theorem Keep.gainsShow {n} (h : Keep r s) : Keep r (s.gainsShow n) :=
  Keep.frame <| h.each fun _ _ k => k.putWord

theorem Keep.gainsReset (h : Keep r s) : Keep r s.gainsReset :=
  (h.clearSram gainNow).frame.each fun _ _ k => k.putWord

theorem Keep.mixEvt {bit kind ix blk} (h : Keep r s) : Keep r (s.mixEvt bit kind ix blk) :=
  h.evtFirst

theorem Keep.brimFeed {f n x} (h : Keep r s) : Keep r (s.brimFeed f n x) := by
  unfold State.brimFeed
  extract_lets
  split
  extract_lets _ _ s1 s2
  have hs1 : Keep r s1 := h.frame
  have hs2 : Keep r s2 := hs1.putWord
  exact hs2.when fun _ k => k.count.mixEvt

/-! ## Dram -/

theorem Keep.selfRefresh {thermos} (h : Keep r s) : Keep r (s.selfRefresh thermos) :=
  (h.setFld.setBit.setReg _ _).setFld.frame

theorem Keep.dramLow (h : Keep r s) : Keep r s.dramLow :=
  Keep.branch h.selfRefresh.setFld h

theorem Keep.dramFull (h : Keep r s) : Keep r s.dramFull := by
  unfold State.dramFull
  extract_lets gone _ s1
  have hs1 : Keep r s1 := (h.clearDram gone).frame
  exact Keep.branch hs1.setFld.setBit.setBit.setBit h

theorem Keep.dramInitDone (h : Keep r s) : Keep r s.dramInitDone :=
  Keep.branch h.frame.setBit.setBit h

theorem Keep.dramGate {was} (h : Keep r s) : Keep r (s.dramGate was) :=
  Keep.branch h.dramLow <| Keep.branch h.dramFull h

theorem Keep.notReady (h : Keep r s) : Keep r s.notReady :=
  h.evt

theorem Keep.raiseDram {unit kind rt} (h : Keep r s) : Keep r (s.raiseDram unit kind rt) := by
  unfold State.raiseDram
  extract_lets _ _ s1 s2
  have hs1 : Keep r s1 := h.draw
  have hs2 : Keep r s2 := (hs1.detBit.count.setReg _ _).evt.note
  exact Keep.branch hs1.detBit.count.evtFirst <| hs2.when fun _ k => k.fatal

theorem Keep.dropUnit {u} (h : Keep r s) : Keep r (s.dropUnit u) :=
  h.frame

theorem Keep.dramWake (h : Keep r s) : Keep r s.dramWake :=
  Keep.branch h.frame h

theorem Keep.dramRead {a n rt} (h : Keep r s) : Keep r (s.dramRead a n rt).1 := by
  unfold State.dramRead
  extract_lets s1 _ _ s2 s3
  have hs1 : Keep r s1 := h.arraySweep
  have hs2 : Keep r s2 := hs1.dramWake
  have hs3 : Keep r s3 := hs2.each fun _ _ k => Keep.branch k.raiseDram k.dropUnit.raiseDram
  exact Keep.branchFst hs1.notReady <| Keep.branchFst hs1 <| Keep.branchFst hs1.evt <| Keep.branchFst hs2 hs3

/-- The state after a write that is denied. -/
theorem Keep.dramDenied {w a} (h : Keep r s) (e : s.dramDenied w a = some t) : Keep r t := by
  unfold State.dramDenied at e
  split at e
  · cases e
    exact h.evt
  · split at e
    · split at e
      · cases e
        exact h.count.evt
      · cases e
    · cases e

theorem Keep.corruptUnit {u} (h : Keep r s) : Keep r (s.corruptUnit u) := by
  unfold State.corruptUnit
  extract_lets go
  have hgo : ∀ x y z, Keep r x → Keep r (go x y z) := fun _ _ _ k => Keep.branch k.frame.setBit k
  exact Keep.branch (hgo _ _ _ <| hgo _ _ _ h) h

theorem Keep.dramWrite {w a bs} (h : Keep r s) : Keep r (s.dramWrite w a bs) := by
  unfold State.dramWrite
  extract_lets _ s1 _ _ s2 s3 s4
  have hs1 : Keep r s1 := h.arraySweep
  have hs2 : Keep r s2 := hs1.dramWake
  have hs3 : Keep r s3 := hs2.each fun _ _ k => Keep.branch k.dropUnit <|
    Keep.branch (k.putDram _ _).dropUnit.raiseDram k.dropUnit.raiseDram
  have hs4 : Keep r s4 := hs3.putDram _ _
  refine Keep.branch hs1 <| Keep.branch hs1.notReady <| Keep.branch hs1 <| Keep.branch hs1.evt ?_
  split
  · rename_i e
    exact hs1.dramDenied e
  · exact Keep.branch (Keep.branch hs4.corruptUnit hs4) hs4

theorem Keep.dramWriteParts {w a bs} (h : Keep r s) : Keep r (s.dramWriteParts w a bs) :=
  h.each fun _ _ k => k.dramWrite

/-! ## Geometry -/

theorem Keep.geoEvt {bit kind obj slot blk} (h : Keep r s) : Keep r (s.geoEvt bit kind obj slot blk) :=
  h.evt.note

theorem Keep.takeSnap {n} (h : Keep r s) : Keep r (s.takeSnap n) :=
  h.frame

theorem Keep.tableWrite {a v} (h : Keep r s) : Keep r (s.tableWrite a v) :=
  Keep.branch h <| Keep.branch h.logWrite.sramHostWrite.frame h.logWrite.sramHostWrite

theorem Keep.clearSeg {o slot} (h : Keep r s) : Keep r (s.clearSeg o slot) :=
  Keep.branch h.frame h.putWord

theorem Keep.geoObject {g acc o} (h : Keep r s) : Keep r (s.geoObject g acc o).1 := by
  unfold State.geoObject
  extract_lets _ _ _ _ _ _ _ _ _ _ s1 s2 s3 _ _ _ _ s4
  have hs1 : Keep r s1 := h.each fun _ _ k => k.clearSeg.count
  have hs2 : Keep r s2 := hs1.each fun _ _ k => k.clearSeg.count.geoEvt
  have hs3 : Keep r s3 := hs2.when fun _ k => k.count.geoEvt
  have hs4 : Keep r s4 := hs3.when fun _ k => k.count.geoEvt
  refine Keep.branchFst h ?_
  split
  rename_i t2 _ e
  have k : Keep r t2 := by
    refine Keep.pair e ?_
    split
    · exact hs4
    · exact hs4.draw
  split
  rename_i t4 _ e1
  have k1 : Keep r t4 := by
    refine Keep.pair e1 ?_
    split
    · exact k
    · exact k.draw
  extract_lets _ _ _ s5
  have hs5 : Keep r s5 := k1.frame
  exact hs5.putArray

/-! ## Lanes -/

theorem Keep.nearWrite {o n l} (h : Keep r s) : Keep r (s.nearWrite o n l) :=
  h.each fun _ _ k => k.putArray

theorem Keep.objWrite {o n l} (h : Keep r s) : Keep r (s.objWrite o n l) :=
  Keep.branch h <| Keep.branch h.nearWrite h.frame

theorem Keep.nearFlush (h : Keep r s) : Keep r s.nearFlush :=
  h.frame.each fun _ _ k => k.nearWrite

theorem Keep.mirrorWrite {o n} (h : Keep r s) : Keep r (s.mirrorWrite o n) :=
  h.each fun _ _ k1 => k1.scrub.dramWriteParts

theorem Keep.farSample {o t} (h : Keep r s) : Keep r (s.farSample o t).1 :=
  Keep.branchFst h h.dramRead

theorem Keep.farTap {o n far stop d0 d1 held} (h : Keep r s) : Keep r (s.farTap o n far stop d0 d1 held).1 := by
  unfold State.farTap
  refine Keep.branchFst h <| h.foldFst fun r1 t k => ?_
  extract_lets q
  have hq : Keep r q.1 := k.farSample
  split
  · exact k
  · exact Keep.branchFst k hq

theorem Keep.setCellX {key x} (h : Keep r s) : Keep r (s.setCellX key x) :=
  h.frame

theorem Keep.setCell {key d g far hop denied clamp} (h : Keep r s) : Keep r (s.setCell key d g far hop denied clamp) :=
  h.putArray

theorem Keep.rndEvt {bit kind obj feed blk} (h : Keep r s) : Keep r (s.rndEvt bit kind obj feed blk) :=
  h.evtFirst

theorem Keep.clampStart {c blk} (h : Keep r s) : Keep r (s.clampStart c blk) :=
  h.count.evt.raiseDet

theorem Keep.makePlan {tb} (h : Keep r s) : Keep r (s.makePlan tb) := by
  unfold State.makePlan
  extract_lets _ _ _ _ _ _ _ _ _ s1 s2 _ _ _ _ s3 _ s4 s5 _ _ _ _ _ _ _ _ _ _ _ s6 _ s7 _ s8 s9 s10 s11
  have hs1 : Keep r s1 := h.each fun _ _ k => k.clampStart
  have hs2 : Keep r s2 := hs1.setReg _ _
  have hs3 : Keep r s3 := hs2.count
  have hs4 : Keep r s4 := hs3.when fun _ k => k.rndEvt
  have hs5 : Keep r s5 := hs4.setReg _ _
  have hs6 : Keep r s6 := hs5.count
  have hs7 : Keep r s7 := hs6.when fun _ k => k.rndEvt
  have hs8 : Keep r s8 := hs7.setReg _ _
  have hs9 : Keep r s9 := hs8.setReg _ _
  have hs10 : Keep r s10 := hs9.fold fun _ _ k => k.setCellX
  have hs11 : Keep r s11 := hs10.count
  exact hs11.frame

theorem Keep.tryPlan (h : Keep r s) : Keep r s.tryPlan := by
  unfold State.tryPlan
  extract_lets
  split
  · exact h
  · split
    · exact h
    · exact h.frame.makePlan

theorem Keep.engineDone {p st} (h : Keep r s) : Keep r (s.engineDone p st) :=
  h.frame

theorem Keep.marginMin {a m} (h : Keep r s) : Keep r (s.marginMin a m) :=
  Keep.branch (h.setReg _ _) h

theorem Keep.tilesEnd {n} (h : Keep r s) : Keep r (s.tilesEnd n) := by
  unfold State.tilesEnd
  extract_lets s1 s2 _ s3
  have hs1 : Keep r s1 := h.when fun _ k => k.rndEvt
  have hs2 : Keep r s2 := hs1.when fun _ k => k.rndEvt
  have hs3 : Keep r s3 := hs2.frame
  exact hs3.nearFlush.tryPlan

theorem Keep.sendAudio {n} (h : Keep r s) : Keep r (s.sendAudio n) :=
  Keep.branch h.twinJob h

theorem Keep.farFetch {f} (h : Keep r s) : Keep r (s.farFetch f) := by
  unfold State.farFetch
  split
  · exact h
  · extract_lets
    refine h.each fun t c k => ?_
    extract_lets _ _ a b d
    have ha : Keep r a.1 := k.farTap
    have hb : Keep r b.1 := by
      unfold b
      split
      · exact Keep.branchFst ha ha.farTap
      · exact ha
    have hd : Keep r d.1 := Keep.branchFst hb.farTap hb
    exact hd.setCellX

theorem Keep.nearScrub {n mine} (h : Keep r s) : Keep r (s.nearScrub n mine) :=
  Keep.branch h <| h.each fun _ _ k => k.scrub1

theorem Keep.feedIn {n f y} (h : Keep r s) : Keep r (s.feedIn n f y) :=
  h.frame

theorem Keep.tileDone {f stopped} (h : Keep r s) : Keep r (s.tileDone f stopped) := by
  unfold State.tileDone
  extract_lets
  split
  · exact h
  · extract_lets _ s1 _ s2 _ s3
    have hs1 : Keep r s1 := h.sendAudio
    have hs2 : Keep r s2 := hs1.when fun _ k => k.farFetch.nearScrub.fold fun _ _ k1 => k1.scrub
    have hs3 : Keep r s3 := by
      refine hs2.fold fun t c k => ?_
      extract_lets _ _ s4 s5
      have hs4 : Keep r s4 := k.setCellX
      have hs5 : Keep r s5 := hs4.count
      exact hs5.setCell
    refine Keep.branch h ?_
    split
    extract_lets s4 s5 _ s6 s7
    have hs4 : Keep r s4 := hs3.when fun _ k => k.count
    have hs5 : Keep r s5 := hs4.when fun _ k => k.count
    have hs6 : Keep r s6 := hs5.frame
    have hs7 : Keep r s7 := hs6.feedIn
    exact Keep.branch hs7.tilesEnd hs7

theorem execRenderTileDone_keeps {f margin} (h : Keep r s) : KeepOut r (execRenderTileDone f margin s) := by
  unfold execRenderTileDone
  refine KeepOut.event h fun t k => ?_
  extract_lets s1
  have hs1 : Keep r s1 := k.tileDone
  split
  · exact k
  · extract_lets s11
    have hs11 : Keep r s11 := hs1.engineDone
    exact hs11.marginMin

theorem execGeometryDone_keeps {margin} (h : Keep r s) : KeepOut r (execGeometryDone margin s) := by
  unfold execGeometryDone
  refine KeepOut.event h fun t k => ?_
  extract_lets s1
  have hs1 : Keep r s1 := k.scrub
  split
  · exact k
  · extract_lets
    split
    rename_i e1
    have k1 := Keep.pair e1 (hs1.foldFst fun _ _ k1 => k1.geoObject)
    extract_lets _ s2 _ _ s3
    have hs2 : Keep r s2 := (k1.setReg _ _).setReg _ _
    have hs3 : Keep r s3 := hs2.frame
    exact hs3.tryPlan.marginMin

theorem Keep.iptRead (h : Keep r s) : Keep r s.iptRead.1 :=
  h.setReg _ _

theorem execRndIptDataRead_keeps {ini} (h : Keep r s) : KeepOut r (execRndIptDataRead ini s) :=
  KeepOut.readRow h fun _ k => k.iptRead

theorem Keep.geoCWrite {v} (h : Keep r s) : Keep r (s.geoCWrite v) :=
  Keep.branch (h.setReg _ _).logWrite h.geoEvt

theorem execGeoCWrite_keeps {ini v} (h : Keep r s) : KeepOut r (execGeoCWrite ini v s) :=
  h.writeTracked fun _ k => k.geoCWrite

theorem Keep.geoCtlWrite {v} (h : Keep r s) : Keep r (s.geoCtlWrite v) :=
  (h.setReg _ _).logWrite

theorem execGeoFreezeWrite_keeps {ini v} (h : Keep r s) : KeepOut r (execGeoFreezeWrite ini v s) :=
  h.writeTracked fun _ k => k.geoCtlWrite

/-! ## FirArray -/

theorem Keep.firEvt {bit kind feed blk} (h : Keep r s) : Keep r (s.firEvt bit kind feed blk) :=
  h.evtFirst

theorem Keep.firStatus (h : Keep r s) : Keep r s.firStatus :=
  h.setFld.setFld

theorem Keep.gdClear {f} (h : Keep r s) : Keep r (s.gdClear f) :=
  Keep.branch (h.setReg _ _) h.setBit

theorem Keep.firSwitch {f} (h : Keep r s) : Keep r (s.firSwitch f) :=
  h.setFld.gdClear

theorem Keep.fadeRefuse {f} (h : Keep r s) : Keep r (s.fadeRefuse f) :=
  h.count.firEvt

theorem Keep.fadeReq {f} (h : Keep r s) : Keep r (s.fadeReq f) :=
  Keep.branch h.fadeRefuse <| Keep.branch h.frame.setBit.firStatus h.firSwitch

theorem Keep.fadeReqWrite {v} (h : Keep r s) : Keep r (s.fadeReqWrite v) := by
  unfold State.fadeReqWrite
  extract_lets _ _ t
  have ht : Keep r t := h.each fun _ _ k => k.fadeReq
  exact Keep.branch ht.logWrite <| ht.each fun _ _ k => k.logWrite

theorem Keep.fadeStart {n w} (h : Keep r s) : Keep r (s.fadeStart n w) := by
  unfold State.fadeStart
  extract_lets _ _ _ _ s1 s11
  have hs1 : Keep r s1 := h.frame
  have hs11 : Keep r s11 := h.frame
  exact Keep.branch h <| Keep.branch hs1.setBit.firSwitch.firStatus <|
    Keep.branch hs11.setBit.setBit.firSwitch.firStatus h

theorem Keep.fadesFree {n} (h : Keep r s) : Keep r (s.fadesFree n) :=
  Keep.branch h <| Keep.firStatus <| h.each fun _ _ k => k.setBit

theorem Keep.fadesAt {n} (h : Keep r s) : Keep r (s.fadesAt n) :=
  h.fadesFree.each fun _ _ k => k.fadeStart

theorem Keep.fadesDiscard (h : Keep r s) : Keep r s.fadesDiscard :=
  Keep.firStatus <| Keep.frame <| h.each fun _ _ k => k.setBit.fadeRefuse

theorem Keep.fadesEnd (h : Keep r s) : Keep r s.fadesEnd :=
  Keep.firStatus <| Keep.frame <| h.each fun _ _ k => k.when fun _ k1 => k1.setBit

theorem Keep.fadeEndAt {f n} (h : Keep r s) : Keep r (s.fadeEndAt f n) := by
  unfold State.fadeEndAt
  extract_lets
  split
  · exact h
  · extract_lets s1 s2
    have hs1 : Keep r s1 := h.frame
    have hs2 : Keep r s2 := hs1.setBit.firStatus
    exact Keep.branch hs1 <| Keep.branch hs2 hs2.count.evt

theorem Keep.firFinish {f n parts} (h : Keep r s) : Keep r (s.firFinish f n parts) := by
  unfold State.firFinish
  extract_lets
  split
  extract_lets _ _ s1
  have hs1 : Keep r s1 := by
    refine h.when fun t k => ?_
    extract_lets _ _ _ s2
    have hs2 : Keep r s2 := k.evt.count.evt
    exact hs2.when fun _ k1 => k1.raiseDet
  split
  extract_lets s2 s3 s4 _ _ s5
  have hs2 : Keep r s2 := hs1.when fun _ k => k.count.firEvt
  have hs3 : Keep r s3 := hs2.each fun _ _ k => k.putArray
  have hs4 : Keep r s4 := hs3.fadeEndAt
  have hs5 : Keep r s5 := hs4.frame
  exact hs5.brimFeed

theorem Keep.firTask {f x} (h : Keep r s) : Keep r (s.firTask f x) := by
  unfold State.firTask
  extract_lets _ _ s1 _ _ _ s2
  have hs1 : Keep r s1 := h.scrub.scrub
  have hs2 : Keep r s2 := hs1.frame
  exact Keep.branch h <| Keep.branch hs1 <| Keep.branch hs2.firFinish hs2

theorem Keep.firRun {f n} (h : Keep r s) : Keep r (s.firRun f n) :=
  Keep.branch h h.frame.firFinish

theorem execFirTaskDone_keeps {f bank margin} (h : Keep r s) : KeepOut r (execFirTaskDone f bank margin s) :=
  KeepOut.event h fun _ k => k.firTask.engineDone.marginMin

theorem execFirFadeReq_keeps {ini f} (h : Keep r s) : KeepOut r (execFirFadeReq ini f s) :=
  h.writeTracked fun _ k => k.fadeReqWrite

theorem execFirFadeReqAll_keeps {ini} (h : Keep r s) : KeepOut r (execFirFadeReqAll ini s) :=
  h.writeTracked fun _ k => k.fadeReqWrite

theorem Keep.firDescWrite {a v} (h : Keep r s) : Keep r (s.firDescWrite a v) :=
  Keep.branch h.count.firEvt (h.setReg _ _).logWrite

theorem execFirDescriptorWrite_keeps {ini addr v} (h : Keep r s) : KeepOut r (execFirDescriptorWrite ini addr v s) :=
  h.writeTracked fun _ k => Keep.branch k.firDescWrite k

theorem Keep.poolWrite {a v} (h : Keep r s) : Keep r (s.poolWrite a v) :=
  Keep.branch h.count.firEvt h.sramHostWrite.logWrite

theorem execFirGdDone_keeps {f} (h : Keep r s) : KeepOut r (execFirGdDone f s) :=
  KeepOut.event h fun _ k => Keep.branch (k.setReg _ _) k

/-! ## Cores -/

theorem Keep.setCore {c k'} (h : Keep r s) : Keep r (s.setCore c k') :=
  h.frame

theorem Keep.slotScrub {a n} (h : Keep r s) : Keep r (s.slotScrub a n) :=
  Keep.branch h <| h.scrub.each fun _ _ k => k.putArray.setMixLive.setMixLive

theorem Keep.copyIn {c n age e} (h : Keep r s) : Keep r (s.copyIn c n age e) := by
  unfold State.copyIn
  refine Keep.branch (h.each fun _ _ k => k.putWord) <| Keep.branch ?_ h
  split
  exact h.slotScrub.each fun _ _ k => k.putWord

theorem Keep.busToObjects {n bus} (h : Keep r s) : Keep r (s.busToObjects n bus) :=
  h.each fun _ _ k => k.objWrite

theorem Keep.putBus {n bus age l} (h : Keep r s) : Keep r (s.putBus n bus age l) :=
  Keep.branch h.frame h.frame.busToObjects

theorem Keep.putOldRo {age a v} (h : Keep r s) : Keep r (s.putOldRo age a v) :=
  Keep.branch h.frame h.frame

theorem Keep.copyOut {c n age zero e} (h : Keep r s) : Keep r (s.copyOut c n age zero e) := by
  unfold State.copyOut
  extract_lets
  refine Keep.branch h.putBus <| Keep.branch ?_ h
  split
  extract_lets
  exact h.each fun _ _ k => Keep.branch k.putWord k.putOldRo

theorem Keep.coreStart {c seg n age} (h : Keep r s) : Keep r (s.coreStart c seg n age) :=
  Keep.setBit <| Keep.setCore <| h.each fun _ _ k => k.copyIn

theorem Keep.timeoutFx {slot} (h : Keep r s) : Keep r (s.timeoutFx slot) := by
  unfold State.timeoutFx
  extract_lets s1
  have hs1 : Keep r s1 := h.count.evt
  split
  exact hs1.raiseDet

theorem Keep.coreFaultEvt {c bit kind} (h : Keep r s) : Keep r (s.coreFaultEvt c bit kind) :=
  (h.setReg _ _).evtFirst

theorem Keep.coreHalt {c} (h : Keep r s) : Keep r (s.coreHalt c) :=
  Keep.branch h h.coreFaultEvt.setBit.setBit.setBit.setCore

theorem Keep.outScrub {c t} (h : Keep r s) : Keep r (s.outScrub c t).1 :=
  Keep.branchFst h <| h.each fun _ _ k => k.scrub1

theorem Keep.coreEnd {c t status} (h : Keep r s) : Keep r (s.coreEnd c t status) := by
  unfold State.coreEnd
  extract_lets o s1 _ s2 s3
  have ho : Keep r o.1 := Keep.branchFst h.outScrub h
  have hs1 : Keep r s1 := ho.each fun _ _ k => k.copyOut
  have hs2 : Keep r s2 := hs1.setCore
  have hs3 : Keep r s3 := hs2.setBit
  exact Keep.branch ho.coreHalt <| Keep.branch hs3 hs3.engineDone

theorem Keep.coreTimeout {c} (h : Keep r s) : Keep r (s.coreTimeout c) := by
  unfold State.coreTimeout
  split
  · exact h
  · exact h.timeoutFx.coreEnd

theorem Keep.coreIllegal {c} (h : Keep r s) : Keep r (s.coreIllegal c) := by
  unfold State.coreIllegal
  split
  · exact h
  · exact h.coreFaultEvt.count.coreEnd

theorem Keep.slot {c f} (h : Keep r s) : Keep r (s.slot c f) :=
  Keep.branch h.setCore h

theorem Keep.loadSlot {c x j m f} (h : Keep r s) : Keep r (s.loadSlot c x j m f) := by
  unfold State.loadSlot
  extract_lets
  refine Keep.branch ?_ h
  split
  rename_i e
  have k := Keep.pair e h.sramRead
  exact Keep.branch k.setCore.coreHalt k.setCore

theorem Keep.nodeSat {t} (h : Keep r s) : Keep r (s.nodeSat t) :=
  Keep.branch h.count.mixEvt h

theorem Keep.govEvt {c t mask} (h : Keep r s) : Keep r (s.govEvt c t mask) := by
  unfold State.govEvt
  extract_lets _ s1 s2 s3
  have hs1 : Keep r s1 := (h.setReg _ _).evt
  have hs2 : Keep r s2 := hs1.evt
  have hs3 : Keep r s3 := Keep.branch hs2 hs2.count
  exact Keep.branch h <| hs3.when fun _ k => k.raiseDet

theorem Keep.addrErr {c t e} (h : Keep r s) : Keep r (s.addrErr c t e) :=
  h.evt.evt.count.when fun _ k => k.raiseDet

theorem Keep.retire {c} (h : Keep r s) : Keep r (s.retire c) := by
  unfold State.retire
  extract_lets _ s1
  have hs1 : Keep r s1 := h.each fun _ _ k => k.putWord
  refine Keep.branch h ?_
  split
  · extract_lets s2 s3 _ s4
    have hs2 : Keep r s2 := hs1.govEvt
    have hs3 : Keep r s3 := hs2.each fun _ _ k => k.addrErr
    have hs4 : Keep r s4 := Keep.branch hs3.nodeSat hs3
    refine Keep.branch h.setCore.coreIllegal ?_
    split
    extract_lets _ s5
    have hs5 : Keep r s5 := hs4.setCore
    exact Keep.branch hs5.coreEnd <| Keep.branch hs5.coreTimeout hs5
  · exact h

theorem Keep.macCmd {c f} (h : Keep r s) : Keep r (s.macCmd c f) :=
  h.slot.retire

theorem execMacNop_keeps {c} (h : Keep r s) : KeepOut r (execMacNop c s) :=
  KeepOut.next h.macCmd

theorem execMacAcc_keeps {c f st xa q mask} (h : Keep r s) : KeepOut r (execMacAcc c f st xa q mask s) :=
  KeepOut.next h.macCmd

theorem execMsu_keeps {c f st xa q mask} (h : Keep r s) : KeepOut r (execMsu c f st xa q mask s) :=
  KeepOut.next h.macCmd

theorem execMpy_keeps {c f st xa q mask} (h : Keep r s) : KeepOut r (execMpy c f st xa q mask s) :=
  KeepOut.next h.macCmd

theorem execAddx_keeps {c f st xa q mask} (h : Keep r s) : KeepOut r (execAddx c f st xa q mask s) :=
  KeepOut.next h.macCmd

theorem execSubx_keeps {c f st xa q mask} (h : Keep r s) : KeepOut r (execSubx c f st xa q mask s) :=
  KeepOut.next h.macCmd

theorem execLdx_keeps {c f st xa q mask} (h : Keep r s) : KeepOut r (execLdx c f st xa q mask s) :=
  KeepOut.next h.macCmd

theorem execAclr_keeps {c f st xa q mask} (h : Keep r s) : KeepOut r (execAclr c f st xa q mask s) :=
  KeepOut.next h.macCmd

theorem execExtract_keeps {c st sh rnd q mask} (h : Keep r s) : KeepOut r (execExtract c st sh rnd q mask s) :=
  KeepOut.next h.macCmd

theorem execAluNop_keeps {c} (h : Keep r s) : KeepOut r (execAluNop c s) :=
  KeepOut.next h.slot

theorem execAddW_keeps {c st d sa sb} (h : Keep r s) : KeepOut r (execAddW c st d sa sb s) :=
  KeepOut.next h.slot

theorem execSubW_keeps {c st d sa sb} (h : Keep r s) : KeepOut r (execSubW c st d sa sb s) :=
  KeepOut.next h.slot

theorem execAddi_keeps {c st d sa sb} (h : Keep r s) : KeepOut r (execAddi c st d sa sb s) :=
  KeepOut.next h.slot

theorem execAndW_keeps {c st d sa sb} (h : Keep r s) : KeepOut r (execAndW c st d sa sb s) :=
  KeepOut.next h.slot

theorem execOrW_keeps {c st d sa sb} (h : Keep r s) : KeepOut r (execOrW c st d sa sb s) :=
  KeepOut.next h.slot

theorem execXorW_keeps {c st d sa sb} (h : Keep r s) : KeepOut r (execXorW c st d sa sb s) :=
  KeepOut.next h.slot

theorem execShl_keeps {c st d sa sb} (h : Keep r s) : KeepOut r (execShl c st d sa sb s) :=
  KeepOut.next h.slot

theorem execShra_keeps {c st d sa sb} (h : Keep r s) : KeepOut r (execShra c st d sa sb s) :=
  KeepOut.next h.slot

theorem execShrl_keeps {c st d sa sb} (h : Keep r s) : KeepOut r (execShrl c st d sa sb s) :=
  KeepOut.next h.slot

theorem execMinW_keeps {c st d sa sb} (h : Keep r s) : KeepOut r (execMinW c st d sa sb s) :=
  KeepOut.next h.slot

theorem execMaxW_keeps {c st d sa sb} (h : Keep r s) : KeepOut r (execMaxW c st d sa sb s) :=
  KeepOut.next h.slot

theorem execAbsW_keeps {c st d sa sb} (h : Keep r s) : KeepOut r (execAbsW c st d sa sb s) :=
  KeepOut.next h.slot

theorem execNegW_keeps {c st d sa sb} (h : Keep r s) : KeepOut r (execNegW c st d sa sb s) :=
  KeepOut.next h.slot

theorem execCmpW_keeps {c st d sa sb} (h : Keep r s) : KeepOut r (execCmpW c st d sa sb s) :=
  KeepOut.next h.slot

theorem execMovW_keeps {c st d sa sb} (h : Keep r s) : KeepOut r (execMovW c st d sa sb s) :=
  KeepOut.next h.slot

theorem execLoopb_keeps {c t} (h : Keep r s) : KeepOut r (execLoopb c t s) :=
  KeepOut.next h.slot

theorem execLoopr_keeps {c t} (h : Keep r s) : KeepOut r (execLoopr c t s) :=
  KeepOut.next h.slot

theorem execBr_keeps {c t} (h : Keep r s) : KeepOut r (execBr c t s) :=
  KeepOut.next h.slot

theorem execBrz_keeps {c t} (h : Keep r s) : KeepOut r (execBrz c t s) :=
  KeepOut.next h.slot

theorem execBrnz_keeps {c t} (h : Keep r s) : KeepOut r (execBrnz c t s) :=
  KeepOut.next h.slot

theorem execBrn_keeps {c t} (h : Keep r s) : KeepOut r (execBrn c t s) :=
  KeepOut.next h.slot

theorem execNodeMark_keeps {c t} (h : Keep r s) : KeepOut r (execNodeMark c t s) :=
  KeepOut.next h.slot

theorem execEndTask_keeps {c t} (h : Keep r s) : KeepOut r (execEndTask c t s) :=
  KeepOut.next h.slot

theorem execAmNop_keeps {c am} (h : Keep r s) : KeepOut r (execAmNop c am s) :=
  KeepOut.next h.slot

theorem execLdw_keeps {c am x j m} (h : Keep r s) : KeepOut r (execLdw c am x j m s) :=
  KeepOut.next h.loadSlot

theorem execLdh_keeps {c am x j m} (h : Keep r s) : KeepOut r (execLdh c am x j m s) :=
  KeepOut.next h.loadSlot

theorem execStw_keeps {c am x j m} (h : Keep r s) : KeepOut r (execStw c am x j m s) :=
  KeepOut.next h.slot

theorem execSth_keeps {c am x j m} (h : Keep r s) : KeepOut r (execSth c am x j m s) :=
  KeepOut.next h.slot

theorem execMvr_keeps {c am x j sel} (h : Keep r s) : KeepOut r (execMvr c am x j sel s) :=
  KeepOut.next h.slot

theorem execLim_keeps {c am x imm} (h : Keep r s) : KeepOut r (execLim c am x imm s) :=
  KeepOut.next h.slot

/-- The state after a segment of the older program has started. -/
theorem Keep.fadeTask {c seg age} (h : Keep r s) (e : s.fadeTask c seg age = some t) : Keep r t := by
  unfold State.fadeTask at e
  split at e
  · cases e
  · split at e
    · cases e
    · split at e
      · cases e
      · cases e
        exact Keep.coreStart (Keep.branch h.frame h.frame)

theorem execCoreTaskStart_keeps {c old} (h : Keep r s) : KeepOut r (execCoreTaskStart c old s) := by
  unfold execCoreTaskStart
  refine KeepOut.event h fun t k => Keep.branch k ?_
  split
  · cases e : t.fadeTask c.toNat _ 2 with
    | some => exact k.fadeTask e
    | none =>
      cases e' : t.fadeTask c.toNat _ 1 with
      | some => exact k.fadeTask e'
      | none => exact k
  · split
    · exact Keep.branch k.coreStart k
    · exact k

theorem execCoreTaskTimeout_keeps {c} (h : Keep r s) : KeepOut r (execCoreTaskTimeout c s) :=
  KeepOut.event h fun _ k => k.coreTimeout

theorem execIllegalInstruction_keeps {c w} (h : Keep r s) : KeepOut r (execIllegalInstruction c w s) :=
  KeepOut.event h fun _ k => Keep.branch k.coreIllegal k

/-- A slot of an instruction acts as its command does. -/
theorem Keep.slotRun {i} (h : Keep r s) : Keep r (s.slotRun i) := by
  unfold State.slotRun
  extract_lets go
  have hgo : ∀ {o}, KeepOut r o → Keep r (go o) := by
    intro o k
    cases o with
    | next t => exact k.out t rfl
    | fault | refused => exact h
  clear_value go
  split
  · exact hgo <| execMacNop_keeps h
  · exact hgo <| execMacAcc_keeps h
  · exact hgo <| execMsu_keeps h
  · exact hgo <| execMpy_keeps h
  · exact hgo <| execAddx_keeps h
  · exact hgo <| execSubx_keeps h
  · exact hgo <| execLdx_keeps h
  · exact hgo <| execAclr_keeps h
  · exact hgo <| execExtract_keeps h
  · exact hgo <| execAluNop_keeps h
  · exact hgo <| execAddW_keeps h
  · exact hgo <| execSubW_keeps h
  · exact hgo <| execAddi_keeps h
  · exact hgo <| execAndW_keeps h
  · exact hgo <| execOrW_keeps h
  · exact hgo <| execXorW_keeps h
  · exact hgo <| execShl_keeps h
  · exact hgo <| execShra_keeps h
  · exact hgo <| execShrl_keeps h
  · exact hgo <| execMinW_keeps h
  · exact hgo <| execMaxW_keeps h
  · exact hgo <| execAbsW_keeps h
  · exact hgo <| execNegW_keeps h
  · exact hgo <| execCmpW_keeps h
  · exact hgo <| execMovW_keeps h
  · exact hgo <| execLoopb_keeps h
  · exact hgo <| execLoopr_keeps h
  · exact hgo <| execBr_keeps h
  · exact hgo <| execBrz_keeps h
  · exact hgo <| execBrnz_keeps h
  · exact hgo <| execBrn_keeps h
  · exact hgo <| execNodeMark_keeps h
  · exact hgo <| execEndTask_keeps h
  · exact hgo <| execAmNop_keeps h
  · exact hgo <| execLdw_keeps h
  · exact hgo <| execLdh_keeps h
  · exact hgo <| execStw_keeps h
  · exact hgo <| execSth_keeps h
  · exact hgo <| execMvr_keeps h
  · exact hgo <| execLim_keeps h
  · exact h

theorem Keep.coreFetch {c} (h : Keep r s) : Keep r (s.coreFetch c) := by
  unfold State.coreFetch
  extract_lets
  split
  · exact h
  · extract_lets
    refine Keep.branch ?_ h.coreIllegal
    split
    rename_i e1
    have k := Keep.pair e1 h.sramRead
    extract_lets
    exact Keep.branch k.coreHalt <| Keep.branch k.coreIllegal <| k.each fun _ _ k1 => k1.slotRun

theorem Keep.coreCycle {c} (h : Keep r s) : Keep r (s.coreCycle c) :=
  Keep.branch h <| Keep.branch h.setCore h.coreFetch

theorem Keep.coreTicks {n} (h : Keep r s) : Keep r (s.coreTicks n) :=
  h.each fun _ _ k => k.each fun _ _ k1 => k1.coreCycle

/-! ## Dispatcher -/

theorem Keep.dSet {d i v} (h : Keep r s) : Keep r (s.dSet d i v) :=
  (h.putSram _ _).corruptIfArmed

theorem Keep.setDState {d st} (h : Keep r s) : Keep r (s.setDState d st) :=
  h.dSet

theorem Keep.updDesc {d f} (h : Keep r s) : Keep r (s.updDesc d f) :=
  h.frame

theorem Keep.schStatus (h : Keep r s) : Keep r s.schStatus :=
  Keep.branch ((h.setReg _ _).setReg _ _) (h.setReg _ _)

theorem Keep.trcSpill {head} (h : Keep r s) : Keep r (s.trcSpill head) :=
  Keep.branch h <| Keep.branch h <| Keep.branch h.count (h.dramWriteParts.setReg _ _).frame

theorem Keep.trace {kind d slot status item} (h : Keep r s) : Keep r (s.trace kind d slot status item) := by
  unfold State.trace
  extract_lets _ _ s1 _ _ s2 _ s3
  have hs1 : Keep r s1 := h.putArray
  have hs2 : Keep r s2 := hs1.setReg _ _
  have hs3 : Keep r s3 := hs2.frame
  exact Keep.branch h <| Keep.branch h.count <| Keep.branch hs3.trcSpill hs3

theorem Keep.raiseQfull {kind d blk tpl first} (h : Keep r s) : Keep r (s.raiseQfull kind d blk tpl first) :=
  Keep.branch h.count.raiseDet h.count.detBit

theorem Keep.cplRecord {d status} (h : Keep r s) : Keep r (s.cplRecord d status) :=
  Keep.branch h.count.evt (h.putArray.setReg _ _)

theorem Keep.pendDec {t} (h : Keep r s) : Keep r (s.pendDec t) :=
  Keep.branch (Keep.branch h h.dSet) h

theorem Keep.refill (h : Keep r s) : Keep r s.refill := by
  unfold State.refill
  extract_lets
  split
  · exact h
  · exact Keep.branch h.frame.updDesc h

theorem Keep.sweepEnd {d status always} (h : Keep r s) : Keep r (s.sweepEnd d status always) := by
  unfold State.sweepEnd
  extract_lets s1 s2 s3 _ _ s4
  have hs1 : Keep r s1 := h.setDState
  have hs2 : Keep r s2 := hs1.when fun _ k => k.evt
  have hs3 : Keep r s3 := Keep.branch hs2.cplRecord hs2
  have hs4 : Keep r s4 := hs3.frame
  exact Keep.refill <| hs4.each fun _ _ k => k.pendDec

theorem Keep.enlist {d} (h : Keep r s) : Keep r (s.enlist d) :=
  Keep.branch h.updDesc h.frame.evt.raiseQfull

theorem Keep.tryReady {a : State × Bool} (h : Keep r a.1) {d} : Keep r (State.tryReady a d).1 := by
  obtain ⟨s, ch⟩ := a
  unfold State.tryReady
  split
  rename_i e
  cases e
  split
  · exact h
  · refine Keep.branchFst h ?_
    extract_lets s1
    have h1 : Keep r s1 := Keep.trace <| Keep.setDState <| Keep.updDesc h
    exact Keep.branchFst h1.trace.sweepEnd h1.enlist

theorem Keep.settleGo {n} (h : Keep r s) : Keep r (s.settleGo n) := by
  induction n generalizing s with
  | zero => exact h
  | succ n ih =>
    unfold State.settleGo
    split
    rename_i e
    have k := Keep.pair e (h.foldFst fun _ _ k => k.tryReady)
    exact Keep.branch (ih k) k

theorem Keep.settle (h : Keep r s) : Keep r s.settle :=
  h.settleGo.schStatus

theorem Keep.sweepCheck {d} (h : Keep r s) : Keep r (s.sweepCheck d) := by
  unfold State.sweepCheck
  extract_lets
  split
  · exact h
  · extract_lets
    exact Keep.branch h.trace.sweepEnd h

theorem Keep.taskEnd {d item slot st} (h : Keep r s) : Keep r (s.taskEnd d item slot st) := by
  unfold State.taskEnd
  split
  · exact h
  · extract_lets
    exact Keep.branch h.updDesc h.updDesc.sweepCheck

theorem Keep.slotEnd {slot st} (h : Keep r s) : Keep r (s.slotEnd slot st) := by
  unfold State.slotEnd
  extract_lets _ s1
  have hs1 : Keep r s1 := h.frame
  split
  · exact h
  · exact hs1.taskEnd.settle

theorem Keep.advance {d} (h : Keep r s) : Keep r (s.advance d) := by
  unfold State.advance
  extract_lets s1
  have hs1 : Keep r s1 := h.updDesc
  split
  · exact h
  · exact Keep.branch hs1.updDesc.refill hs1

theorem Keep.dispatch {x} (h : Keep r s) : Keep r (s.dispatch x) := by
  unfold State.dispatch
  extract_lets _ _ _ _ _ _ s1 s2 s3
  have hs1 : Keep r s1 := h.setDState.when fun _ k => k.count
  have hs2 : Keep r s2 := hs1.trace.scrub
  have hs3 : Keep r s3 := Keep.branch hs2.firRun hs2
  refine Keep.branch hs3.advance.taskEnd ?_
  split
  · exact hs1
  · extract_lets s4 _ s5 _ _ s6
    have hs4 : Keep r s4 := hs1.trace
    have hs5 : Keep r s5 := hs4.scrub.when fun _ k => k.scrub
    have hs6 : Keep r s6 := hs5.frame
    exact Keep.branch hs6.advance hs6.updDesc

theorem Keep.schTick (h : Keep r s) : Keep r s.schTick :=
  (h.setReg _ _).frame

theorem Keep.schCycle (h : Keep r s) : Keep r s.schCycle := by
  unfold State.schCycle
  extract_lets s1
  have hs1 : Keep r s1 := h.schTick
  split
  · exact hs1.settle
  · exact hs1.dispatch.settle

theorem execDispatchCycle_keeps (h : Keep r s) : KeepOut r (execDispatchCycle s) :=
  KeepOut.event h fun _ k => k.schCycle

theorem Keep.instOne {tpls n t} (h : Keep r s) : Keep r (s.instOne tpls n t) :=
  h.scrub.dPut.frame

theorem Keep.instAll {tpls n} (h : Keep r s) : Keep r (s.instAll tpls n) :=
  Keep.settle <| h.each fun _ _ k => k.instOne

theorem Keep.instantiate {n} (h : Keep r s) : Keep r (s.instantiate n) :=
  h.instAll

theorem Keep.schBlock {n} (h : Keep r s) : Keep r (s.schBlock n) :=
  Keep.branch h.frame.frame.evt.raiseQfull.settle h.frame.instantiate

theorem execBankInstantiateDeferred_keeps (h : Keep r s) : KeepOut r (execBankInstantiateDeferred s) := by
  unfold execBankInstantiateDeferred
  refine KeepOut.event h fun t k => ?_
  extract_lets
  split
  · exact k
  · extract_lets
    exact k.frame.instAll

theorem Keep.submitErr (h : Keep r s) : Keep r s.submitErr :=
  h.count.evt

theorem Keep.submit {v} (h : Keep r s) : Keep r (s.submit v) :=
  Keep.branch h.submitErr h.setDState.frame.settle

theorem execSchSubmit_keeps {ini v} (h : Keep r s) : KeepOut r (execSchSubmit ini v s) :=
  KeepOut.access h fun _ k => k.submit

theorem Keep.cancel {v} (h : Keep r s) : Keep r (s.cancel v) := by
  unfold State.cancel
  extract_lets
  refine Keep.branch h.submitErr ?_
  split
  · exact h.count
  · extract_lets s1
    have hs1 : Keep r s1 := h.trace.updDesc
    exact Keep.branch h.trace.sweepEnd.settle hs1.refill.sweepCheck.settle

theorem execSchCancel_keeps {ini v} (h : Keep r s) : KeepOut r (execSchCancel ini v s) :=
  KeepOut.access h fun _ k => k.cancel

theorem Keep.schArrayWrite {a v} (h : Keep r s) : Keep r (s.schArrayWrite a v) :=
  Keep.branch h <| Keep.branch (Keep.branch h.sramHostWrite h.submitErr) <| Keep.branch h.sramHostWrite h

theorem Keep.schStop (h : Keep r s) : Keep r s.schStop := by
  unfold State.schStop
  extract_lets _ s1 _ t1
  have hs1 : Keep r s1 := h.each fun _ _ k => k.setDState
  have ht1 : Keep r t1 := hs1.frame
  exact Keep.schStatus <| ht1.each fun _ _ k => k.refill

/-! ## Mixer -/

theorem Keep.gwWrite {f : State → State} {ini a} (h : Keep r s) (k : ∀ x, Keep r x → Keep r (f x)) :
    Keep r (s.gwWrite ini a f) :=
  Keep.branch h <| Keep.branch (k _ h) h.deny

theorem Keep.mixWrite {a v} (h : Keep r s) : Keep r (s.mixWrite a v) := by
  unfold State.mixWrite
  extract_lets s1 t
  have hs1 : Keep r s1 := h.logWrite
  have ht : Keep r t := h.sramHostWrite.logWrite
  split
  · extract_lets _ _ s2
    have hs2 : Keep r s2 := hs1.sramHostWrite
    exact Keep.branch h <| Keep.branch hs2.frame hs2
  · exact Keep.branch ht.frame h

theorem execCommitWordWrite_keeps {ini addr v} (h : Keep r s) : KeepOut r (execCommitWordWrite ini addr v s) :=
  h.writeTracked fun _ k => Keep.branch k.mixWrite k

theorem Keep.mixBlock {n} (h : Keep r s) : Keep r (s.mixBlock n) := by
  unfold State.mixBlock
  extract_lets _ s1 s2
  have hs1 : Keep r s1 := h.when fun _ k => k.mixKeep
  have hs2 : Keep r s2 := hs1.gainWords.fold fun _ _ k => k.setMixLive
  exact hs2.frame

theorem Keep.setMeter {m x} (h : Keep r s) : Keep r (s.setMeter m x) :=
  h.frame

theorem Keep.meterClear {m} (h : Keep r s) : Keep r (s.meterClear m) :=
  h.putWord.setMeter

theorem Keep.meterWrite {a v} (h : Keep r s) : Keep r (s.meterWrite a v) := by
  unfold State.meterWrite
  extract_lets s1
  have hs1 : Keep r s1 := h.when fun _ k => k.logWrite
  split
  · exact hs1.meterClear
  · exact hs1.sramHostWrite
  · exact hs1.sramHostWrite
  · exact hs1

theorem execMeterClearWrite_keeps {ini m v} (h : Keep r s) : KeepOut r (execMeterClearWrite ini m v s) :=
  h.writeTracked fun _ k => k.meterClear.logWrite

theorem Keep.mtrCtl {v} (h : Keep r s) : Keep r (s.mtrCtl v) :=
  Keep.logWrite <| Keep.branch (h.each fun _ _ k => k.meterClear) h

theorem execMixMtrClr_keeps {ini v} (h : Keep r s) : KeepOut r (execMixMtrClr ini v s) :=
  h.writeTracked fun _ k => k.mtrCtl

theorem Keep.meterUpdate {m n l} (h : Keep r s) : Keep r (s.meterUpdate m n l) :=
  h.putArray.setMeter

theorem Keep.meterScrub {m} (h : Keep r s) : Keep r (s.meterScrub m) :=
  Keep.branch h <| h.slotScrub.when fun _ k => k.setMeter

theorem Keep.metersBlock {n} (h : Keep r s) : Keep r (s.metersBlock n) := by
  unfold State.metersBlock
  refine h.each fun t m k => ?_
  extract_lets s1
  have hs1 : Keep r s1 := k.meterScrub
  refine Keep.branch ?_ hs1
  split
  · exact hs1.meterUpdate
  · exact hs1

theorem Keep.setBridge {c x} (h : Keep r s) : Keep r (s.setBridge c x) :=
  h.frame

theorem Keep.bridgeIn {c t v} (h : Keep r s) : Keep r (s.bridgeIn c t v) :=
  Keep.branch h h.setBridge

theorem Keep.bridgeUnlock {c} (h : Keep r s) : Keep r (s.bridgeUnlock c) :=
  Keep.branch h.setBit.setBridge.mixEvt h

theorem Keep.bridgeTaken {c} (h : Keep r s) : Keep r (s.bridgeTaken c) :=
  h.setBit.setBit.setBridge.mixEvt

theorem Keep.bridgeTake {c} (h : Keep r s) : Keep r (s.bridgeTake c) :=
  Keep.branch h <| Keep.branch h.setBridge h.bridgeTaken

theorem Keep.tslotWrite {v} (h : Keep r s) : Keep r (s.tslotWrite v) := by
  unfold State.tslotWrite
  extract_lets _ s1
  have hs1 : Keep r s1 := h.setReg _ _
  exact hs1.each fun _ _ k1 => Keep.branch k1.bridgeTake <| Keep.branch k1.setBit.setBit.setBridge k1

theorem execGntTslotEnWrite_keeps {ini v} (h : Keep r s) : KeepOut r (execGntTslotEnWrite ini v s) :=
  KeepOut.next <| h.gwWrite fun _ k => k.tslotWrite

theorem Keep.zbCommit {z v} (h : Keep r s) : Keep r (s.zbCommit z v) :=
  (h.setReg _ _).frame

theorem execZoneBusCommit_keeps {ini z v} (h : Keep r s) : KeepOut r (execZoneBusCommit ini z v s) :=
  KeepOut.next <| h.gwWrite fun _ k => k.zbCommit

theorem Keep.tfCommit {f v} (h : Keep r s) : Keep r (s.tfCommit f v) :=
  (h.setReg _ _).frame

theorem execFeedEntryCommit_keeps {ini f v} (h : Keep r s) : KeepOut r (execFeedEntryCommit ini f v s) :=
  KeepOut.next <| h.gwWrite fun _ k => Keep.branch k.tfCommit k

theorem Keep.setOvr {f o} (h : Keep r s) : Keep r (s.setOvr f o) :=
  h.frame

theorem Keep.ducksIdle {t} (h : Keep r s) : Keep r (s.ducksIdle t) :=
  h.each fun _ _ k => k.setOvr

theorem Keep.ovrStart (h : Keep r s) : Keep r s.ovrStart :=
  h.ducksIdle.frame

theorem Keep.ovrStop (h : Keep r s) : Keep r s.ovrStop :=
  h.frame

theorem Keep.zbSwitch {k'} (h : Keep r s) : Keep r (s.zbSwitch k') := by
  unfold State.zbSwitch
  extract_lets
  split
  · exact h
  · exact Keep.branch h.frame h

theorem Keep.tfSwitch {k'} (h : Keep r s) : Keep r (s.tfSwitch k') := by
  unfold State.tfSwitch
  extract_lets
  split
  · exact h
  · exact Keep.branch h.frame h

theorem Keep.trailSwitches (h : Keep r s) : Keep r s.trailSwitches := by
  unfold State.trailSwitches
  extract_lets s1 s2
  have hs1 : Keep r s1 := h.each fun _ _ k1 => k1.zbSwitch
  have hs2 : Keep r s2 := hs1.each fun _ _ k1 => k1.tfSwitch
  exact hs2.when fun _ k => k.ducksIdle

theorem execTrailSwitch_keeps {isFeed i} (h : Keep r s) : KeepOut r (execTrailSwitch isFeed i s) :=
  KeepOut.next <| Keep.when (Keep.branch h.tfSwitch h.zbSwitch) fun _ k => k.ducksIdle

theorem Keep.ovrFeed {f n src r' ramp late} (h : Keep r s) : Keep r (s.ovrFeed f n src r' ramp late).1 := by
  unfold State.ovrFeed
  extract_lets
  split
  extract_lets _ s1
  have hs1 : Keep r s1 := h.setOvr
  exact hs1.frame

theorem execOvrApply_keeps {f} (h : Keep r s) : KeepOut r (execOvrApply f s) := by
  unfold execOvrApply
  refine KeepOut.next ?_
  split
  · exact h
  · extract_lets _ s1
    have hs1 : Keep r s1 := h.setOvr
    exact hs1.frame

/-! ## Recorder -/

theorem Keep.recMirror {i} (h : Keep r s) : Keep r (s.recMirror i) :=
  Keep.branch h.dramWrite h

theorem Keep.recMirrorAll (h : Keep r s) : Keep r s.recMirrorAll :=
  Keep.branch (Keep.setBit <| h.each fun _ _ k => k.recMirror) h

theorem Keep.recLostRec (h : Keep r s) : Keep r s.recLostRec :=
  Keep.branch h h.frame.recCommit

theorem Keep.recProgram {back} (h : Keep r s) : Keep r (s.recProgram back) := by
  unfold State.recProgram
  extract_lets _ _ s1 _ s11
  have hs1 : Keep r s1 := (h.putGflash _ _).recMirror
  have hs11 : Keep r s11 := Keep.branch hs1 (hs1.setReg _ _)
  split
  · exact h
  · extract_lets s2 s3 _ s4 t1
    have hs2 : Keep r s2 := hs11.frame
    have hs3 : Keep r s3 := hs2.evt.raiseDet.gntFault
    have hs4 : Keep r s4 := hs3.setFld.count
    have ht1 : Keep r t1 := hs4.evt
    exact Keep.branch h <| Keep.branch hs11.frame.recLostRec.recFull <| Keep.branch ht1.frame hs3.recFull

theorem execRecProgramDone_keeps {readBack} (h : Keep r s) : KeepOut r (execRecProgramDone readBack s) :=
  KeepOut.next h.recProgram

theorem execRecSearchDone_keeps (h : Keep r s) : KeepOut r (execRecSearchDone s) := by
  unfold execRecSearchDone
  extract_lets _ _ _ _ _ _ s1 s2 t1 _ s3
  have hs1 : Keep r s1 := h.frame
  have hs2 : Keep r s2 := ((hs1.setReg _ _).setReg _ _).setFld
  have ht1 : Keep r t1 := hs2.count.when fun _ k => k.evt
  have hs3 : Keep r s3 := Keep.branch ht1.frame hs2
  exact KeepOut.next <| Keep.branch hs3.recMirrorAll.recFull h

theorem execRecEraseDone_keeps (h : Keep r s) : KeepOut r (execRecEraseDone s) := by
  unfold execRecEraseDone
  extract_lets b _ s1 _ s2
  have hs1 : Keep r s1 := (h.clearGflash fun a => decide (b ≤ a) && decide (a < b + 32 * s.recSlots)).frame
  have hs2 : Keep r s2 := ((hs1.recSeq.setReg _ _).setReg _ _).setFld
  exact KeepOut.next <| Keep.branch (Keep.branch (Keep.recFull <| hs2.frame) hs1) h

theorem execRecWindowExpiry_keeps (h : Keep r s) : KeepOut r (execRecWindowExpiry s) := by
  unfold execRecWindowExpiry
  refine KeepOut.next ?_
  split
  · exact h
  · exact h.advanceTo.recCommitOpen

theorem Keep.recSubmit {v} (h : Keep r s) : Keep r (s.recSubmit v) :=
  Keep.branch (Keep.branch h.count.evt h.frame.recEvent) h

theorem execRecSubmit_keeps {ini v} (h : Keep r s) : KeepOut r (execRecSubmit ini v s) :=
  KeepOut.access h fun _ k => k.recSubmit

theorem Keep.recFetchGo {v} (h : Keep r s) : Keep r (s.recFetchGo v) :=
  ((h.setReg _ _).setReg _ _).frame

theorem execRecFetch_keeps {ini v} (h : Keep r s) : KeepOut r (execRecFetch ini v s) :=
  KeepOut.access h fun _ k => k.recFetchGo

theorem execRecFetchDone_keeps (h : Keep r s) : KeepOut r (execRecFetchDone s) := by
  unfold execRecFetchDone
  extract_lets
  refine KeepOut.next ?_
  split
  · exact h
  · extract_lets _ _ t1 s1 s2
    have ht1 : Keep r t1 := Keep.branch h h.draw
    have hs1 : Keep r s1 := ht1.frame
    have hs2 : Keep r s2 := hs1.each fun _ _ k => k.setReg _ _
    exact hs2.setReg _ _

theorem execRecTokenRefill_keeps (h : Keep r s) : KeepOut r (execRecTokenRefill s) :=
  KeepOut.next h.frame

theorem Keep.recPowerOn {off total rwin valid} (h : Keep r s) : Keep r (s.recPowerOn off total rwin valid) :=
  ((((h.resetRange _ _).setReg _ _).setReg _ _).setReg _ _).frame

/-! ## Time -/

theorem Keep.timNote {kind v} (h : Keep r s) : Keep r (s.timNote kind v) :=
  h.note

theorem Keep.timEvtFirst {bit kind} (h : Keep r s) : Keep r (s.timEvtFirst bit kind) :=
  Keep.branch h h.evt.timNote

theorem Keep.timGuard {f : State → State} {ini} (h : Keep r s) (k : ∀ x, Keep r x → Keep r (f x)) :
    Keep r (s.timGuard ini f) :=
  Keep.branch h.evt <| k _ h

theorem Keep.setCmpV {i v} (h : Keep r s) : Keep r (s.setCmpV i v) :=
  (h.setReg _ _).setFld

theorem Keep.cmpFire {i} (h : Keep r s) : Keep r (s.cmpFire i) := by
  unfold State.cmpFire
  extract_lets s1
  have hs1 : Keep r s1 := h.evt
  refine Keep.branch hs1.setBit ?_
  split
  exact hs1.setCmpV.count

theorem Keep.pulseStart {i} (h : Keep r s) : Keep r (s.pulseStart i) :=
  h.each fun _ _ k1 => Keep.branch k1.frame k1

theorem Keep.pulseStop {k'} (h : Keep r s) : Keep r (s.pulseStop k') :=
  h.frame

theorem execPulseEnd_keeps {k'} (h : Keep r s) : KeepOut r (execPulseEnd k' s) := by
  unfold execPulseEnd
  refine KeepOut.next ?_
  split
  · exact h
  · exact h.advanceTo.pulseStop

theorem Keep.pulseCfg {k' v} (h : Keep r s) : Keep r (s.pulseCfg k' v) :=
  Keep.branch (h.setReg _ _) (h.setReg _ _).pulseStop

theorem Keep.tick (h : Keep r s) : Keep r s.tick := by
  unfold State.tick
  extract_lets _ a _ s1 s2
  have hs1 : Keep r s1 := h.setTim fun _ => ⟨Nat.mod_lt a (by decide), Nat.mod_lt _ (by decide)⟩
  have hs2 : Keep r s2 := Keep.branch (hs1.setReg _ _) hs1
  exact Keep.branch hs2.evt hs2

theorem Keep.setCounter {t} (h : Keep r s) : Keep r (s.setCounter t) :=
  h.setTime.evt.timNote

theorem Keep.timCmd {ini v} (h : Keep r s) : Keep r (s.timCmd ini v) :=
  h.timGuard fun _ k => Keep.branch k.setCounter k

theorem Keep.timInc {ini v} (h : Keep r s) : Keep r (s.timInc ini v) :=
  h.timGuard fun _ k => Keep.branch (k.setReg _ _).timEvtFirst <| Keep.branch (k.setReg _ _).timEvtFirst (k.setReg _ _)

theorem execTimIncWrite_keeps {ini v} (h : Keep r s) : KeepOut r (execTimIncWrite ini v s) :=
  KeepOut.access h fun _ k => k.timInc

theorem Keep.rootFrac {ini v} (h : Keep r s) : Keep r (s.rootFrac ini v) :=
  h.timGuard fun _ k => Keep.frame <| Keep.branch (k.setReg _ _) (k.setReg _ _).timEvtFirst

theorem execRootFracWrite_keeps {ini v} (h : Keep r s) : KeepOut r (execRootFracWrite ini v s) :=
  KeepOut.access h fun _ k => k.rootFrac

theorem Keep.nsRead (h : Keep r s) : Keep r s.nsRead.1 :=
  (h.setReg _ _).setReg _ _

theorem execTimNsRead_keeps {ini} (h : Keep r s) : KeepOut r (execTimNsRead ini s) :=
  KeepOut.readRow h fun _ k => k.nsRead

theorem execTimWrap_keeps (h : Keep r s) : KeepOut r (execTimWrap s) :=
  KeepOut.next h.advanceTo

theorem Keep.cmpCfg {i v} (h : Keep r s) : Keep r (s.cmpCfg i v) :=
  Keep.branch (h.setReg _ _).evt (h.setReg _ _)

theorem execCmpArm_keeps {ini i v} (h : Keep r s) : KeepOut r (execCmpArm ini i v s) :=
  KeepOut.access h fun _ k => k.cmpCfg

theorem Keep.armStart {rec} (h : Keep r s) : Keep r (s.armStart rec) :=
  Keep.branch h.frame <| (h.frame.setReg _ _).setCmpV.cmpCfg.when fun _ k => k.note

theorem Keep.ptpHold (h : Keep r s) : Keep r s.ptpHold :=
  Keep.branch (h.setReg _ _).setBit h

theorem Keep.servoTo {st hold} (h : Keep r s) : Keep r (s.servoTo st hold) := by
  unfold State.servoTo
  extract_lets s1 s2 _ _ s3
  have hs1 : Keep r s1 := h.setFld
  have hs2 : Keep r s2 := hs1.setFld.when fun _ k => k.evt
  have hs3 : Keep r s3 := hs2.frame
  exact Keep.branch hs1 <| hs3.timNote.when fun _ k => k.armStart

theorem Keep.servoHold {hold} (h : Keep r s) : Keep r (s.servoHold hold) :=
  (h.setReg _ _).frame.servoTo

theorem Keep.setMpds {l} (h : Keep r s) : Keep r (s.setMpds l) :=
  h.frame

theorem Keep.setRuns {good bad} (h : Keep r s) : Keep r (s.setRuns good bad) :=
  h.frame

theorem Keep.servoLost (h : Keep r s) : Keep r s.servoLost :=
  Keep.branch h.servoHold h

theorem Keep.servoTrack {off} (h : Keep r s) : Keep r (s.servoTrack off) := by
  unfold State.servoTrack
  extract_lets _ _ _ s1
  have hs1 : Keep r s1 := h.setRuns
  exact Keep.branch (Keep.branch (Keep.branch h.servoTo h.setRuns) <| Keep.branch hs1.setCounter hs1) <|
    Keep.branch (Keep.branch h.servoTo h.setRuns) h.setRuns

theorem Keep.servoInterval {offset mpd port} (h : Keep r s) : Keep r (s.servoInterval offset mpd port) := by
  unfold State.servoInterval
  extract_lets _ _ _ _ _ s1 _ _ _ s2 s11
  have hs1 : Keep r s1 := (h.setReg _ _).setReg _ _
  have hs2 : Keep r s2 := hs1.setMpds
  have hs11 : Keep r s11 := Keep.branch hs2.setFld hs2.servoHold
  exact Keep.branch h <| Keep.branch hs1.servoLost <| Keep.branch hs11.evt.timNote <|
    Keep.branch (Keep.branch hs2.servoTo <| Keep.branch hs2.setMpds.servoTo hs2.setFld) hs2.servoTrack

theorem execServoInterval_keeps {offset mpd port} (h : Keep r s) : KeepOut r (execServoInterval offset mpd port s) :=
  KeepOut.event h fun _ k => k.servoInterval

theorem execSyncTimeout_keeps (h : Keep r s) : KeepOut r (execSyncTimeout s) :=
  KeepOut.event h fun _ k => k.servoLost

/-! ## Tones -/

theorem Keep.setGnt {f} (h : Keep r s) : Keep r (s.setGnt f) :=
  h.frame

theorem Keep.setTone {g x} (h : Keep r s) : Keep r (s.setTone g x) :=
  h.setGnt

theorem Keep.toneRun {g v prog} (h : Keep r s) : Keep r (s.toneRun g v prog) :=
  Keep.branch (h.setReg _ _).setTone (h.setReg _ _).setTone

theorem Keep.toneStop {g v} (h : Keep r s) : Keep r (s.toneStop g v) :=
  Keep.branch (h.setReg _ _) <| Keep.branch (h.setReg _ _).setTone (h.setReg _ _).setTone

theorem Keep.toneWrite {g v} (h : Keep r s) : Keep r (s.toneWrite g v) :=
  Keep.branch h.toneRun h.toneStop

theorem Keep.toneNext {g} (h : Keep r s) : Keep r (s.toneNext g).1 :=
  Keep.branchFst h <| Keep.branchFst h.setTone h.setTone

/-! ## Players -/

theorem Keep.msgRaise {m kind player v} (h : Keep r s) : Keep r (s.msgRaise m kind player v) :=
  h.raiseDet.gntFault

theorem Keep.setPlayer {p x} (h : Keep r s) : Keep r (s.setPlayer p x) :=
  h.setGnt

theorem Keep.playNote {p m kind req} (h : Keep r s) : Keep r (s.playNote p m kind req) :=
  h.note

theorem Keep.playOver {p kind} (h : Keep r s) : Keep r (s.playOver p kind) :=
  (h.setReg _ _).playNote.setPlayer

theorem Keep.playBegin {p left} (h : Keep r s) : Keep r (s.playBegin p left) :=
  Keep.branch (h.setReg _ _) (h.setReg _ _).playNote.msgRaise

theorem Keep.playStart {p v prog} (h : Keep r s) : Keep r (s.playStart p v prog) := by
  unfold State.playStart
  extract_lets s0 s1
  have hs0 : Keep r s0 := h.setReg _ _
  have hs1 : Keep r s1 := Keep.branch hs0.playOver hs0
  exact Keep.branch hs1.playNote.playNote <| Keep.branch hs1 hs1.setPlayer.playNote.playBegin

theorem Keep.playStop {p v} (h : Keep r s) : Keep r (s.playStop p v) :=
  Keep.branch (h.setReg _ _) <| Keep.branch (h.setReg _ _).playOver (h.setReg _ _).setPlayer

theorem Keep.playWrite {p v} (h : Keep r s) : Keep r (s.playWrite p v) :=
  Keep.branch h.playStart h.playStop

theorem Keep.playNext {p} (h : Keep r s) : Keep r (s.playNext p) :=
  h.setPlayer.playBegin

theorem Keep.playEdge {p} (h : Keep r s) : Keep r (s.playEdge p) :=
  Keep.branch h.playNext <| Keep.branch h.playOver <| Keep.branch h.playOver <| Keep.branch h.setPlayer h.playNext

theorem Keep.msgBad {m kind player off} (h : Keep r s) : Keep r (s.msgBad m kind player off) :=
  Keep.branch h h.setGnt.msgRaise

theorem Keep.msgSample {m k'} (h : Keep r s) : Keep r (s.msgSample m k').1 := by
  unfold State.msgSample
  extract_lets
  refine Keep.branchFst ?_ <| Keep.branch h.scrub h
  split
  · extract_lets q
    have hq : Keep r q.1 := h.dramRead
    exact Keep.branch hq h
  · exact h

theorem Keep.playTake {p} (h : Keep r s) : Keep r (s.playTake p).1 := by
  unfold State.playTake
  extract_lets s1 _ _ s2 q
  have hs1 : Keep r s1 := Keep.branch h.playEdge h
  have hs2 : Keep r s2 := hs1.setPlayer
  have hq : Keep r q.1 := hs2.msgSample
  exact Keep.branchFst hs1 <| Keep.branchFst hs2 <| Keep.branch hq hq.msgBad

theorem Keep.playerNext {p} (h : Keep r s) : Keep r (s.playerNext p).1 :=
  Keep.branchFst h <| Keep.setPlayer <| Keep.branchFst h.playTake h

theorem Keep.playersNext (h : Keep r s) : Keep r s.playersNext.1 :=
  h.foldFst fun _ _ k => k.playerNext

/-! ## Sai -/

theorem Keep.setPair {i x} (h : Keep r s) : Keep r (s.setPair i x) :=
  h.frame

theorem Keep.setLane {l x} (h : Keep r s) : Keep r (s.setLane l x) :=
  h.frame

theorem Keep.saiRaise {bit det always data} (h : Keep r s) : Keep r (s.saiRaise bit det always data) :=
  Keep.evt <| Keep.branch h.detBit.note h.detBit

theorem Keep.saiFrameErr {bit kind i len} (h : Keep r s) : Keep r (s.saiFrameErr bit kind i len) :=
  h.saiRaise

theorem Keep.pairUnlock {i} (h : Keep r s) : Keep r (s.pairUnlock i) :=
  h.each fun _ _ k => Keep.branch k.bridgeUnlock.setBridge k

theorem execBridgeLock_keeps {ch ratio} (h : Keep r s) : KeepOut r (execBridgeLock ch ratio s) :=
  KeepOut.event h fun _ k => Keep.branch ((k.setBit.setReg _ _).setBridge.each fun _ _ k1 => k1.setPair) k

theorem Keep.bridgeSample {c t} (h : Keep r s) : Keep r (s.bridgeSample c t).1 := by
  unfold State.bridgeSample
  extract_lets _ _ s1
  have hs1 : Keep r s1 := h.setBridge
  exact Keep.branchFst h.setBridge <| Keep.branchFst (Keep.branch hs1.bridgeTaken hs1) h

theorem Keep.bridgeBlock {c n} (h : Keep r s) : Keep r (s.bridgeBlock c n).1 :=
  h.foldFst fun _ _ k1 => k1.bridgeSample

theorem Keep.laneFrame {l x} (h : Keep r s) : Keep r (s.laneFrame l x).1 :=
  Keep.branch h.setLane h.setLane.setFld

theorem Keep.setNaMute {l m} (h : Keep r s) : Keep r (s.setNaMute l m) :=
  Keep.branch h.setLane h.setFld.setLane

theorem Keep.naRaise {l slot cause} (h : Keep r s) : Keep r (s.naRaise l slot cause) :=
  h.count.saiRaise

theorem Keep.naWatch {l top} (h : Keep r s) : Keep r (s.naWatch l top) := by
  unfold State.naWatch
  extract_lets _ _ _ s1
  have hs1 : Keep r s1 := h.setLane
  refine Keep.branch hs1 <| hs1.each fun t i k => Keep.branch ?_ k
  extract_lets _ s2
  have hs2 : Keep r s2 := Keep.branch k k.naRaise
  exact hs2.setNaMute

theorem execNonaudioRelease_keeps {l i} (h : Keep r s) : KeepOut r (execNonaudioRelease l i s) :=
  KeepOut.event h fun _ k => Keep.branch k.setNaMute.setLane k

theorem Keep.txSample {ch dom j src} (h : Keep r s) : Keep r (s.txSample ch dom j src).1 := by
  unfold State.txSample
  extract_lets
  refine Keep.branchFst h <| Keep.branchFst (Keep.branchFst h ?_) h
  split
  · exact h.bridgeSample
  · exact h.draw

theorem Keep.txSlots {l dom j src n i} (h : Keep r s) : Keep r (s.txSlots l dom j src n i).1 := by
  induction n generalizing s i with
  | zero => exact h
  | succ n ih => exact ih h.txSample

theorem Keep.sendFrame {l w driven x} (h : Keep r s) : Keep r (s.sendFrame l w driven x) :=
  h.emit

theorem Keep.sendFs {i} (h : Keep r s) : Keep r (s.sendFs i) :=
  Keep.branch h h.emit

theorem Keep.tonesNext (h : Keep r s) : Keep r s.tonesNext.1 :=
  h.toneNext.toneNext.toneNext.toneNext

theorem Keep.trailSample {given} (h : Keep r s) : Keep r (s.trailSample given) :=
  Keep.trailSwitches <| Keep.frame <| Keep.branch h.playersNext.tonesNext h

theorem Keep.gntRx {i bad w slots} (h : Keep r s) : Keep r (s.gntRx i bad w slots) :=
  h.each fun _ _ k1 => Keep.branch k1.frame k1

theorem Keep.slipped {i} (h : Keep r s) : Keep r (s.slipped i) :=
  h.saiFrameErr.count

theorem Keep.setGbuf {i x} (h : Keep r s) : Keep r (s.setGbuf i x) :=
  h.frame

theorem Keep.gntPush {i frame} (h : Keep r s) : Keep r (s.gntPush i frame) := by
  unfold State.gntPush
  split
  exact Keep.branch h.slipped h.setGbuf

theorem Keep.gntPop (h : Keep r s) : Keep r s.gntPop := by
  unfold State.gntPop
  refine h.each fun t e k => ?_
  extract_lets
  split
  · exact k
  · exact k.slipped.gntRx
  · exact k.setGbuf.gntRx

theorem Keep.trailTick {i given} (h : Keep r s) : Keep r (s.trailTick i given) :=
  Keep.frame <| Keep.branch h.gntPop.trailSample h

theorem Keep.gauntletFrame {i bad w slip slots src} (h : Keep r s) :
    Keep r (s.gauntletFrame i bad w slip slots src) := by
  unfold State.gauntletFrame
  extract_lets t s1
  have ht : Keep r t := Keep.branch h.gntRx.trailTick h
  have hs1 : Keep r s1 := Keep.branch (Keep.branch h.gntPush h.gntRx.trailTick) <| Keep.branch h ht.gntRx.trailTick
  exact hs1.each fun _ _ k => Keep.branch k k.sendFrame

theorem Keep.storeFrame {l nb j x} (h : Keep r s) : Keep r (s.storeFrame l nb j x) :=
  Keep.branch h.putArray h

theorem Keep.laneBridges {l y} (h : Keep r s) : Keep r (s.laneBridges l y) := by
  unfold State.laneBridges
  refine Keep.branch (h.each fun t sl k => ?_) h
  split
  · exact k.bridgeIn
  · exact k

theorem Keep.rxLane {l nb j w bad zero keep raw} (h : Keep r s) : Keep r (s.rxLane l nb j w bad zero keep raw) :=
  Keep.laneBridges <| h.naWatch.laneFrame.when fun _ k => k.storeFrame

theorem Keep.txLane {l j w dom zero rep src} (h : Keep r s) : Keep r (s.txLane l j w dom zero rep src) := by
  unfold State.txLane
  extract_lets a1 t
  have ha1 : Keep r a1.1 := Keep.branchFst h h.txSlots
  have ht : Keep r t.1 := ha1.laneFrame
  exact Keep.branch ht.sendFrame ht

theorem Keep.rangeCheck {i period} (h : Keep r s) : Keep r (s.rangeCheck i period) :=
  Keep.branch h.setBit.pairUnlock h.setBit

theorem Keep.recovery {i bclks period} (h : Keep r s) : Keep r (s.recovery i bclks period) :=
  Keep.branch h h.setPair

theorem Keep.rxFrame {i nb j w bad zero keep slots} (h : Keep r s) : Keep r (s.rxFrame i nb j w bad zero keep slots) :=
  h.each fun _ _ k1 => k1.rxLane

theorem Keep.txFrame {i nb j w dom zero rep src} (h : Keep r s) : Keep r (s.txFrame i nb j w dom zero rep src) :=
  Keep.frame <| h.frame.each fun _ _ k1 => k1.txLane

theorem Keep.frameIn {i nb j w flags bad zero slots t0} (h : Keep r s) :
    Keep r (s.frameIn i nb j w flags bad zero slots t0) :=
  h.setPair.rxFrame

theorem Keep.newCfg {i} (h : Keep r s) : Keep r (s.newCfg i) := by
  unfold State.newCfg
  extract_lets
  split
  · exact Keep.branch h.setPair h
  · exact h

theorem Keep.saiFrame {i bclks period slip slots src} (h : Keep r s) :
    Keep r (s.saiFrame i bclks period slip slots src) := by
  unfold State.saiFrame
  extract_lets _ _ _ s1 s2 _ _ _ _ at_ _ _ _ _ _ _ _ _ _ s3 s4 s5 s6 _ s7 s8 _ s9
  have hs1 : Keep r s1 := (h.setReg _ _).recovery
  have hs2 : Keep r s2 := Keep.sendFs <| Keep.branch hs1.rangeCheck hs1
  have hs3 : Keep r s3 := hs2.setPair
  have hs4 : Keep r s4 := hs3.setBit
  have hs5 : Keep r s5 := Keep.branch hs4.saiFrameErr.count hs4
  have hs6 : Keep r s6 := Keep.branch hs5.slipped hs5
  have hs7 : Keep r s7 := hs6.txFrame
  have hs8 : Keep r s8 := by
    refine Keep.branch hs7 <| Keep.branch hs7.rxFrame <| Keep.branch ?_ hs7.frameIn
    cases at_ with
    | some => exact hs7.frameIn.frameIn
    | none => exact hs7.frameIn
  have hs9 : Keep r s9 := hs8.setPair
  exact Keep.branch hs1 <| Keep.branch hs6.gauntletFrame.newCfg <| Keep.newCfg <|
    Keep.branch (Keep.setBit <| hs9.when fun _ k => k.setPair) hs9

theorem execSaiFrame_keeps {k' pair bclks period slip slots src} (h : Keep r s) :
    KeepOut r (execSaiFrame k' pair bclks period slip slots src s) := by
  unfold execSaiFrame
  exact KeepOut.event h fun _ k => Keep.branch k.saiFrame k

theorem execAes3Frame_keeps {r' a b perr cs period} (h : Keep r s) :
    KeepOut r (execAes3Frame r' a b perr cs period s) := by
  unfold execAes3Frame
  extract_lets
  refine KeepOut.event h fun t k => Keep.branch k ?_
  extract_lets s1 s2 _ _ _ _ _ _ _ s3 s4 s5 s6
  have hs1 : Keep r s1 := (k.setReg _ _).recovery
  have hs2 : Keep r s2 := hs1.rangeCheck
  have hs3 : Keep r s3 := hs2.setBit
  have hs4 : Keep r s4 := Keep.branch hs3.count.saiFrameErr hs3
  have hs5 : Keep r s5 := by
    unfold s5
    split
    · exact hs4
    · extract_lets s5
      have hs5 : Keep r s5 := hs4.setReg _ _
      exact Keep.branch hs5.setLane.naRaise <| Keep.branch hs5.setLane hs5
  have hs6 : Keep r s6 := hs5.rxLane
  exact Keep.branch hs1 <| Keep.branch hs5.setPair.saiFrameErr.count hs6.setPair

theorem Keep.hamperHeader {l n} (h : Keep r s) : Keep r (s.hamperHeader l n) :=
  h.putArray.putArray.setLane.setReg _ _

theorem Keep.hamperBlock {n} (h : Keep r s) : Keep r (s.hamperBlock n) :=
  h.each fun _ _ k => k.hamperHeader

theorem Keep.rxSerial {ch n} (h : Keep r s) : Keep r (s.rxSerial ch n).1 := by
  unfold State.rxSerial
  extract_lets
  refine Keep.branchFst h <| Keep.branchFst h ?_
  split
  · exact h.bridgeBlock
  · exact h

theorem execSaiClockStop_keeps {aes k' pair rate} (h : Keep r s) : KeepOut r (execSaiClockStop aes k' pair rate s) := by
  unfold execSaiClockStop
  extract_lets
  refine KeepOut.event h fun t k1 => Keep.branch k1 ?_
  extract_lets _ _ _ s1 s2 s3 _ s4
  have hs1 : Keep r s1 := k1.setPair
  have hs2 : Keep r s2 := Keep.branch hs1.saiFrameErr.count.setBit hs1
  have hs3 : Keep r s3 := Keep.branch hs2.setBit.setBit.count.saiRaise hs2
  have hs4 : Keep r s4 := Keep.branch hs3.frame hs3
  exact Keep.branch hs4.setBit.pairUnlock hs4

theorem execSaiClockRecover_keeps {aes k' pair} (h : Keep r s) : KeepOut r (execSaiClockRecover aes k' pair s) := by
  unfold execSaiClockRecover
  extract_lets
  refine KeepOut.event h fun t k => ?_
  extract_lets
  exact Keep.branch k.setBit.setBit.setPair k

theorem execSlotZeroCrossSwitch_keeps {l slot} (h : Keep r s) : KeepOut r (execSlotZeroCrossSwitch l slot s) :=
  KeepOut.event h fun _ k => Keep.branch k.setLane k

theorem Keep.maskWrite {l v late} (h : Keep r s) : Keep r (s.maskWrite l v late) :=
  (h.setReg _ _).setLane

theorem execSaiMaskWrite_keeps {ini l v late} (h : Keep r s) : KeepOut r (execSaiMaskWrite ini l v late s) :=
  KeepOut.access h fun _ k => Keep.branch k <| Keep.branch (k.gwWrite fun _ k1 => k1.maskWrite) k.maskWrite

theorem Keep.saiAlign {off} (h : Keep r s) : Keep r (s.saiAlign off) :=
  h.each fun _ _ k => k.setPair

theorem Keep.pairPut {i v m live} (h : Keep r s) : Keep r (s.pairPut i v m live) := by
  unfold State.pairPut
  extract_lets _ _ s1
  have hs1 : Keep r s1 := (h.setReg _ _).when fun _ k => k.setPair
  exact Keep.branch h <| Keep.branch hs1.pairUnlock hs1

theorem Keep.lanePut {l v m live} (h : Keep r s) : Keep r (s.lanePut l v m live) :=
  Keep.branch h <| (h.setReg _ _).when fun _ k => k.setLane

theorem Keep.holdPairs {old} (h : Keep r s) : Keep r (s.holdPairs old) :=
  h.each fun _ _ k1 => Keep.branch k1.setPair k1

/-! ## Mailbox -/

theorem Keep.mbxErr {ini a} (h : Keep r s) : Keep r (s.mbxErr ini a) :=
  h.evtFirst

theorem Keep.respond {c status res} (h : Keep r s) : Keep r (s.respond c status res) := by
  unfold State.respond
  extract_lets _ s1 s2 s3
  have hs1 : Keep r s1 := h.setReg _ _
  have hs2 : Keep r s2 := hs1.setReg _ _
  have hs3 : Keep r s3 := hs2.each fun _ _ k => k.setReg _ _
  exact Keep.branch hs3.setBit.setBit h

theorem Keep.serve {f : State → State} {c svc op} (h : Keep r s) (k : ∀ x, Keep r x → Keep r (f x)) :
    Keep r (s.serve c svc op f) :=
  Keep.branch (k _ h) h

theorem Keep.mbxDb {ini v} (h : Keep r s) : Keep r (s.mbxDb ini v) :=
  h.each fun _ _ k => Keep.branch k.mbxErr k.setBit

theorem execHstMbxDb_keeps {ini v} (h : Keep r s) : KeepOut r (execHstMbxDb ini v s) :=
  KeepOut.access h fun _ k => k.mbxDb

theorem Keep.mbxAck {ini v} (h : Keep r s) : Keep r (s.mbxAck ini v) :=
  h.each fun _ _ k => Keep.branch k.mbxErr k.setBit

theorem execHstMbxAck_keeps {ini v} (h : Keep r s) : KeepOut r (execHstMbxAck ini v s) :=
  KeepOut.access h fun _ k => k.mbxAck

theorem execMailboxResponse_keeps {c status res} (h : Keep r s) : KeepOut r (execMailboxResponse c status res s) :=
  KeepOut.next <| Keep.branch h.respond h

theorem Keep.mbxRestart (h : Keep r s) : Keep r s.mbxRestart :=
  h.each fun _ _ k => k.respond

theorem Keep.svcRestart {reset} (h : Keep r s) : Keep r (s.svcRestart reset) :=
  h.evt.note.mbxRestart.setBit

theorem execServiceFirmwareRestart_keeps {reset} (h : Keep r s) : KeepOut r (execServiceFirmwareRestart reset s) :=
  KeepOut.next <| Keep.branch h.svcRestart h

/-! ## Sensing -/

theorem Keep.snsEvt {bit kind g ch} (h : Keep r s) : Keep r (s.snsEvt bit kind g ch) :=
  h.evtFirst

theorem Keep.snsSync {mask} (h : Keep r s) : Keep r (s.snsSync mask) :=
  h.frame

theorem Keep.chainClear {g} (h : Keep r s) : Keep r (s.chainClear g) :=
  h.frame

theorem Keep.groupReset {g} (h : Keep r s) : Keep r (s.groupReset g) := by
  unfold State.groupReset
  extract_lets _ _ _ _ s1 s2 _ s3 _ s4
  have hs1 : Keep r s1 := h.frame
  have hs2 : Keep r s2 := hs1.setFld.setBit.setBit.setFld
  have hs3 : Keep r s3 := hs2.frame
  have hs4 : Keep r s4 := Keep.branch hs3.frame hs3.frame.chainClear
  exact hs4.setBit

theorem Keep.groupsReset {gs} (h : Keep r s) : Keep r (s.groupsReset gs) :=
  Keep.branch h <| Keep.evt <| Keep.count <| h.each fun _ _ k => k.groupReset

theorem Keep.snsTrain (h : Keep r s) : Keep r s.snsTrain :=
  Keep.branch h.groupsReset h

theorem execGroupReset_keeps {groups} (h : Keep r s) : KeepOut r (execGroupReset groups s) :=
  KeepOut.next h.groupsReset

theorem execSnsSyncPin_keeps (h : Keep r s) : KeepOut r (execSnsSyncPin s) :=
  KeepOut.event h fun _ k => Keep.branch k.snsSync k

theorem Keep.snsCtl {v} (h : Keep r s) : Keep r (s.snsCtl v) :=
  Keep.branch h.snsSync h

theorem execSnsCtlSync_keeps {ini v} (h : Keep r s) : KeepOut r (execSnsCtlSync ini v s) :=
  KeepOut.access h fun _ k => k.snsCtl

theorem Keep.snsGrpCtl {g v} (h : Keep r s) : Keep r (s.snsGrpCtl g v) :=
  Keep.branch h.snsSync h

theorem execSnsGrpCtlSync_keeps {ini g v} (h : Keep r s) : KeepOut r (execSnsGrpCtlSync ini g v s) :=
  KeepOut.access h fun _ k => Keep.branch (k.gwWrite fun _ k1 => k1.snsGrpCtl) k.snsGrpCtl

theorem Keep.snsStopOne {g} (h : Keep r s) : Keep r (s.snsStopOne g) :=
  h.setBit.setBit.setBit.snsEvt

theorem Keep.snsStop (h : Keep r s) : Keep r s.snsStop :=
  h.each fun _ _ k => k.snsStopOne

theorem Keep.claimSet {v} (h : Keep r s) : Keep r (s.claimSet v) := by
  unfold State.claimSet
  extract_lets _ s1
  have hs1 : Keep r s1 := (h.setReg _ _).setFld
  refine hs1.each fun t i k => ?_
  extract_lets t1
  have ht1 : Keep r t1 := k.setFld.snsSync
  exact Keep.branch ht1 ht1.snsStopOne

theorem Keep.snsRun (h : Keep r s) : Keep r s.snsRun :=
  h.snsSync

theorem Keep.stuckOn {c} (h : Keep r s) : Keep r (s.stuckOn c) :=
  Keep.branch h.setBit.count.snsEvt h

theorem execChannelStuck_keeps {c} (h : Keep r s) : KeepOut r (execChannelStuck c s) :=
  KeepOut.event h fun _ k => k.stuckOn

theorem execStuckInputChange_keeps {c} (h : Keep r s) : KeepOut r (execStuckInputChange c s) :=
  KeepOut.event h fun _ k => k.setBit

theorem Keep.coefData (h : Keep r s) : Keep r s.coefData.1 :=
  h.setReg _ _

theorem execSnsCoefDataRead_keeps {ini} (h : Keep r s) : KeepOut r (execSnsCoefDataRead ini s) :=
  KeepOut.readRow h fun _ k => k.coefData

theorem Keep.stuckBits {c top run changed} (h : Keep r s) : Keep r (s.stuckBits c top run changed).1 :=
  Keep.branch (Keep.setBit <| Keep.branch h.stuckOn h) <| Keep.branch h.stuckOn h

theorem Keep.chainTick {cfg c v} (h : Keep r s) : Keep r (s.chainTick cfg c v).1 := by
  unfold State.chainTick
  extract_lets x _ _ put
  have hput : ∀ x y, Keep r x → Keep r (put x y) := fun _ _ k => k.frame
  split
  rename_i e
  have k := Keep.pair e h.stuckBits
  extract_lets s1
  have hs1 : Keep r s1 := hput _ _ k
  exact Keep.branchFst (hput _ _ k) <| Keep.branchFst hs1 hs1.frame

theorem Keep.groupTick {g row} (h : Keep r s) : Keep r (s.groupTick g row).1 := by
  unfold State.groupTick
  extract_lets _ _ a _ _ s1
  have ha : Keep r a.1 := Keep.foldFst h fun _ _ k => Keep.branchFst k.chainTick k
  have hs1 : Keep r s1 := ha.frame
  exact hs1

theorem Keep.groupRun {g t0 x} (h : Keep r s) : Keep r (s.groupRun g t0 x).1 :=
  h.foldFst fun _ _ k => Keep.groupTick <| k.when fun _ k1 => k1.frame.chainClear

theorem Keep.jobTake {g n late x} (h : Keep r s) : Keep r (s.jobTake g n late x) :=
  Keep.branch h <| h.each fun _ _ k => k.frame

theorem Keep.entryWrite {a head smp} (h : Keep r s) : Keep r (s.entryWrite a head smp) :=
  h.dramWriteParts.dramWriteParts.dramWriteParts

theorem Keep.ringEntry {g n late tns rows} (h : Keep r s) : Keep r (s.ringEntry g n late tns rows) := by
  unfold State.ringEntry
  extract_lets s1
  have hs1 : Keep r s1 := h.jobTake
  split
  extract_lets _ _ _ _ _ _ _ _ s2
  have hs2 : Keep r s2 := hs1.release fun _ k => k.entryWrite
  exact Keep.branch hs1.snsEvt (hs2.frame.setReg _ _)

theorem execRingEntryDone_keeps {g late tns x} (h : Keep r s) : KeepOut r (execRingEntryDone g late tns x s) := by
  unfold execRingEntryDone
  extract_lets
  refine KeepOut.event h fun t k => Keep.branch k ?_
  extract_lets _ a1
  have ha1 : Keep r a1.1 := Keep.branchFst k k.groupRun
  exact Keep.branch ha1.ringEntry ha1

theorem Keep.lineNote {e kind z ph} (h : Keep r s) : Keep r (s.lineNote e kind z ph) :=
  h.note

theorem Keep.lineRaise (h : Keep r s) : Keep r s.lineRaise :=
  h.detBit.evt.count.gntFault

theorem Keep.lineTake {e} (h : Keep r s) : Keep r (s.lineTake e) :=
  h.frame

theorem Keep.lineOff {e} (h : Keep r s) : Keep r (s.lineOff e) :=
  h.setFld.frame

theorem Keep.lineWrite {f : State → State} {e} (h : Keep r s) (k : ∀ x, Keep r x → Keep r (f x)) :
    Keep r (s.lineWrite e f) := by
  unfold State.lineWrite
  extract_lets s1
  have hs1 : Keep r s1 := k _ <| Keep.branch h.lineTake h
  exact Keep.branch hs1 hs1.lineOff

theorem Keep.lineJudge {e} (h : Keep r s) : Keep r (s.lineJudge e) := by
  unfold State.lineJudge
  extract_lets _ s1 _ _ _ _ _ _ _ _ _ _ s2 state s3
  have hs1 : Keep r s1 := h.lineTake
  have hs2 : Keep r s2 := Keep.branch (hs1.setReg _ _).setFld hs1
  have hs3 : Keep r s3 := hs2.setFld
  refine Keep.branch hs1.lineOff ?_
  split
  rename_i put _ _ _ _ _ _
  clear_value state
  have hput : ∀ {x p}, Keep r x → Keep r (put x p) := fun k => k.frame
  split
  · exact hs3
  · exact Keep.branch (hput hs3).setBit.lineNote (hput hs3)
  · exact Keep.branch (hput hs3).setBit.lineNote.lineRaise (hput hs3)

theorem Keep.lineWindow {e} (h : Keep r s) : Keep r (s.lineWindow e) :=
  Keep.branch h.lineJudge h.lineJudge.lineOff

theorem Keep.pilotShow {c i q ok} (h : Keep r s) : Keep r (s.pilotShow c i q ok) :=
  Keep.branch ((h.setReg _ _).setReg _ _).frame.lineWindow ((h.setReg _ _).setReg _ _).frame

theorem execSnsPilotWindow_keeps {c valid x} (h : Keep r s) : KeepOut r (execSnsPilotWindow c valid x s) := by
  unfold execSnsPilotWindow
  extract_lets
  refine KeepOut.event h fun t k => Keep.branch k ?_
  extract_lets s1
  have hs1 : Keep r s1 := Keep.branch k <| k.each fun _ _ k1 => k1.chainTick
  split
  · exact hs1
  · exact hs1.pilotShow

theorem Keep.measStat {active status} (h : Keep r s) : Keep r (s.measStat active status) :=
  h.setReg _ _

theorem Keep.jobPut {i bs} (h : Keep r s) : Keep r (s.jobPut i bs) :=
  h.dramWriteParts

theorem Keep.askMode {code} (h : Keep r s) : Keep r (s.askMode code) :=
  (h.setReg _ _).setBit.frame

theorem Keep.measEnd {status} (h : Keep r s) : Keep r (s.measEnd status) :=
  Keep.branch h.jobPut.measStat.note.frame.askMode h.jobPut.measStat.note.frame

theorem Keep.measStop {status} (h : Keep r s) : Keep r (s.measStop status) :=
  Keep.branch h h.measEnd

theorem Keep.measAlarm (h : Keep r s) : Keep r s.measAlarm :=
  Keep.branch h h.measEnd.frame

theorem execMeasStart_keeps {c} (h : Keep r s) : KeepOut r (execMeasStart c s) := by
  unfold execMeasStart
  refine KeepOut.event h fun t k => k.serve fun t1 k1 => Keep.branch k1.respond <| Keep.branch k1.respond <|
    Keep.branch k1.dramWrite.respond ?_
  extract_lets a1 _ t2 s1 s2 _ _ _ s3
  have ha1 : Keep r a1.1 := k1.dramRead
  have ht2 : Keep r t2 := ha1
  have hs1 : Keep r s1 := ht2.frame
  have hs2 : Keep r s2 := hs1.respond
  have hs3 : Keep r s3 := Keep.branch hs2.frame hs2.frame
  exact Keep.branch hs2.measEnd hs3.jobPut.measStat

theorem Keep.measTrain (h : Keep r s) : Keep r s.measTrain := by
  unfold State.measTrain
  extract_lets
  split
  · exact h.frame
  · exact h

theorem execMeasStatus_keeps {c} (h : Keep r s) : KeepOut r (execMeasStatus c s) :=
  KeepOut.next <| h.serve fun _ k => k.respond

theorem execMeasCaptureDone_keeps (h : Keep r s) : KeepOut r (execMeasCaptureDone s) :=
  KeepOut.event h fun _ k => Keep.branch k.frame k

theorem execMeasResponsesDone_keeps {clean} (h : Keep r s) : KeepOut r (execMeasResponsesDone clean s) := by
  unfold execMeasResponsesDone
  refine KeepOut.event h fun t k => Keep.branch k ?_
  extract_lets _ use _ _ _ _ s1
  have hs1 : Keep r s1 := k.frame
  clear_value use
  split
  · exact hs1.measEnd
  · rename_i s2 _ s3 _
    have hs2 : Keep r s2 := hs1.each fun _ _ k => k.dramWriteParts
    have hs3 : Keep r s3 := hs2.frame.jobPut
    exact Keep.branch hs3.frame hs3.measEnd

theorem execMeasSynthDone_keeps (h : Keep r s) : KeepOut r (execMeasSynthDone s) := by
  unfold execMeasSynthDone
  refine KeepOut.event h fun t k => Keep.branch k <| Keep.branch k.measEnd ?_
  extract_lets _ _ s1 _ s2 _ _ s3 s4 s5
  have hs1 : Keep r s1 := k.putArray
  have hs2 : Keep r s2 := hs1.each fun _ _ k1 => k1.logWrite
  have hs3 : Keep r s3 := hs2.firDescWrite
  have hs4 : Keep r s4 := hs3.firDescWrite
  have hs5 : Keep r s5 := Keep.branch hs4.fadeReqWrite hs4
  exact hs5.measEnd

/-! ## Mac -/

theorem Keep.setMacP {p x} (h : Keep r s) : Keep r (s.setMacP p x) :=
  h.frame

theorem Keep.macCnt {p i k'} (h : Keep r s) : Keep r (s.macCnt p i k') :=
  h.setMacP

theorem Keep.macEvt {p bit} (h : Keep r s) : Keep r (s.macEvt p bit) :=
  h.evt

theorem Keep.linkSet {p up} (h : Keep r s) : Keep r (s.linkSet p up) :=
  Keep.branch h <| Keep.branch h.setBit.macEvt.note h.setBit.macEvt.note.macCnt.macCnt

theorem execLinkUp_keeps {p} (h : Keep r s) : KeepOut r (execLinkUp p s) :=
  KeepOut.event h fun _ k => Keep.branch (k.setReg _ _).linkSet k

theorem execLinkDown_keeps {p st} (h : Keep r s) : KeepOut r (execLinkDown p st s) :=
  KeepOut.event h fun _ k => (k.setReg _ _).linkSet

theorem Keep.macSync (h : Keep r s) : Keep r s.macSync :=
  h.each fun _ _ k => Keep.branch (Keep.branch k k.setMacP) k.linkSet.setMacP

theorem Keep.tsPush {p tx sfd id} (h : Keep r s) : Keep r (s.tsPush p tx sfd id).1 :=
  Keep.branchFst h.setMacP.macCnt <| h.macCnt.countFld.evtFirst.when fun _ k => k.detBit

theorem Keep.tsRead {p tx} (h : Keep r s) : Keep r (s.tsRead p tx).1 := by
  unfold State.tsRead
  extract_lets
  split
  · exact h.setReg _ _
  · exact h.setMacP.setReg _ _

theorem execTsqRead_keeps {ini p tx} (h : Keep r s) : KeepOut r (execTsqRead ini p tx s) :=
  KeepOut.readRow h fun _ k => k.tsRead

theorem Keep.macSnap {p v} (h : Keep r s) : Keep r (s.macSnap p v) := by
  unfold State.macSnap
  extract_lets _ s1
  have hs1 : Keep r s1 := h.each fun _ _ k => (k.setReg _ _).setReg _ _
  exact Keep.branch (Keep.branch hs1.setMacP hs1) h

theorem execMacSnap_keeps {ini p} (h : Keep r s) : KeepOut r (execMacSnap ini p s) :=
  KeepOut.access h fun _ k => k.macSnap

theorem execMacSnapClr_keeps {ini p} (h : Keep r s) : KeepOut r (execMacSnapClr ini p s) :=
  KeepOut.access h fun _ k => k.macSnap

theorem execFcsWindow_keeps {p} (h : Keep r s) : KeepOut r (execFcsWindow p s) := by
  unfold execFcsWindow
  extract_lets
  refine KeepOut.event h fun t k => Keep.branch k ?_
  extract_lets s1
  have hs1 : Keep r s1 := k.setMacP
  exact Keep.branch hs1.macEvt.raiseDet hs1

theorem Keep.ringRead {q a n} (h : Keep r s) : Keep r (s.ringRead q a n).1 :=
  Keep.branchFst h.dramRead h.scrub

theorem Keep.ringWrite {q a bs} (h : Keep r s) : Keep r (s.ringWrite q a bs) :=
  Keep.branch h.dramWriteParts h.putArray

theorem Keep.ringStep {p q} (h : Keep r s) : Keep r (s.ringStep p q) :=
  h.setReg _ _

theorem Keep.tailWrite {p q v} (h : Keep r s) : Keep r (s.tailWrite p q v) :=
  Keep.branch h.macEvt (h.setReg _ _)

theorem execMacRingTailWrite_keeps {ini p q v} (h : Keep r s) : KeepOut r (execMacRingTailWrite ini p q v s) :=
  KeepOut.access h fun _ k => k.tailWrite

theorem Keep.ringTake {p q f x trunc fcsBad tsOk tsLost} (h : Keep r s) :
    Keep r (s.ringTake p q f x trunc fcsBad tsOk tsLost) :=
  Keep.branch h.macCnt.macEvt h.ringRead.ringWrite.ringWrite.ringWrite.ringStep

theorem Keep.sendFrameOn {p f} (h : Keep r s) : Keep r (s.sendFrameOn p f) := by
  unfold State.sendFrameOn
  extract_lets _ _ s1
  have hs1 : Keep r s1 := h.when fun _ k => k.macCnt
  exact hs1.macCnt.macCnt.macCnt.macCnt.emit

theorem Keep.txTake {p q sfd held} (h : Keep r s) : Keep r (s.txTake p q sfd held) := by
  unfold State.txTake
  extract_lets _ a1 _ _ rf _ x _ s1 fin _ _ s2 s3 s4
  have ha1 : Keep r a1.1 := h.ringRead
  have hrf : Keep r rf.1 := ha1.ringRead
  have hs1 : Keep r s1 := hrf.setMacP
  have hfin : ∀ x y, Keep r x → Keep r (fin x y) := fun _ _ k => k.ringWrite.ringStep
  have hs2 : Keep r s2 := hs1.when fun _ k => k.macCnt
  have hs3 : Keep r s3 := hs2.each fun _ _ k => k.sendFrameOn.when fun _ k1 => k1.macCnt
  have hs4 : Keep r s4 := hs3.when fun _ k => k.macCnt.macCnt
  split
  · exact hfin _ _ hs1.macCnt.macEvt
  · exact hfin _ _ <| hs4.when fun _ k => k.tsPush

theorem execTxDescriptor_keeps {p sfd held} (h : Keep r s) : KeepOut r (execTxDescriptor p sfd held s) := by
  unfold execTxDescriptor
  refine KeepOut.event h fun t k => Keep.branch ?_ k
  split
  · exact k.txTake
  · exact k

/-! ## Stream -/

theorem Keep.setRxBuf {t b} (h : Keep r s) : Keep r (s.setRxBuf t b) :=
  h.frame

theorem Keep.setTxBuf {t b} (h : Keep r s) : Keep r (s.setTxBuf t b) :=
  h.frame

theorem Keep.strEvt {bit t} (h : Keep r s) : Keep r (s.strEvt bit t) :=
  h.evtFirst

theorem Keep.strCapture {t n} (h : Keep r s) : Keep r (s.strCapture t n).1 :=
  Keep.when ((h.setRxBuf.setReg _ _).when fun _ k => k.count.strEvt) fun _ k => k.strEvt

theorem execEpochTimeout_keeps {t} (h : Keep r s) : KeepOut r (execEpochTimeout t s) :=
  KeepOut.event h fun _ k => Keep.branch k.setRxBuf k

theorem Keep.strPacket {p t f x} (h : Keep r s) : Keep r (s.strPacket p t f x) := by
  unfold State.strPacket
  extract_lets _ _ _ _ _ _ _ _ _ _ note drop _ _ _ _ _ _ _ _ _ _ _ s1 s2 s3
  have hnote : ∀ x y z, Keep r x → Keep r (note x y z) := fun _ _ _ k => k.macCnt.strEvt
  have hdrop : ∀ x y z, Keep r x → Keep r (drop x y z) := fun _ _ _ k => Keep.count <| hnote _ _ _ k
  have hs1 : Keep r s1 := h.setRxBuf.setFld
  have hs2 : Keep r s2 := hs1.when fun _ k => hnote _ _ _ k
  have hs3 : Keep r s3 := Keep.when (hs2.when fun _ k => hnote _ _ _ k) fun _ k => k.count
  exact Keep.branch (hdrop _ _ _ h) <| Keep.branch (hdrop _ _ _ hs1) <| hs3.when fun _ k => k.macCnt

theorem Keep.strTxBlock {n} (h : Keep r s) : Keep r (s.strTxBlock n) :=
  h.each fun _ _ k => k.setTxBuf

theorem Keep.rtpPacket {p t j smp} (h : Keep r s) : Keep r (s.rtpPacket p t j smp).1 :=
  h.draw

theorem Keep.strSendOn {p t j smp} (h : Keep r s) : Keep r (s.strSendOn p t j smp) :=
  Keep.branch (Keep.sendFrameOn <| h.rtpPacket.macCnt.when fun _ k => k.macCnt) h.macCnt

theorem Keep.strSend {t j smp} (h : Keep r s) : Keep r (s.strSend t j smp) :=
  h.strSendOn

theorem Keep.packetOut {t j smp} (h : Keep r s) : Keep r (s.packetOut t j smp) := by
  unfold State.packetOut
  extract_lets
  split
  · exact h.strSendOn
  · exact h.release fun _ k => k.strSend

theorem Keep.subOut {f t} (h : Keep r s) : Keep r (s.subOut f t).1 := by
  unfold State.subOut
  extract_lets _ q
  have hq : Keep r q.1 := by
    unfold q
    split
    · exact h
    · exact h.draw
  exact hq

theorem Keep.subRow {t m} (h : Keep r s) : Keep r (s.subRow t m).1 :=
  h.foldFst fun _ _ k => Keep.branchFst k.subOut k

theorem Keep.packetSamples {t j} (h : Keep r s) : Keep r (s.packetSamples t j).1 := by
  unfold State.packetSamples
  extract_lets _ _ row a _ b
  have ha : Keep r a.1 := by
    refine h.foldFst fun _ _ k => ?_
    extract_lets q
    have hq : Keep r q.1 := k.subRow
    split
    · exact k
    · exact hq
  have hb : Keep r b.1 := by
    refine h.foldFst fun _ _ k => ?_
    extract_lets _ one
    have hone : Keep r one.1 := by
      refine k.paired.foldFst fun _ _ k => ?_
      extract_lets map q
      have hq : Keep r q.1 := k.subOut
      refine Keep.branchFst hq ?_
      split
      · exact k.bridgeSample.paired
      · exact k
    exact hone
  exact Keep.branchFst (Keep.branchFst ha h) <| Keep.branchFst hb h

theorem execStreamPacketSend_keeps {t j} (h : Keep r s) : KeepOut r (execStreamPacketSend t j s) := by
  unfold execStreamPacketSend
  extract_lets
  refine KeepOut.event h fun t2 k => Keep.branch k ?_
  split
  · exact k
  · rename_i e
    have k1 := Keep.pair e k.packetSamples
    extract_lets
    exact Keep.branch k1.setTxBuf.macCnt <| Keep.branch k1 k1.packetOut

theorem Keep.macReceive {p frame sfd} (h : Keep r s) : Keep r (s.macReceive p frame sfd).1 := by
  unfold State.macReceive
  extract_lets _ _ s1 _ _ _ _ _ s2 s3 s4 _ s5 _ s6 s7 s8 _ ts s9
  have hs1 : Keep r s1 := h.macCnt
  have hs2 : Keep r s2 := hs1.setMacP
  have hs3 : Keep r s3 := hs2.macCnt.macCnt.macCnt.macCnt
  have hs4 : Keep r s4 := hs3.when fun _ k => k.macCnt
  have hs5 : Keep r s5 := Keep.branch hs2.macCnt hs4.setMacP
  have hs6 : Keep r s6 := Keep.branch hs5 hs5.macCnt.setMacP
  have hs7 : Keep r s7 := hs6.when fun _ k => k.macCnt
  have hs8 : Keep r s8 := hs7.when fun _ k => k.macCnt
  have hts : Keep r ts.1 := Keep.branchFst hs8.tsPush hs8
  have hs9 : Keep r s9 := hts
  refine Keep.branchFst h <| Keep.branchFst hs1.macCnt <| Keep.branchFst hs6 <| Keep.branchFst hs6.arraySweep ?_
  split
  · exact Keep.branch hs9 hs9.strPacket
  · exact Keep.branchFst hs9 hs9.macCnt
  · exact hs9.macCnt
  · exact hs9.macCnt
  · exact hs9.ringTake

/-! ## Bvl -/

theorem Keep.setBvlP {p x} (h : Keep r s) : Keep r (s.setBvlP p x) :=
  h.frame

theorem Keep.bvlNote {kind port v peer} (h : Keep r s) : Keep r (s.bvlNote kind port v peer) :=
  h.note

theorem Keep.bvlEvt {bit kind ix} (h : Keep r s) : Keep r (s.bvlEvt bit kind ix) :=
  h.evtFirst

theorem Keep.portTo {p st} (h : Keep r s) : Keep r (s.portTo p st) :=
  Keep.branch h h.setFld.bvlNote

theorem Keep.flitOut {p seq f} (h : Keep r s) : Keep r (s.flitOut p seq f) :=
  h.emit.setBvlP

theorem Keep.idleOut {p} (h : Keep r s) : Keep r (s.idleOut p) :=
  h.flitOut

theorem Keep.sendOne {p} (h : Keep r s) : Keep r (s.sendOne p) := by
  unfold State.sendOne
  extract_lets
  refine Keep.branch h ?_
  split
  · exact h
  · extract_lets
    exact h.flitOut.setBvlP

theorem Keep.sendAll {p} (h : Keep r s) : Keep r (s.sendAll p) :=
  h.each fun _ _ k => k.sendOne

theorem Keep.bvlQueue {p f} (h : Keep r s) : Keep r (s.bvlQueue p f) :=
  h.setBvlP.sendAll

theorem Keep.resend {p} (h : Keep r s) : Keep r (s.resend p) :=
  h.setBvlP.count.each fun _ _ k => k.flitOut

theorem Keep.parentSync (h : Keep r s) : Keep r s.parentSync := by
  unfold State.parentSync
  extract_lets _ _ s1
  have hs1 : Keep r s1 := h.frame
  exact Keep.branch h <| Keep.branch (Keep.branch hs1.servoHold.evt.timNote <|
    Keep.branch hs1.setFld.evt.timNote hs1) hs1

theorem Keep.beaconOut {p} (h : Keep r s) : Keep r (s.beaconOut p) :=
  Keep.branch h.bvlQueue <| Keep.branch h.flitOut h

theorem Keep.routes (h : Keep r s) : Keep r s.routes := by
  unfold State.routes
  extract_lets _ chg s1 s2
  have hs1 : Keep r s1 := h.each fun _ _ k => k.setReg _ _
  have hs2 : Keep r s2 := by
    cases hc : chg with
    | nil => simpa only [s2, hc] using hs1
    | cons => simpa only [s2, hc] using hs1.count.bvlEvt.each fun _ _ k => k.beaconOut
  exact hs2.parentSync

theorem Keep.bvlSend {f} (h : Keep r s) : Keep r (s.bvlSend f) := by
  unfold State.bvlSend
  refine Keep.branch h <| Keep.branch (h.each fun _ _ k => k.bvlQueue) ?_
  split
  · exact h.bvlQueue
  · exact h

theorem Keep.flitJob {code blk fs} (h : Keep r s) : Keep r (s.flitJob code blk fs) :=
  h.release fun _ k => k.each fun _ _ k1 => k1.bvlSend

theorem Keep.flitIn {p f} (h : Keep r s) : Keep r (s.flitIn p f) := by
  unfold State.flitIn
  extract_lets _ _ s1
  have hs1 : Keep r s1 := Keep.branch h.frame h
  exact Keep.branch hs1 <| Keep.branch hs1 <| Keep.branch hs1.count <| hs1.each fun _ _ k => k.bvlQueue

theorem Keep.portDown {p} (h : Keep r s) : Keep r (s.portDown p) := by
  unfold State.portDown
  extract_lets _ s1 _ s2
  have hs1 : Keep r s1 := h.setFld.setBvlP
  have hs2 : Keep r s2 := hs1.frame
  exact Keep.branch (hs2.routes.each fun _ _ k => k.bvlSend) hs2.routes

theorem Keep.portFail {p cause} (h : Keep r s) : Keep r (s.portFail p cause) :=
  Keep.branch h.count.evt.raiseDet.portDown h

theorem Keep.retryCheck {p} (h : Keep r s) : Keep r (s.retryCheck p) :=
  Keep.branch h.evt.raiseDet.portFail h

theorem execRetryTimeout_keeps {p} (h : Keep r s) : KeepOut r (execRetryTimeout p s) :=
  KeepOut.event h fun _ k => Keep.branch k.resend.retryCheck k

theorem Keep.ackIn {p ack nak} (h : Keep r s) : Keep r (s.ackIn p ack nak) :=
  Keep.sendAll <| Keep.branch h.setBvlP.resend.retryCheck h.setBvlP

theorem execFlitReceive_keeps {p flit} (h : Keep r s) : KeepOut r (execFlitReceive p flit s) := by
  unfold execFlitReceive
  extract_lets
  refine KeepOut.event h fun t k => Keep.branch k <| Keep.branch ?_ <| Keep.branch ?_ <|
    Keep.branch (Keep.branch k.frame k) <| Keep.branch k.ackIn <| Keep.branch k.setBvlP.idleOut ?_
  · extract_lets t1
    have ht1 : Keep r t1 := k.arraySweep
    exact Keep.branch ht1.setBvlP.idleOut ht1
  · extract_lets s1
    have hs1 : Keep r s1 := k.count
    exact Keep.branch hs1.setBvlP.idleOut hs1
  · extract_lets s1 s2
    have hs1 : Keep r s1 := k.setBvlP
    have hs2 : Keep r s2 := hs1.ackIn.idleOut
    exact Keep.branch hs2.frame <| Keep.branch hs2.flitIn hs2

/-- The state after a flit has left the inbox. -/
theorem Keep.takeFlit {p kind x} (h : Keep r s) (e : s.takeFlit p kind = some (t, x)) : Keep r t := by
  unfold State.takeFlit at e
  split at e
  · cases e
  · cases e
    exact h.frame

theorem execPortSignalDetect_keeps {p} (h : Keep r s) : KeepOut r (execPortSignalDetect p s) :=
  KeepOut.event h fun _ k => Keep.branch k.portTo k

theorem execPortNewAttempt_keeps {p} (h : Keep r s) : KeepOut r (execPortNewAttempt p s) :=
  KeepOut.event h fun _ k => Keep.branch k.setBvlP.portTo k

theorem execBlockLockHeld_keeps {p} (h : Keep r s) : KeepOut r (execBlockLockHeld p s) :=
  KeepOut.event h fun _ k => Keep.branch k.setBvlP.portTo.beaconOut k

theorem execPortTrainTimeout_keeps {p} (h : Keep r s) : KeepOut r (execPortTrainTimeout p s) :=
  KeepOut.event h fun _ k => Keep.branch k.setBvlP.portTo k

theorem execLockLost_keeps {p} (h : Keep r s) : KeepOut r (execLockLost p s) :=
  KeepOut.event h fun _ k => k.portFail

theorem execBeaconTimeout_keeps {p} (h : Keep r s) : KeepOut r (execBeaconTimeout p s) :=
  KeepOut.event h fun _ k => k.portFail

theorem execBeaconSend_keeps {p} (h : Keep r s) : KeepOut r (execBeaconSend p s) :=
  KeepOut.event h fun _ k => Keep.branch k.beaconOut k

theorem Keep.conflict {p} (h : Keep r s) : Keep r (s.conflict p) :=
  Keep.branch h.setFld.setBit.evt.bvlNote.frame <| Keep.branch h h.setBit.evt.bvlNote

theorem execBeaconReceive_keeps {p} (h : Keep r s) : KeepOut r (execBeaconReceive p s) := by
  unfold execBeaconReceive
  extract_lets
  refine KeepOut.event h fun t k => ?_
  split
  · exact k
  · rename_i e
    have k1 := k.takeFlit e
    extract_lets _ _ _ _ _ _ s1 _ s2 _ s3
    have hs1 : Keep r s1 := k1.setFld.setFld.setBvlP
    have hs2 : Keep r s2 := Keep.branch (Keep.branch hs1.portTo <| Keep.branch hs1.setBvlP.portTo hs1) <|
      Keep.branch hs1.portTo hs1
    have hs3 : Keep r s3 := Keep.branch hs2.conflict hs2
    exact Keep.branch hs3.routes hs3

theorem Keep.setFound {b} (h : Keep r s) : Keep r (s.setFound b) :=
  h.frame

theorem Keep.bvlSync (h : Keep r s) : Keep r s.bvlSync := by
  unfold State.bvlSync
  extract_lets _ s1 s2 s3
  have hs1 : Keep r s1 := h.setBit
  have hs2 : Keep r s2 := Keep.branch (hs1.setReg _ _).setFound <|
    Keep.branch (Keep.branch hs1 hs1.setFld.setBit) hs1.setFld.setBit.setFound
  have hs3 : Keep r s3 := hs2.each fun _ _ k => Keep.branch k k.portDown.bvlNote
  exact Keep.branch hs3 hs3.routes

theorem Keep.discover (h : Keep r s) : Keep r s.discover := by
  unfold State.discover
  refine Keep.branch ?_ h
  split
  · exact h.setFld.setBit.setFound.routes
  · exact h

theorem execNodeDiscovery_keeps (h : Keep r s) : KeepOut r (execNodeDiscovery s) :=
  KeepOut.event h fun _ k => Keep.branch k k.discover

theorem execConflictBackoff_keeps (h : Keep r s) : KeepOut r (execConflictBackoff s) :=
  KeepOut.event h fun _ k => Keep.branch k.frame.discover k

theorem execConflictClear_keeps (h : Keep r s) : KeepOut r (execConflictClear s) :=
  KeepOut.event h fun _ k => Keep.branch k.setBit.routes k

theorem execLatencyMeasure_keeps {p tx rx dly} (h : Keep r s) : KeepOut r (execLatencyMeasure p tx rx dly s) :=
  KeepOut.event h fun _ k => Keep.branch ((k.setReg _ _).setReg _ _) k

theorem Keep.probeTs {p dep t id} (h : Keep r s) : Keep r (s.probeTs p dep t id) :=
  Keep.branch h.setBvlP h.count

theorem execProbe_keeps {p dep t id} (h : Keep r s) : KeepOut r (execProbe p dep t id s) := by
  unfold execProbe
  extract_lets
  refine KeepOut.event h fun t1 k => Keep.branch k <| Keep.branch k.draw.bvlQueue.probeTs ?_
  split
  · rename_i e
    have k1 := k.takeFlit e
    exact k1.probeTs
  · exact k

theorem Keep.portTsRead {p} (h : Keep r s) : Keep r (s.portTsRead p).1 := by
  unfold State.portTsRead
  extract_lets
  split
  · exact h.setReg _ _
  · exact h.setBvlP.setReg _ _

theorem execPortTsqRead_keeps {ini p} (h : Keep r s) : KeepOut r (execPortTsqRead ini p s) :=
  KeepOut.readRow h fun _ k => k.portTsRead

theorem Keep.setSub {o x} (h : Keep r s) : Keep r (s.setSub o x) :=
  h.frame

theorem Keep.subTake {o n i pay} (h : Keep r s) : Keep r (s.subTake o n i pay) := by
  unfold State.subTake
  extract_lets _ _ _ _ _ _ _ s1
  have hs1 : Keep r s1 := Keep.branch h.frame h
  exact Keep.branch h <| Keep.branch h.count <| Keep.branch hs1.objWrite.setSub hs1.setSub

theorem execObjectFlit_keeps {p} (h : Keep r s) : KeepOut r (execObjectFlit p s) := by
  unfold execObjectFlit
  refine KeepOut.event h fun t k => ?_
  split
  · exact k
  · rename_i e
    have k1 := k.takeFlit e
    extract_lets
    split
    · exact k1
    · split
      · exact k1.count.bvlEvt
      · exact Keep.branch k1 <| k1.each fun _ _ k2 => k2.subTake

theorem execObjectLate_keeps {o} (h : Keep r s) : KeepOut r (execObjectLate o s) :=
  KeepOut.event h fun _ k => Keep.branch k k.objWrite.setSub.count.bvlEvt

theorem execObjectPublish_keeps {o} (h : Keep r s) : KeepOut r (execObjectPublish o s) :=
  KeepOut.event h fun _ k => Keep.branch k k.flitJob

theorem Keep.setFabRx {c b} (h : Keep r s) : Keep r (s.setFabRx c b) :=
  h.frame

theorem Keep.chanTake {c m i ep smp} (h : Keep r s) : Keep r (s.chanTake c m i ep smp) :=
  Keep.when (h.setFabRx.when fun _ k => k.count) fun _ k => k.count.bvlEvt

theorem execChannelFlit_keeps {p} (h : Keep r s) : KeepOut r (execChannelFlit p s) := by
  unfold execChannelFlit
  refine KeepOut.event h fun t k => ?_
  split
  · exact k
  · rename_i e
    have k1 := k.takeFlit e
    extract_lets
    refine Keep.branch k1 ?_
    split
    · exact k1.count.bvlEvt
    · exact k1.each fun _ _ k2 => k2.chanTake

theorem Keep.fabCapture {c n} (h : Keep r s) : Keep r (s.fabCapture c n).1 :=
  h.setFabRx

theorem Keep.bvlTxBlock {n} (h : Keep r s) : Keep r (s.bvlTxBlock n) :=
  Keep.branch h <| h.each fun _ _ k => Keep.branch k.frame <| Keep.branch k k.flitJob

theorem Keep.rraGo {k' wr node seat} (h : Keep r s) : Keep r (s.rraGo k' wr node seat) :=
  Keep.branch h <| Keep.branch (h.frame.setReg _ _) (h.frame.setReg _ _).bvlSend

theorem execRraRead_keeps {ini k' node seat} (h : Keep r s) : KeepOut r (execRraRead ini k' node seat s) :=
  KeepOut.access h fun _ k1 => k1.rraGo

theorem execRraWrite_keeps {ini k' node seat} (h : Keep r s) : KeepOut r (execRraWrite ini k' node seat s) :=
  KeepOut.access h fun _ k1 => k1.rraGo

theorem execRraResponse_keeps {p} (h : Keep r s) : KeepOut r (execRraResponse p s) := by
  unfold execRraResponse
  refine KeepOut.event h fun t k => ?_
  split
  · exact k
  · rename_i e
    have k1 := k.takeFlit e
    extract_lets _ _ _ _ s1
    have hs1 : Keep r s1 := k1.setReg _ _
    exact Keep.branch (Keep.branch (hs1.setReg _ _) hs1) k1

theorem execRraTimeout_keeps {k'} (h : Keep r s) : KeepOut r (execRraTimeout k' s) :=
  KeepOut.event h fun _ k1 => Keep.branch (k1.setReg _ _) k1

/-! ## CfgLoad -/

theorem Keep.setShadow {v} (h : Keep r s) : Keep r (s.setShadow v) :=
  h.setFld

theorem Keep.disarm (h : Keep r s) : Keep r s.disarm :=
  h.frame.setFld

theorem Keep.cfgNote {kind m last} (h : Keep r s) : Keep r (s.cfgNote kind m last) :=
  h.note

theorem Keep.setCoefPend {b} (h : Keep r s) : Keep r (s.setCoefPend b) :=
  h.setBit

theorem Keep.coefWrite {p l} (h : Keep r s) : Keep r (s.coefWrite p l) := by
  induction l generalizing s with
  | nil => exact h
  | cons b l ih => exact Keep.branch h <| Keep.branch h.frame <| ih h.putArray

theorem Keep.coefPend {readErr} (h : Keep r s) : Keep r (s.coefPend readErr) := by
  unfold State.coefPend
  extract_lets
  refine Keep.branch h ?_
  split
  · exact h
  · exact h.frame.setCoefPend.fadesDiscard.coefWrite

theorem execCoefPendSet_keeps (h : Keep r s) : KeepOut r (execCoefPendSet s) :=
  KeepOut.event h fun _ k => k.coefPend

theorem Keep.loadProgress (h : Keep r s) : Keep r s.loadProgress :=
  Keep.branch (h.setReg _ _).draw h

theorem Keep.loadDoneRead (h : Keep r s) : Keep r s.loadDoneRead.1 :=
  h.loadProgress

theorem Keep.shadowGone {st} (h : Keep r s) : Keep r (s.shadowGone st) :=
  h.setShadow.disarm.setCoefPend.frame

theorem Keep.loadFails {code ty off id} (h : Keep r s) : Keep r (s.loadFails code ty off id) :=
  (h.shadowGone.setFld.setFld.setReg _ _).evt.count.raiseDet.frame

theorem Keep.loadStart {src} (h : Keep r s) : Keep r (s.loadStart src) :=
  Keep.branch (h.shadowGone.setReg _ _).frame.loadFails (h.shadowGone.setReg _ _).frame

theorem Keep.loadGo (h : Keep r s) : Keep r s.loadGo :=
  Keep.branch h.setFld.evt h.loadStart

theorem execCfgLoadGo_keeps {ini} (h : Keep r s) : KeepOut r (execCfgLoadGo ini s) :=
  KeepOut.access h fun _ k => k.loadGo

theorem Keep.loadEntry (h : Keep r s) : Keep r s.loadEntry :=
  Keep.branch h <| Keep.branch h.frame <| Keep.branch h.loadStart <| Keep.branch h.setShadow h.loadFails

theorem Keep.putData {p c} (h : Keep r s) : Keep r (s.putData p c) :=
  h.putArray

theorem Keep.putProg {p half c} (h : Keep r s) : Keep r (s.putProg p half c) :=
  h.putArray

theorem Keep.putCore {p half c} (h : Keep r s) : Keep r (s.putCore p half c) :=
  h.putProg.putData

theorem Keep.placeGraph {p} (h : Keep r s) : Keep r (s.placeGraph p) :=
  Keep.frame <| h.each fun _ _ k => Keep.branch k.putProg k.putProg.putData

theorem Keep.placeShadow (h : Keep r s) : Keep r s.placeShadow := by
  unfold State.placeShadow
  split
  · exact Keep.branch h.placeGraph h
  · exact h

theorem Keep.loadEnd {readErr} (h : Keep r s) : Keep r (s.loadEnd readErr).1 := by
  unfold State.loadEnd
  extract_lets s1
  have hs1 : Keep r s1 := h.coefPend
  refine Keep.branchFst h ?_
  split
  · exact hs1.loadProgress.loadFails
  · extract_lets _ _ s11 s2
    have hs11 : Keep r s11 := hs1.dramWrite
    have hs2 : Keep r s2 := (hs11.setShadow.evt.setReg _ _).setReg _ _
    exact hs2.frame.placeShadow

theorem Keep.loadAbort (h : Keep r s) : Keep r s.loadAbort :=
  Keep.frame <| Keep.branch h.loadProgress.loadFails <| Keep.branch h.shadowGone h

theorem Keep.moveGnt {new} (h : Keep r s) : Keep r (s.moveGnt new) := by
  unfold State.moveGnt
  extract_lets _ s1
  have hs1 : Keep r s1 := by
    refine h.each fun t2 i k => ?_
    extract_lets _ _ _ _ _ s2
    have hs2 : Keep r s2 := k.putArray.putArray.putArray
    exact hs2.putArray.putArray.putArray
  exact Keep.branch h hs1.frame

theorem Keep.putRegs {n reg val} (h : Keep r s) : Keep r (s.putRegs n reg val) :=
  h.each fun _ _ k => k.setReg _ _

theorem Keep.putTable {a bs} (h : Keep r s) : Keep r (s.putTable a bs) :=
  h.putArray.frame

theorem Keep.clkEnPut {v} (h : Keep r s) : Keep r (s.clkEnPut v) :=
  (h.setReg _ _).dramGate

theorem Keep.monEnPut {v} (h : Keep r s) : Keep r (s.monEnPut v) :=
  Keep.frame <| Keep.when ((h.setReg _ _).when fun _ k => k.setBit) fun _ k => k.setBit

theorem Keep.applyClock {p} (h : Keep r s) : Keep r (s.applyClock p) :=
  (h.clkEnPut.monEnPut.setReg _ _).frame

theorem Keep.applyMem {p} (h : Keep r s) : Keep r (s.applyMem p) :=
  ((h.setReg _ _).setReg _ _).recMirrorAll

theorem Keep.applySpeakers {p} (h : Keep r s) : Keep r (s.applySpeakers p) :=
  ((((h.setReg _ _).setReg _ _).setReg _ _).setReg _ _).putTable.putTable.putTable.putTable

theorem Keep.applyRender {p} (h : Keep r s) : Keep r (s.applyRender p) :=
  ((h.setReg _ _).setReg _ _).putTable.putTable

theorem Keep.gdClearAll (h : Keep r s) : Keep r s.gdClearAll :=
  h.each fun _ _ k => k.gdClear

theorem Keep.applyCoef {p m train} (h : Keep r s) : Keep r (s.applyCoef p m train) := by
  unfold State.applyCoef
  extract_lets _ _ s0 s1 _ s2
  have hs0 : Keep r s0 := Keep.branch h.frame h
  have hs1 : Keep r s1 := hs0.each fun _ _ k => k.setBit.when fun _ k1 => k1.count.evt
  have hs2 : Keep r s2 := hs1.frame.setReg _ _
  exact Keep.firStatus <| hs2.each fun _ _ k => (((k.setReg _ _).setReg _ _).setReg _ _).setFld

theorem Keep.bridgePlan {g} (h : Keep r s) : Keep r (s.bridgePlan g) :=
  h.each fun _ _ k => Keep.branch k ((k.setReg _ _).setReg _ _).setBridge

theorem Keep.releaseCores {g half} (h : Keep r s) : Keep r (s.releaseCores g half) := by
  unfold State.releaseCores
  split
  · exact h
  · refine h.each fun t c k => ?_
    extract_lets s1
    have hs1 : Keep r s1 := k.setBit.setFld
    exact hs1.setCore.putCore

theorem Keep.routeStatus {n} (h : Keep r s) : Keep r (s.routeStatus n) :=
  h.setReg _ _

theorem Keep.applyGraph {p old m fade k} (h : Keep r s) : Keep r (s.applyGraph p old m fade k) := by
  unfold State.applyGraph
  extract_lets _ _ _ s0 _ s1 s2
  have hs0 : Keep r s0 := Keep.branch (h.each fun _ _ k => k.putData) <| h.each fun _ _ k => k.putCore
  have hs1 : Keep r s1 := Keep.branch ((hs0.clearSram slotState).frame) <| hs0.frame
  have hs2 : Keep r s2 := hs1.each fun _ _ k => k.setFld
  exact Keep.bridgePlan <| hs2.frame

theorem Keep.applyMix {p m train keep} (h : Keep r s) : Keep r (s.applyMix p m train keep) := by
  unfold State.applyMix
  extract_lets s0 s1 _ s2 _ s3 _ _ _ _ _ s4
  have hs0 : Keep r s0 := h.when fun _ k => k.mixKeep
  have hs1 : Keep r s1 := (((hs0.setReg _ _).setReg _ _).setReg _ _).setReg _ _
  have hs2 : Keep r s2 := hs1.each fun _ _ k => k.putArray
  have hs3 : Keep r s3 := hs2.putArray
  have hs4 : Keep r s4 := Keep.branch hs3.gainWords hs3
  exact hs4.frame

theorem Keep.applySched {p old m} (h : Keep r s) : Keep r (s.applySched p old m) :=
  h.frame.putArray

theorem Keep.applyPorts {p m live} (h : Keep r s) : Keep r (s.applyPorts p m live) := by
  unfold State.applyPorts
  extract_lets s1 s2 s3 s4
  have hs1 : Keep r s1 := h.setReg _ _
  have hs2 : Keep r s2 := hs1.each fun _ _ k => k.pairPut
  have hs3 : Keep r s3 := by
    refine hs2.each fun t l k => ?_
    extract_lets s11
    have hs11 : Keep r s11 := ((k.lanePut.setReg _ _).setReg _ _).setReg _ _
    exact Keep.branch hs11 hs11.maskWrite
  have hs4 : Keep r s4 := hs3.each fun _ _ k => ((k.pairPut.setReg _ _).setReg _ _).setReg _ _
  exact hs4.putRegs

theorem Keep.applyNet {p} (h : Keep r s) : Keep r (s.applyNet p) := by
  unfold State.applyNet
  extract_lets _ _ _ _ s1 s2 s3 s4
  have hs1 : Keep r s1 := (h.setReg _ _).setReg _ _
  have hs2 : Keep r s2 := by
    refine hs1.each fun t q k => ?_
    extract_lets _ s11
    have hs11 : Keep r s11 := ((((((k.setReg _ _).setReg _ _).setReg _ _).setReg _ _).setReg _ _).setReg _ _).setReg _ _
    exact hs11.putRegs
  have hs3 : Keep r s3 := hs2.each fun _ _ k => Keep.branch k k.putRegs.setRxBuf
  have hs4 : Keep r s4 := hs3.each fun _ _ k => Keep.branch k k.putRegs.setTxBuf
  exact hs4.putRegs.macSync

theorem Keep.applyFabric {p} (h : Keep r s) : Keep r (s.applyFabric p) := by
  unfold State.applyFabric
  extract_lets _ _ _ s1 s2 s3 s4
  have hs1 : Keep r s1 := (((h.setReg _ _).setReg _ _).setReg _ _).setReg _ _
  have hs2 : Keep r s2 := hs1.putRegs.putRegs
  have hs3 : Keep r s3 := hs2.putRegs
  have hs4 : Keep r s4 := hs3.putRegs
  exact hs4.putRegs

theorem Keep.applySense {p} (h : Keep r s) : Keep r (s.applySense p) := by
  unfold State.applySense
  extract_lets _ s1 s2
  have hs1 : Keep r s1 := h.setReg _ _
  have hs2 : Keep r s2 := by
    refine hs1.each fun t g k => ?_
    extract_lets _ s11
    have hs11 : Keep r s11 := ((k.setReg _ _).setReg _ _).setReg _ _
    exact hs11.when fun _ k1 => k1.snsSync
  exact hs2.each fun _ _ k => k.lineWrite fun _ k1 =>
    Keep.branch ((((((k1.setReg _ _).setReg _ _).setReg _ _).setReg _ _).setReg _ _).setReg _ _) k1.setBit

theorem Keep.applyMeters {p} (h : Keep r s) : Keep r (s.applyMeters p) :=
  h.each fun _ _ k => Keep.branch k.putArray <| Keep.branch k.putWord k

theorem Keep.planCrc (h : Keep r s) : Keep r s.planCrc :=
  h.setReg _ _

theorem Keep.swapTake {m} (h : Keep r s) : Keep r (s.swapTake m) := by
  unfold State.swapTake
  extract_lets _ s1 _ s2 s3 s4 t1
  have hs1 : Keep r s1 := h.cfgNote.when fun _ k => k.evt
  have hs2 : Keep r s2 := hs1.frame.count.evt
  have hs3 : Keep r s3 := (hs2.setReg _ _).setShadow.disarm.setBit
  have hs4 : Keep r s4 := hs3.each fun _ _ k => k.setReg _ _
  have ht1 : Keep r t1 := hs4.planCrc.setCoefPend
  exact ht1.frame

theorem Keep.unset {l} (h : Keep r s) : Keep r (s.unset l) :=
  h.each fun _ _ k => k.setReg _ _

theorem Keep.unconf {t} (h : Keep r s) : Keep r (s.unconf t) := by
  unfold State.unconf
  extract_lets _ _ s1 s11 _ _ s12 _ s13
  have hs1 : Keep r s1 := (h.fadesEnd.resetRange _ _).unset
  have hs11 : Keep r s11 := h.unset
  have hs12 : Keep r s12 := h.unset
  have hs13 : Keep r s13 := h.unset.each fun _ _ k => k.unset.snsSync
  split
  · exact hs1.firStatus
  · exact h.applyMix.unset
  · exact hs11.frame
  · exact hs12.frame
  · exact h.unset
  · exact hs13.each fun _ _ k => k.lineWrite fun _ k1 => k1.unset
  · exact h.applyMeters
  · exact h

theorem Keep.swReg {m live a v} (h : Keep r s) : Keep r (s.swReg m live a v) := by
  unfold State.swReg
  extract_lets
  split
  · exact h.pairPut
  · exact Keep.branch h.lanePut <| Keep.branch (Keep.branch h <|
      (h.setReg _ _).when fun _ k => k.snsSync) (h.setReg _ _)

theorem Keep.swapApply {m train} (h : Keep r s) : Keep r (s.swapApply m train) := by
  unfold State.swapApply
  extract_lets _ _ _ _ on _ _ _ a0 _ e0 e1 s0 _ _ s1 s2 s3 s4 s5 s6 s7 s8
  have hon : ∀ {x n f}, (∀ y p, Keep r y → Keep r (f y p)) → Keep r x → Keep r (on x n f) := by
    intro x n f hf k
    dsimp only [on]
    split
    · exact hf _ _ k
    · exact k
  clear_value on
  have ha0 : Keep r a0 := h.frame
  have he0 : Keep r e0 := Keep.branch ha0 ha0.frame
  have he1 : Keep r e1 := he0.when fun _ k => k.each fun _ _ k => k.unconf
  have hs0 : Keep r s0 := Keep.branch he1 he1.moveGnt
  have hs1 : Keep r s1 :=
    hon (fun _ _ k => k.applyRender) <| hon (fun _ _ k => k.applySpeakers) <| hon (fun _ _ k => k.applyMem) <|
      hon (fun _ _ k => k.applyClock) hs0
  have hs2 : Keep r s2 := hon (fun _ _ k => k.applyCoef) hs1
  have hs3 : Keep r s3 := hon (fun _ _ k => k.applyGraph) hs2
  clear_value s3
  have hs4 : Keep r s4 := by
    dsimp only [s4]
    split
    · exact hs3.applyMix
    · exact Keep.branch hs3.gainWords hs3
  have hs5 : Keep r s5 := hon (fun _ _ k => k.applyPorts) <| hon (fun _ _ k => k.applySched) hs4
  have hs6 : Keep r s6 :=
    hon (fun _ _ k => k.applyMeters) <| hon (fun _ _ k => k.applySense) <| hon (fun _ _ k => k.applyFabric) <|
      hon (fun _ _ k => k.applyNet) hs5
  have hs7 : Keep r s7 := hs6.each fun _ _ k => k.swReg
  have hs8 : Keep r s8 := hs7.macSync.bvlSync.gdClearAll.releaseCores
  exact hs8.routeStatus

theorem Keep.swapRefuse {err m} (h : Keep r s) : Keep r (s.swapRefuse err m) :=
  Keep.branch h.setFld.evt.cfgNote h.setFld.evt.cfgNote.disarm

theorem Keep.cutFades {n} (h : Keep r s) : Keep r (s.cutFades n) :=
  h.frame.when fun _ k => k.firEvt

theorem Keep.swapBlock {n} (h : Keep r s) : Keep r (s.swapBlock n) := by
  unfold State.swapBlock
  extract_lets s1
  have hs1 : Keep r s1 := h.setBit
  split
  · exact h.swapRefuse
  · exact Keep.branch hs1.cutFades hs1
  · exact h.swapTake.swapApply
  · exact h

theorem Keep.routeBlock {n} (h : Keep r s) : Keep r (s.routeBlock n) := by
  unfold State.routeBlock
  extract_lets _ _ s1
  have hs1 : Keep r s1 := Keep.branch h.frame h
  split
  · exact hs1.routeStatus
  · extract_lets s2 _ s3
    have hs2 : Keep r s2 := Keep.branch hs1.evt hs1
    have hs3 : Keep r s3 := Keep.branch hs2.frame hs2
    exact hs3.placeShadow.routeStatus

theorem Keep.deferSync (h : Keep r s) : Keep r s.deferSync :=
  h.setBit

theorem Keep.swapWrite {v} (h : Keep r s) : Keep r (s.swapWrite v) := by
  unfold State.swapWrite
  extract_lets s1
  have hs1 : Keep r s1 := Keep.branch (Keep.branch h.setBit h.swapRefuse) h
  exact Keep.branch h <| Keep.deferSync <| Keep.branch hs1.frame hs1

theorem execLoadSuccess_keeps (h : Keep r s) : KeepOut r (execLoadSuccess s) := by
  unfold execLoadSuccess
  refine KeepOut.event h fun t k => Keep.branch ?_ k
  split
  · rename_i e
    have k1 := Keep.pair e k.loadEnd
    exact k1.deferSync
  · exact k

theorem execLoadFail_keeps {readErr} (h : Keep r s) : KeepOut r (execLoadFail readErr s) := by
  unfold execLoadFail
  refine KeepOut.event h fun t k => Keep.branch ?_ k
  split
  · rename_i e
    exact Keep.pair e k.loadEnd
  · exact k

theorem execCfgSwapArm_keeps {ini force} (h : Keep r s) : KeepOut r (execCfgSwapArm ini force s) :=
  KeepOut.access h fun _ k => k.swapWrite

theorem execCfgSwapForce_keeps {ini} (h : Keep r s) : KeepOut r (execCfgSwapForce ini s) :=
  KeepOut.access h fun _ k => k.swapWrite

theorem execPeriodicCheckStart_keeps (h : Keep r s) : KeepOut r (execPeriodicCheckStart s) :=
  KeepOut.event h fun _ k => Keep.branch k.setBit k

theorem Keep.checkSection {a : State × Nat × Option (Nat × Nat × Bool)} {x} (k : Keep r a.1) :
    Keep r (State.checkSection a x).1 :=
  k.dramRead

theorem Keep.checkPass (h : Keep r s) : Keep r s.checkPass.1 :=
  h.foldFst fun _ _ k => Keep.checkSection k

theorem Keep.activeNone (h : Keep r s) : Keep r s.activeNone := by
  unfold State.activeNone
  extract_lets s1
  have hs1 : Keep r s1 := Keep.planCrc <| h.setBit.each fun _ _ k => k.setReg _ _
  exact Keep.branch hs1 hs1.frame

theorem execPeriodicCheckDone_keeps {bad} (h : Keep r s) : KeepOut r (execPeriodicCheckDone bad s) := by
  unfold execPeriodicCheckDone
  refine KeepOut.event h fun t k => Keep.branch k ?_
  extract_lets p
  have hp : Keep r p.1 := k.setBit.checkPass
  split
  · exact hp
  · extract_lets _ s2
    have hs2 : Keep r s2 := hp.count.evt.raiseDet.activeNone
    exact hs2.when fun _ k1 => k1.fatal

theorem Keep.fuseCtl {v} (h : Keep r s) : Keep r (s.fuseCtl v) :=
  Keep.branch h <| Keep.branch h.frame h.evt

theorem execCfgFuseProgram_keeps {ini slot confirm} (h : Keep r s) :
    KeepOut r (execCfgFuseProgram ini slot confirm s) :=
  KeepOut.access h fun _ k => k.fuseCtl

theorem execCfgFuseRevoke_keeps {ini slot confirm} (h : Keep r s) : KeepOut r (execCfgFuseRevoke ini slot confirm s) :=
  KeepOut.access h fun _ k => k.fuseCtl

theorem execFuseDone_keeps (h : Keep r s) : KeepOut r (execFuseDone s) := by
  unfold execFuseDone
  extract_lets
  refine KeepOut.next ?_
  split
  · exact h
  · extract_lets s1
    have hs1 : Keep r s1 := h.frame
    exact hs1.note
  · extract_lets s1
    have hs1 : Keep r s1 := h.frame
    exact hs1.note

/-! ## Twin -/

theorem Keep.setSync {v} (h : Keep r s) : Keep r (s.setSync v) :=
  Keep.branch h h.setFld.evt.twinNote

theorem Keep.dropRecord (h : Keep r s) : Keep r s.dropRecord :=
  h.frame

theorem Keep.dualEnd (h : Keep r s) : Keep r s.dualEnd :=
  Keep.branch h.setBit.twinNote h

theorem Keep.twinSync (h : Keep r s) : Keep r s.twinSync := by
  unfold State.twinSync
  extract_lets _ _ s1 t _ s2 s3 t2
  have hs1 : Keep r s1 := h.setBit.setBit
  have ht : Keep r t := hs1.setSync.dropRecord
  have hs2 : Keep r s2 := Keep.branch hs1 ht.frame
  have hs3 : Keep r s3 := hs2.when fun _ k => k.dualEnd
  have ht2 : Keep r t2 := hs3.setBit
  exact Keep.branch hs3 <| Keep.branch ht2.frame hs3

theorem Keep.standbyEnter (h : Keep r s) : Keep r s.standbyEnter :=
  Keep.branch h.setSync.dropRecord.setSync h.setSync.dropRecord

theorem Keep.outCrc {n late} (h : Keep r s) : Keep r (s.outCrc n late) :=
  Keep.branch h h.frame

theorem Keep.sendControl {n restart swap} (h : Keep r s) : Keep r (s.sendControl n restart swap) :=
  Keep.branch h <| Keep.frame <| Keep.branch (h.twinJob.frame.setReg _ _) h.twinJob.frame

theorem Keep.recCheck {kind fk blk} (h : Keep r s) : Keep r (s.recCheck kind fk blk) :=
  h.count.evt.raiseDet

theorem Keep.hbOut {path} (h : Keep r s) : Keep r (s.hbOut path) := by
  unfold State.hbOut
  extract_lets t
  have ht : Keep r t := h.emit
  split
  · exact h.emit
  · exact Keep.branch h ht.frame
  · split
    · exact h
    · extract_lets _ _ _ s1
      have hs1 : Keep r s1 := Keep.macCnt <| h.when fun _ k => k.macCnt
      exact Keep.branch h hs1.sendFrameOn

theorem execHeartbeatSend_keeps (h : Keep r s) : KeepOut r (execHeartbeatSend s) :=
  KeepOut.event h fun _ k => Keep.branch k <| Keep.frame <| k.each fun _ _ k1 => k1.hbOut

theorem execTwinLaneLoss_keeps (h : Keep r s) : KeepOut r (execTwinLaneLoss s) :=
  KeepOut.event h fun _ k => k.setBit

theorem execTwinLaneReturn_keeps (h : Keep r s) : KeepOut r (execTwinLaneReturn s) :=
  KeepOut.event h fun _ k => k.setBit

/-! ## Modes -/

theorem Keep.setPhase {p} (h : Keep r s) : Keep r (s.setPhase p) :=
  h.setFld

theorem Keep.modeNote {dest cause det} (h : Keep r s) : Keep r (s.modeNote dest cause det) :=
  (h.setReg _ _).note

theorem Keep.leaveMaintain (h : Keep r s) : Keep r s.leaveMaintain :=
  ((h.setReg _ _).setReg _ _).setBit

theorem Keep.modeDram {m} (h : Keep r s) : Keep r (s.modeDram m) :=
  Keep.branch h.dramLow <| Keep.branch h.dramFull h

theorem Keep.unusedCells (h : Keep r s) : Keep r s.unusedCells :=
  (h.clearSram fun a => decide (0x069C0000 ≤ a) && decide (a < 0x06A80000)).frame

theorem Keep.setModeSync {dest sync} (h : Keep r s) : Keep r (s.setModeSync dest sync) := by
  unfold State.setModeSync
  extract_lets _ s1 _ s2 s3 s4
  have hs1 : Keep r s1 := h.setFld.setFld.setReg _ _
  have hs2 : Keep r s2 := hs1.frame.evt.when fun _ k => k.evt
  have hs3 : Keep r s3 := Keep.when (hs2.when fun _ k => k.leaveMaintain) fun _ k => k.measStop
  have hs4 : Keep r s4 := hs3.alarmSync.fltSync.modeDram.twinSync.when fun _ k => k.unusedCells
  refine Keep.branch hs1.twinSync <| hs4.when fun t1 k => ?_
  split
  · exact k.dropRecord.setSync
  · exact k.standbyEnter

theorem Keep.setMode {dest} (h : Keep r s) : Keep r (s.setMode dest) :=
  h.setModeSync

theorem Keep.modeOnTrain {dest cause sync} (h : Keep r s) : Keep r (s.modeOnTrain dest cause sync) :=
  h.modeNote.setModeSync.frame

theorem Keep.goMode {dest cause det} (h : Keep r s) : Keep r (s.goMode dest cause det) :=
  h.modeNote.setMode.setPhase.when fun _ k => k.appFault

theorem Keep.refuseReq {err} (h : Keep r s) : Keep r (s.refuseReq err) :=
  h.setFld.evt.note

theorem Keep.setPending {b} (h : Keep r s) : Keep r (s.setPending b) :=
  h.setBit

theorem Keep.holdReq {code} (h : Keep r s) : Keep r (s.holdReq code) :=
  h.evt.setPending.frame

theorem Keep.tryArm (h : Keep r s) : Keep r s.tryArm := by
  unfold State.tryArm
  extract_lets _ _ _ s1
  have hs1 : Keep r s1 := h.frame
  exact Keep.branch (Keep.branch h.frame <| Keep.branch hs1 <| Keep.branch hs1.frame hs1.armStart) h

theorem Keep.enterRender {code cause} (h : Keep r s) : Keep r (s.enterRender code cause) :=
  h.modeNote.setMode.setPhase.tryArm

theorem Keep.disarmTrain (h : Keep r s) : Keep r s.disarmTrain :=
  h.frame

theorem Keep.stopAt {m dest cause det restart realign} (h : Keep r s) :
    Keep r (s.stopAt m dest cause det restart realign) :=
  Keep.frame <| h.modeNote.setPhase.setFld.when fun _ k => k.count.evt.moveGnt

theorem Keep.clearRender (h : Keep r s) : Keep r s.clearRender := by
  unfold State.clearRender
  extract_lets far _ _ _ _ s1
  have hs1 : Keep r s1 := by
    refine Keep.frame <|
      (h.clearSram restartClears).dram (if s.dramReady then Store.clear far s.dram else s.dram) fun w => ?_
    split
    · exact Store.wf_clear _ _ _ w
    · exact w
  split
  · exact hs1.each fun _ _ k => k.putData
  · exact hs1

theorem Keep.endTrain (h : Keep r s) : Keep r s.endTrain :=
  (h.fadesEnd.fadesDiscard.schStop.setBit.setReg _ _).ovrStop.frame

theorem Keep.settleSets (h : Keep r s) : Keep r s.settleSets :=
  Keep.branch h.frame <| Keep.branch h.swapApply.placeShadow h

theorem Keep.gapStart {st} (h : Keep r s) : Keep r (s.gapStart st) := by
  unfold State.gapStart
  extract_lets s0 s1 s2 _ s21
  have hs0 : Keep r s0 := h.measStop.endTrain
  have hs1 : Keep r s1 := hs0.settleSets
  have hs2 : Keep r s2 := hs1.holdPairs.setMode.setPhase.clearRender
  have hs21 : Keep r s21 := hs1.setMode.setPhase
  exact Keep.branch hs2.frame <| hs21.when fun _ k => k.appFault

theorem Keep.restartIdle {dest cause det} (h : Keep r s) : Keep r (s.restartIdle dest cause det) := by
  unfold State.restartIdle
  extract_lets s1 s0 s2 s3
  have hs1 : Keep r s1 := h.modeNote.count.evt
  have hs0 : Keep r s0 := hs1.measStop.disarmTrain.endTrain
  have hs2 : Keep r s2 := hs0.settleSets.holdPairs.moveGnt.setMode
  have hs3 : Keep r s3 := hs2.setPhase.clearRender
  exact hs3.frame

theorem Keep.goOrStop {dest cause det restart} (h : Keep r s) : Keep r (s.goOrStop dest cause det restart) :=
  Keep.branch h.stopAt <| Keep.branch h.restartIdle <|
    Keep.branch h.disarmTrain.endTrain.settleSets.goMode h.disarmTrain.goMode

theorem execRestartPrepDone_keeps (h : Keep r s) : KeepOut r (execRestartPrepDone s) :=
  KeepOut.next <| Keep.branch h.frame.tryArm h

theorem Keep.enterLoad {code} (h : Keep r s) : Keep r (s.enterLoad code) :=
  h.goMode.setFld.loadEntry

theorem Keep.backToTrail {err} (h : Keep r s) : Keep r (s.backToTrail err) :=
  h.refuseReq.goMode

theorem Keep.enterActive {code back} (h : Keep r s) : Keep r (s.enterActive code back) := by
  unfold State.enterActive
  extract_lets _ no
  have hno : ∀ x y, Keep r x → Keep r (no x y) := fun _ _ k => Keep.branch k.backToTrail k.refuseReq
  exact Keep.branch (Keep.branch h.enterRender <| hno _ _ h) <| Keep.branch h.enterRender <| hno _ _ h

theorem Keep.reqTrail {code} (h : Keep r s) : Keep r (s.reqTrail code) := by
  unfold State.reqTrail
  extract_lets s1 t _ s11 s2
  have hs1 : Keep r s1 := h.note.setFld
  have ht : Keep r t := hs1.recCommitOpen
  have hs11 : Keep r s11 := h.modeNote
  have hs2 : Keep r s2 := hs11.setMode.setFld.setPhase
  exact Keep.branch (Keep.branch h.refuseReq <| Keep.branch h.refuseReq ht.frame) <| Keep.branch h.goMode <|
    Keep.branch (Keep.branch h.refuseReq.holdReq hs2.frame) <|
      Keep.branch (Keep.branch h.refuseReq.holdReq h.enterLoad) h.enterActive

theorem Keep.reqRender {code} (h : Keep r s) : Keep r (s.reqRender code) :=
  Keep.branch h.goOrStop <| Keep.branch h.goOrStop <| Keep.branch (Keep.branch h.goMode h.refuseReq) <|
    Keep.branch h.refuseReq h.refuseReq

theorem Keep.evalReq {code} (h : Keep r s) : Keep r (s.evalReq code) := by
  unfold State.evalReq
  extract_lets _ t _ s1
  have ht : Keep r t := h.setPending
  have hs1 : Keep r s1 := ht.frame
  exact Keep.branch hs1.refuseReq <| Keep.branch (Keep.branch hs1.reqTrail hs1.refuseReq) <|
    Keep.branch (Keep.branch hs1.goMode hs1.refuseReq) <| Keep.branch (Keep.branch hs1.goMode hs1.refuseReq) <|
      Keep.branch hs1.reqRender hs1.refuseReq

theorem Keep.pwrNote {kind wake} (h : Keep r s) : Keep r (s.pwrNote kind wake) :=
  h.note

theorem Keep.sleepAbort (h : Keep r s) : Keep r s.sleepAbort :=
  Keep.branch h.setFld.evt.pwrNote.frame h

theorem Keep.request {ini code} (h : Keep r s) : Keep r (s.request ini code) := by
  unfold State.request
  extract_lets s0 s1 t _ s2 _ t3
  have hs0 : Keep r s0 := h.sleepAbort
  have hs1 : Keep r s1 := (hs0.setReg _ _).when fun _ k => k.recCommitOpen
  have ht : Keep r t := hs1.setPending
  have hs2 : Keep r s2 := ht.frame
  have ht3 : Keep r t3 := hs2.setPending
  exact Keep.branch (Keep.branch hs2.refuseReq hs2.frame) ht3.frame

theorem Keep.requestRow {ini code} (h : Keep r s) : KeepOut r (s.requestRow ini code) :=
  KeepOut.access h fun _ k => k.request

theorem execRequestThermos_keeps {ini} (h : Keep r s) : KeepOut r (execRequestThermos ini s) :=
  h.requestRow

theorem execRequestWake_keeps {ini} (h : Keep r s) : KeepOut r (execRequestWake ini s) :=
  h.requestRow

theorem execRequestTrail_keeps {ini} (h : Keep r s) : KeepOut r (execRequestTrail ini s) :=
  h.requestRow

theorem execRequestLoad_keeps {ini} (h : Keep r s) : KeepOut r (execRequestLoad ini s) :=
  h.requestRow

theorem execRequestBalanced_keeps {ini} (h : Keep r s) : KeepOut r (execRequestBalanced ini s) :=
  h.requestRow

theorem execRequestSwift_keeps {ini} (h : Keep r s) : KeepOut r (execRequestSwift ini s) :=
  h.requestRow

theorem execRequestWide_keeps {ini} (h : Keep r s) : KeepOut r (execRequestWide ini s) :=
  h.requestRow

theorem execRequestDeep_keeps {ini} (h : Keep r s) : KeepOut r (execRequestDeep ini s) :=
  h.requestRow

theorem execRequestMeasure_keeps {ini} (h : Keep r s) : KeepOut r (execRequestMeasure ini s) :=
  h.requestRow

theorem execRequestStandby_keeps {ini} (h : Keep r s) : KeepOut r (execRequestStandby ini s) :=
  h.requestRow

theorem execRequestMaintain_keeps {ini} (h : Keep r s) : KeepOut r (execRequestMaintain ini s) :=
  h.requestRow

theorem execRequestSafeHold_keeps {ini} (h : Keep r s) : KeepOut r (execRequestSafeHold ini s) :=
  h.requestRow

theorem execRequestReserved_keeps {ini code} (h : Keep r s) : KeepOut r (execRequestReserved ini code s) :=
  h.requestRow

theorem Keep.alarmStart (h : Keep r s) : Keep r s.alarmStart := by
  unfold State.alarmStart
  extract_lets s1 _ s2
  have hs1 : Keep r s1 := h.alarmSync.sleepAbort
  have hs2 : Keep r s2 := hs1.when fun _ k => k.loadAbort
  exact Keep.branch hs1.measAlarm <| Keep.branch hs2.frame hs1

theorem Keep.alarmEnd (h : Keep r s) : Keep r s.alarmEnd :=
  h.alarmSync.frame

theorem Keep.alarmAct (h : Keep r s) : Keep r s.alarmAct := by
  unfold State.alarmAct
  extract_lets _ _ s0 _ t1 _ s1
  have hs0 : Keep r s0 := h.frame
  have ht1 : Keep r t1 := hs0.setPending
  have hs1 : Keep r s1 := Keep.branch (Keep.branch hs0.holdReq ht1.frame) hs0
  exact Keep.branch hs1.goMode hs0

theorem Keep.w2End {ok} (h : Keep r s) : Keep r (s.w2End ok) :=
  Keep.branch h.frame.backToTrail <| Keep.branch h.frame.enterActive h.frame.enterLoad

theorem Keep.loadDone {ok} (h : Keep r s) : Keep r (s.loadDone ok) := by
  unfold State.loadDone
  extract_lets _ _ s1
  have hs1 : Keep r s1 := h.frame
  exact Keep.branch hs1.backToTrail <| Keep.branch hs1.backToTrail <|
    Keep.branch hs1.backToTrail hs1.swapTake.swapApply.enterRender

theorem Keep.swapOrReq (h : Keep r s) : Keep r s.swapOrReq := by
  unfold State.swapOrReq
  extract_lets req
  have hreq : ∀ {x}, Keep r x → Keep r (req x) := by
    intro x k
    dsimp only [req]
    split
    · exact Keep.branch k k.evalReq
    · exact k
  split
  · exact h.swapTake.goOrStop
  · exact Keep.branch h.swapBlock.twinSync h.swapTake.swapApply.twinSync
  · exact hreq h.swapBlock
  · exact hreq h.swapBlock
  · exact hreq h

theorem Keep.lesserCause {realign} (h : Keep r s) : Keep r (s.lesserCause realign) := by
  unfold State.lesserCause
  extract_lets
  refine Keep.branch h.stopAt <| Keep.branch h.alarmAct ?_
  split
  · exact h.frame.goOrStop
  · split
    · exact h.w2End
    · exact h.loadDone
    · exact h.swapOrReq

theorem Keep.boundary {realign} (h : Keep r s) : Keep r (s.boundary realign) := by
  unfold State.boundary
  extract_lets fault _ s0
  have hs0 : Keep r s0 := h.frame
  refine Keep.branch h ?_
  clear_value fault
  split
  · exact Keep.branch hs0.goOrStop hs0.lesserCause
  · exact hs0.lesserCause

theorem execMsBoundary_keeps (h : Keep r s) : KeepOut r (execMsBoundary s) :=
  KeepOut.next <| Keep.branch h.advanceTo.frame h.advanceTo.frame.boundary

/-! ## Clocks -/

theorem Keep.clkNote {kind mux} (h : Keep r s) : Keep r (s.clkNote kind mux) :=
  h.note

theorem Keep.clkRefuse {bit kind} (h : Keep r s) : Keep r (s.clkRefuse bit kind) :=
  h.evtFirst

theorem Keep.clkRaise {det kind mask} (h : Keep r s) : Keep r (s.clkRaise det kind mask) :=
  h.raiseDet

theorem Keep.clkTrip {forced} (h : Keep r s) : Keep r (s.clkTrip forced) :=
  h.count.when fun _ k => k.evt

theorem Keep.dramHold (h : Keep r s) : Keep r s.dramHold :=
  Keep.branch (h.setReg _ _).setFld.frame h

theorem Keep.dramUnhold (h : Keep r s) : Keep r s.dramUnhold :=
  Keep.branch h.dramFull.frame <| Keep.branch h.setFld.frame h

theorem execSelfRefreshHoldEnd_keeps (h : Keep r s) : KeepOut r (execSelfRefreshHoldEnd s) :=
  KeepOut.next <| Keep.branch h.dramUnhold h

theorem Keep.appForced (h : Keep r s) : Keep r s.appForced := by
  unfold State.appForced
  extract_lets s1 s2 _ s3 _ s4 t1
  have hs1 : Keep r s1 := h.setBit.snsStop.servoLost
  have hs2 : Keep r s2 := hs1.when fun _ k => k.freeze
  have hs3 : Keep r s3 := hs2.setBit.schStop
  have hs4 : Keep r s4 := hs3.frame
  have ht1 : Keep r t1 := hs1.disarmTrain
  refine Keep.branch h <| Keep.branch ?_ ht1.frame
  split
  · exact hs4.gapStart
  · exact hs4

theorem Keep.appRestart (h : Keep r s) : Keep r s.appRestart :=
  h.modeNote.count.evt.measStop.disarmTrain.endTrain.settleSets.setPhase.clearRender.frame

theorem execAppReturn_keeps (h : Keep r s) : KeepOut r (execAppReturn s) := by
  unfold execAppReturn
  extract_lets s1
  have hs1 : Keep r s1 := h.setBit.clkNote.snsRun
  exact KeepOut.next <| Keep.branch (Keep.branch hs1.appRestart hs1) h

theorem execRootRelockTimeout_keeps (h : Keep r s) : KeepOut r (execRootRelockTimeout s) :=
  KeepOut.next <| Keep.branch h.fatal h

theorem Keep.gntForced (h : Keep r s) : Keep r s.gntForced :=
  Keep.branch h h.setBit.gntFault

theorem execGpllReturn_keeps (h : Keep r s) : KeepOut r (execGpllReturn s) :=
  KeepOut.next <| Keep.branch (h.setBit.when fun _ k => k.clkNote) h

theorem execDpllReturn_keeps (h : Keep r s) : KeepOut r (execDpllReturn s) :=
  KeepOut.next <| Keep.branch h.setBit.clkNote.dramHold h

theorem execPllLock_keeps {p} (h : Keep r s) : KeepOut r (execPllLock p s) := by
  unfold execPllLock
  extract_lets s1
  have hs1 : Keep r s1 := h.setBit
  refine KeepOut.next <| Keep.branch h ?_
  split
  · exact Keep.branch hs1.frame.setBit.snsRun hs1.frame.snsRun
  · exact hs1

theorem execPllUnlock_keeps {p} (h : Keep r s) : KeepOut r (execPllUnlock p s) := by
  unfold execPllUnlock
  extract_lets s1 _ s2
  have hs1 : Keep r s1 := h.setBit.evt
  have hs2 : Keep r s2 := hs1.clkRaise
  refine KeepOut.next <| Keep.branch h ?_
  split
  · exact Keep.branch hs2.evt.appForced hs2.snsStop.servoLost
  · exact Keep.branch hs1 hs1.evt.gntForced
  · exact hs1

theorem execFoscReady_keeps (h : Keep r s) : KeepOut r (execFoscReady s) :=
  KeepOut.next <| Keep.branch h h.setBit.setBit.setBit.frame

theorem execFoscNotReady_keeps (h : Keep r s) : KeepOut r (execFoscNotReady s) :=
  KeepOut.next <| Keep.branch h h.detBit.evt.frame

theorem Keep.foscRecord (h : Keep r s) : Keep r s.foscRecord :=
  Keep.branch h.frame.note h

theorem execXaMonitorTrip_keeps (h : Keep r s) : KeepOut r (execXaMonitorTrip s) := by
  unfold execXaMonitorTrip
  extract_lets _ s1 s2
  have hs1 : Keep r s1 := h.setBit.clkTrip.clkRaise
  have hs2 : Keep r s2 := hs1.appForced.gntForced
  exact KeepOut.next <| Keep.branch h <| Keep.branch hs2 hs2.setBit.dramHold

theorem Keep.portLost {p} (h : Keep r s) : Keep r (s.portLost p) :=
  Keep.branch h.portFail <| Keep.branch h.setBvlP.portTo <| Keep.branch h.portTo h

theorem Keep.linksDown (h : Keep r s) : Keep r s.linksDown :=
  Keep.setBit <| Keep.each (h.each fun _ _ k => k.linkSet) fun _ _ k => k.portLost

theorem execXbMonitorTrip_keeps (h : Keep r s) : KeepOut r (execXbMonitorTrip s) := by
  unfold execXbMonitorTrip
  extract_lets _ s1
  have hs1 : Keep r s1 := h.setBit.clkTrip.clkRaise
  exact KeepOut.next <| Keep.branch h <| Keep.branch hs1 hs1.setBit.linksDown

theorem execRootMonitorTrip_keeps (h : Keep r s) : KeepOut r (execRootMonitorTrip s) :=
  KeepOut.next <| Keep.branch h h.clkTrip.clkRaise.frame.appForced

theorem Keep.mclkPair {lost i} (h : Keep r s) : Keep r (s.mclkPair lost i) :=
  Keep.branch (Keep.branch h.setPair.pairUnlock h.setPair) h.setPair

theorem execMclkMonitorTrip_keeps {n} (h : Keep r s) : KeepOut r (execMclkMonitorTrip n s) := by
  unfold execMclkMonitorTrip
  extract_lets _ s1 s2
  have hs1 : Keep r s1 := h.setBit.count
  have hs2 : Keep r s2 := hs1.setBit.evt.evt.clkNote
  exact KeepOut.next <| Keep.branch h <| Keep.branch hs1 <| hs2.each fun _ _ k => k.mclkPair

theorem execMclkReturn_keeps {n} (h : Keep r s) : KeepOut r (execMclkReturn n s) :=
  KeepOut.next <| Keep.branch (h.setBit.clkNote.each fun _ _ k => k.mclkPair) h

theorem execMonitorArm_keeps {m} (h : Keep r s) : KeepOut r (execMonitorArm m s) := by
  unfold execMonitorArm
  extract_lets
  refine KeepOut.next <| Keep.branch h ?_
  split
  · exact h.setBit
  · exact h.setBit
  · exact h.frame
  · exact Keep.branch h.setBit h
  · exact Keep.branch h.setBit h

theorem execMuxHung_keeps {mux} (h : Keep r s) : KeepOut r (execMuxHung mux s) :=
  KeepOut.next <| Keep.branch h.setBit.setBit.evt.clkNote h

theorem Keep.clkCmd {v} (h : Keep r s) : Keep r (s.clkCmd v) :=
  Keep.branch h <| Keep.branch h.clkRefuse <| Keep.branch h.setBit.clkNote.linksDown h

theorem execSdsReturn_keeps {ini} (h : Keep r s) : KeepOut r (execSdsReturn ini s) :=
  KeepOut.access h fun _ k => k.clkCmd

theorem Keep.clkEn {v} (h : Keep r s) : Keep r (s.clkEn v) :=
  h.clkEnPut.when fun _ k => k.clkRefuse

theorem execClkEnWrite_keeps {ini v} (h : Keep r s) : KeepOut r (execClkEnWrite ini v s) :=
  KeepOut.access h fun _ k => k.clkEn

theorem Keep.trimCode {v} (h : Keep r s) : Keep r (s.trimCode v) :=
  Keep.branch h.setFld h.clkRefuse

theorem execFoscTrimCodeWrite_keeps {ini v} (h : Keep r s) : KeepOut r (execFoscTrimCodeWrite ini v s) :=
  KeepOut.access h fun _ k => k.trimCode

theorem execTrimWindow_keeps {count lost} (h : Keep r s) : KeepOut r (execTrimWindow count lost s) := by
  unfold execTrimWindow
  extract_lets _ _ _ _ _ _ _ _ _ _ s1 _ _ _ s2
  have hs1 : Keep r s1 := h.setBit.setBit.setFld.setReg _ _
  have hs2 : Keep r s2 := hs1.frame
  exact KeepOut.next <| Keep.branch h <| Keep.branch h.setBit <| Keep.branch hs2.evt.clkRaise hs2

/-! ## Power -/

/-- Without power the registers outside the island, the SRAM and the counter are at their reset values. -/
theorem Keep.unpowered (h : Keep r s) : Keep r s.unpowered := by
  refine h.trans ⟨fun ⟨hr, hm, _⟩ => ⟨?_, ?_, rfl⟩, rfl, rfl⟩
  · exact Store.wf_clear _ (fun a => !isIsland a) s.regs hr
  · simp only [Memory.wf, Bool.and_eq_true] at hm ⊢
    obtain ⟨⟨⟨_, hd⟩, hb⟩, hg⟩ := hm
    exact ⟨⟨⟨rfl, hd⟩, hb⟩, hg⟩

theorem Keep.powerDown {why vbat} (h : Keep r s) : Keep r (s.powerDown why vbat) :=
  Keep.frame <| Keep.setReg (Keep.branch h.unpowered (h.unpowered.setReg _ _)) _ _

theorem execPwrGoodFall_keeps {vbat} (h : Keep r s) : KeepOut r (execPwrGoodFall vbat s) :=
  KeepOut.next <| Keep.branch h.powerDown h

theorem execVddGntBrownOut_keeps {vbat} (h : Keep r s) : KeepOut r (execVddGntBrownOut vbat s) :=
  KeepOut.next <| Keep.branch h.powerDown.frame h

theorem Keep.recStart (h : Keep r s) : Keep r s.recStart :=
  h.recPowerOn

theorem Keep.powerUp (h : Keep r s) : Keep r s.powerUp := by
  unfold State.powerUp
  extract_lets _ _ s1 _ _ s2 s3 _ s4 s5
  have hs1 : Keep r s1 := h.unpowered
  have hs2 : Keep r s2 := hs1.frame
  have hs3 : Keep r s3 := (hs2.setReg _ _).recStart
  have hs4 : Keep r s4 := hs3.setBit.setFld.note
  have hs5 : Keep r s5 := Keep.branch hs4.setBit hs4
  exact Keep.branch hs4 hs5.evt.pwrNote

theorem execPwrGoodRise_keeps (h : Keep r s) : KeepOut r (execPwrGoodRise s) :=
  KeepOut.next <| Keep.branch h h.powerUp

theorem Keep.wake {bit} (h : Keep r s) : Keep r (s.wake bit) := by
  unfold State.wake
  extract_lets set
  have hset : ∀ x, Keep r x → Keep r (set x) := fun _ k => k.setBit
  exact Keep.branch (Keep.branch h.sleepAbort <| Keep.branch h.frame h) <| Keep.branch (Keep.branch h.frame <|
    hset _ h.frame) <| Keep.branch (Keep.branch (hset _ h.draw) h.draw) h

theorem execLatchedWakeRaise_keeps (h : Keep r s) : KeepOut r (execLatchedWakeRaise s) :=
  KeepOut.next <| Keep.branch (h.setReg _ _).frame h

theorem execSleepTimeout_keeps (h : Keep r s) : KeepOut r (execSleepTimeout s) :=
  KeepOut.next <| Keep.branch h.frame.setFld.evt.pwrNote h

theorem execThermosQueueDrained_keeps (h : Keep r s) : KeepOut r (execThermosQueueDrained s) := by
  unfold execThermosQueueDrained
  extract_lets s1 _ w s2
  have hs1 : Keep r s1 := h.when fun _ k => k.selfRefresh
  have hw : Keep r w := hs1.setFld.setFld
  have hs2 : Keep r s2 := (hw.setReg _ _).setReg _ _
  exact KeepOut.next <| Keep.branch hs2.frame h

theorem Keep.islandWrite {a v} (h : Keep r s) : Keep r (s.islandWrite a v) :=
  Keep.branch h h.setBit.frame

theorem execIslandRegisterWrite_keeps {ini addr v} (h : Keep r s) : KeepOut r (execIslandRegisterWrite ini addr v s) :=
  KeepOut.access h fun _ k => k.islandWrite

theorem execIslandWriteDone_keeps (h : Keep r s) : KeepOut r (execIslandWriteDone s) := by
  unfold execIslandWriteDone
  extract_lets
  refine KeepOut.next ?_
  split
  · extract_lets _ t1
    have ht1 : Keep r t1 := (h.setReg _ _).setBit
    exact ht1.frame
  · exact h

theorem execSecMatch_keeps (h : Keep r s) : KeepOut r (execSecMatch s) :=
  KeepOut.next <| Keep.branch (h.setReg _ _).wake (h.setReg _ _)

theorem Keep.secTick (h : Keep r s) : Keep r s.secTick :=
  Keep.branch (h.setReg _ _).wake (h.setReg _ _)

theorem Keep.secPass {k'} (h : Keep r s) : Keep r (s.secPass k') :=
  Keep.branch h.frame h.frame.secTick

theorem execWakeInAssert_keeps {n} (h : Keep r s) : KeepOut r (execWakeInAssert n s) :=
  KeepOut.next <| Keep.branch h.wake h

theorem execAlmInWake_keeps {i} (h : Keep r s) : KeepOut r (execAlmInWake i s) :=
  KeepOut.next <| Keep.branch h.wake h

theorem execIslandColdStart_keeps {vbat} (h : Keep r s) : KeepOut r (execIslandColdStart vbat s) :=
  KeepOut.next <| Keep.branch h <| (h.clearRegs isIsland).frame

theorem Keep.autoStart (h : Keep r s) : Keep r s.autoStart := by
  unfold State.autoStart
  extract_lets _ s1
  have hs1 : Keep r s1 := h.frame
  refine Keep.branch h ?_
  split
  · exact hs1
  · extract_lets s2
    have hs2 : Keep r s2 := hs1.setReg _ _
    exact hs2.frame.request

theorem Keep.appReset (h : Keep r s) : Keep r s.appReset := by
  unfold State.appReset
  extract_lets s0 s1 _ s2 s3 s4 _ s5
  have hs0 : Keep r s0 := h.sleepAbort.linksDown
  clear_value s0
  have hs1 : Keep r s1 := (hs0.setReg _ _).setReg _ _
  have hs2 : Keep r s2 := ((hs1.clearRegs fun a => !s0.keptReg a).clearSram s0.clearedTable).frame
  have hs3 : Keep r s3 := hs2.setReg _ _
  have hs4 : Keep r s4 := hs3.setBit.setFld.setPending
  have hs5 : Keep r s5 := Keep.branch (hs4.setReg _ _) (hs4.setReg _ _)
  clear_value s5
  exact Keep.setBit <| Keep.setReg hs5.frame _ _

theorem Keep.appRelease {why} (h : Keep r s) : Keep r (s.appRelease why) := by
  unfold State.appRelease
  extract_lets s1 s2
  have hs1 : Keep r s1 := h.setReg _ _
  have hs2 : Keep r s2 := hs1.modeNote.setFld.when fun _ k => k.evt
  exact Keep.branch hs1 hs2.alarmSync.fltSync.dramLow.autoStart

theorem execResetNAssert_keeps (h : Keep r s) : KeepOut r (execResetNAssert s) :=
  KeepOut.next <| Keep.branch h h.appReset.pwrNote.frame

theorem execResetNRelease_keeps (h : Keep r s) : KeepOut r (execResetNRelease s) := by
  unfold execResetNRelease
  extract_lets _ s1
  have hs1 : Keep r s1 := h.frame.evt.pwrNote
  exact KeepOut.next <| Keep.branch h <| Keep.branch hs1 hs1.appRelease

theorem execPfwFall_keeps (h : Keep r s) : KeepOut r (execPfwFall s) := by
  unfold execPfwFall
  extract_lets s1 _ s2
  have hs1 : Keep r s1 := h.setBit.evt.pwrNote.recCommitOpen
  have hs2 : Keep r s2 := hs1.frame
  exact KeepOut.next <| Keep.branch h <| Keep.branch hs2.selfRefresh.dramHold hs2

theorem execPfwRise_keeps (h : Keep r s) : KeepOut r (execPfwRise s) := by
  unfold execPfwRise
  extract_lets t _ s1 s2
  have ht : Keep r t := h.setBit
  have hs1 : Keep r s1 := ht.frame
  have hs2 : Keep r s2 := hs1.pwrNote
  exact KeepOut.next <| Keep.branch h <| Keep.branch hs2.dramUnhold hs2

theorem execSupplyOutOfWindow_keeps {rail high mv} (h : Keep r s) : KeepOut r (execSupplyOutOfWindow rail high mv s) :=
  KeepOut.next <| Keep.branch h h.setBit.evt.count.raiseDet.fatal

theorem execSupplyBackInWindow_keeps {rail} (h : Keep r s) : KeepOut r (execSupplyBackInWindow rail s) :=
  KeepOut.next h.setBit

theorem Keep.tempShut {kind sensor t} (h : Keep r s) : Keep r (s.tempShut kind sensor t) :=
  Keep.branch h h.setBit.evt.raiseDet.fatal

theorem execTempRead_keeps {t0 t1 t2 t3} (h : Keep r s) : KeepOut r (execTempRead t0 t1 t2 t3 s) := by
  unfold execTempRead
  extract_lets _ _ _ _ _ s1 s2 s3 s4 s5 s51
  have hs1 : Keep r s1 := h.setReg _ _
  have hs2 : Keep r s2 := Keep.branch (hs1.setReg _ _) hs1
  have hs3 : Keep r s3 := Keep.branch (Keep.branch hs2 hs2.setBit.evt.raiseDet) <| Keep.branch hs2.setBit.note hs2
  have hs4 : Keep r s4 := Keep.branch hs3.tempShut <| Keep.branch hs3.setBit.note hs3
  have hs5 : Keep r s5 := hs4.raiseDet.when fun _ k => k.appReset
  have hs51 : Keep r s51 := hs4.setBit.pwrNote
  exact KeepOut.next <| Keep.branch h <| Keep.branch (Keep.branch hs4 hs5.setBit.evt.pwrNote) <|
    Keep.branch (Keep.branch hs51 hs51.appRelease) hs4

/-! ## TwinDuty -/

theorem Keep.sendKept {yielded} (h : Keep r s) : Keep r (s.sendKept yielded) := by
  unfold State.sendKept
  extract_lets _ s1 _ _ s2
  have hs1 : Keep r s1 := by
    refine h.each fun t1 q k => ?_
    extract_lets _ _ s3
    have hs3 : Keep r s3 := k.setTxBuf
    refine hs3.each fun t3 k1 k2 => ?_
    extract_lets _ s4
    have hs4 : Keep r s4 := Keep.branch k2.draw k2
    exact Keep.branch hs4.strSend hs4
  have hs2 : Keep r s2 := hs1.frame
  exact hs2.each fun _ _ k1 => Keep.branch (k1.each fun _ _ k2 => k2.bvlSend) k1

theorem Keep.takeover {yielded f} (h : Keep r s) : Keep r (s.takeover yielded f) := by
  unfold State.takeover
  extract_lets s1 _ _ _ _ _ _ _ s2 _ s3 s4
  have hs1 : Keep r s1 := (h.setReg _ _).count.evt
  have hs2 : Keep r s2 := hs1.modeOnTrain
  have hs3 : Keep r s3 := hs2.frame
  have hs4 : Keep r s4 := Keep.setReg (Keep.tryPlan <| Keep.nearFlush <| hs3.each fun _ _ k => k.takeSnap) _ _
  exact Keep.branch h <| Keep.branch hs1.frame.twinNote hs4.twinNote.sendKept

theorem Keep.yieldTaken {c sync} (h : Keep r s) : Keep r (s.yieldTaken c sync) := by
  unfold State.yieldTaken
  extract_lets t _ s1
  have ht : Keep r t := h.setBit
  have hs1 : Keep r s1 := ht.frame
  exact Keep.branch hs1.modeOnTrain <| Keep.branch hs1.modeOnTrain hs1.frame

theorem Keep.dual (h : Keep r s) : Keep r s.dual := by
  unfold State.dual
  extract_lets s1
  have hs1 : Keep r s1 := h.setBit.evt.twinNote
  exact Keep.branch h <| Keep.branch hs1.freeze.yieldTaken (hs1.setReg _ _)

theorem Keep.pathSeen {p} (h : Keep r s) : Keep r (s.pathSeen p) :=
  h.setBit.frame

theorem Keep.sendBulk (h : Keep r s) : Keep r s.sendBulk :=
  h.twinJob

theorem Keep.hbTake {f} (h : Keep r s) : Keep r (s.hbTake f) := by
  unfold State.hbTake
  extract_lets _ _ s1 _ s2
  have hs1 : Keep r s1 := (h.setReg _ _).setBit
  have hs2 : Keep r s2 := hs1.frame
  refine Keep.branch (Keep.branch hs2.takeover <| Keep.branch hs2.takeover <| Keep.branch hs2.setSync hs2) <|
    Keep.branch hs2.dualEnd.sendBulk <| Keep.branch ?_ hs2.dualEnd
  split
  · exact Keep.branch hs2 hs2.yieldTaken
  · exact Keep.branch hs2.dual hs2

theorem Keep.hbReceive {p frame} (h : Keep r s) : Keep r (s.hbReceive p frame) :=
  Keep.branch h <| Keep.branch h.pathSeen <| Keep.branch h.pathSeen.hbTake h

theorem execHeartbeatReceive_keeps {path frame} (h : Keep r s) : KeepOut r (execHeartbeatReceive path frame s) :=
  KeepOut.event h fun _ k => k.hbReceive

theorem execMacFrameReceive_keeps {p frame sfd} (h : Keep r s) : KeepOut r (execMacFrameReceive p frame sfd s) := by
  unfold execMacFrameReceive
  refine KeepOut.event h fun t k => ?_
  split
  · rename_i e
    have k1 := Keep.pair e k.macReceive
    exact Keep.branch k1.hbReceive k1
  · rename_i e
    exact Keep.pair e k.macReceive

theorem execPathLost_keeps {path} (h : Keep r s) : KeepOut r (execPathLost path s) := by
  unfold execPathLost
  extract_lets
  refine KeepOut.event h fun t k => Keep.branch k ?_
  extract_lets s1 _ s2 s3
  have hs1 : Keep r s1 := k.setBit.count.evt
  have hs2 : Keep r s2 := hs1.frame
  have hs3 : Keep r s3 := hs2.raiseDet
  exact Keep.branch hs3.takeover hs3

theorem execSeatBTakeover_keeps (h : Keep r s) : KeepOut r (execSeatBTakeover s) :=
  KeepOut.event h fun _ k => Keep.branch k.takeover k

theorem execYieldReceive_keeps {path frame} (h : Keep r s) : KeepOut r (execYieldReceive path frame s) :=
  KeepOut.event h fun _ k => Keep.branch (Keep.branch k.takeover k) k.hbReceive

theorem execYieldTimeout_keeps (h : Keep r s) : KeepOut r (execYieldTimeout s) := by
  unfold execYieldTimeout
  refine KeepOut.event h fun t k => ?_
  extract_lets
  split
  · exact Keep.branch k k.frame
  · exact k

theorem Keep.twnCmd {v} (h : Keep r s) : Keep r (s.twnCmd v) := by
  unfold State.twnCmd
  extract_lets s1
  have hs1 : Keep r s1 := Keep.branch h <| Keep.branch h.freeze h.evt
  exact Keep.branch hs1 <| Keep.branch hs1.frame hs1.evt

theorem execTwnCmdYield_keeps {ini} (h : Keep r s) : KeepOut r (execTwnCmdYield ini s) :=
  KeepOut.access h fun _ k => k.twnCmd

theorem execTwnCmdResync_keeps {ini} (h : Keep r s) : KeepOut r (execTwnCmdResync ini s) :=
  KeepOut.access h fun _ k => k.twnCmd

/-! ## GntAudio -/

theorem Keep.msgCheck {m uncorr} (h : Keep r s) : Keep r (s.msgCheck m uncorr) := by
  unfold State.msgCheck
  extract_lets _ s1
  have hs1 : Keep r s1 := Keep.branch h h.scrub
  refine Keep.branch ?_ <| Keep.branch hs1.msgBad <| Keep.branch hs1.msgBad hs1
  split
  · exact hs1.msgBad
  · exact hs1.msgBad

theorem Keep.extTake {m} (h : Keep r s) : Keep r (s.extTake m) := by
  unfold State.extTake
  extract_lets
  split
  · extract_lets s1
    have hs1 : Keep r s1 := h.dramWrite
    exact Keep.branch h hs1.setGnt.msgCheck
  · exact h

theorem Keep.extUpTo {m} (h : Keep r s) : Keep r (s.extUpTo m) :=
  h.each fun _ _ k1 => k1.extTake

theorem execMsgCheckPass_keeps {m uncorr} (h : Keep r s) : KeepOut r (execMsgCheckPass m uncorr s) :=
  KeepOut.next <| Keep.branch h <| Keep.branch (Keep.branch h.extUpTo h) h.msgCheck

theorem execPlayStart_keeps {ini p v} (h : Keep r s) : KeepOut r (execPlayStart ini p v s) :=
  KeepOut.next <| h.gwWrite fun _ k => k.playStart

theorem execPlayStop_keeps {ini p} (h : Keep r s) : KeepOut r (execPlayStop ini p s) :=
  KeepOut.next <| h.gwWrite fun _ k => k.playStop

theorem execPlayEnd_keeps {p} (h : Keep r s) : KeepOut r (execPlayEnd p s) :=
  KeepOut.next <| Keep.branch h.playEdge h

theorem execGapEnd_keeps {p} (h : Keep r s) : KeepOut r (execGapEnd p s) :=
  KeepOut.next <| Keep.branch h.playEdge h

theorem execToneRun_keeps {ini g v} (h : Keep r s) : KeepOut r (execToneRun ini g v s) :=
  KeepOut.next <| h.gwWrite fun _ k => k.toneRun

theorem execToneStopRequest_keeps {ini g} (h : Keep r s) : KeepOut r (execToneStopRequest ini g s) :=
  KeepOut.next <| h.gwWrite fun _ k => k.toneStop

theorem execToneStopped_keeps {g} (h : Keep r s) : KeepOut r (execToneStopped g s) :=
  KeepOut.next <| Keep.branch h.setTone h

theorem execToneCadence_keeps {g} (h : Keep r s) : KeepOut r (execToneCadence g s) :=
  KeepOut.next <| Keep.branch h <| Keep.branch h.setTone <| Keep.branch h.setTone h

theorem execExtCopyStart_keeps (h : Keep r s) : KeepOut r (execExtCopyStart s) :=
  KeepOut.next <| Keep.branch h.setGnt h

theorem execExtCopyDone_keeps (h : Keep r s) : KeepOut r (execExtCopyDone s) :=
  KeepOut.next <| Keep.branch h.extUpTo.setGnt h

theorem execPilotWindowEnd_keeps {e valid level} (h : Keep r s) : KeepOut r (execPilotWindowEnd e valid level s) := by
  unfold execPilotWindowEnd
  extract_lets _ _ _ _ _ _ _ x put _ _ _ y
  have hput : ∀ x y, Keep r x → Keep r (put x y) := fun _ _ k => k.setGnt
  exact KeepOut.next <| Keep.branch h <| Keep.branch (Keep.branch (Keep.gntFault <| Keep.raiseDet <| hput _ _ h) <|
    hput _ _ h) <| Keep.branch (Keep.branch (Keep.gntFault <| Keep.raiseDet <| hput _ _ h) <| hput _ _ h) <|
      Keep.branch (Keep.note <| hput _ _ h) <| hput _ _ h

/-! ## Gauntlet -/

theorem Keep.setHolder {z l h'} (h : Keep r s) : Keep r (s.setHolder z l h') :=
  h.setGnt

theorem Keep.zoneLevel {z l src} (h : Keep r s) : Keep r (s.zoneLevel z l src) := by
  unfold State.zoneLevel
  extract_lets
  split
  · extract_lets s1
    have hs1 : Keep r s1 := h.setFld
    exact hs1.zbCommit
  · exact h.zbCommit

theorem Keep.progZone {l src z} (h : Keep r s) : Keep r (s.progZone l src z) := by
  unfold State.progZone
  split
  · exact Keep.branch h.setHolder h.setHolder.zoneLevel
  · exact h.setHolder.zoneLevel

theorem Keep.pageZone {l src rank z} (h : Keep r s) : Keep r (s.pageZone l src rank z).1 := by
  unfold State.pageZone
  split
  · split
    · exact h
    · exact h.setHolder.zoneLevel.paired
  · exact h.setHolder.zoneLevel.paired

theorem Keep.pageEndZone {l rank z} (h : Keep r s) : Keep r (s.pageEndZone l rank z).1 := by
  unfold State.pageEndZone
  split
  · refine Keep.branchFst h <| Keep.branchFst h ?_
    split
    · exact h.setHolder.zoneLevel.paired
    · exact h.setHolder.zoneLevel.paired
  · exact h

theorem Keep.zonesDo {f : State → Nat → State × Bool} {g} (h : Keep r s) (k : ∀ x y, Keep r x → Keep r (f x y).1) :
    Keep r (s.zonesDo g f).1 :=
  h.foldFst fun _ _ k1 => k _ _ k1

theorem Keep.gntTable {a v} (h : Keep r s) : Keep r (s.gntTable a v) :=
  h.gateTracked fun _ k => k.tableWrite

theorem Keep.routeStart {r'} (h : Keep r s) : Keep r (s.routeStart r') :=
  Keep.each (h.each fun _ _ k => k.gntTable) fun _ _ k1 => k1.each fun _ _ k2 => k2.gntTable

theorem Keep.applyProg {g p} (h : Keep r s) : Keep r (s.applyProg g p) := by
  unfold State.applyProg
  extract_lets _ _ _ s1 _ _ _ s' _ s2
  have hs1 : Keep r s1 := h.each fun _ _ k => k.progZone
  have hs' : Keep r s' := ((hs1.setReg _ _).setReg _ _).setReg _ _
  have hs2 : Keep r s2 := Keep.branch (Keep.branch hs1.playStart hs1.playStop) <|
    Keep.branch (Keep.branch hs'.toneRun hs'.toneStop) hs1
  exact hs2.each fun _ _ k => k.routeStart

theorem Keep.commitOvr {alarm} (h : Keep r s) : Keep r (s.commitOvr alarm) :=
  h.each fun _ _ k => k.tfCommit

theorem Keep.clearGntInj (h : Keep r s) : Keep r s.clearGntInj :=
  h.setReg _ _

theorem Keep.netAccept {cnt} (h : Keep r s) : Keep r (s.netAccept cnt) := by
  unfold State.netAccept
  exact (h.setReg _ _).setGnt

theorem Keep.cmdNote {src w res} (h : Keep r s) : Keep r (s.cmdNote src w res) :=
  h.note

theorem Keep.testEnd {src} (h : Keep r s) : Keep r (s.testEnd src) :=
  h.clearGntInj.setAstate

theorem Keep.cmdState {src op g p} (h : Keep r s) : Keep r (s.cmdState src op g p) := by
  unfold State.cmdState
  extract_lets _ _ s1 _ s2 _ s3
  have hs1 : Keep r s1 := Keep.branch h.clearGntInj h
  have hs2 : Keep r s2 := hs1.setAstate
  have hs3 : Keep r s3 := h.setReg _ _
  split
  · exact Keep.branch hs2 hs2.alarmStart
  · exact Keep.branch hs2 hs2.alarmStart
  · exact h.setAstate.alarmEnd
  · exact h.setAstate
  · exact h.testEnd
  · exact Keep.branch hs3.setAstate hs3.fltSync
  · exact h

theorem Keep.cmdReset (h : Keep r s) : Keep r s.cmdReset := by
  unfold State.cmdReset
  extract_lets s1 s2 s3 s4
  have hs1 : Keep r s1 := h.each fun _ _ k => Keep.branch k.setHolder k.setHolder.zoneLevel
  have hs2 : Keep r s2 := hs1.each fun _ _ k => Keep.branch k.playStop k
  have hs3 : Keep r s3 := hs2.each fun _ _ k => Keep.branch k.toneStop k
  have hs4 : Keep r s4 := hs3.each fun _ _ k => k.gntTable
  exact hs4.commitOvr

theorem Keep.cmdLevels {src w alarmed} (h : Keep r s) : Keep r (s.cmdLevels src w alarmed).1 := by
  unfold State.cmdLevels
  extract_lets op
  clear_value op
  split
  · exact Keep.applyProg <| Keep.branch h h.commitOvr
  · exact Keep.applyProg <| Keep.branch h h.commitOvr
  · exact h.cmdReset.paired
  · exact h.zonesDo fun _ _ k => k.pageZone
  · exact h.zonesDo fun _ _ k => k.pageEndZone
  · exact h

theorem Keep.cmdAccept {src w} (h : Keep r s) : Keep r (s.cmdAccept src w).1 :=
  Keep.cmdLevels <| Keep.cmdNote <| Keep.cmdState <| Keep.branch h.netAccept h

theorem Keep.setUnusable (h : Keep r s) : Keep r s.setUnusable :=
  Keep.branch h <| h.setGntStatus.fltSync.when fun _ k => k.freeze

theorem Keep.domainReset {cause det} (h : Keep r s) : Keep r (s.domainReset cause det) := by
  unfold State.domainReset
  extract_lets _ s0 _ s1 s2 _ _ _ s3 s4
  have hs0 : Keep r s0 := h.setReg _ _
  have hs1 : Keep r s1 := Keep.branch hs0 hs0.draw.raiseDet
  have hs2 : Keep r s2 := Keep.branch hs1 hs1.gntFault
  have hs3 : Keep r s3 := (hs2.clearRegs fun a => decide (a < 0x8000) && !domainKeeps a).frame
  have hs4 : Keep r s4 := hs3.setGntStatus.when fun _ k => k.evt
  exact hs4.setBit.clearGntInj.fltSync

theorem execWatchdogExpiry_keeps (h : Keep r s) : KeepOut r (execWatchdogExpiry s) :=
  KeepOut.next <| Keep.branch h h.domainReset

theorem execLockstepMismatch_keeps (h : Keep r s) : KeepOut r (execLockstepMismatch s) :=
  KeepOut.next <| Keep.branch h h.domainReset

theorem execGntMemoryError_keeps (h : Keep r s) : KeepOut r (execGntMemoryError s) := by
  unfold execGntMemoryError
  extract_lets s1
  have hs1 : Keep r s1 := by
    unfold s1
    split
    · exact h.scrub1
    · exact h
  exact KeepOut.next <| Keep.branch h hs1.domainReset

theorem execGntWdtKick_keeps {ini v} (h : Keep r s) : KeepOut r (execGntWdtKick ini v s) :=
  KeepOut.next <| h.gwWrite fun _ k => Keep.branch k.setGnt k

theorem execDomainResetRelease_keeps {ok} (h : Keep r s) : KeepOut r (execDomainResetRelease ok s) :=
  KeepOut.next <| Keep.branch h <| Keep.branch h.setGnt h.setGnt.setUnusable

theorem Keep.gntLoad {id entry p} (h : Keep r s) : Keep r (s.gntLoad id entry p) := by
  unfold State.gntLoad
  extract_lets _ s0 s1 s2 s3 s4 s5 _ s6 _ s7 _ s8
  have hs0 : Keep r s0 := h.setGnt
  have hs1 : Keep r s1 := ((((hs0.setReg _ _).setReg _ _).setReg _ _).setReg _ _).setReg _ _
  have hs2 : Keep r s2 := hs1.tslotWrite.claimSet
  have hs3 : Keep r s3 := by
    refine hs2.each fun t1 z k => ?_
    extract_lets _ _ _ _ _ s'
    have hs' : Keep r s' := (((k.setReg _ _).setReg _ _).setReg _ _).setReg _ _
    exact hs'.frame
  have hs4 : Keep r s4 := by
    refine hs3.each fun t1 f k => ?_
    extract_lets _ _ s' _ s''
    have hs' : Keep r s' := (k.setReg _ _).setReg _ _
    have hs'' : Keep r s'' := hs'.setOvr
    exact hs''.frame
  have hs5 : Keep r s5 := Keep.each (hs4.each fun _ _ k => k.setReg _ _) fun _ _ k => k.setReg _ _
  have hs6 : Keep r s6 := Keep.each (hs5.each fun _ _ k1 => k1.setReg _ _) fun _ _ k1 => k1.setReg _ _
  have hs7 : Keep r s7 := hs6.putArray.putArray
  have hs8 : Keep r s8 := hs7.frame
  exact (hs8.setReg _ _).setGntStatus

theorem Keep.gntSelect (h : Keep r s) : Keep r s.gntSelect := by
  unfold State.gntSelect
  extract_lets _ s1
  have hs1 : Keep r s1 := h.setGntStatus
  split
  · exact h.gntLoad
  · exact hs1.setGnt.gntFault.setUnusable

theorem execUnusableClear_keeps (h : Keep r s) : KeepOut r (execUnusableClear s) :=
  KeepOut.next <| Keep.branch h.setGnt.setGntStatus.fltSync h

theorem Keep.gntCommand {src w} (h : Keep r s) : Keep r (s.gntCommand src w).1 :=
  Keep.branchFst h.cmdNote h.cmdAccept

theorem Keep.afterCommand {w res} (h : Keep r s) : Keep r (s.afterCommand w res) :=
  h.when fun _ k => k.domainReset

theorem Keep.contactRun {w} (h : Keep r s) : Keep r (s.contactRun w) :=
  h.gntCommand.afterCommand

theorem Keep.inboxRun {svc} (h : Keep r s) : Keep r (s.inboxRun svc) :=
  Keep.branch h <| Keep.afterCommand <| (h.gntCommand.setReg _ _).when fun _ k => k.evt

theorem Keep.inboxLate {svc} (h : Keep r s) : Keep r (s.inboxLate svc) :=
  Keep.branch h.inboxRun h

theorem Keep.inboxGo {svc v} (h : Keep r s) : Keep r (s.inboxGo svc v) := by
  unfold State.inboxGo
  extract_lets _ s1
  have hs1 : Keep r s1 := h.setReg _ _
  exact Keep.branch h.setBit <| Keep.branch h <| Keep.branch hs1.inboxRun hs1

theorem Keep.inboxWord {svc i v} (h : Keep r s) : Keep r (s.inboxWord svc i v) :=
  Keep.branch h.setBit (h.setReg _ _)

theorem Keep.tablesCheck (h : Keep r s) : Keep r s.tablesCheck :=
  Keep.branch h h.putArray.frame

theorem Keep.uartAnswer {r'} (h : Keep r s) : Keep r (s.uartAnswer r') :=
  h.emit

theorem Keep.cmdRow {op src w0 w1} (h : Keep r s) : KeepOut r (s.cmdRow op src w0 w1) := by
  unfold State.cmdRow
  extract_lets a1
  have ha1 : Keep r a1.1 := h.gntCommand
  refine KeepOut.next <| Keep.branch (h.when fun _ k => k.setGnt) ?_
  split
  · exact Keep.branch h.inboxRun h
  · exact Keep.branch h.inboxRun h
  · exact Keep.branch h.contactRun h
  · exact Keep.branch ha1.uartAnswer.afterCommand h
  · exact h

theorem execAlert_keeps {src w0 w1} (h : Keep r s) : KeepOut r (execAlert src w0 w1 s) :=
  h.cmdRow

theorem execEvac_keeps {src w0 w1} (h : Keep r s) : KeepOut r (execEvac src w0 w1 s) :=
  h.cmdRow

theorem execGntReset_keeps {src w0 w1} (h : Keep r s) : KeepOut r (execGntReset src w0 w1 s) :=
  h.cmdRow

theorem execPage_keeps {src w0 w1} (h : Keep r s) : KeepOut r (execPage src w0 w1 s) :=
  h.cmdRow

theorem execPageEnd_keeps {src w0 w1} (h : Keep r s) : KeepOut r (execPageEnd src w0 w1 s) :=
  h.cmdRow

theorem execTestStart_keeps {src w0 w1} (h : Keep r s) : KeepOut r (execTestStart src w0 w1 s) :=
  h.cmdRow

theorem execTestEnd_keeps {src w0 w1} (h : Keep r s) : KeepOut r (execTestEnd src w0 w1 s) :=
  h.cmdRow

theorem execFaultAck_keeps {src w0 w1} (h : Keep r s) : KeepOut r (execFaultAck src w0 w1 s) :=
  h.cmdRow

theorem execImgActivate_keeps {src w0 w1} (h : Keep r s) : KeepOut r (execImgActivate src w0 w1 s) :=
  h.cmdRow

theorem execTestTimeout_keeps (h : Keep r s) : KeepOut r (execTestTimeout s) :=
  KeepOut.next <| Keep.branch h.testEnd h

theorem Keep.contactAct {i level} (h : Keep r s) : Keep r (s.contactAct i level) :=
  Keep.branch h <| Keep.branch h.setGnt h.setGnt.contactRun

theorem Keep.contactStep {k'} (h : Keep r s) : Keep r (s.contactStep k') :=
  Keep.branch h <| Keep.branch (Keep.branch h <| Keep.branch h.setBit.gntFault h.setBit.contactAct) h.contactAct

theorem Keep.contactSample {raw deb} (h : Keep r s) : Keep r (s.contactSample raw deb) := by
  unfold State.contactSample
  extract_lets _ _ s1 s2
  have hs1 : Keep r s1 := Keep.setGnt <| h.when fun _ k => k.sleepAbort
  have hs2 : Keep r s2 := hs1.setFld.setFld
  exact hs2.each fun _ _ k1 => k1.contactStep

theorem execContactEdge_keeps {raw deb} (h : Keep r s) : KeepOut r (execContactEdge raw deb s) :=
  KeepOut.next <| Keep.branch h.setGnt h.contactSample

theorem Keep.contactsLate (h : Keep r s) : Keep r s.contactsLate := by
  unfold State.contactsLate
  extract_lets _ s1 s2
  have hs1 : Keep r s1 := h.setGnt
  have hs2 : Keep r s2 := by
    unfold s2
    split
    · exact hs1.contactSample
    · exact hs1
  exact hs2.each fun _ _ k => k.contactRun

theorem execTrailLive_keeps {us} (h : Keep r s) : KeepOut r (execTrailLive us s) := by
  unfold execTrailLive
  extract_lets _ s1 s2 s3 s4 s5 _ s6 s7 s8 s9 s91 s10
  have hs1 : Keep r s1 := Keep.branch h.gntSelect h.tablesCheck
  have hs2 : Keep r s2 := by
    refine Keep.branch ?_ hs1
    split
    · exact hs1.setReg _ _
    · exact hs1
  have hs3 : Keep r s3 := hs2.each fun _ _ k => k.setReg _ _
  have hs4 : Keep r s4 := hs3.setGnt
  have hs5 : Keep r s5 := hs4.setGntStatus.setBit.fltSync
  have hs6 : Keep r s6 := Keep.branch hs5.setUnusable hs5
  have hs7 : Keep r s7 := Keep.branch hs6 hs6.note
  have hs8 : Keep r s8 := hs7.each fun _ _ k => k.playStart
  have hs9 : Keep r s9 := hs8.foscRecord.when fun _ k => k.setBit
  have hs91 : Keep r s91 := Keep.inboxLate <| Keep.inboxLate <| hs9.when fun _ k => k.gntFault
  have hs10 : Keep r s10 := Keep.branch hs91.goMode hs91
  exact KeepOut.next <| Keep.branch h hs10.contactsLate.alarmSync.autoStart

/-! ## GntConsole -/

theorem Keep.conQuiet {f : State → State × Nat} (h : Keep r s) (k : ∀ x, Keep r x → Keep r (f x).1) :
    Keep r (s.conQuiet f) :=
  Keep.branch h <| Keep.branch h.uartAnswer <| Keep.uartAnswer <| k _ h

theorem Keep.conKey {slot h'} (h : Keep r s) : Keep r (s.conKey slot h').1 :=
  Keep.branchFst h.frame h

theorem execKeyProgram_keeps {slot hash} (h : Keep r s) : KeepOut r (execKeyProgram slot hash s) :=
  KeepOut.next <| h.conQuiet fun _ k => k.conKey

theorem execKeyRevoke_keeps {slot} (h : Keep r s) : KeepOut r (execKeyRevoke slot s) :=
  KeepOut.next <| h.conQuiet fun _ k => k.conKey

theorem Keep.conErase (h : Keep r s) : Keep r s.conErase.1 :=
  Keep.branchFst h.frame h

theorem execRecErase_keeps (h : Keep r s) : KeepOut r (execRecErase s) :=
  KeepOut.next <| h.conQuiet fun _ k => k.conErase

theorem Keep.conWindow {sec} (h : Keep r s) : Keep r (s.conWindow sec).1 :=
  Keep.branchFst h (((h.setReg _ _).putGflash _ _).putGflash _ _)

theorem execRecWindow_keeps {sec} (h : Keep r s) : KeepOut r (execRecWindow sec s) :=
  KeepOut.next <| h.conQuiet fun _ k => k.conWindow

theorem execClaim_keeps {m} (h : Keep r s) : KeepOut r (execClaim m s) :=
  KeepOut.next <| h.conQuiet fun _ k => k.claimSet

theorem Keep.conKeep {a} (h : Keep r s) : Keep r (s.conKeep a) :=
  h.setGnt

theorem Keep.conSns {off v} (h : Keep r s) : Keep r (s.conSns off v).1 := by
  unfold State.conSns
  extract_lets _ _ _ put
  have hput : ∀ x, Keep r x → Keep r (put x) := fun _ k => k.setReg _ _
  exact Keep.branchFst h <| Keep.branchFst h.snsGrpCtl <| Keep.branchFst h.snsGrpCtl <| Keep.conKeep <|
    Keep.branch (h.lineWrite hput) <| hput _ h

theorem execSns_keeps {off v} (h : Keep r s) : KeepOut r (execSns off v s) :=
  KeepOut.next <| h.conQuiet fun _ k => k.conSns

theorem Keep.conMs {g v} (h : Keep r s) : Keep r (s.conMs g v).1 :=
  h.setBit.conKeep

theorem execSaiMs_keeps {g v} (h : Keep r s) : KeepOut r (execSaiMs g v s) :=
  KeepOut.next <| h.conQuiet fun _ k => k.conMs

theorem Keep.conStatus (h : Keep r s) : Keep r s.conStatus :=
  h.emit.uartAnswer

theorem execConsoleStatus_keeps (h : Keep r s) : KeepOut r (execConsoleStatus s) :=
  KeepOut.next <| Keep.branch h.conStatus h

theorem Keep.conCmd {op prio g p src} (h : Keep r s) : Keep r (s.conCmd op prio g p src) :=
  h.gntCommand.uartAnswer.afterCommand

theorem Keep.conLine {line} (h : Keep r s) : Keep r (s.conLine line) := by
  unfold State.conLine
  extract_lets _ _ _ _ _ _ _ _ range bad
  have hrange : Keep r range := h.uartAnswer
  have hbad : Keep r bad := h.uartAnswer
  refine Keep.branch h.uartAnswer <| Keep.branch ?_ <| Keep.branch h.conCmd <| Keep.branch ?_ <| Keep.branch ?_ <|
    Keep.branch h.conCmd <| Keep.branch h.conCmd <| Keep.branch h.conCmd <| Keep.branch h.conStatus <|
      Keep.branch ?_ <| Keep.branch ?_ <| Keep.branch (h.conQuiet fun _ k => k.conErase) <| Keep.branch ?_ <|
        Keep.branch ?_ <| Keep.branch ?_ <| Keep.branch ?_ hbad
  · split
    · exact Keep.branch h.conCmd hrange
    · exact hbad
  · split
    · exact Keep.branch h.conCmd hrange
    · exact hbad
  · split
    · exact Keep.branch h.conCmd hrange
    · exact hbad
  · split
    · exact Keep.branch (h.conQuiet fun _ k => k.conKey) hrange
    · exact hbad
  · split
    · exact Keep.branch (h.conQuiet fun _ k => k.conKey) hrange
    · exact hbad
  · split
    · exact h.conQuiet fun _ k => k.conWindow
    · exact hbad
  · split
    · exact Keep.branch (h.conQuiet fun _ k => k.claimSet) hrange
    · exact hbad
  · split
    · exact Keep.branch (h.conQuiet fun _ k => k.conSns) hrange
    · exact hbad
  · split
    · exact Keep.branch (h.conQuiet fun _ k => k.conMs) hrange
    · exact hbad

theorem execConsoleLine_keeps {line} (h : Keep r s) : KeepOut r (execConsoleLine line s) :=
  KeepOut.next <| Keep.branch h.conLine h

/-! ## DramSvc -/

theorem Keep.setDebt {c d} (h : Keep r s) : Keep r (s.setDebt c d) :=
  h.setFld

theorem Keep.urgent {c} (h : Keep r s) : Keep r (s.urgent c) :=
  Keep.branch h.count.setDebt h

theorem execRefreshDue_keeps {c rt paid} (h : Keep r s) : KeepOut r (execRefreshDue c rt paid s) :=
  KeepOut.next <| Keep.branch h.urgent.setDebt.urgent h

theorem Keep.rateUp (h : Keep r s) : Keep r s.rateUp := by
  unfold State.rateUp
  extract_lets _ _ _ s1
  have hs1 : Keep r s1 := Keep.setFld <| h.each fun _ _ k => k.setDebt
  exact Keep.branch hs1 hs1.evt.count.raiseDet

theorem Keep.rateDown (h : Keep r s) : Keep r s.rateDown :=
  Keep.setFld <| h.each fun _ _ k => k.setDebt

theorem execMr4Poll_keeps {c0 c1 c2 c3} (h : Keep r s) : KeepOut r (execMr4Poll c0 c1 c2 c3 s) := by
  unfold execMr4Poll
  extract_lets _ s1 _ _ s2
  have hs1 : Keep r s1 := h.each fun _ _ k => k.setFld
  have hs2 : Keep r s2 := Keep.branch (hs1.each fun _ _ k => k.rateUp) <| hs1.each fun _ _ k => k.rateDown
  refine KeepOut.next <| Keep.branch h ?_
  split
  · exact hs2.evt.draw.tempShut
  · exact hs2

theorem execSelfRefreshIdle_keeps (h : Keep r s) : KeepOut r (execSelfRefreshIdle s) :=
  KeepOut.next <| Keep.branch h.selfRefresh h

theorem execDramInitDone_keeps (h : Keep r s) : KeepOut r (execDramInitDone s) :=
  KeepOut.next <| Keep.branch (Keep.branch h.dramInitDone.frame h.dramInitDone.tryArm) h

theorem Keep.drcCmd {v} (h : Keep r s) : Keep r (s.drcCmd v) :=
  Keep.branch h <| Keep.branch h.frame h.notReady

theorem execDrcRetrain_keeps {ini} (h : Keep r s) : KeepOut r (execDrcRetrain ini s) :=
  KeepOut.access h fun _ k => k.drcCmd

theorem Keep.trnGo {v} (h : Keep r s) : Keep r (s.trnGo v) :=
  Keep.branch h <| Keep.branch h.setBit.setBit h.setBit.setBit.setBit.frame

theorem execDrcTrnGo_keeps {ini} (h : Keep r s) : KeepOut r (execDrcTrnGo ini s) :=
  KeepOut.access h fun _ k => k.trnGo

theorem execTestPointDone_keeps {errs found} (h : Keep r s) : KeepOut r (execTestPointDone errs found s) := by
  unfold execTestPointDone
  extract_lets
  refine KeepOut.next ?_
  split
  · exact h
  · extract_lets s1 s2 s3
    have hs1 : Keep r s1 := h.each fun _ _ k => k.countFld
    have hs2 : Keep r s2 := Keep.branch hs1.setFld <| Keep.branch hs1.setFld hs1
    have hs3 : Keep r s3 := hs2.setBit.setBit
    exact hs3.frame

theorem Keep.trainFail (h : Keep r s) : Keep r s.trainFail :=
  Keep.branch h.setBit.evt.frame.frame h.setBit.evt.frame

theorem Keep.trnStat {v} (h : Keep r s) : Keep r (s.trnStat v) :=
  Keep.branch h.trainFail h.setBit

theorem execTrainingFail_keeps (h : Keep r s) : KeepOut r (execTrainingFail s) :=
  KeepOut.access h fun _ k => k.trainFail

theorem execTrainingComplete_keeps {density} (h : Keep r s) : KeepOut r (execTrainingComplete density s) := by
  unfold execTrainingComplete
  refine KeepOut.access h fun t k => Keep.branch k <| Keep.branch k.trainFail ?_
  extract_lets s1 _ s2
  have hs1 : Keep r s1 := k.setFld.setReg _ _
  have hs2 : Keep r s2 := hs1.frame
  exact Keep.branch hs2.dramFull hs2

/-! ## Integrity -/

theorem Keep.injRefuse (h : Keep r s) : Keep r s.injRefuse :=
  h.count.evt

theorem Keep.injArm {d} (h : Keep r s) : Keep r (s.injArm d) :=
  Keep.branch h.setBit h.setBit

theorem Keep.injSram {d} (h : Keep r s) : Keep r (s.injSram d) :=
  Keep.branch h.injRefuse h.injArm

theorem Keep.injDram {d} (h : Keep r s) : Keep r (s.injDram d) :=
  Keep.branch h.injRefuse h.injArm

theorem Keep.injRaise {d} (h : Keep r s) : Keep r (s.injRaise d) := by
  unfold State.injRaise
  extract_lets
  split
  · exact h.injSram
  · exact h.injSram
  · exact h.injDram
  · exact h.injDram
  · exact h.clkTrip.clkRaise
  · exact h.clkTrip.clkRaise
  · exact h.evt.clkRaise
  · exact h.evt.clkRaise
  · exact h.evt.count.raiseDet
  · exact h.evt.count.raiseDet
  · exact h.evt.count.raiseDet
  · exact h.evt.count.raiseDet
  · exact h.evt.count.raiseDet
  · exact h.evt.count.raiseDet
  · exact h.evt.count.raiseDet
  · exact h.evt.count.raiseDet
  · exact h.evt.count.raiseDet
  · exact h.evt.evt.raiseDet
  · exact h.evt.evt.raiseDet
  · exact h.evt.raiseDet
  · exact h.evt.raiseDet
  · exact h.evt.count.raiseDet
  · exact h.evt.count.raiseDet
  · exact h.evt.count.raiseDet
  · exact h.domainReset
  · exact h.domainReset
  · exact h.msgRaise
  · exact h.evt.raiseDet
  · exact h.raiseDet.gntFault
  · exact h.lineRaise.note
  · exact h.evt.raiseDet
  · exact h.evt.count.raiseDet
  · exact h.evt.count.raiseDet
  · exact h.evt.count.raiseDet
  · exact h

theorem Keep.inject {d} (h : Keep r s) : Keep r (s.inject d) :=
  Keep.branch h.injRaise h.injRefuse

theorem Keep.injWrite {ini hi v} (h : Keep r s) : Keep r (s.injWrite ini hi v) := by
  unfold State.injWrite
  extract_lets _ _ s1
  have hs1 : Keep r s1 := h.when fun _ k => k.deny
  exact Keep.branch (h.each fun _ _ k => k.inject) <| hs1.each fun _ _ k => k.inject

theorem Keep.injRow {ini d} (h : Keep r s) : KeepOut r (s.injRow ini d) :=
  KeepOut.next <| Keep.branch h <| Keep.branch h.injWrite <| Keep.branch h.injWrite h

theorem execIntInjSramCe_keeps {ini} (h : Keep r s) : KeepOut r (execIntInjSramCe ini s) :=
  h.injRow

theorem execIntInjSramUe_keeps {ini} (h : Keep r s) : KeepOut r (execIntInjSramUe ini s) :=
  h.injRow

theorem execIntInjDramCe_keeps {ini} (h : Keep r s) : KeepOut r (execIntInjDramCe ini s) :=
  h.injRow

theorem execIntInjDramUe_keeps {ini} (h : Keep r s) : KeepOut r (execIntInjDramUe ini s) :=
  h.injRow

theorem execIntInjXaLoss_keeps {ini} (h : Keep r s) : KeepOut r (execIntInjXaLoss ini s) :=
  h.injRow

theorem execIntInjXbLoss_keeps {ini} (h : Keep r s) : KeepOut r (execIntInjXbLoss ini s) :=
  h.injRow

theorem execIntInjRootUnlock_keeps {ini} (h : Keep r s) : KeepOut r (execIntInjRootUnlock ini s) :=
  h.injRow

theorem execIntInjFoscRange_keeps {ini} (h : Keep r s) : KeepOut r (execIntInjFoscRange ini s) :=
  h.injRow

theorem execIntInjSaiClkLoss_keeps {ini} (h : Keep r s) : KeepOut r (execIntInjSaiClkLoss ini s) :=
  h.injRow

theorem execIntInjSaiFrame_keeps {ini} (h : Keep r s) : KeepOut r (execIntInjSaiFrame ini s) :=
  h.injRow

theorem execIntInjNonAudio_keeps {ini} (h : Keep r s) : KeepOut r (execIntInjNonAudio ini s) :=
  h.injRow

theorem execIntInjRndLate_keeps {ini} (h : Keep r s) : KeepOut r (execIntInjRndLate ini s) :=
  h.injRow

theorem execIntInjCoreGov_keeps {ini} (h : Keep r s) : KeepOut r (execIntInjCoreGov ini s) :=
  h.injRow

theorem execIntInjFirGov_keeps {ini} (h : Keep r s) : KeepOut r (execIntInjFirGov ini s) :=
  h.injRow

theorem execIntInjCircAddr_keeps {ini} (h : Keep r s) : KeepOut r (execIntInjCircAddr ini s) :=
  h.injRow

theorem execIntInjSchQfull_keeps {ini} (h : Keep r s) : KeepOut r (execIntInjSchQfull ini s) :=
  h.injRow

theorem execIntInjTaskTimeout_keeps {ini} (h : Keep r s) : KeepOut r (execIntInjTaskTimeout ini s) :=
  h.injRow

theorem execIntInjMacFcs_keeps {ini} (h : Keep r s) : KeepOut r (execIntInjMacFcs ini s) :=
  h.injRow

theorem execIntInjTsOvf_keeps {ini} (h : Keep r s) : KeepOut r (execIntInjTsOvf ini s) :=
  h.injRow

theorem execIntInjBvlRetry_keeps {ini} (h : Keep r s) : KeepOut r (execIntInjBvlRetry ini s) :=
  h.injRow

theorem execIntInjBvlDown_keeps {ini} (h : Keep r s) : KeepOut r (execIntInjBvlDown ini s) :=
  h.injRow

theorem execIntInjTwinHb_keeps {ini} (h : Keep r s) : KeepOut r (execIntInjTwinHb ini s) :=
  h.injRow

theorem execIntInjTwinRec_keeps {ini} (h : Keep r s) : KeepOut r (execIntInjTwinRec ini s) :=
  h.injRow

theorem execIntInjImageCheck_keeps {ini} (h : Keep r s) : KeepOut r (execIntInjImageCheck ini s) :=
  h.injRow

theorem execIntInjGntWdt_keeps {ini} (h : Keep r s) : KeepOut r (execIntInjGntWdt ini s) :=
  h.injRow

theorem execIntInjGntLockstep_keeps {ini} (h : Keep r s) : KeepOut r (execIntInjGntLockstep ini s) :=
  h.injRow

theorem execIntInjMsgCheck_keeps {ini} (h : Keep r s) : KeepOut r (execIntInjMsgCheck ini s) :=
  h.injRow

theorem execIntInjRecWrite_keeps {ini} (h : Keep r s) : KeepOut r (execIntInjRecWrite ini s) :=
  h.injRow

theorem execIntInjPilot_keeps {ini} (h : Keep r s) : KeepOut r (execIntInjPilot ini s) :=
  h.injRow

theorem execIntInjLineZ_keeps {ini} (h : Keep r s) : KeepOut r (execIntInjLineZ ini s) :=
  h.injRow

theorem execIntInjOverTemp_keeps {ini} (h : Keep r s) : KeepOut r (execIntInjOverTemp ini s) :=
  h.injRow

theorem execIntInjSupply_keeps {ini} (h : Keep r s) : KeepOut r (execIntInjSupply ini s) :=
  h.injRow

theorem execIntInjRefreshDebt_keeps {ini} (h : Keep r s) : KeepOut r (execIntInjRefreshDebt ini s) :=
  h.injRow

theorem execIntInjFarClamp_keeps {ini} (h : Keep r s) : KeepOut r (execIntInjFarClamp ini s) :=
  h.injRow

theorem Keep.tmCtl {v} (h : Keep r s) : Keep r (s.tmCtl v) :=
  Keep.branch h.setBit <| Keep.branch h.setBit h.evt

theorem execIntTmCtlWrite_keeps {ini v} (h : Keep r s) : KeepOut r (execIntTmCtlWrite ini v s) :=
  KeepOut.access h fun _ k => k.tmCtl

theorem Keep.dbgLock {v} (h : Keep r s) : Keep r (s.dbgLock v) :=
  Keep.branch h.frame h.evt

theorem execIntDbgLock_keeps {ini v} (h : Keep r s) : KeepOut r (execIntDbgLock ini v s) :=
  KeepOut.access h fun _ k => k.dbgLock

theorem execDbgFuseDone_keeps (h : Keep r s) : KeepOut r (execDbgFuseDone s) :=
  KeepOut.next <| Keep.branch h.frame.setBit.note h

/-! ## Host -/

theorem Keep.setHost {f} (h : Keep r s) : Keep r (s.setHost f) :=
  h.frame

theorem Keep.vecSend {v} (h : Keep r s) : Keep r (s.vecSend v) :=
  Keep.branch h.setHost.emit h

theorem Keep.irqSend (h : Keep r s) : Keep r s.irqSend :=
  h.each fun _ _ k => k.vecSend

theorem Keep.irqEoi {v} (h : Keep r s) : Keep r (s.irqEoi v) :=
  h.setHost.vecSend

theorem execHstIrqEoi_keeps {ini v} (h : Keep r s) : KeepOut r (execHstIrqEoi ini v s) :=
  KeepOut.access h fun _ k => k.irqEoi

theorem Keep.irqLatch {v} (h : Keep r s) : Keep r (s.irqLatch v) :=
  h.setReg _ _

theorem execHstIrqLatchWrite_keeps {ini v} (h : Keep r s) : KeepOut r (execHstIrqLatchWrite ini v s) :=
  KeepOut.access h fun _ k => k.irqLatch

theorem Keep.pcieLink {up width speed} (h : Keep r s) : Keep r (s.pcieLink up width speed) :=
  Keep.branch h (h.setReg _ _).evt.note

theorem execPcieLinkChange_keeps {up width speed msix} (h : Keep r s) :
    KeepOut r (execPcieLinkChange up width speed msix s) :=
  KeepOut.next <| Keep.branch h <| Keep.branch h.pcieLink h.pcieLink.setHost

theorem execPerstNFall_keeps (h : Keep r s) : KeepOut r (execPerstNFall s) :=
  KeepOut.next <| Keep.branch h (h.pcieLink.resetRange _ _).setHost

theorem Keep.ospiCmd {v} (h : Keep r s) : Keep r (s.ospiCmd v) :=
  Keep.branch h <| Keep.branch h.setBit.evt h.setBit.setHost.frame.emit

theorem execHstOspiCmd_keeps {ini v} (h : Keep r s) : KeepOut r (execHstOspiCmd ini v s) :=
  KeepOut.access h fun _ k => k.ospiCmd

theorem execOspiDone_keeps {ok data at_ cells} (h : Keep r s) : KeepOut r (execOspiDone ok data at_ cells s) := by
  unfold execOspiDone
  refine KeepOut.next ?_
  split
  · exact h
  · extract_lets _ _ s1 s2 s3
    have hs1 : Keep r s1 := Keep.branch (h.each fun _ _ k => k.setReg _ _) h
    have hs2 : Keep r s2 := Keep.branch (hs1.boot _ (Store.wf_putBytes _ _ _ _)) hs1
    have hs3 : Keep r s3 := hs2.setBit.setBit.when fun _ k => k.setBit
    exact hs3.frame

theorem Keep.setI2c {k' x} (h : Keep r s) : Keep r (s.setI2c k' x) :=
  h.setHost

theorem Keep.i2cCmd {k' v} (h : Keep r s) : Keep r (s.i2cCmd k' v) :=
  Keep.branch h.setI2c h

theorem Keep.i2cEnd {k' bit} (h : Keep r s) : Keep r (s.i2cEnd k' bit) :=
  Keep.branch h.setI2c.setBit.emit h.setI2c.setBit

theorem Keep.i2cOk {k' x wire} (h : Keep r s) : Keep r (s.i2cOk k' x wire) :=
  h.setI2c.emit.when fun _ k1 => k1.setBit

theorem Keep.i2cRun {f : Word → I2cSt → State} {k' op} (h : Keep r s) (k1 : ∀ x y, Keep r (f x y)) :
    KeepOut r (s.i2cRun k' op f) := by
  unfold State.i2cRun
  refine KeepOut.next ?_
  split
  · exact Keep.branch (k1 _ _) h
  · exact h

theorem execI2cWrite_keeps {k' nack arb} (h : Keep r s) : KeepOut r (execI2cWrite k' nack arb s) :=
  h.i2cRun fun _ _ => Keep.branch h.i2cEnd <| Keep.branch h.i2cEnd h.i2cOk

theorem execI2cRead_keeps {k' b arb} (h : Keep r s) : KeepOut r (execI2cRead k' b arb s) :=
  h.i2cRun fun _ _ => Keep.branch h.i2cEnd <| Keep.branch h h.i2cOk

theorem execI2cStart_keeps {k' arb} (h : Keep r s) : KeepOut r (execI2cStart k' arb s) :=
  h.i2cRun fun _ _ => Keep.branch h.i2cEnd h.i2cOk

theorem execI2cStop_keeps {k'} (h : Keep r s) : KeepOut r (execI2cStop k' s) :=
  h.i2cRun fun _ _ => h.i2cOk

theorem execI2cTimeout_keeps {k'} (h : Keep r s) : KeepOut r (execI2cTimeout k' s) := by
  unfold execI2cTimeout
  refine KeepOut.next ?_
  split
  · exact h.i2cEnd
  · exact h

theorem Keep.i2cRx {k'} (h : Keep r s) : Keep r (s.i2cRx k').1 :=
  h.setI2c

theorem execHstI2cRxRead_keeps {ini k'} (h : Keep r s) : KeepOut r (execHstI2cRxRead ini k' s) :=
  KeepOut.readRow h fun _ k1 => k1.i2cRx

theorem Keep.gpioSync (h : Keep r s) : Keep r s.gpioSync :=
  (h.setReg _ _).setReg _ _

theorem execGpioEdge_keeps {pin level} (h : Keep r s) : KeepOut r (execGpioEdge pin level s) :=
  KeepOut.next <| Keep.branch (Keep.branch h.setHost.gpioSync (h.setHost.setReg _ _)) h

theorem Keep.gpioWrite {a v} (h : Keep r s) : Keep r (s.gpioWrite a v) :=
  Keep.gpioSync <| Keep.branch (h.setReg _ _) <| Keep.branch (h.setReg _ _) <| Keep.branch (h.setReg _ _) (h.setReg _ _)

theorem execPtpStart_keeps {c} (h : Keep r s) : KeepOut r (execPtpStart c s) := by
  unfold execPtpStart
  extract_lets
  refine KeepOut.next <| h.serve fun t k => Keep.branch k.respond <| Keep.branch k.respond ?_
  extract_lets s1 _ s2
  have hs1 : Keep r s1 := k.setBit.setFld
  have hs2 : Keep r s2 := hs1.frame
  exact hs2.servoTo.respond

theorem execPtpStop_keeps {c} (h : Keep r s) : KeepOut r (execPtpStop c s) := by
  unfold execPtpStop
  extract_lets
  refine KeepOut.next <| h.serve fun t k => Keep.branch k.respond ?_
  extract_lets s1
  have hs1 : Keep r s1 := k.setBit.setFld.servoTo
  exact Keep.respond <| hs1.when fun _ k1 => k1.armStart

theorem execPtpStatus_keeps {c gm} (h : Keep r s) : KeepOut r (execPtpStatus c gm s) :=
  KeepOut.next <| h.serve fun _ k => Keep.branch k.respond k.respond

theorem Keep.sapSend {t text} (h : Keep r s) : Keep r (s.sapSend t text) :=
  h.emit

theorem execAnnounce_keeps {c} (h : Keep r s) : KeepOut r (execAnnounce c s) := by
  unfold execAnnounce
  extract_lets
  refine KeepOut.next <| h.serve fun t k => Keep.branch k.respond ?_
  extract_lets a1 s1
  have ha1 : Keep r a1.1 := k.dramRead
  have hs1 : Keep r s1 := ha1.setHost
  exact hs1.sapSend.respond

theorem execWithdraw_keeps {c} (h : Keep r s) : KeepOut r (execWithdraw c s) :=
  KeepOut.next <| h.serve fun _ k => Keep.branch k.respond k.setHost.sapSend.respond

theorem execSapList_keeps {c texts} (h : Keep r s) : KeepOut r (execSapList c texts s) :=
  KeepOut.next <| h.serve fun _ k => Keep.branch k.respond k.dramWriteParts.respond

theorem execSapAnnounceTimer_keeps {t} (h : Keep r s) : KeepOut r (execSapAnnounceTimer t s) := by
  unfold execSapAnnounceTimer
  refine KeepOut.next ?_
  split
  · exact Keep.branch h.sapSend h
  · exact h

theorem execTopology_keeps {c} (h : Keep r s) : KeepOut r (execTopology c s) :=
  KeepOut.next <| h.serve fun _ k => Keep.branch k.respond k.dramWriteParts.respond

theorem execTwinStatus_keeps {c} (h : Keep r s) : KeepOut r (execTwinStatus c s) :=
  KeepOut.next <| h.serve fun _ k => k.respond

theorem execVersion_keeps {c} (h : Keep r s) : KeepOut r (execVersion c s) :=
  KeepOut.next <| h.serve fun _ k => k.respond

theorem execAutostart_keeps {c} (h : Keep r s) : KeepOut r (execAutostart c s) :=
  KeepOut.next <| h.serve fun _ k => k.respond

/-! ## Block -/

theorem Keep.cmpAlign {i off} (h : Keep r s) : Keep r (s.cmpAlign i off) :=
  h.each fun _ _ k => Keep.branch k.setPair k

theorem Keep.trainStart {t0 off} (h : Keep r s) : Keep r (s.trainStart t0 off) :=
  ((h.frame.setReg _ _).setReg _ _).setPhase.saiAlign

theorem Keep.cmpMatch {i off} (h : Keep r s) : Keep r (s.cmpMatch i off) := by
  unfold State.cmpMatch
  extract_lets _ s1 s2
  have hs1 : Keep r s1 := h.cmpFire.pulseStart.cmpAlign
  have hs2 : Keep r s2 := Keep.branch hs1.snsSync hs1
  exact Keep.branch hs2.trainStart hs2

theorem execTimCmpMatch_keeps {i off} (h : Keep r s) : KeepOut r (execTimCmpMatch i off s) :=
  KeepOut.next <| Keep.branch h.advanceTo.cmpMatch h

theorem Keep.matchDue (h : Keep r s) : Keep r s.matchDue :=
  h.each fun _ _ k => Keep.branch k.cmpMatch k

theorem Keep.timCmdWrite {ini v} (h : Keep r s) : Keep r (s.timCmdWrite ini v) :=
  h.timGuard fun _ k => Keep.branch k.timCmd.matchDue k

theorem execTimSet_keeps {ini} (h : Keep r s) : KeepOut r (execTimSet ini s) :=
  KeepOut.access h fun _ k => k.timCmdWrite

theorem execStartCmpLockTimeout_keeps (h : Keep r s) : KeepOut r (execStartCmpLockTimeout s) :=
  KeepOut.next <| Keep.branch h.armStart h

/-! ## Bus -/

theorem Keep.rcRead {a} (h : Keep r s) : Keep r (s.rcRead a).1 :=
  h.setReg _ _

theorem Keep.latchRead {a hi n} (h : Keep r s) : Keep r (s.latchRead a hi n).1 :=
  h.setReg _ _

theorem Keep.arrayErr {a} (h : Keep r s) : Keep r (s.arrayErr a) := by
  unfold State.arrayErr
  split
  · exact h.coreHalt
  · exact h.svcRestart
  · exact Keep.branch h.domainReset h
  · exact h

theorem Keep.windowRead {a} (h : Keep r s) : Keep r (s.windowRead a).1 :=
  h.sramRead.when fun _ k => k.arrayErr

theorem Keep.busRead {a} (h : Keep r s) : Keep r (s.busRead a).1 := by
  unfold State.busRead
  refine Keep.branchFst h <| Keep.branchFst (Keep.branchFst h.windowRead h) <| Keep.branchFst h.nsRead <|
    Keep.branchFst h.iptRead <| Keep.branchFst h.coefData <| Keep.branchFst h.tsRead <| Keep.branchFst h.tsRead <|
      Keep.branchFst h.tsRead <| Keep.branchFst h.tsRead <| Keep.branchFst h.i2cRx <| Keep.branchFst h.i2cRx <|
        Keep.branchFst h.latchRead <| Keep.branchFst h.loadDoneRead <| Keep.branchFst h.latchRead <|
          Keep.branchFst h.latchRead ?_
  split
  · exact h.portTsRead
  · exact Keep.branchFst h.rcRead h

theorem Keep.genWrite {ini a v} (h : Keep r s) : Keep r (s.genWrite ini a v) := by
  unfold State.genWrite
  split
  · exact h.setReg _ _
  · exact h.setReg _ _
  · exact h.setReg _ _
  · exact h.setReg _ _
  · exact Keep.branch (h.setReg _ _) h.frame
  · exact h

theorem Keep.wGnt {a v} (h : Keep r s) : Keep r (s.wGnt a v) := by
  unfold State.wGnt
  extract_lets t
  have ht : Keep r t := h.genWrite
  exact Keep.branch h.setGntStatus.alarmSync.fltSync <| Keep.branch (Keep.branch h.setGnt h) <|
    Keep.branch (Keep.fltSync <| Keep.branch ht.setAstate ht) <| Keep.branch h.genWrite.fltSync <|
      Keep.branch h.claimSet <| Keep.branch h.tslotWrite <| Keep.branch h.toneWrite <| Keep.branch h.playWrite <|
        Keep.branch h.inboxWord <| Keep.branch h.inboxGo <| Keep.branch h.inboxWord <| Keep.branch h.inboxGo <|
          Keep.branch h.zbCommit <| Keep.branch h.tfCommit h.genWrite

theorem Keep.wPwr {ini a v} (h : Keep r s) : Keep r (s.wPwr ini a v) :=
  Keep.branch h.islandWrite <| Keep.branch h.request <| Keep.branch (h.setReg _ _) <| Keep.branch h.clkEn <|
    Keep.branch h.trimCode <| Keep.branch h.clkCmd h.genWrite

theorem Keep.wTim {ini a v} (h : Keep r s) : Keep r (s.wTim ini a v) :=
  Keep.branch h.timInc <| Keep.branch h.rootFrac <| Keep.branch h.timCmdWrite <|
    Keep.branch (h.timGuard fun _ k => k.genWrite) <| Keep.branch (h.setReg _ _) <| Keep.branch (h.setReg _ _) <|
      Keep.branch h.cmpCfg <| Keep.branch h.pulseCfg h.genWrite

theorem Keep.marginRst {v} (h : Keep r s) : Keep r (s.marginRst v) :=
  Keep.logWrite <| Keep.branch (((h.setReg _ _).setReg _ _).setReg _ _) h

theorem Keep.wGeo {ini a v} (h : Keep r s) : Keep r (s.wGeo ini a v) :=
  Keep.branch h.geoCWrite <| Keep.branch h.geoCtlWrite <| Keep.branch h.marginRst h.logWrite.genWrite

theorem Keep.wFir {ini a v} (h : Keep r s) : Keep r (s.wFir ini a v) :=
  Keep.branch h.fadeReqWrite <| Keep.branch h.firDescWrite h.logWrite.genWrite

theorem Keep.wSai {ini a v} (h : Keep r s) : Keep r (s.wSai ini a v) :=
  Keep.branch h.maskWrite h.genWrite

theorem Keep.wSns {ini a v} (h : Keep r s) : Keep r (s.wSns ini a v) :=
  Keep.branch h.snsCtl <| Keep.branch h.snsGrpCtl <| Keep.branch (h.lineWrite fun _ k => k.genWrite) h.genWrite

theorem Keep.wMac {ini a v} (h : Keep r s) : Keep r (s.wMac ini a v) :=
  Keep.branch h.macSnap <| Keep.branch (Keep.branch h.tailWrite <| Keep.branch h h.genWrite) h.genWrite

theorem Keep.wBvl {ini a v} (h : Keep r s) : Keep r (s.wBvl ini a v) :=
  Keep.branch (Keep.branch h.rraGo h) h.genWrite

theorem Keep.wDrc {ini a v} (h : Keep r s) : Keep r (s.wDrc ini a v) :=
  Keep.branch h.drcCmd <| Keep.branch h.trnGo <| Keep.branch h.trnStat h.genWrite

theorem Keep.wRec {ini a v} (h : Keep r s) : Keep r (s.wRec ini a v) :=
  Keep.branch h.recSubmit <| Keep.branch h.recFetchGo h.genWrite

theorem Keep.wInt {ini a v} (h : Keep r s) : Keep r (s.wInt ini a v) :=
  Keep.branch h.injWrite <| Keep.branch h.tmCtl <| Keep.branch h.dbgLock h.genWrite

theorem Keep.wCfg {ini a v} (h : Keep r s) : Keep r (s.wCfg ini a v) :=
  Keep.branch (Keep.branch h.loadGo h) <| Keep.branch h.swapWrite <| Keep.branch h.fuseCtl h.genWrite

theorem Keep.wHst {ini a v} (h : Keep r s) : Keep r (s.wHst ini a v) :=
  Keep.branch h.irqLatch <| Keep.branch h.irqEoi <| Keep.branch h.mbxDb <| Keep.branch h.mbxAck <|
    Keep.branch h.gpioWrite <| Keep.branch h.i2cCmd <| Keep.branch h.i2cCmd <| Keep.branch (h.setReg _ _) <|
      Keep.branch h.ospiCmd <| Keep.branch (h.setReg _ _) <|
        Keep.branch (Keep.branch (Keep.branch h.mbxErr h.genWrite) <| Keep.branch (h.setReg _ _) h) h.genWrite

theorem Keep.trackedWrite {ini a v} (h : Keep r s) : Keep r (s.trackedWrite ini a v) :=
  Keep.branch h.wGeo <| Keep.branch h.wFir <| Keep.branch (Keep.branch h.mtrCtl h.logWrite.genWrite) <|
    Keep.branch h.poolWrite <| Keep.branch (Keep.branch h.meterWrite h.mixWrite) h.tableWrite

theorem Keep.windowWrite {a v} (h : Keep r s) : Keep r (s.windowWrite a v) :=
  h.sramHostWrite.when fun _ k => k.arrayErr

theorem Keep.wSram {a v} (h : Keep r s) : Keep r (s.wSram a v) :=
  Keep.branch (Keep.branch h.windowWrite h.count.evt) <| Keep.branch h.schArrayWrite <| Keep.branch h h.windowWrite

theorem Keep.blockWrite {ini a v} (h : Keep r s) : Keep r (s.blockWrite ini a v) := by
  unfold State.blockWrite
  refine Keep.branch (h.gateTracked fun _ k => k.trackedWrite) <| Keep.branch (Keep.branch h.wSram h) ?_
  split
  · exact h.wGnt
  · exact h.wPwr
  · exact h.wTim
  · exact Keep.branch h.submit <| Keep.branch h.cancel h.genWrite
  · exact h.wSai
  · exact h.wSns
  · exact h.wMac
  · exact h.wBvl
  · exact Keep.branch h.twnCmd h.genWrite
  · exact h.wDrc
  · exact h.wRec
  · exact h.wInt
  · exact h.wCfg
  · exact h.wHst
  · exact h.genWrite

theorem Keep.denyWrite {ini a} (h : Keep r s) : Keep r (s.denyWrite ini a) :=
  Keep.when (h.deny.when fun _ k => k.count.evt) fun _ k => k.geoEvt

theorem Keep.busWrite {ini a v} (h : Keep r s) : Keep r (s.busWrite ini a v) :=
  Keep.branch h.injWrite <| Keep.branch (Keep.branch h.blockWrite h.denyWrite) <| Keep.branch h.blockWrite h

theorem Keep.narrow {ini a} (h : Keep r s) : Keep r (s.narrow ini a) :=
  h.count.evtFirst

theorem execRegisterWrite_keeps {ini addr v be} (h : Keep r s) : KeepOut r (execRegisterWrite ini addr v be s) :=
  KeepOut.next <| Keep.branch h <| Keep.branch h.busWrite h.narrow

theorem execSramWindowWrite_keeps {ini addr v} (h : Keep r s) : KeepOut r (execSramWindowWrite ini addr v s) :=
  KeepOut.next <| Keep.branch h.busWrite h

theorem execRcRead_keeps {ini addr} (h : Keep r s) : KeepOut r (execRcRead ini addr s) :=
  KeepOut.readRow h fun _ k => k.busRead

theorem execRndMarginRst_keeps {ini v} (h : Keep r s) : KeepOut r (execRndMarginRst ini v s) :=
  h.writeTracked fun _ k => k.marginRst

theorem Keep.qspiFail (h : Keep r s) : Keep r s.qspiFail :=
  h.setHost

theorem Keep.qspiWord {a} (h : Keep r s) : Keep r (s.qspiWord a).1 :=
  Keep.branchFst h.busRead h.dramRead

theorem Keep.qspiReads {cut a n} (h : Keep r s) : Keep r (s.qspiReads cut a n) := by
  induction n generalizing s a with
  | zero => exact h
  | succ n ih => exact ih <| Keep.branch h.qspiWord h.qspiWord.emit

theorem Keep.qspiGet {addr n cut} (h : Keep r s) : KeepOut r (s.qspiGet addr n cut) :=
  KeepOut.next <| Keep.branch h <| Keep.branch h.qspiFail h.qspiReads

theorem Keep.qspiPut {a v} (h : Keep r s) : Keep r (s.qspiPut a v) :=
  Keep.branch h.busWrite h.dramWrite

theorem Keep.qspiSet {addr ws full cut} (h : Keep r s) : KeepOut r (s.qspiSet addr ws full cut) := by
  unfold State.qspiSet
  extract_lets s1
  have hs1 : Keep r s1 := h.each fun _ _ k => Keep.branch k.qspiFail k.qspiPut
  exact KeepOut.next <| Keep.branch h <| Keep.branch h.qspiFail <| Keep.branch hs1.narrow hs1

theorem execQspiRead_keeps {addr n cut} (h : Keep r s) : KeepOut r (execQspiRead addr n cut s) :=
  h.qspiGet

theorem execQspiQread_keeps {addr n cut} (h : Keep r s) : KeepOut r (execQspiQread addr n cut s) :=
  h.qspiGet

theorem execQspiWrite_keeps {addr ws full cut} (h : Keep r s) : KeepOut r (execQspiWrite addr ws full cut s) :=
  h.qspiSet

theorem execQspiQwrite_keeps {addr ws full cut} (h : Keep r s) : KeepOut r (execQspiQwrite addr ws full cut s) :=
  h.qspiSet

theorem execQspiStatus_keeps {busy} (h : Keep r s) : KeepOut r (execQspiStatus busy s) :=
  KeepOut.next h.setHost.emit

theorem Keep.rraAccess {a wr v} (h : Keep r s) : Keep r (s.rraAccess a wr v).1 :=
  Keep.branchFst h.busWrite h.busRead

theorem Keep.rraReply {src pay} (h : Keep r s) : Keep r (s.rraReply src pay) :=
  h.bvlSend

theorem Keep.rraRun {src key pay} (h : Keep r s) : Keep r (s.rraRun src key pay) :=
  h.rraAccess.frame.rraReply

theorem Keep.rraServe {f} (h : Keep r s) : Keep r (s.rraServe f) := by
  unfold State.rraServe
  extract_lets _ _ _ _ last
  refine Keep.branch h.rraReply ?_
  clear_value last
  split
  · exact Keep.branch h.rraReply h.rraRun
  · exact h.rraRun

theorem execRraRequest_keeps {p} (h : Keep r s) : KeepOut r (execRraRequest p s) := by
  unfold execRraRequest
  refine KeepOut.event h fun t k => ?_
  split
  · exact k
  · rename_i e
    have k1 := k.takeFlit e
    exact k1.rraServe

/-! ## TwinRec -/

theorem Keep.recRelease (h : Keep r s) : Keep r s.recRelease :=
  Keep.tryPlan <| Keep.nearFlush <| h.frame.each fun _ _ k => k.takeSnap

theorem Keep.recFail {kind fk blk dest} (h : Keep r s) : Keep r (s.recFail kind fk blk dest) :=
  h.recCheck.setSync.recRelease.dropRecord

theorem Keep.renderFrom {n} (h : Keep r s) : Keep r (s.renderFrom n) :=
  h.frame

theorem Keep.renderAnew (h : Keep r s) : Keep r s.renderAnew :=
  h.schStop.clearRender.frame.renderFrom

theorem Keep.joinTrain {t0 k'} (h : Keep r s) : Keep r (s.joinTrain t0 k') :=
  Keep.branch h ((h.frame.setReg _ _).setReg _ _).renderAnew

theorem Keep.recWrite {e} (h : Keep r s) : Keep r (s.recWrite e) :=
  Keep.branch h.frame <| Keep.branch h.trackedWrite h

theorem Keep.selPut {f v} (h : Keep r s) : Keep r (s.selPut f v) :=
  Keep.branch h h.setFld.gdClear

theorem Keep.bulkWrite {e} (h : Keep r s) : Keep r (s.bulkWrite e) := by
  unfold State.bulkWrite
  extract_lets _ _ s1
  have hs1 : Keep r s1 := h.putWord
  refine Keep.branch h.frame <| Keep.branch h.selPut <| Keep.branch h <| Keep.branch (h.setReg _ _) ?_
  split
  · exact Keep.branch hs1 hs1.setMixLive
  · exact hs1

theorem Keep.selApply {v} (h : Keep r s) : Keep r (s.selApply v) :=
  Keep.branch h <| h.each fun _ _ k => k.selPut

theorem Keep.recKeep {n c} (h : Keep r s) : Keep r (s.recKeep n c) :=
  Keep.branch h <| Keep.branch h.frame h.frame

theorem Keep.recRetire {n} (h : Keep r s) : Keep r (s.recRetire n) :=
  Keep.branch h.frame.fadesAt.mixBlock h.frame

theorem Keep.recApply {c} (h : Keep r s) : Keep r (s.recApply c) :=
  h.frame.each fun _ _ k => k.recWrite

theorem Keep.recInForce {n} (h : Keep r s) : Keep r (s.recInForce n) :=
  Keep.branch h.recRetire.frame.takeSnap h.recRetire

theorem Keep.recDiverge {n crc late3} (h : Keep r s) : Keep r (s.recDiverge n crc late3) := by
  unfold State.recDiverge
  refine Keep.branch h ?_
  split
  · exact Keep.branch h h.recCheck.setSync
  · exact h

theorem Keep.recSwap {m} (h : Keep r s) : Keep r (s.recSwap m) :=
  Keep.swapApply <| Keep.swapTake <| Keep.branch h.cutFades h

theorem Keep.recEvents {n swap restart measure sel} (h : Keep r s) :
    Keep r (s.recEvents n swap restart measure sel) := by
  unfold State.recEvents
  extract_lets s1 t _ s2
  have hs1 : Keep r s1 := Keep.branch (Keep.branch h.swapTake h.recSwap) h
  have ht : Keep r t := hs1.selApply
  have hs2 : Keep r s2 := ht.frame
  exact Keep.branch hs1 <| Keep.branch hs2.stopAt hs2

theorem Keep.exactStart {n} (h : Keep r s) : Keep r (s.exactStart n) :=
  Keep.branch h.setSync h

theorem Keep.recControl {f measure} (h : Keep r s) : Keep r (s.recControl f measure) := by
  unfold State.recControl
  extract_lets _ _ _ _ _ _ _ _ s1 _ s2 _ s3 s4
  have hs1 : Keep r s1 := Keep.branch h.joinTrain h
  have hs2 : Keep r s2 := Keep.branch hs1.recKeep hs1.exactStart.recDiverge.recApply
  have hs3 : Keep r s3 := hs2.frame
  have hs4 : Keep r s4 := hs3.recEvents
  exact Keep.branch h.recFail <| Keep.branch h.recFail <| Keep.branch h.recFail <| Keep.branch hs4 hs4.recInForce

theorem Keep.recTake {take : State → State} {fk f last} (h : Keep r s) (k : ∀ x, Keep r x → Keep r (take x)) :
    Keep r (s.recTake fk f last take) := by
  unfold State.recTake
  extract_lets
  refine Keep.branch h <| Keep.branch h.arraySweep.recFail <| Keep.branch h.recFail ?_
  split
  · exact Keep.branch (k _ h) h.recFail
  · exact k _ h

theorem execControlFrameReceive_keeps {frame measure} (h : Keep r s) :
    KeepOut r (execControlFrameReceive frame measure s) :=
  KeepOut.event h fun _ k => k.recTake fun _ k1 => k1.recControl

theorem Keep.recAudio {f} (h : Keep r s) : Keep r (s.recAudio f) := by
  unfold State.recAudio
  extract_lets _ _ _ _ _ s1 s2 _ s3
  have hs1 : Keep r s1 := h.frame
  have hs2 : Keep r s2 := hs1.each fun _ _ k => k.objWrite
  have hs3 : Keep r s3 := hs2.frame
  exact Keep.branch h.frame hs3.nearFlush.tryPlan

theorem execAudioFrameReceive_keeps {frame} (h : Keep r s) : KeepOut r (execAudioFrameReceive frame s) :=
  KeepOut.event h fun _ k => k.recTake fun _ k1 => k1.recAudio

theorem Keep.bulkDone (h : Keep r s) : Keep r s.bulkDone := by
  unfold State.bulkDone
  extract_lets _ _ s1 _ _ s2 s3
  have hs1 : Keep r s1 := h.fadesEnd
  have hs2 : Keep r s2 := hs1.frame
  have hs3 : Keep r s3 := Keep.each (hs2.each fun _ _ k => k.bulkWrite) fun _ _ k => k.recWrite
  exact Keep.setSync <| hs3.when fun _ k => k.renderAnew

theorem execBulkFrameReceive_keeps {last words} (h : Keep r s) : KeepOut r (execBulkFrameReceive last words s) :=
  KeepOut.event h fun _ k => Keep.branch k <| Keep.branch k.frame.bulkDone k.frame

theorem execStandbyRecordTimeout_keeps {audio} (h : Keep r s) : KeepOut r (execStandbyRecordTimeout audio s) := by
  unfold execStandbyRecordTimeout
  refine KeepOut.event h fun t k => Keep.branch (Keep.branch (Keep.branch k.recFail k) <| Keep.branch k.recFail k) <|
    Keep.branch k <| Keep.branch ?_ ?_
  · extract_lets
    split
    · exact k
    · extract_lets s1
      have hs1 : Keep r s1 := k.frame.nearFlush.tryPlan
      exact Keep.branch hs1.recFail hs1
  · extract_lets
    split
    · exact k
    · extract_lets s1
      have hs1 : Keep r s1 := k.frame.takeSnap
      exact Keep.branch hs1.recFail hs1

/-! ## Cycle -/

theorem Keep.phaseLatch {n} (h : Keep r s) : Keep r (s.phaseLatch n) :=
  (h.setReg _ _).when fun _ k => k.evt

theorem Keep.realignNote {n} (h : Keep r s) : Keep r (s.realignNote n) :=
  h.evt.note

theorem Keep.loads (h : Keep r s) : Keep r s.loads :=
  Keep.frame <| ((h.setReg _ _).setReg _ _).each fun _ _ k => k.setReg _ _

theorem Keep.trainFirst {n} (h : Keep r s) : Keep r (s.trainFirst n) := by
  unfold State.trainFirst
  extract_lets _ s1 gap s2 _ _ s3
  have hs1 : Keep r s1 := (h.setBit.setReg _ _).setPhase
  have hgap : ∀ {x}, Keep r x → Keep r (gap x) := by
    intro x k
    dsimp only [gap]
    split
    · exact k.frame.setReg _ _
    · exact k
  have hs2 : Keep r s2 := hgap hs1
  have hs3 : Keep r s3 := hs2.frame
  exact hs3.ptpHold.gainsReset.snsTrain.measTrain.renderFrom.exactStart.ovrStart

theorem Keep.gpllCopy (h : Keep r s) : Keep r s.gpllCopy :=
  Keep.branch h.frame h

theorem Keep.snapOrWait {n} (h : Keep r s) : Keep r (s.snapOrWait n) := by
  unfold State.snapOrWait
  extract_lets _ _ s1
  have hs1 : Keep r s1 := Keep.branch h.takeSnap h.frame
  exact Keep.branch h.takeSnap <| Keep.branch hs1 hs1.frame

theorem Keep.heldWrites (h : Keep r s) : Keep r s.heldWrites :=
  h.frame.each fun _ _ k => Keep.branch k.frame k.trackedWrite

theorem Keep.ownRealign (h : Keep r s) : Keep r s.ownRealign :=
  Keep.branch h.setSync.frame h

theorem Keep.blockWork {n swap} (h : Keep r s) : Keep r (s.blockWork n swap) :=
  h.routeBlock.fadesAt.mixBlock.snapOrWait.schBlock.sendControl.heldWrites

theorem Keep.blockBoundary {n realign} (h : Keep r s) : Keep r (s.blockBoundary n realign) := by
  unfold State.blockBoundary
  extract_lets t
  have ht : Keep r t := h.boundary
  split
  · exact Keep.heldWrites <| Keep.when (Keep.branch ht.ownRealign ht) fun _ k => k.sendControl
  · exact ht.blockWork

theorem Keep.phaseStep {n} (h : Keep r s) : Keep r (s.phaseStep n) :=
  Keep.branch h.setPhase <| Keep.branch h.setPhase h

theorem Keep.bridgesOut {m} (h : Keep r s) : Keep r (s.bridgesOut m) := by
  unfold State.bridgesOut
  split
  · exact h
  · refine h.each fun t ch k => ?_
    split
    · exact k.each fun _ _ k2 => k2.bridgeIn
    · exact k

theorem Keep.stopOrBoundary {n re} (h : Keep r s) :
    Keep r (match s.mode.stop with
      | some st => if n = st.m + 3 then s.gapStart st else s.routeStatus n
      | none => s.blockBoundary n re) := by
  split
  · exact Keep.branch h.gapStart h.routeStatus
  · exact h.blockBoundary

/-- The function is unfolded by its name alone: an equation of the applied terms would have the kernel run the folds of
a block. -/
theorem Keep.blockStart {n} (h : Keep r s) : Keep r (s.blockStart n) := by
  conv => arg 2; fun; fun; delta State.blockStart
  refine Keep.stopOrBoundary ?_
  have hn : Keep r { s with blk := { s.blk with n := n, next := some (n + 1) } } := h.frame
  refine Keep.when (Keep.when ?_ fun _ k => k.bridgesOut) fun _ k => k.realignNote
  exact (Keep.branch hn hn.trainFirst).phaseLatch.gpllCopy.loads.phaseStep

theorem execBlockStart_keeps {now} (h : Keep r s) : KeepOut r (execBlockStart now s) := by
  unfold execBlockStart
  extract_lets s1
  have hs1 : Keep r s1 := h.advanceTo
  refine KeepOut.next ?_
  split
  · exact Keep.branch hs1.blockStart hs1
  · exact hs1

theorem Keep.captureStreams {n} (h : Keep r s) : Keep r (s.captureStreams n).1 := by
  unfold State.captureStreams
  refine h.foldFst fun a t k => ?_
  extract_lets _ _ a1
  have ha1 : Keep r a1.1 := k.strCapture
  refine Keep.branchFst ha1 <| ha1.each fun t1 e k1 => ?_
  split
  · exact k1.each fun _ _ k2 => k2.bridgeIn
  · exact k1

theorem Keep.captureFabric {n} (h : Keep r s) : Keep r (s.captureFabric n).1 :=
  h.foldFst fun _ _ k => k.fabCapture

theorem Keep.portSamples {got n ch} (h : Keep r s) : Keep r (s.portSamples got n ch).1 := by
  unfold State.portSamples
  refine Keep.branchFst h.rxSerial ?_
  split
  · exact h
  · split
    · exact h.bridgeBlock
    · exact h

theorem Keep.hamperScrub {n} (h : Keep r s) : Keep r (s.hamperScrub n) :=
  Keep.branch h <| h.each fun _ _ k => k.scrub

theorem Keep.capture {n trail} (h : Keep r s) : Keep r (s.capture n trail) := by
  unfold State.capture
  extract_lets s1 a b _ _ _ c _ s2 _ s3 s4
  have hs1 : Keep r s1 := h.hamperBlock
  have ha : Keep r a.1 := hs1.hamperScrub.captureStreams
  have hb : Keep r b.1 := ha.captureFabric
  have hc : Keep r c.1 := hb.paired.foldFst fun _ _ k => k.portSamples.paired
  have hs2 : Keep r s2 := hc.each fun _ _ k => k.each fun _ _ k => k.putBus
  have hs3 : Keep r s3 := hs2.frame
  have hs4 : Keep r s4 := hs3.each fun _ _ k => k.putBus
  exact hs4.each fun _ _ k => k.objWrite

theorem execCaptureComplete_keeps {trail} (h : Keep r s) : KeepOut r (execCaptureComplete trail s) :=
  KeepOut.next <| Keep.branch (Keep.branch h.capture.frame.settle h) h

theorem Keep.pilotFeed {n f} (h : Keep r s) : Keep r (s.pilotFeed n f) :=
  Keep.branch h.frame h

theorem Keep.takePorts {n} (h : Keep r s) : Keep r (s.takePorts n) :=
  h.each fun _ _ k => k.frame

theorem Keep.lateNote {n late} (h : Keep r s) : Keep r (s.lateNote n late) :=
  h.count.count.evt.raiseDet

theorem Keep.lateRunStep {late} (h : Keep r s) : Keep r (s.lateRunStep late) :=
  Keep.branch h.frame.freeze <| Keep.branch h.frame.fatal h.frame

theorem Keep.sendBlock {n} (h : Keep r s) : Keep r (s.sendBlock n) :=
  h.strTxBlock.bvlTxBlock

theorem Keep.firCatch {n f} (h : Keep r s) : Keep r (s.firCatch n f) :=
  h.each fun _ _ k => Keep.branch k.firRun k

theorem Keep.deadline {n src} (h : Keep r s) : Keep r (s.deadline n src) := by
  unfold State.deadline
  extract_lets _ s1 s11 s2 s3 s4 s5
  have hs1 : Keep r s1 := h.each fun _ _ k => k.firCatch
  have hs11 : Keep r s11 := hs1.each fun _ _ k => k.firRun
  have hs2 : Keep r s2 := hs11.each fun _ _ k => k.ovrFeed
  have hs3 : Keep r s3 := Keep.gainsShow <| Keep.takePorts <| hs2.metersBlock.each fun _ _ k => k.pilotFeed
  have hs4 : Keep r s4 := Keep.outCrc <| hs3.when fun _ k => k.lateNote
  have hs5 : Keep r s5 := hs4.sendBlock.lateRunStep
  exact hs5.frame.settle

theorem Keep.deadlineFb {n late src} (h : Keep r s) : Keep r (s.deadlineFb n late src) := by
  unfold State.deadlineFb
  extract_lets s1 s2
  have hs1 : Keep r s1 := h.each fun _ _ k => Keep.branch k.ovrFeed k.frame
  have hs2 : Keep r s2 := Keep.sendBlock <| hs1.each fun _ _ k => k.pilotFeed
  exact hs2.frame

theorem execOutputDeadline_keeps {src} (h : Keep r s) : KeepOut r (execOutputDeadline src s) := by
  unfold execOutputDeadline
  extract_lets
  refine KeepOut.next <| Keep.branch h ?_
  split
  · exact h.deadlineFb
  · exact Keep.branch (Keep.branch h.deadline h) h

/-! ## Dma -/

theorem Keep.dmaReadWords {n a} (h : Keep r s) : Keep r (s.dmaReadWords n a).1 := by
  induction n generalizing s a with
  | zero => exact h
  | succ n ih => exact Keep.branchFst h <| Keep.branchFst h.busRead <| ih h.busRead

theorem Keep.dmaWriteWords {n a bs} (h : Keep r s) : Keep r (s.dmaWriteWords n a bs).1 := by
  induction n generalizing s a bs with
  | zero => exact h
  | succ n ih => exact Keep.branchFst h <| ih h.busWrite

theorem Keep.dmaRead {sram a n} (h : Keep r s) : Keep r (s.dmaRead sram a n).1 :=
  Keep.branchFst h.dmaReadWords <| Keep.branchFst h h.dramRead

theorem Keep.dmaWrite {sram a bs} (h : Keep r s) : Keep r (s.dmaWrite sram a bs).1 := by
  unfold State.dmaWrite
  exact Keep.branchFst h.dmaWriteWords <| Keep.branchFst h h.dramWrite.paired

theorem Keep.dmaCopy {j n src dst left} (h : Keep r s) : Keep r (s.dmaCopy j n src dst left).1 := by
  induction n generalizing s src dst left with
  | zero => exact h
  | succ n ih =>
    unfold State.dmaCopy
    extract_lets m a b
    have ha : Keep r a.1 := h.dmaRead
    have hb : Keep r b.1 := ha.dmaWrite
    exact Keep.branchFst h <| Keep.branchFst ha <| Keep.branchFst hb (ih hb)

theorem Keep.dmaGeneral {bs} (h : Keep r s) : Keep r (s.dmaGeneral bs).1 :=
  Keep.branchFst h <| Keep.branchFst h h.dmaCopy

theorem Keep.jobSend {slot w} (h : Keep r s) : Keep r (s.jobSend slot w) := by
  unfold State.jobSend
  split
  · exact h.emit
  · exact h.each fun _ _ k => k.bvlSend
  · exact h.strSendOn
  · exact h.entryWrite

theorem Keep.jobPart {slot w} (h : Keep r s) : Keep r (s.jobPart slot w) := by
  unfold State.jobPart
  extract_lets
  split
  · exact h.draw.emit
  · exact h.draw.each fun _ _ k => k.bvlSend
  · exact Keep.branch h.draw.strSendOn h.draw
  · exact h.draw.dramWriteParts

theorem Keep.jobRun {t} (h : Keep r s) : Keep r (s.jobRun t) :=
  h.frame.each fun _ _ k => k.jobSend

theorem Keep.jobStop {t part} (h : Keep r s) : Keep r (s.jobStop t part) := by
  unfold State.jobStop
  extract_lets _ mine _ s1
  have hs1 : Keep r s1 := h.frame
  refine Keep.branch ?_ hs1
  clear_value mine
  split
  · exact hs1
  · exact hs1.jobPart

theorem Keep.spill {l n k'} (h : Keep r s) : Keep r (s.spill l n k') :=
  Keep.branch h h.scrub.dramWriteParts

theorem Keep.dmaJobRun {t} (h : Keep r s) : Keep r (s.dmaJobRun t).1 :=
  Keep.branchFst h.dmaGeneral <| Keep.branchFst h.mirrorWrite <| Keep.branchFst h.farFetch <|
    Keep.branchFst h.spill h.jobRun

theorem execDmaJobDone_keeps {slot} (h : Keep r s) : KeepOut r (execDmaJobDone slot s) := by
  unfold execDmaJobDone
  refine KeepOut.event h fun t k => ?_
  split
  · exact k
  · extract_lets a1
    have ha1 : Keep r a1.1 := k.dmaJobRun
    refine Keep.branch k ?_
    split
    · exact k.jobStop.slotEnd
    · exact ha1.slotEnd

theorem execItemComplete_keeps {slot} (h : Keep r s) : KeepOut r (execItemComplete slot s) := by
  unfold execItemComplete
  refine KeepOut.event h fun t k => ?_
  split
  · exact k
  · split
    · exact Keep.slotEnd <| k.when fun _ k1 => k1.jobStop
    · exact Keep.branch (Keep.slotEnd <| k.when fun _ k1 => k1.jobRun) k

theorem Keep.dmaStopped {t} (h : Keep r s) : Keep r (s.dmaStopped t) :=
  Keep.branch (Keep.branch h.draw.dmaCopy h) <| Keep.branch (h.draw.each fun _ _ k => k.dramWriteParts) <|
    Keep.branch h.frame <| Keep.branch h.draw.spill h.jobStop

theorem Keep.coreZero {c t} (h : Keep r s) : Keep r (s.coreZero c t) :=
  h.each fun _ _ k => k.copyOut

theorem Keep.geoStop {n o} (h : Keep r s) : Keep r (s.geoStop n o) :=
  h.frame

theorem Keep.stopFx {t} (h : Keep r s) : Keep r (s.stopFx t) := by
  unfold State.stopFx
  extract_lets _ s1
  have hs1 : Keep r s1 := h.timeoutFx
  split
  · exact h.timeoutFx.geoStop
  · exact Keep.branch h.coreTimeout h.timeoutFx.coreZero
  · exact Keep.branch hs1.tileDone hs1
  · exact Keep.branch hs1.frame.firTask hs1
  · exact h.timeoutFx.dmaStopped
  · exact h.timeoutFx.jobStop

theorem execItemTimeout_keeps {slot} (h : Keep r s) : KeepOut r (execItemTimeout slot s) := by
  unfold execItemTimeout
  refine KeepOut.event h fun t k => ?_
  split
  · exact k
  · exact Keep.branch k k.stopFx.slotEnd

/-! ## Idle -/

theorem Keep.idle (h : Keep r s) : Keep r s.idle := by
  unfold State.idle
  extract_lets s1 s2
  have hs1 : Keep r s1 := Keep.branch h.tick.tick h.tick
  have hs2 : Keep r s2 := Keep.branch hs1.matchDue.irqSend hs1
  exact Keep.branch (Keep.branch h.secTick h) <| Keep.branch hs2.coreTicks.secPass hs2.coreTicks.secPass

end Sys2Proof.Machine
end

section
/-!
# Every command and every step
-/
namespace Sys2Proof.Machine

variable {r s : State}

/-- Every command keeps, whatever it is. -/
theorem KeepOut.exec (h : Keep r s) (c : Instr) : KeepOut r (Machine.exec c s) := by
  unfold Machine.exec
  cases c with
  | pwrGoodRise => exact execPwrGoodRise_keeps h
  | pwrGoodFall => exact execPwrGoodFall_keeps h
  | vddGntBrownOut => exact execVddGntBrownOut_keeps h
  | resetNAssert => exact execResetNAssert_keeps h
  | resetNRelease => exact execResetNRelease_keeps h
  | pfwFall => exact execPfwFall_keeps h
  | pfwRise => exact execPfwRise_keeps h
  | supplyOutOfWindow => exact execSupplyOutOfWindow_keeps h
  | supplyBackInWindow => exact execSupplyBackInWindow_keeps h
  | tempRead => exact execTempRead_keeps h
  | islandRegisterWrite => exact execIslandRegisterWrite_keeps h
  | islandWriteDone => exact execIslandWriteDone_keeps h
  | secMatch => exact execSecMatch_keeps h
  | wakeInAssert => exact execWakeInAssert_keeps h
  | almInWake => exact execAlmInWake_keeps h
  | islandColdStart => exact execIslandColdStart_keeps h
  | thermosQueueDrained => exact execThermosQueueDrained_keeps h
  | sleepTimeout => exact execSleepTimeout_keeps h
  | latchedWakeRaise => exact execLatchedWakeRaise_keeps h
  | foscReady => exact execFoscReady_keeps h
  | foscNotReady => exact execFoscNotReady_keeps h
  | pllLock => exact execPllLock_keeps h
  | pllUnlock => exact execPllUnlock_keeps h
  | xaMonitorTrip => exact execXaMonitorTrip_keeps h
  | xbMonitorTrip => exact execXbMonitorTrip_keeps h
  | rootMonitorTrip => exact execRootMonitorTrip_keeps h
  | mclkMonitorTrip => exact execMclkMonitorTrip_keeps h
  | rootRelockTimeout => exact execRootRelockTimeout_keeps h
  | appReturn => exact execAppReturn_keeps h
  | gpllReturn => exact execGpllReturn_keeps h
  | dpllReturn => exact execDpllReturn_keeps h
  | mclkReturn => exact execMclkReturn_keeps h
  | monitorArm => exact execMonitorArm_keeps h
  | muxHung => exact execMuxHung_keeps h
  | sdsReturn => exact execSdsReturn_keeps h
  | clkEnWrite => exact execClkEnWrite_keeps h
  | foscTrimCodeWrite => exact execFoscTrimCodeWrite_keeps h
  | trimWindow => exact execTrimWindow_keeps h
  | blockStart => exact execBlockStart_keeps h
  | captureComplete => exact execCaptureComplete_keeps h
  | outputDeadline => exact execOutputDeadline_keeps h
  | rndMarginRst => exact execRndMarginRst_keeps h
  | requestThermos => exact execRequestThermos_keeps h
  | requestWake => exact execRequestWake_keeps h
  | requestTrail => exact execRequestTrail_keeps h
  | requestLoad => exact execRequestLoad_keeps h
  | requestBalanced => exact execRequestBalanced_keeps h
  | requestSwift => exact execRequestSwift_keeps h
  | requestWide => exact execRequestWide_keeps h
  | requestDeep => exact execRequestDeep_keeps h
  | requestMeasure => exact execRequestMeasure_keeps h
  | requestStandby => exact execRequestStandby_keeps h
  | requestMaintain => exact execRequestMaintain_keeps h
  | requestSafeHold => exact execRequestSafeHold_keeps h
  | requestReserved => exact execRequestReserved_keeps h
  | msBoundary => exact execMsBoundary_keeps h
  | restartPrepDone => exact execRestartPrepDone_keeps h
  | geoCWrite => exact execGeoCWrite_keeps h
  | geoFreezeWrite => exact execGeoFreezeWrite_keeps h
  | geometryDone => exact execGeometryDone_keeps h
  | renderTileDone => exact execRenderTileDone_keeps h
  | rndIptDataRead => exact execRndIptDataRead_keeps h
  | firTaskDone => exact execFirTaskDone_keeps h
  | firFadeReq => exact execFirFadeReq_keeps h
  | firFadeReqAll => exact execFirFadeReqAll_keeps h
  | firDescriptorWrite => exact execFirDescriptorWrite_keeps h
  | firGdDone => exact execFirGdDone_keeps h
  | commitWordWrite => exact execCommitWordWrite_keeps h
  | meterClearWrite => exact execMeterClearWrite_keeps h
  | mixMtrClr => exact execMixMtrClr_keeps h
  | bridgeLock => exact execBridgeLock_keeps h
  | gntTslotEnWrite => exact execGntTslotEnWrite_keeps h
  | zoneBusCommit => exact execZoneBusCommit_keeps h
  | feedEntryCommit => exact execFeedEntryCommit_keeps h
  | trailSwitch => exact execTrailSwitch_keeps h
  | ovrApply => exact execOvrApply_keeps h
  | coreTaskStart => exact execCoreTaskStart_keeps h
  | coreTaskTimeout => exact execCoreTaskTimeout_keeps h
  | illegalInstruction => exact execIllegalInstruction_keeps h
  | macNop => exact execMacNop_keeps h
  | macAcc => exact execMacAcc_keeps h
  | msu => exact execMsu_keeps h
  | mpy => exact execMpy_keeps h
  | addx => exact execAddx_keeps h
  | subx => exact execSubx_keeps h
  | ldx => exact execLdx_keeps h
  | aclr => exact execAclr_keeps h
  | extract => exact execExtract_keeps h
  | aluNop => exact execAluNop_keeps h
  | addW => exact execAddW_keeps h
  | subW => exact execSubW_keeps h
  | addi => exact execAddi_keeps h
  | andW => exact execAndW_keeps h
  | orW => exact execOrW_keeps h
  | xorW => exact execXorW_keeps h
  | shl => exact execShl_keeps h
  | shra => exact execShra_keeps h
  | shrl => exact execShrl_keeps h
  | minW => exact execMinW_keeps h
  | maxW => exact execMaxW_keeps h
  | absW => exact execAbsW_keeps h
  | negW => exact execNegW_keeps h
  | cmpW => exact execCmpW_keeps h
  | movW => exact execMovW_keeps h
  | loopb => exact execLoopb_keeps h
  | loopr => exact execLoopr_keeps h
  | br => exact execBr_keeps h
  | brz => exact execBrz_keeps h
  | brnz => exact execBrnz_keeps h
  | brn => exact execBrn_keeps h
  | nodeMark => exact execNodeMark_keeps h
  | endTask => exact execEndTask_keeps h
  | amNop => exact execAmNop_keeps h
  | ldw => exact execLdw_keeps h
  | ldh => exact execLdh_keeps h
  | stw => exact execStw_keeps h
  | sth => exact execSth_keeps h
  | mvr => exact execMvr_keeps h
  | lim => exact execLim_keeps h
  | schSubmit => exact execSchSubmit_keeps h
  | schCancel => exact execSchCancel_keeps h
  | dispatchCycle => exact execDispatchCycle_keeps h
  | bankInstantiateDeferred => exact execBankInstantiateDeferred_keeps h
  | itemComplete => exact execItemComplete_keeps h
  | itemTimeout => exact execItemTimeout_keeps h
  | dmaJobDone => exact execDmaJobDone_keeps h
  | cfgLoadGo => exact execCfgLoadGo_keeps h
  | loadSuccess => exact execLoadSuccess_keeps h
  | loadFail => exact execLoadFail_keeps h
  | coefPendSet => exact execCoefPendSet_keeps h
  | cfgSwapArm => exact execCfgSwapArm_keeps h
  | cfgSwapForce => exact execCfgSwapForce_keeps h
  | periodicCheckStart => exact execPeriodicCheckStart_keeps h
  | periodicCheckDone => exact execPeriodicCheckDone_keeps h
  | cfgFuseProgram => exact execCfgFuseProgram_keeps h
  | cfgFuseRevoke => exact execCfgFuseRevoke_keeps h
  | fuseDone => exact execFuseDone_keeps h
  | startCmpLockTimeout => exact execStartCmpLockTimeout_keeps h
  | alert => exact execAlert_keeps h
  | evac => exact execEvac_keeps h
  | gntReset => exact execGntReset_keeps h
  | page => exact execPage_keeps h
  | pageEnd => exact execPageEnd_keeps h
  | testStart => exact execTestStart_keeps h
  | testEnd => exact execTestEnd_keeps h
  | faultAck => exact execFaultAck_keeps h
  | imgActivate => exact execImgActivate_keeps h
  | testTimeout => exact execTestTimeout_keeps h
  | contactEdge => exact execContactEdge_keeps h
  | consoleLine => exact execConsoleLine_keeps h
  | consoleStatus => exact execConsoleStatus_keeps h
  | keyProgram => exact execKeyProgram_keeps h
  | keyRevoke => exact execKeyRevoke_keeps h
  | recErase => exact execRecErase_keeps h
  | recWindow => exact execRecWindow_keeps h
  | claim => exact execClaim_keeps h
  | sns => exact execSns_keeps h
  | saiMs => exact execSaiMs_keeps h
  | watchdogExpiry => exact execWatchdogExpiry_keeps h
  | gntWdtKick => exact execGntWdtKick_keeps h
  | lockstepMismatch => exact execLockstepMismatch_keeps h
  | gntMemoryError => exact execGntMemoryError_keeps h
  | domainResetRelease => exact execDomainResetRelease_keeps h
  | trailLive => exact execTrailLive_keeps h
  | unusableClear => exact execUnusableClear_keeps h
  | playStart => exact execPlayStart_keeps h
  | playStop => exact execPlayStop_keeps h
  | playEnd => exact execPlayEnd_keeps h
  | gapEnd => exact execGapEnd_keeps h
  | msgCheckPass => exact execMsgCheckPass_keeps h
  | toneRun => exact execToneRun_keeps h
  | toneStopRequest => exact execToneStopRequest_keeps h
  | toneStopped => exact execToneStopped_keeps h
  | toneCadence => exact execToneCadence_keeps h
  | extCopyStart => exact execExtCopyStart_keeps h
  | extCopyDone => exact execExtCopyDone_keeps h
  | pilotWindowEnd => exact execPilotWindowEnd_keeps h
  | heartbeatSend => exact execHeartbeatSend_keeps h
  | heartbeatReceive => exact execHeartbeatReceive_keeps h
  | pathLost => exact execPathLost_keeps h
  | seatBTakeover => exact execSeatBTakeover_keeps h
  | controlFrameReceive => exact execControlFrameReceive_keeps h
  | audioFrameReceive => exact execAudioFrameReceive_keeps h
  | bulkFrameReceive => exact execBulkFrameReceive_keeps h
  | yieldReceive => exact execYieldReceive_keeps h
  | standbyRecordTimeout => exact execStandbyRecordTimeout_keeps h
  | twnCmdYield => exact execTwnCmdYield_keeps h
  | twnCmdResync => exact execTwnCmdResync_keeps h
  | yieldTimeout => exact execYieldTimeout_keeps h
  | saiFrame => exact execSaiFrame_keeps h
  | nonaudioRelease => exact execNonaudioRelease_keeps h
  | saiClockStop => exact execSaiClockStop_keeps h
  | saiClockRecover => exact execSaiClockRecover_keeps h
  | aes3Frame => exact execAes3Frame_keeps h
  | slotZeroCrossSwitch => exact execSlotZeroCrossSwitch_keeps h
  | saiMaskWrite => exact execSaiMaskWrite_keeps h
  | snsSyncPin => exact execSnsSyncPin_keeps h
  | snsCtlSync => exact execSnsCtlSync_keeps h
  | snsGrpCtlSync => exact execSnsGrpCtlSync_keeps h
  | groupReset => exact execGroupReset_keeps h
  | channelStuck => exact execChannelStuck_keeps h
  | ringEntryDone => exact execRingEntryDone_keeps h
  | snsPilotWindow => exact execSnsPilotWindow_keeps h
  | snsCoefDataRead => exact execSnsCoefDataRead_keeps h
  | measStart => exact execMeasStart_keeps h
  | measStatus => exact execMeasStatus_keeps h
  | measCaptureDone => exact execMeasCaptureDone_keeps h
  | measResponsesDone => exact execMeasResponsesDone_keeps h
  | measSynthDone => exact execMeasSynthDone_keeps h
  | macFrameReceive => exact execMacFrameReceive_keeps h
  | linkUp => exact execLinkUp_keeps h
  | linkDown => exact execLinkDown_keeps h
  | macRingTailWrite => exact execMacRingTailWrite_keeps h
  | txDescriptor => exact execTxDescriptor_keeps h
  | macSnap => exact execMacSnap_keeps h
  | macSnapClr => exact execMacSnapClr_keeps h
  | tsqRead => exact execTsqRead_keeps h
  | streamPacketSend => exact execStreamPacketSend_keeps h
  | epochTimeout => exact execEpochTimeout_keeps h
  | fcsWindow => exact execFcsWindow_keeps h
  | timSet => exact execTimSet_keeps h
  | timIncWrite => exact execTimIncWrite_keeps h
  | rootFracWrite => exact execRootFracWrite_keeps h
  | timNsRead => exact execTimNsRead_keeps h
  | timWrap => exact execTimWrap_keeps h
  | timCmpMatch => exact execTimCmpMatch_keeps h
  | cmpArm => exact execCmpArm_keeps h
  | pulseEnd => exact execPulseEnd_keeps h
  | servoInterval => exact execServoInterval_keeps h
  | syncTimeout => exact execSyncTimeout_keeps h
  | ptpStart => exact execPtpStart_keeps h
  | ptpStop => exact execPtpStop_keeps h
  | ptpStatus => exact execPtpStatus_keeps h
  | flitReceive => exact execFlitReceive_keeps h
  | retryTimeout => exact execRetryTimeout_keeps h
  | portSignalDetect => exact execPortSignalDetect_keeps h
  | blockLockHeld => exact execBlockLockHeld_keeps h
  | portTrainTimeout => exact execPortTrainTimeout_keeps h
  | lockLost => exact execLockLost_keeps h
  | beaconSend => exact execBeaconSend_keeps h
  | beaconReceive => exact execBeaconReceive_keeps h
  | beaconTimeout => exact execBeaconTimeout_keeps h
  | latencyMeasure => exact execLatencyMeasure_keeps h
  | nodeDiscovery => exact execNodeDiscovery_keeps h
  | conflictBackoff => exact execConflictBackoff_keeps h
  | conflictClear => exact execConflictClear_keeps h
  | objectFlit => exact execObjectFlit_keeps h
  | objectLate => exact execObjectLate_keeps h
  | objectPublish => exact execObjectPublish_keeps h
  | channelFlit => exact execChannelFlit_keeps h
  | probe => exact execProbe_keeps h
  | rraRead => exact execRraRead_keeps h
  | rraWrite => exact execRraWrite_keeps h
  | rraRequest => exact execRraRequest_keeps h
  | rraResponse => exact execRraResponse_keeps h
  | rraTimeout => exact execRraTimeout_keeps h
  | portTsqRead => exact execPortTsqRead_keeps h
  | intInjSramCe => exact execIntInjSramCe_keeps h
  | intInjSramUe => exact execIntInjSramUe_keeps h
  | intInjDramCe => exact execIntInjDramCe_keeps h
  | intInjDramUe => exact execIntInjDramUe_keeps h
  | intInjXaLoss => exact execIntInjXaLoss_keeps h
  | intInjXbLoss => exact execIntInjXbLoss_keeps h
  | intInjRootUnlock => exact execIntInjRootUnlock_keeps h
  | intInjFoscRange => exact execIntInjFoscRange_keeps h
  | intInjSaiClkLoss => exact execIntInjSaiClkLoss_keeps h
  | intInjSaiFrame => exact execIntInjSaiFrame_keeps h
  | intInjNonAudio => exact execIntInjNonAudio_keeps h
  | intInjRndLate => exact execIntInjRndLate_keeps h
  | intInjCoreGov => exact execIntInjCoreGov_keeps h
  | intInjFirGov => exact execIntInjFirGov_keeps h
  | intInjCircAddr => exact execIntInjCircAddr_keeps h
  | intInjSchQfull => exact execIntInjSchQfull_keeps h
  | intInjTaskTimeout => exact execIntInjTaskTimeout_keeps h
  | intInjMacFcs => exact execIntInjMacFcs_keeps h
  | intInjTsOvf => exact execIntInjTsOvf_keeps h
  | intInjBvlRetry => exact execIntInjBvlRetry_keeps h
  | intInjBvlDown => exact execIntInjBvlDown_keeps h
  | intInjTwinHb => exact execIntInjTwinHb_keeps h
  | intInjTwinRec => exact execIntInjTwinRec_keeps h
  | intInjImageCheck => exact execIntInjImageCheck_keeps h
  | intInjGntWdt => exact execIntInjGntWdt_keeps h
  | intInjGntLockstep => exact execIntInjGntLockstep_keeps h
  | intInjMsgCheck => exact execIntInjMsgCheck_keeps h
  | intInjRecWrite => exact execIntInjRecWrite_keeps h
  | intInjPilot => exact execIntInjPilot_keeps h
  | intInjLineZ => exact execIntInjLineZ_keeps h
  | intInjOverTemp => exact execIntInjOverTemp_keeps h
  | intInjSupply => exact execIntInjSupply_keeps h
  | intInjRefreshDebt => exact execIntInjRefreshDebt_keeps h
  | intInjFarClamp => exact execIntInjFarClamp_keeps h
  | intTmCtlWrite => exact execIntTmCtlWrite_keeps h
  | intDbgLock => exact execIntDbgLock_keeps h
  | dbgFuseDone => exact execDbgFuseDone_keeps h
  | recSubmit => exact execRecSubmit_keeps h
  | recWindowExpiry => exact execRecWindowExpiry_keeps h
  | recProgramDone => exact execRecProgramDone_keeps h
  | recSearchDone => exact execRecSearchDone_keeps h
  | recEraseDone => exact execRecEraseDone_keeps h
  | recFetch => exact execRecFetch_keeps h
  | recFetchDone => exact execRecFetchDone_keeps h
  | recTokenRefill => exact execRecTokenRefill_keeps h
  | refreshDue => exact execRefreshDue_keeps h
  | mr4Poll => exact execMr4Poll_keeps h
  | selfRefreshIdle => exact execSelfRefreshIdle_keeps h
  | dramInitDone => exact execDramInitDone_keeps h
  | drcRetrain => exact execDrcRetrain_keeps h
  | drcTrnGo => exact execDrcTrnGo_keeps h
  | testPointDone => exact execTestPointDone_keeps h
  | trainingFail => exact execTrainingFail_keeps h
  | pcieLinkChange => exact execPcieLinkChange_keeps h
  | perstNFall => exact execPerstNFall_keeps h
  | registerWrite => exact execRegisterWrite_keeps h
  | sramWindowWrite => exact execSramWindowWrite_keeps h
  | rcRead => exact execRcRead_keeps h
  | hstIrqEoi => exact execHstIrqEoi_keeps h
  | hstIrqLatchWrite => exact execHstIrqLatchWrite_keeps h
  | hstMbxDb => exact execHstMbxDb_keeps h
  | hstMbxAck => exact execHstMbxAck_keeps h
  | mailboxResponse => exact execMailboxResponse_keeps h
  | serviceFirmwareRestart => exact execServiceFirmwareRestart_keeps h
  | announce => exact execAnnounce_keeps h
  | withdraw => exact execWithdraw_keeps h
  | sapList => exact execSapList_keeps h
  | sapAnnounceTimer => exact execSapAnnounceTimer_keeps h
  | topology => exact execTopology_keeps h
  | twinStatus => exact execTwinStatus_keeps h
  | version => exact execVersion_keeps h
  | autostart => exact execAutostart_keeps h
  | qspiRead => exact execQspiRead_keeps h
  | qspiQread => exact execQspiQread_keeps h
  | qspiWrite => exact execQspiWrite_keeps h
  | qspiQwrite => exact execQspiQwrite_keeps h
  | qspiStatus => exact execQspiStatus_keeps h
  | hstOspiCmd => exact execHstOspiCmd_keeps h
  | ospiDone => exact execOspiDone_keeps h
  | i2cWrite => exact execI2cWrite_keeps h
  | i2cRead => exact execI2cRead_keeps h
  | i2cStart => exact execI2cStart_keeps h
  | i2cStop => exact execI2cStop_keeps h
  | i2cTimeout => exact execI2cTimeout_keeps h
  | hstI2cRxRead => exact execHstI2cRxRead_keeps h
  | gpioEdge => exact execGpioEdge_keeps h
  | twinLaneLoss => exact execTwinLaneLoss_keeps h
  | twinLaneReturn => exact execTwinLaneReturn_keeps h
  | selfRefreshHoldEnd => exact execSelfRefreshHoldEnd_keeps h
  | trainingComplete => exact execTrainingComplete_keeps h
  | portNewAttempt => exact execPortNewAttempt_keeps h
  | stuckInputChange => exact execStuckInputChange_keeps h

/-- The invariant does not read the queue. -/
theorem State.inv_pop (s : State) : s.pop.Inv ↔ s.Inv := Iff.rfl

/-- Settles O4: a step is one command or one clock period of the idle device, and each of them keeps. -/
theorem everyStepKeepsInv : Obligations.EveryStepKeepsInv := by
  unfold Obligations.EveryStepKeepsInv
  intro s t hs e
  unfold step at e
  split at e
  · exact ((KeepOut.exec (Keep.refl s.pop) _).out t e).inv (s.inv_pop.2 hs)
  · exact (KeepOut.next (Keep.refl s).idle |>.out t e).inv hs

end Sys2Proof.Machine
end

section
/-!
# The render registers

What a record changes (`OnlyRegsRec`), and that what a deadline is made of leaves the registers of the render lanes' page
alone (`KeepRnd`): the filters, the override stage, the meters, the dispatcher, the ports and the DRAM write registers of
their own blocks, so that a late block's count, which lies in that page, stands to the end of the deadline.
-/
namespace Sys2Proof.Machine

variable {r s t : State} {l : List Nat}

/-- What every step of a repeated operation keeps. -/
theorem State.each_induct {α : Type} {P : State → Prop} {f : State → α → State} (hf : ∀ s a, P s → P (f s a)) (l : List α)
    (h : P s) : P (s.each l f) := by
  unfold State.each
  induction l generalizing s with
  | nil => exact h
  | cons a l ih => exact ih (hf s a h)

/-! ## What a record changes (R456 to R461) -/

theorem OnlyRegsRec.refl (l : List Nat) (s : State) : OnlyRegsRec l s s := ⟨rfl, fun _ _ _ => rfl⟩

theorem OnlyRegsRec.setReg {a v} (h : OnlyRegsRec l r s) (ha : a ∈ l ∨ recReg a = true := by exact Or.inr rfl) :
    OnlyRegsRec l r (s.setReg a v) := by
  obtain ⟨heq, hreg⟩ := h
  refine ⟨by rw [heq]; rfl, fun b hb hrec => ?_⟩
  have hne : b ≠ a := by
    rintro rfl
    exact ha.elim hb fun h => Bool.false_ne_true (hrec.symm.trans h)
  rw [s.reg_setReg_ne v hne, hreg b hb hrec]

theorem OnlyRegsRec.setLog (h : OnlyRegsRec l r s) {x : RecSt} : OnlyRegsRec l r { s with log := x } := by
  obtain ⟨heq, hreg⟩ := h
  exact ⟨by rw [heq], hreg⟩

theorem OnlyRegsRec.branch {c : Prop} [Decidable c] (h : OnlyRegsRec l r s) (k : OnlyRegsRec l r t) :
    OnlyRegsRec l r (if c then s else t) := by
  split
  · exact h
  · exact k

theorem OnlyRegsRec.evt {a i} (h : OnlyRegsRec l r s) (ha : a ∈ l ∨ recReg a = true := by exact Or.inr rfl) :
    OnlyRegsRec l r (s.evt a i) := h.setReg ha

theorem OnlyRegsRec.count {a k} (h : OnlyRegsRec l r s) (ha : a ∈ l ∨ recReg a = true := by exact Or.inr rfl) :
    OnlyRegsRec l r (s.count a k) := h.setReg ha

theorem OnlyRegsRec.recLose (h : OnlyRegsRec l r s) : OnlyRegsRec l r s.recLose :=
  h.count.evt

theorem OnlyRegsRec.recFull (h : OnlyRegsRec l r s) : OnlyRegsRec l r s.recFull := by
  unfold State.recFull
  extract_lets _ s1
  have hs1 : OnlyRegsRec l r s1 := (OnlyRegsRec.setReg h.setReg).evt.count
  exact hs1.evt.setLog.branch h

theorem OnlyRegsRec.recCommit {e} (h : OnlyRegsRec l r s) : OnlyRegsRec l r (s.recCommit e) := by
  unfold State.recCommit
  extract_lets _ s1
  have hs1 : OnlyRegsRec l r s1 := h.setReg
  exact (hs1.setLog.recFull.branch hs1.setLog.recLose).branch hs1.recLose

theorem OnlyRegsRec.recCommitOpen (h : OnlyRegsRec l r s) : OnlyRegsRec l r s.recCommitOpen := by
  unfold State.recCommitOpen
  split
  · exact h
  · exact h.setLog.recCommit

/-- A record moves the recorder alone. -/
theorem OnlyRegsRec.note {src code data} (h : OnlyRegsRec l r s) : OnlyRegsRec l r (s.note src code data) := by
  unfold State.note State.recEvent
  extract_lets _ _ _ openNew
  have hopen : ∀ {x}, OnlyRegsRec l r x → OnlyRegsRec l r (openNew x) := fun k => k.recCommit.branch k.setLog
  refine h.recLose.branch ?_
  split
  · exact hopen h
  · exact (h.setLog.recCommit.branch h.setLog).branch (hopen h.recCommitOpen)

theorem OnlyRegsRec.evtFirst {a i src code data} (h : OnlyRegsRec l r s) (ha : a ∈ l ∨ recReg a = true) :
    OnlyRegsRec l r (s.evtFirst a i src code data) := h.branch (h.evt ha).note

theorem OnlyRegsRec.sameMemories (h : OnlyRegsRec l s t) : SameMemories s t := by
  obtain ⟨heq, -⟩ := h
  rw [heq]
  exact ⟨rfl, rfl, rfl, rfl⟩

theorem SameMemories.refl (s : State) : SameMemories s s := ⟨rfl, rfl, rfl, rfl⟩

theorem SameMemories.trans (h : SameMemories r s) (k : SameMemories s t) : SameMemories r t := by
  obtain ⟨h1, h2, h3, h4⟩ := h
  obtain ⟨k1, k2, k3, k4⟩ := k
  exact ⟨k1.trans h1, k2.trans h2, k3.trans h3, k4.trans h4⟩

/-! ## The render lanes' page stays: rules -/

/-- The registers of the render lanes' page (RND). -/
abbrev rndPage (a : Nat) : Prop := 0x40F000 ≤ a ∧ a < 0x410000

/-- From `r` to `s` every register of the render lanes' page holds what it held. -/
structure KeepRnd (r s : State) : Prop where
  reg : ∀ a, rndPage a → s.reg a = r.reg a

theorem recReg_of_rndPage {a : Nat} (h : rndPage a) : recReg a = false := by
  simp only [recReg, List.contains_eq_mem, List.mem_cons, List.not_mem_nil, Reg.REC_STATUS, Reg.REC_EVT, Reg.REC_SEQ,
    Reg.REC_LOST, or_false, decide_eq_false_iff_not]
  omega

theorem KeepRnd.refl (s : State) : KeepRnd s s := ⟨fun _ _ => rfl⟩

theorem KeepRnd.trans (h : KeepRnd r s) (k : KeepRnd s t) : KeepRnd r t :=
  ⟨fun a ha => (k.reg a ha).trans (h.reg a ha)⟩

/-- RUNNING lies in the page. -/
theorem KeepRnd.running (h : KeepRnd r s) : s.running = r.running :=
  congrArg (bitOf · 0) (h.reg Reg.RND_BLK_STATUS (by decide))

/-- A step that leaves the register file alone. -/
theorem KeepRnd.same (h : KeepRnd r s) (e : t.regs = s.regs) : KeepRnd r t :=
  h.trans ⟨fun a _ => congrArg (Store.get regReset · a) e⟩

theorem KeepRnd.frame (h : KeepRnd r s)
    {pending shadowRegs sram dram boot gflash out freeCtr log tim mode pwr clk blk fuse strap sramBad cfg trail gnt geo
      rnd fir mix cores sch drc sai sns meas mac bvl twin host} :
    KeepRnd r { s with
      pending, shadowRegs, sram, dram, boot, gflash, out, freeCtr, log, tim, mode, pwr, clk, blk, fuse, strap, sramBad
      cfg, trail, gnt, geo, rnd, fir, mix, cores, sch, drc, sai, sns, meas, mac, bvl, twin, host } := h.same rfl

theorem KeepRnd.onlyRegsRec (h : KeepRnd r s) (k : OnlyRegsRec l s t) (hl : ∀ a ∈ l, ¬ rndPage a) : KeepRnd r t :=
  h.trans ⟨fun a ha => k.2 a (fun hm => hl a hm ha) (recReg_of_rndPage ha)⟩

theorem KeepRnd.branch {c : Prop} [Decidable c] (h : KeepRnd r s) (k : KeepRnd r t) : KeepRnd r (if c then s else t) := by
  split
  · exact h
  · exact k

theorem KeepRnd.branchFst {β : Type} {p q : State × β} {c : Prop} [Decidable c] (h : KeepRnd r p.1) (k : KeepRnd r q.1) :
    KeepRnd r (if c then p else q).1 := by
  split
  · exact h
  · exact k

theorem KeepRnd.when {c : Bool} {f : State → State} (h : KeepRnd r s) (k : ∀ x, KeepRnd r x → KeepRnd r (f x)) :
    KeepRnd r (s.when c f) := (k s h).branch h

theorem KeepRnd.each {α : Type} {l : List α} {f : State → α → State} (h : KeepRnd r s)
    (k : ∀ s a, KeepRnd r s → KeepRnd r (f s a)) : KeepRnd r (s.each l f) := State.each_induct k l h

theorem KeepRnd.foldFst {α β : Type} {f : State × β → α → State × β} {l : List α} {p : State × β} (h : KeepRnd r p.1)
    (k : ∀ p a, KeepRnd r p.1 → KeepRnd r (f p a).1) : KeepRnd r (l.foldl f p).1 := by
  induction l generalizing p with
  | nil => exact h
  | cons a l ih => exact ih (k p a h)

/-! ## Registers, records and detectors -/

theorem KeepRnd.setReg {a v} (h : KeepRnd r s) (ha : ¬ rndPage a := by decide) : KeepRnd r (s.setReg a v) :=
  h.trans ⟨fun _ hb => s.reg_setReg_ne v fun e => ha (e ▸ hb)⟩

theorem KeepRnd.setFld {a lo n v} (h : KeepRnd r s) (ha : ¬ rndPage a := by decide) : KeepRnd r (s.setFld a lo n v) :=
  h.setReg ha

theorem KeepRnd.setBit {a i b} (h : KeepRnd r s) (ha : ¬ rndPage a := by decide) : KeepRnd r (s.setBit a i b) :=
  h.setReg ha

theorem KeepRnd.evt {a i} (h : KeepRnd r s) (ha : ¬ rndPage a := by decide) : KeepRnd r (s.evt a i) :=
  h.setReg ha

theorem KeepRnd.count {a k} (h : KeepRnd r s) (ha : ¬ rndPage a := by decide) : KeepRnd r (s.count a k) :=
  h.setReg ha

theorem KeepRnd.note {src code data} (h : KeepRnd r s) : KeepRnd r (s.note src code data) :=
  h.onlyRegsRec (OnlyRegsRec.refl [] s).note (by simp)

theorem KeepRnd.evtFirst {a i src code data} (h : KeepRnd r s) (ha : ¬ rndPage a := by decide) :
    KeepRnd r (s.evtFirst a i src code data) := h.branch (h.evt ha).note

theorem KeepRnd.detBit {d} (h : KeepRnd r s) : KeepRnd r (s.detBit d) :=
  h.evt.branch h.evt

theorem KeepRnd.raiseDet {d src data} (h : KeepRnd r s) : KeepRnd r (s.raiseDet d src data) :=
  h.detBit.note

/-! ## Freezes and faults (R57, R306) -/

theorem KeepRnd.freeze {cause} (h : KeepRnd r s) : KeepRnd r (s.freeze cause) := by
  unfold State.freeze
  split
  rename_i s1 _ _ e
  have hs1 : KeepRnd r s1 := by
    split at e <;> cases e
    · exact h
    · exact h.frame
  extract_lets _ s2
  have hs2 : KeepRnd r s2 := hs1.frame.setBit.evt
  exact hs2.frame.note

theorem KeepRnd.fatal {det} (h : KeepRnd r s) : KeepRnd r (s.fatal det) := by
  unfold State.fatal
  refine h.branch (h.freeze.branch ?_)
  split
  · exact h
  · exact h.frame

/-! ## On-chip SRAM -/

theorem KeepRnd.raiseSram {b kind} (h : KeepRnd r s) : KeepRnd r (s.raiseSram b kind) := by
  unfold State.raiseSram
  extract_lets _ s1 _ s2
  have hs1 : KeepRnd r s1 := h.frame
  have hs2 : KeepRnd r s2 := hs1.setReg
  exact hs2.detBit.count.evtFirst.branch hs2.detBit.count.evt.note

theorem KeepRnd.scrub1 {b} (h : KeepRnd r s) : KeepRnd r (s.scrub1 b) :=
  h.raiseSram.branch (KeepRnd.raiseSram h.frame)

theorem KeepRnd.scrub {a n} (h : KeepRnd r s) : KeepRnd r (s.scrub a n) :=
  h.branch (h.each fun _ _ k => k.scrub1)

theorem KeepRnd.arraySweep {c} (h : KeepRnd r s) : KeepRnd r (s.arraySweep c) :=
  h.branch h.scrub.frame

theorem KeepRnd.corruptIfArmed {c w} (h : KeepRnd r s) : KeepRnd r (s.corruptIfArmed c w) := by
  unfold State.corruptIfArmed
  split
  · exact h
  · exact h.frame.setBit

theorem KeepRnd.putArray {a bs} (h : KeepRnd r s) : KeepRnd r (s.putArray a bs) := by
  unfold State.putArray
  extract_lets s1
  have hs1 : KeepRnd r s1 := h.frame
  split
  · exact hs1
  · extract_lets _ _ s2
    have hs2 : KeepRnd r s2 := hs1.branch hs1.frame
    exact hs2.corruptIfArmed.branch hs2

theorem KeepRnd.putWord {a v} (h : KeepRnd r s) : KeepRnd r (s.putWord a v) :=
  h.putArray

/-! ## DRAM -/

theorem KeepRnd.raiseDram {unit kind rt} (h : KeepRnd r s) : KeepRnd r (s.raiseDram unit kind rt) := by
  unfold State.raiseDram
  extract_lets _ _ s1 s2
  have hs1 : KeepRnd r s1 := h.frame
  have hs2 : KeepRnd r s2 := hs1.detBit.count.setReg.evt.note
  exact hs1.detBit.count.evtFirst.branch (hs2.when fun _ k => k.fatal)

theorem KeepRnd.dropUnit {u} (h : KeepRnd r s) : KeepRnd r (s.dropUnit u) :=
  h.frame

theorem KeepRnd.dramDenied {w a} (h : KeepRnd r s) (e : s.dramDenied w a = some t) : KeepRnd r t := by
  unfold State.dramDenied at e
  split at e
  · cases e
    exact h.evt
  · split at e
    · split at e <;> cases e
      exact h.count.evt
    · cases e

theorem KeepRnd.corruptUnit {u} (h : KeepRnd r s) : KeepRnd r (s.corruptUnit u) := by
  unfold State.corruptUnit
  extract_lets go
  have hgo : ∀ {x} y z, KeepRnd r x → KeepRnd r (go x y z) := fun _ _ k => k.frame.setBit.branch k
  exact (hgo _ _ (hgo _ _ h)).branch h

theorem KeepRnd.dramWrite {w a bs} (h : KeepRnd r s) : KeepRnd r (s.dramWrite w a bs) := by
  unfold State.dramWrite
  extract_lets _ s1 _ _ s2 s3 s4
  have hs1 : KeepRnd r s1 := h.arraySweep
  have hs2 : KeepRnd r s2 := hs1.frame.branch hs1
  have hs3 : KeepRnd r s3 := hs2.each fun _ _ k =>
    k.dropUnit.branch ((KeepRnd.raiseDram k.frame).branch k.dropUnit.raiseDram)
  have hs4 : KeepRnd r s4 := hs3.frame
  refine hs1.branch (hs1.evt.branch (hs1.branch (hs1.evt.branch ?_)))
  split
  · rename_i e
    exact hs1.dramDenied e
  · exact (hs4.corruptUnit.branch hs4).branch hs4

theorem KeepRnd.dramWriteParts {w a bs} (h : KeepRnd r s) : KeepRnd r (s.dramWriteParts w a bs) :=
  h.each fun _ _ k => k.dramWrite

/-! ## The FIR stage, Brim and the override stage (R130 to R138, R159, R231) -/

theorem not_rndPage_FIR_FST (f : Nat) : ¬ rndPage (Reg.FIR_FST f) := by
  unfold Reg.FIR_FST
  omega

theorem not_rndPage_FIR_GOV (i : Nat) : ¬ rndPage (Reg.FIR_GOV i) := by
  unfold Reg.FIR_GOV
  omega

theorem KeepRnd.mixEvt {bit kind ix blk} (h : KeepRnd r s) : KeepRnd r (s.mixEvt bit kind ix blk) :=
  h.evtFirst

theorem KeepRnd.brimFeed {f n x} (h : KeepRnd r s) : KeepRnd r (s.brimFeed f n x) := by
  unfold State.brimFeed
  extract_lets
  split
  extract_lets _ _ s1 s2
  have hs1 : KeepRnd r s1 := h.frame
  have hs2 : KeepRnd r s2 := hs1.putWord
  exact hs2.when fun _ k => k.count.mixEvt

theorem KeepRnd.firStatus (h : KeepRnd r s) : KeepRnd r s.firStatus :=
  h.setFld.setFld

theorem KeepRnd.fadeEndAt {f n} (h : KeepRnd r s) : KeepRnd r (s.fadeEndAt f n) := by
  unfold State.fadeEndAt
  split
  · exact h
  · extract_lets _ s1 s2
    have hs1 : KeepRnd r s1 := h.frame
    have hs2 : KeepRnd r s2 := (hs1.setBit (not_rndPage_FIR_FST f)).firStatus
    exact hs1.branch (hs2.branch hs2.count.evt)

theorem KeepRnd.firFinish {f n parts} (h : KeepRnd r s) : KeepRnd r (s.firFinish f n parts) := by
  unfold State.firFinish
  extract_lets
  split
  extract_lets _ _ s1
  have hs1 : KeepRnd r s1 := by
    refine h.when fun x k => ?_
    extract_lets _ _ _ s2
    have hs2 : KeepRnd r s2 := (k.evt (not_rndPage_FIR_GOV _)).count.evt
    exact hs2.when fun _ k => k.raiseDet
  split
  extract_lets s2 s3 s4 _ _ s5
  have hs2 : KeepRnd r s2 := hs1.when fun _ k => k.count.evtFirst
  have hs3 : KeepRnd r s3 := hs2.each fun _ _ k => k.putArray
  have hs4 : KeepRnd r s4 := hs3.fadeEndAt
  have hs5 : KeepRnd r s5 := hs4.frame
  exact hs5.brimFeed

theorem KeepRnd.firRun {f n} (h : KeepRnd r s) : KeepRnd r (s.firRun f n) :=
  h.branch (KeepRnd.firFinish h.frame)

theorem KeepRnd.firCatch {n f} (h : KeepRnd r s) : KeepRnd r (s.firCatch n f) :=
  h.each fun _ _ k => k.firRun.branch k

theorem KeepRnd.ovrFeed {f n src x ramp late} (h : KeepRnd r s) : KeepRnd r (s.ovrFeed f n src x ramp late).1 :=
  h.same rfl

/-! ## Meters, gain slots and the port mapper (R155, R162, R167) -/

theorem KeepRnd.gainsShow {n} (h : KeepRnd r s) : KeepRnd r (s.gainsShow n) :=
  KeepRnd.frame <| h.each fun _ _ k => k.putWord

theorem KeepRnd.slotScrub {a n} (h : KeepRnd r s) : KeepRnd r (s.slotScrub a n) :=
  h.branch <| h.scrub.each fun _ _ k => (KeepRnd.putArray k).frame

theorem KeepRnd.meterUpdate {m n l} (h : KeepRnd r s) : KeepRnd r (s.meterUpdate m n l) :=
  h.putArray.frame

theorem KeepRnd.meterScrub {m} (h : KeepRnd r s) : KeepRnd r (s.meterScrub m) :=
  h.branch <| h.slotScrub.when fun _ k => k.frame

theorem KeepRnd.metersBlock {n} (h : KeepRnd r s) : KeepRnd r (s.metersBlock n) := by
  refine h.each fun x m k => ?_
  extract_lets x1
  have hx1 : KeepRnd r x1 := k.meterScrub
  refine KeepRnd.branch ?_ hx1
  split
  · exact hx1.meterUpdate
  · exact hx1

theorem KeepRnd.pilotFeed {n f} (h : KeepRnd r s) : KeepRnd r (s.pilotFeed n f) :=
  h.frame.branch h

theorem KeepRnd.takePorts {n} (h : KeepRnd r s) : KeepRnd r (s.takePorts n) :=
  h.each fun _ _ k => k.frame

/-! ## What leaves the port mapper (R379, R427) -/

theorem KeepRnd.strTxBlock {n} (h : KeepRnd r s) : KeepRnd r (s.strTxBlock n) :=
  h.each fun _ _ k => k.frame

theorem KeepRnd.sendOne {p} (h : KeepRnd r s) : KeepRnd r (s.sendOne p) := by
  unfold State.sendOne
  extract_lets
  refine h.branch ?_
  split
  · exact h
  · exact h.frame

theorem KeepRnd.bvlQueue {p f} (h : KeepRnd r s) : KeepRnd r (s.bvlQueue p f) :=
  KeepRnd.each h.frame fun _ _ k => k.sendOne

theorem KeepRnd.bvlSend {f} (h : KeepRnd r s) : KeepRnd r (s.bvlSend f) := by
  unfold State.bvlSend
  refine h.branch (KeepRnd.branch (h.each fun _ _ k => k.bvlQueue) ?_)
  split
  · exact h.bvlQueue
  · exact h

theorem KeepRnd.flitJob {code blk fs} (h : KeepRnd r s) : KeepRnd r (s.flitJob code blk fs) :=
  h.branch <| KeepRnd.branch h.frame <| h.each fun _ _ k => k.bvlSend

theorem KeepRnd.bvlTxBlock {n} (h : KeepRnd r s) : KeepRnd r (s.bvlTxBlock n) :=
  h.branch <| h.each fun _ _ k => k.frame.branch (k.branch k.flitJob)

theorem KeepRnd.sendBlock {n} (h : KeepRnd r s) : KeepRnd r (s.sendBlock n) :=
  h.strTxBlock.bvlTxBlock

theorem KeepRnd.outCrc {n late} (h : KeepRnd r s) : KeepRnd r (s.outCrc n late) :=
  h.branch h.frame

theorem KeepRnd.lateRunStep {late} (h : KeepRnd r s) : KeepRnd r (s.lateRunStep late) :=
  (KeepRnd.freeze h.frame).branch ((KeepRnd.fatal h.frame).branch h.frame)

/-! ## The dispatcher settles (R223 to R233) -/

theorem KeepRnd.setDState {d st} (h : KeepRnd r s) : KeepRnd r (s.setDState d st) :=
  KeepRnd.corruptIfArmed h.frame

theorem KeepRnd.updDesc {d f} (h : KeepRnd r s) : KeepRnd r (s.updDesc d f) :=
  h.frame

theorem KeepRnd.schStatus (h : KeepRnd r s) : KeepRnd r s.schStatus :=
  h.setReg.setReg.branch h.setReg

theorem KeepRnd.trcSpill {head} (h : KeepRnd r s) : KeepRnd r (s.trcSpill head) :=
  h.branch (h.branch (h.count.branch h.dramWriteParts.setReg.frame))

theorem KeepRnd.trace {kind d slot status item} (h : KeepRnd r s) : KeepRnd r (s.trace kind d slot status item) := by
  unfold State.trace
  extract_lets _ _ s1 _ _ s2 _ s3
  have hs1 : KeepRnd r s1 := h.putArray
  have hs2 : KeepRnd r s2 := hs1.setReg
  have hs3 : KeepRnd r s3 := hs2.frame
  exact h.branch (h.count.branch (hs3.trcSpill.branch hs3))

theorem KeepRnd.cplRecord {d status} (h : KeepRnd r s) : KeepRnd r (s.cplRecord d status) :=
  h.count.evt.branch h.putArray.setReg

theorem KeepRnd.pendDec {d} (h : KeepRnd r s) : KeepRnd r (s.pendDec d) :=
  (h.branch (KeepRnd.corruptIfArmed h.frame)).branch h

theorem KeepRnd.refill (h : KeepRnd r s) : KeepRnd r s.refill := by
  unfold State.refill
  split
  · exact h
  · exact (KeepRnd.updDesc h.frame).branch h

theorem KeepRnd.sweepEnd {d status always} (h : KeepRnd r s) : KeepRnd r (s.sweepEnd d status always) := by
  unfold State.sweepEnd
  extract_lets s1 s2 s3 _ _ s4
  have hs1 : KeepRnd r s1 := h.setDState
  have hs2 : KeepRnd r s2 := hs1.when fun _ k => k.evt
  have hs3 : KeepRnd r s3 := hs2.cplRecord.branch hs2
  have hs4 : KeepRnd r s4 := hs3.frame
  exact (hs4.each fun _ _ k => k.pendDec).refill

theorem KeepRnd.raiseQfull {kind d blk tpl first} (h : KeepRnd r s) : KeepRnd r (s.raiseQfull kind d blk tpl first) :=
  h.count.raiseDet.branch h.count.detBit

theorem KeepRnd.enlist {d} (h : KeepRnd r s) : KeepRnd r (s.enlist d) :=
  h.updDesc.branch (h.frame.evt).raiseQfull

theorem KeepRnd.tryReady {a : State × Bool} {d} (h : KeepRnd r a.1) : KeepRnd r (State.tryReady a d).1 := by
  obtain ⟨s, ch⟩ := a
  unfold State.tryReady
  split
  rename_i e
  cases e
  split
  · exact h
  · refine KeepRnd.branchFst h ?_
    extract_lets s1
    have hs1 : KeepRnd r s1 := (KeepRnd.setDState (KeepRnd.updDesc h)).trace
    exact KeepRnd.branchFst hs1.trace.sweepEnd hs1.enlist

theorem KeepRnd.settleGo {n} (h : KeepRnd r s) : KeepRnd r (s.settleGo n) := by
  induction n generalizing s with
  | zero => exact h
  | succ n ih =>
    have hfold : KeepRnd r ((s.sch.descs.map (·.idx)).foldl State.tryReady (s, false)).1 :=
      KeepRnd.foldFst h fun _ _ k => k.tryReady
    exact (ih hfold).branch hfold

theorem KeepRnd.settle (h : KeepRnd r s) : KeepRnd r s.settle :=
  h.settleGo.schStatus

end Sys2Proof.Machine
end

section
/-!
# The block cycle (R24 to R28, R42)

The tick of a running train up to the causes of R52 (`State.blockTick`), the end of a capture, and the output deadline of a
block with late feeds.
-/
namespace Sys2Proof.Machine

variable {r s t : State}

/-! ## Bits of a word and of a register -/

theorem bitOf_putFld_one (w : Word) (i j : Nat) (b : Bool) (hj : j < 32) :
    bitOf (putFld w i 1 b.toNat) j = if j = i then b else bitOf w j := by
  simp only [bitOf, BitVec.testBit_toNat, putFld, maskOf, w32, BitVec.getLsbD_or, BitVec.getLsbD_and, BitVec.getLsbD_not,
    BitVec.getLsbD_ofNat, Nat.testBit_shiftLeft]
  by_cases h : j = i
  · subst h
    cases b <;> simp [hj]
  · by_cases hij : i ≤ j
    · obtain ⟨k, rfl⟩ : ∃ k, j = i + k + 1 := ⟨j - i - 1, by omega⟩
      have hk : i + k + 1 - i = k + 1 := by omega
      cases b <;> simp [hj, h, hk, hij, Nat.testBit_succ]
    · simp [hj, h, hij]

/-- A bit that is put reads as put, and every other bit of its register as before. -/
theorem State.bitR_setBit (h : s.regsWf = true) (a i : Nat) (b : Bool) {j : Nat} (hj : j < 32) :
    (s.setBit a i b).bitR a j = if j = i then b else s.bitR a j := by
  rw [State.bitR, State.setBit, State.reg_setFld_self h, bitOf_putFld_one _ _ _ _ hj]
  rfl

theorem State.bitR_congr {a : Nat} (h : t.reg a = s.reg a) (i : Nat) : t.bitR a i = s.bitR a i := congrArg (bitOf · i) h

/-! ## The counter moves on (R394) -/

/-- Of the whole state the passing of time moves the counter, ERA and WRAP. -/
theorem State.advanceTo_frame (s : State) (n : Nat) :
    s.advanceTo n = { s with regs := (s.advanceTo n).regs, tim := (s.advanceTo n).tim } ∧
      RegsBut [Reg.TIM_ERA, Reg.TIM_EVT] s (s.advanceTo n) := by
  have hput : RegsBut [Reg.TIM_ERA, Reg.TIM_EVT] s (s.putTime n) := by
    intro a ha
    simp only [List.mem_cons, List.not_mem_nil, or_false, not_or] at ha
    exact Store.get_set_other regReset _ a _ ha.1 s.regs
  have hwrap : RegsBut [Reg.TIM_ERA, Reg.TIM_EVT] (s.putTime n) ((s.putTime n).evt Reg.TIM_EVT 0) := by
    intro a ha
    simp only [List.mem_cons, List.not_mem_nil, or_false, not_or] at ha
    exact State.reg_evt_ne _ _ ha.2
  unfold State.advanceTo
  split
  · unfold State.when
    split
    · exact ⟨rfl, fun a ha => (hwrap a ha).trans (hput a ha)⟩
    · exact ⟨rfl, hput⟩
  · exact ⟨rfl, fun _ _ => rfl⟩

theorem State.advanceTo_inv (h : s.Inv) (n : Nat) : (s.advanceTo n).Inv := (Keep.refl s).advanceTo.inv h

/-! ## The sample tick (R24, R42) -/

/-- From `r` to `s` the block schedule, the modes, the memories and the render lanes' page stay. -/
structure TickKept (r s : State) : Prop extends KeepRnd r s where
  blk : s.blk = r.blk
  mode : s.mode = r.mode
  mem : SameMemories r s

theorem TickKept.refl (s : State) : TickKept s s := ⟨KeepRnd.refl s, rfl, rfl, SameMemories.refl s⟩

theorem TickKept.trans (h : TickKept r s) (k : TickKept s t) : TickKept r t :=
  ⟨h.toKeepRnd.trans k.toKeepRnd, k.blk.trans h.blk, k.mode.trans h.mode, h.mem.trans k.mem⟩

theorem TickKept.frame (h : TickKept r s) {tim fir mix cores} : TickKept r { s with tim, fir, mix, cores } :=
  h.trans ⟨(KeepRnd.refl s).frame, rfl, rfl, rfl, rfl, rfl, rfl⟩

theorem TickKept.setReg {a v} (h : TickKept r s) (ha : ¬ rndPage a := by decide) : TickKept r (s.setReg a v) :=
  ⟨h.toKeepRnd.setReg ha, h.blk, h.mode, h.mem⟩

theorem TickKept.branch {c : Prop} [Decidable c] (h : TickKept r s) (k : TickKept r t) : TickKept r (if c then s else t) := by
  split
  · exact h
  · exact k

theorem TickKept.each {α : Type} {l : List α} {f : State → α → State} (h : TickKept r s)
    (k : ∀ s a, TickKept r s → TickKept r (f s a)) : TickKept r (s.each l f) := State.each_induct k l h

theorem TickKept.note {src code data} (h : TickKept r s) : TickKept r (s.note src code data) := by
  have k := (OnlyRegsRec.refl [] s).note (src := src) (code := code) (data := data)
  refine h.trans ⟨(KeepRnd.refl s).note, ?_, ?_, k.sameMemories⟩
  all_goals rw [k.1]

theorem TickKept.gpllCopy (h : TickKept r s) : TickKept r s.gpllCopy :=
  h.frame.branch h

theorem not_rndPage_SCR_CORE_CYC (c : Nat) : ¬ rndPage (Reg.SCR_CORE_CYC c) := by
  unfold Reg.SCR_CORE_CYC
  omega

theorem TickKept.loads (h : TickKept r s) : TickKept r s.loads := by
  unfold State.loads
  extract_lets _ s1 s2
  have hs1 : TickKept r s1 := h.setReg.setReg
  have hs2 : TickKept r s2 := hs1.each fun _ c k => k.setReg (not_rndPage_SCR_CORE_CYC c)
  exact hs2.frame

theorem TickKept.phaseStep {n} (h : TickKept r s) : TickKept r (s.phaseStep n) :=
  h.setReg.branch (h.setReg.branch h)

theorem TickKept.bridgeIn {c n v} (h : TickKept r s) : TickKept r (s.bridgeIn c n v) :=
  h.branch h.frame

theorem TickKept.bridgesOut {m} (h : TickKept r s) : TickKept r (s.bridgesOut m) := by
  unfold State.bridgesOut
  split
  · exact h
  · refine h.each fun _ _ k => ?_
    split
    · exact k.each fun _ _ k => k.bridgeIn
    · exact k

/-- A state whose current block is `n`. -/
def State.numbered (s : State) (n : Nat) : State := { s with blk := { s.blk with n := n, next := some (n + 1) } }

/-- The phase of block `n` is latched, the figures of the last block are shown, and what has left the port mapper is in
its bridges. -/
def State.tickFigures (s : State) (n : Nat) : State :=
  (((s.phaseLatch n).gpllCopy.loads).phaseStep n).when (decide (3 ≤ n)) fun s => s.bridgesOut (n - 3)

/-- The tick of block `n` of a running train, up to the causes of R52. -/
def State.tickHead (s : State) (n : Nat) (re : Bool) : State := (s.tickFigures n).when re fun s => s.realignNote n

theorem State.realignDue_numbered (s : State) (n : Nat) : (s.numbered n).realignDue n = s.realignDue n := by
  simp only [State.realignDue]
  rfl

/-- The tick of a running train. Whether a realign is due stays an unknown Boolean here: it compares a multiple of 10^9,
which the kernel would count out. -/
theorem State.blockStart_running {n : Nat} (hrun : s.running = true)
    (hstop : ((s.numbered n).tickHead n (s.realignDue n)).mode.stop = none) :
    s.blockStart n = ((s.numbered n).tickHead n (s.realignDue n)).blockBoundary n (s.realignDue n) := by
  rw [← s.realignDue_numbered] at hstop ⊢
  conv => lhs; fun; fun; delta State.blockStart
  obtain ⟨due, hdue⟩ : ∃ f, f = State.realignDue := ⟨_, rfl⟩
  rw [← hdue] at hstop ⊢
  extract_lets _ s1 s2 re s3 s4
  have hs2 : s2 = s.numbered n := if_pos hrun
  have hs4 : s4 = (s.numbered n).tickHead n (due (s.numbered n) n) := by rw [← hs2]; rfl
  rw [← hs4] at hstop ⊢
  rw [hstop, ← hs2]

theorem State.when_true (s : State) (f : State → State) : s.when true f = f s := rfl

theorem State.when_false (s : State) (f : State → State) : s.when false f = s := rfl

theorem State.tickHead_true (s : State) (n : Nat) : s.tickHead n true = (s.tickFigures n).realignNote n :=
  State.when_true _ _

theorem State.tickHead_false (s : State) (n : Nat) : s.tickHead n false = s.tickFigures n := State.when_false _ _

/-- A phase is latched and judged. -/
def State.latch (s : State) (p : Int) : State :=
  (s.setReg Reg.RND_BLK_PHASE (i32 (satN 32 p))).when (decide ((s.reg Reg.RND_PHASE_LIM).toNat < p.natAbs)) fun s =>
    s.evt Reg.RND_BLK_STATUS 1

theorem State.phaseLatch_eq (s : State) (n : Nat) : s.phaseLatch n = s.latch (s.phaseNs n) := rfl

theorem State.latch_schedule (s : State) (p : Int) :
    (s.latch p).blk = s.blk ∧ (s.latch p).mode = s.mode ∧ SameMemories s (s.latch p) := by
  unfold State.latch State.when
  split
  · exact ⟨rfl, rfl, rfl, rfl, rfl, rfl⟩
  · exact ⟨rfl, rfl, rfl, rfl, rfl, rfl⟩

theorem State.latch_phase (h : s.regsWf = true) (p : Int) : (s.latch p).reg Reg.RND_BLK_PHASE = i32 (satN 32 p) := by
  have hset := State.reg_setReg_self h Reg.RND_BLK_PHASE (i32 (satN 32 p))
  unfold State.latch State.when
  split
  · exact (State.reg_evt_ne _ 1 (by decide)).trans hset
  · exact hset

theorem State.latch_warn (h : s.regsWf = true) {p : Int} (hlim : (s.reg Reg.RND_PHASE_LIM).toNat < p.natAbs) :
    (s.latch p).bitR Reg.RND_BLK_STATUS 1 = true := by
  unfold State.latch State.when
  rw [if_pos (decide_eq_true hlim)]
  exact State.bitR_setBit (State.regsWf_setReg h _ _) _ 1 true (by decide)

theorem State.tickFigures_kept (s : State) (n : Nat) : TickKept (s.latch (s.phaseNs n)) (s.tickFigures n) := by
  have hfig := (TickKept.refl (s.phaseLatch n)).gpllCopy.loads.phaseStep (n := n)
  rw [← s.phaseLatch_eq]
  exact hfig.bridgesOut.branch hfig

theorem State.realignNote_kept (s : State) (n : Nat) : TickKept (s.evt Reg.RND_BLK_STATUS 2) (s.realignNote n) :=
  (TickKept.refl _).note

/-- The tick up to the causes of R52 leaves the block's numbers, the modes and the memories alone. -/
theorem State.tickHead_schedule (s : State) (n : Nat) (re : Bool) :
    (s.tickHead n re).blk = s.blk ∧ (s.tickHead n re).mode = s.mode ∧ SameMemories s (s.tickHead n re) := by
  obtain ⟨hblk, hmode, hmem⟩ := s.latch_schedule (s.phaseNs n)
  obtain ⟨-, kblk, kmode, kmem⟩ := s.tickFigures_kept n
  cases re with
  | false =>
    rw [s.tickHead_false]
    exact ⟨kblk.trans hblk, kmode.trans hmode, hmem.trans kmem⟩
  | true =>
    obtain ⟨-, jblk, jmode, jmem⟩ := (s.tickFigures n).realignNote_kept n
    rw [s.tickHead_true]
    exact ⟨jblk.trans (kblk.trans hblk), jmode.trans (kmode.trans hmode), (hmem.trans kmem).trans jmem⟩

theorem State.tickFigures_wf (h : s.Inv) (n : Nat) : (s.tickFigures n).regsWf = true :=
  (((Keep.refl s).phaseLatch.gpllCopy.loads.phaseStep.when fun _ k => k.bridgesOut).inv h).1

/-- R42: the phase at Sn is latched. -/
theorem State.tickHead_phase (h : s.Inv) (n : Nat) (re : Bool) :
    (s.tickHead n re).reg Reg.RND_BLK_PHASE = i32 (satN 32 (s.phaseNs n)) := by
  have hfig : (s.tickFigures n).reg Reg.RND_BLK_PHASE = i32 (satN 32 (s.phaseNs n)) :=
    ((s.tickFigures_kept n).reg _ (by decide)).trans (State.latch_phase h.1 _)
  cases re with
  | false => rw [s.tickHead_false, hfig]
  | true =>
    rw [s.tickHead_true, ((s.tickFigures n).realignNote_kept n).reg _ (by decide), State.reg_evt_ne _ _ (by decide), hfig]

/-- R24: a realign that is due is shown. -/
theorem State.tickHead_realign (h : s.Inv) (n : Nat) : (s.tickHead n true).bitR Reg.RND_BLK_STATUS 2 = true := by
  rw [s.tickHead_true, State.bitR_congr (((s.tickFigures n).realignNote_kept n).reg Reg.RND_BLK_STATUS (by decide))]
  exact State.bitR_setBit (State.tickFigures_wf h n) _ 2 true (by decide)

/-- R42: a phase beyond its limit is shown. -/
theorem State.tickHead_warn (h : s.Inv) (n : Nat) (re : Bool)
    (hlim : (s.reg Reg.RND_PHASE_LIM).toNat < (s.phaseNs n).natAbs) :
    (s.tickHead n re).bitR Reg.RND_BLK_STATUS 1 = true := by
  have hfig : (s.tickFigures n).bitR Reg.RND_BLK_STATUS 1 = true := by
    rw [State.bitR_congr ((s.tickFigures_kept n).reg Reg.RND_BLK_STATUS (by decide)), State.latch_warn h.1 hlim]
  cases re with
  | false => rw [s.tickHead_false, hfig]
  | true =>
    rw [s.tickHead_true, State.bitR_congr (((s.tickFigures n).realignNote_kept n).reg Reg.RND_BLK_STATUS (by decide))]
    exact (State.bitR_setBit (State.tickFigures_wf h n) _ 2 true (by decide)).trans hfig

/-- R24, R42: the tick of block `n` of a running train that no stop has reached: the state `u` up to the causes of R52. -/
theorem State.blockStart_ticks (h : s.Inv) {n : Nat} (hrun : s.running = true) (hstop : s.mode.stop = none) :
    ∃ u : State, s.blockStart n = u.blockBoundary n (s.realignDue n) ∧
      u.blk = { s.blk with n := n, next := some (n + 1) } ∧ u.reg Reg.RND_BLK_PHASE = i32 (satN 32 (s.phaseNs n)) ∧
      ((s.reg Reg.RND_PHASE_LIM).toNat < (s.phaseNs n).natAbs → u.bitR Reg.RND_BLK_STATUS 1 = true) ∧
      (s.realignDue n = true → u.bitR Reg.RND_BLK_STATUS 2 = true) ∧ SameMemories s u := by
  have hnum : (s.numbered n).Inv := h
  have hphase : (s.numbered n).phaseNs n = s.phaseNs n := rfl
  obtain ⟨hblk, hmode, hmem⟩ := (s.numbered n).tickHead_schedule n (s.realignDue n)
  refine ⟨_, State.blockStart_running hrun (by rw [hmode]; exact hstop), hblk, ?_, fun hlim => ?_, fun hre => ?_, hmem⟩
  · rw [State.tickHead_phase hnum, hphase]
  · exact State.tickHead_warn hnum n _ (hphase ▸ hlim)
  · rw [hre]
    exact State.tickHead_realign hnum n

/-- R24: the tick of the next block takes place while the application side runs on its own clock. -/
theorem execBlockStart_next {now n : Nat} (hnext : (s.advanceTo now).blk.next = some n) (hon : (s.advanceTo now).appOn = true)
    (hclk : (s.advanceTo now).bitR Reg.CLK_STATUS 10 = false) :
    execBlockStart now s = .next ((s.advanceTo now).blockStart n) := by
  unfold execBlockStart
  simp [hnext, hon, hclk]

/-! ## The end of a capture and the output deadline (R26, R27, R320) -/

/-- R26: a block's capture ends once, after that of the block before. -/
theorem execCaptureComplete_next {src : List (Nat × List Int)} (hon : s.appOn = true) (hrun : s.running = true)
    (hstop : s.mode.stop = none) (hbase : s.blk.base < s.blk.n) (hcap : ∀ m, s.sch.cap = some m → m < s.blk.n - 1) :
    execCaptureComplete src s = .next ({ s.capture (s.blk.n - 1) src with
      sch := { (s.capture (s.blk.n - 1) src).sch with cap := some (s.blk.n - 1) } } : State).settle := by
  unfold execCaptureComplete
  rw [if_pos ⟨hon, hrun, hbase⟩]
  extract_lets n fresh cut t
  have hfresh : fresh = true := by
    dsimp only [fresh]
    split
    · exact decide_eq_true (hcap _ ‹_›)
    · rfl
  have hcut : cut = false := by
    dsimp only [cut]
    rw [hstop]
  rw [if_pos ⟨hfresh, by rw [hcut]; rfl⟩]

/-- R27: a block's output deadline takes place once, after that of the block before. -/
theorem execOutputDeadline_next {src : List (Nat × List Int)} (hon : s.appOn = true) (hrun : s.running = true)
    (hstop : s.mode.stop = none) (hfb : s.blk.fb = none) (hbase : s.blk.base + 2 ≤ s.blk.n)
    (hdl : ∀ m, s.sch.dl = some m → m < s.blk.n - 2) :
    execOutputDeadline src s = .next (s.deadline (s.blk.n - 2) src) := by
  unfold execOutputDeadline
  rw [hfb, if_neg (by simp [hon])]
  dsimp only
  rw [if_pos ⟨hrun, hbase⟩, hstop, if_pos]
  refine ⟨?_, rfl⟩
  split
  · exact decide_eq_true (hdl _ ‹_›)
  · rfl

/-- A deadline ends with the block at the port mapper and its late feeds kept, and then the dispatcher settles. -/
theorem State.deadline_settles (s : State) (n : Nat) (src : List (Nat × List Int)) :
    ∃ u : State, s.deadline n src = u.settle ∧ u.sch.dl = some n ∧ u.mix.outBlk = some n ∧
      u.mix.lateLast = s.lateFeeds n := by
  unfold State.deadline
  exact ⟨_, rfl, rfl, rfl, rfl⟩

/-- A late block is counted with its late feeds (R28). -/
theorem State.lateNote_counts (h : s.regsWf = true) (n : Nat) (late : List Nat) :
    (s.lateNote n late).reg Reg.RND_LATE = w32 (satU 32 ((s.reg Reg.RND_LATE).toNat + 1)) ∧
      (s.lateNote n late).reg Reg.RND_LATE_FEEDS = w32 (satU 32 ((s.reg Reg.RND_LATE_FEEDS).toNat + late.length)) ∧
      (s.lateNote n late).bitR Reg.RND_BLK_STATUS 3 = true := by
  have h1 : (s.count Reg.RND_LATE 1).regsWf = true := State.regsWf_setReg h _ _
  have h2 : ((s.count Reg.RND_LATE 1).count Reg.RND_LATE_FEEDS late.length).regsWf = true := State.regsWf_setReg h1 _ _
  have hraise : KeepRnd (((s.count Reg.RND_LATE 1).count Reg.RND_LATE_FEEDS late.length).evt Reg.RND_BLK_STATUS 3)
      (s.lateNote n late) := (KeepRnd.refl _).raiseDet
  refine ⟨?_, ?_, ?_⟩
  · rw [hraise.reg _ (by decide), State.reg_evt_ne _ _ (by decide), State.reg_count_ne _ _ (by decide), State.reg_count_self h]
  · rw [hraise.reg _ (by decide), State.reg_evt_ne _ _ (by decide), State.reg_count_self h1, State.reg_count_ne _ _ (by decide)]
  · rw [State.bitR_congr (hraise.reg Reg.RND_BLK_STATUS (by decide))]
    exact State.bitR_setBit h2 _ 3 true (by decide)

/-- R28: what a deadline with late feeds counts stands at its end, and it counts on what stood before it. -/
theorem State.deadline_late (h : s.Inv) {n : Nat} {src : List (Nat × List Int)} (hlate : s.lateFeeds n ≠ []) :
    ∃ u : State, u.Inv ∧ KeepRnd s u ∧ KeepRnd (u.lateNote n (s.lateFeeds n)) (s.deadline n src) := by
  unfold State.deadline
  extract_lets late s1 s11 s2 s3 s4 s5
  have i1 : Keep s s1 := (Keep.refl s).each fun _ _ k => k.firCatch
  have i11 : Keep s s11 := i1.each fun _ _ k => k.firRun
  have i2 : Keep s s2 := i11.each fun _ _ k => k.ovrFeed
  have i3 : Keep s s3 := Keep.gainsShow <| Keep.takePorts <| i2.metersBlock.each fun _ _ k => k.pilotFeed
  have k1 : KeepRnd s s1 := (KeepRnd.refl s).each fun _ _ k => k.firCatch
  have k11 : KeepRnd s s11 := k1.each fun _ _ k => k.firRun
  have k2 : KeepRnd s s2 := k11.each fun _ _ k => k.ovrFeed
  have k3 : KeepRnd s s3 := KeepRnd.gainsShow <| KeepRnd.takePorts <| k2.metersBlock.each fun _ _ k => k.pilotFeed
  have hwhen : (s3.when (!late.isEmpty) fun s => s.lateNote n late) = s3.lateNote n late :=
    if_pos (by simpa using hlate)
  have k4 : KeepRnd (s3.lateNote n late) s4 := by
    dsimp only [s4]
    rw [hwhen]
    exact (KeepRnd.refl _).outCrc
  have k5 : KeepRnd (s3.lateNote n late) s5 := k4.sendBlock.lateRunStep
  exact ⟨s3, i3.inv h, k3, k5.frame.settle⟩

/-- Settles O14: the tick is `State.tickHead` and then the boundary; a capture and a deadline each end by settling the
dispatcher; the late counts lie in the render lanes' page, which nothing of a deadline but the late note writes. -/
theorem blockCycle : Obligations.BlockCycle := by
  unfold Obligations.BlockCycle
  refine ⟨?_, ?_, ?_⟩
  · intro now n s hinv hnext hon hclk hrun hstop
    obtain ⟨heq, hregs⟩ := s.advanceTo_frame now
    have hblk : (s.advanceTo now).blk = s.blk := by rw [heq]
    have hmode : (s.advanceTo now).mode = s.mode := by rw [heq]
    have hpwr : (s.advanceTo now).pwr = s.pwr := by rw [heq]
    have hmem : SameMemories s (s.advanceTo now) := by
      rw [heq]
      exact ⟨rfl, rfl, rfl, rfl⟩
    have hona : (s.advanceTo now).appOn = true := by
      rw [← hon, State.appOn, State.appOn, State.held, State.held, hpwr,
        State.bitR_congr (hregs Reg.PWR_STATUS (by decide))]
    have hclka : (s.advanceTo now).bitR Reg.CLK_STATUS 10 = false := by
      rw [State.bitR_congr (hregs Reg.CLK_STATUS (by decide)), hclk]
    have hruna : (s.advanceTo now).running = true := by
      rw [← hrun]
      exact State.bitR_congr (hregs Reg.RND_BLK_STATUS (by decide)) 0
    have hphase : (s.advanceTo now).phaseNs n = ((s.advanceTo now).now : Int) - (s.snNs n : Int) := by
      rw [State.phaseNs, State.snNs, State.snNs, hblk]
    obtain ⟨u, hu, ublk, uphase, uwarn, ure, umem⟩ :=
      State.blockStart_ticks (State.advanceTo_inv hinv now) (n := n) hruna (by rw [hmode, hstop])
    rw [hphase] at uphase uwarn
    rw [hregs Reg.RND_PHASE_LIM (by decide)] at uwarn
    exact ⟨_, execBlockStart_next (by rw [hblk, hnext]) hona hclka, u, hu, by rw [ublk, hblk], uphase, uwarn, ure,
      hmem.trans umem⟩
  · intro src s hinv hon hrun hstop
    refine ⟨fun hbase hcap => ⟨_, execCaptureComplete_next hon hrun hstop hbase hcap, _, rfl, rfl, rfl⟩,
      fun hfb hbase hdl => ⟨_, execOutputDeadline_next hon hrun hstop hfb hbase hdl, s.deadline_settles _ _⟩⟩
  · intro src s hinv hon hrun hstop hfb hbase hdl hlate
    obtain ⟨u, hu, hbefore, hafter⟩ := State.deadline_late (src := src) hinv hlate
    obtain ⟨hcount, hfeeds, hbit⟩ := State.lateNote_counts hu.1 (s.blk.n - 2) (s.lateFeeds (s.blk.n - 2))
    refine ⟨_, execOutputDeadline_next hon hrun hstop hfb hbase hdl, ?_, ?_, ?_⟩
    · rw [hafter.reg _ (by decide), hcount, hbefore.reg _ (by decide)]
    · rw [hafter.reg _ (by decide), hfeeds, hbefore.reg _ (by decide)]
    · rw [State.bitR_congr (hafter.reg Reg.RND_BLK_STATUS (by decide)), hbit]

end Sys2Proof.Machine
end

section
/-!
# Memories: what a write of bytes leaves (R37, R38)
-/
namespace Sys2Proof.Machine

variable {s t : State}

/-! ## Stores of bytes -/

section
variable {α : Type}

theorem Store.get_append_right (d : Nat → α) {x : Nat} (n : List (Nat × α)) {m : List (Nat × α)} (hm : ∀ e ∈ m, e.1 ≠ x) :
    Store.get d (m ++ n) x = Store.get d n x := by
  induction m with
  | nil => rfl
  | cons e m ih =>
    obtain ⟨b, w⟩ := e
    have hb : b ≠ x := hm (b, w) (List.mem_cons_self ..)
    rw [List.cons_append, Store.get, if_neg hb]
    exact ih fun e he => hm e (List.mem_cons_of_mem _ he)

/-- An address that no entry has reads as unlisted. -/
theorem Store.get_of_not_mem (d : Nat → α) {x : Nat} {m : List (Nat × α)} (hm : ∀ e ∈ m, e.1 ≠ x) : Store.get d m x = d x := by
  rw [← List.append_nil m, Store.get_append_right d [] hm, Store.get]

theorem Store.get_append_left (d : Nat → α) {x : Nat} {n : List (Nat × α)} (hn : ∀ e ∈ n, e.1 ≠ x) (m : List (Nat × α)) :
    Store.get d (m ++ n) x = Store.get d m x := by
  induction m with
  | nil => exact Store.get_of_not_mem d hn
  | cons e m ih =>
    obtain ⟨b, w⟩ := e
    simp only [List.cons_append, Store.get, ih]

theorem Store.get_filter (d : Nat → α) {p : Nat → Bool} {x : Nat} (hx : p x = true) (m : List (Nat × α)) :
    Store.get d (m.filter fun e => p e.1) x = Store.get d m x := by
  induction m with
  | nil => rfl
  | cons e m ih =>
    obtain ⟨b, w⟩ := e
    by_cases hb : b = x
    · subst hb
      simp [hx, Store.get]
    · by_cases hp : p b = true
      · simp [hp, hb, Store.get, ih]
      · simp [hp, hb, Store.get, ih]

/-- A value that differs from what an unlisted address reads as is read back, whatever the form of the store. -/
theorem Store.get_set_of_ne [DecidableEq α] (d : Nat → α) {a : Nat} {v : α} (hv : v ≠ d a) (m : List (Nat × α)) :
    Store.get d (Store.set d m a v) a = v := by
  induction m with
  | nil => simp [Store.set, Store.get, hv]
  | cons e m ih =>
    obtain ⟨b, w⟩ := e
    by_cases hlt : b < a
    · simp [Store.set, Store.get, hlt, ih, Nat.ne_of_lt hlt]
    · by_cases heq : b = a
      · simp [Store.set, Store.get, hv, heq]
      · simp [Store.set, Store.get, hv, heq, hlt]

end

theorem Store.cells_mem (d : Nat → Byte) {e : Host.Cell} :
    ∀ (bs : List Byte) (a : Nat), e ∈ Store.cells d a bs → a ≤ e.1 ∧ e.1 < a + bs.length
  | [], _, he => by cases he
  | b :: bs, a, he => by
    have ih := Store.cells_mem d bs (a + 1) (e := e)
    simp only [Store.cells] at he
    simp only [List.length_cons]
    split at he
    · have := ih he
      omega
    · rcases List.mem_cons.1 he with rfl | he
      · dsimp only
        omega
      · have := ih he
        omega

theorem Store.get_cells (d : Nat → Byte) :
    ∀ (bs : List Byte) (a i : Nat) (hi : i < bs.length), Store.get d (Store.cells d a bs) (a + i) = bs[i]
  | b :: bs, a, 0, _ => by
    simp only [Store.cells, Nat.add_zero, List.getElem_cons_zero]
    split
    · rename_i hb
      rw [hb]
      have habs : ∀ e ∈ Store.cells d (a + 1) bs, e.1 ≠ a := fun e he => by
        have := Store.cells_mem d bs (a + 1) he
        omega
      exact Store.get_of_not_mem d habs
    · exact if_pos rfl
  | b :: bs, a, i + 1, hi => by
    have ih := Store.get_cells d bs (a + 1) i (by simpa using hi)
    have hadd : a + (i + 1) = a + 1 + i := by omega
    rw [hadd, Store.cells, List.getElem_cons_succ]
    split
    · exact ih
    · rw [Store.get, if_neg (by omega)]
      exact ih

/-- The bytes put are read back. -/
theorem Store.get_putBytes_inside (d : Nat → Byte) (m : List Host.Cell) (a : Nat) (bs : List Byte) {i : Nat}
    (hi : i < bs.length) : Store.get d (Store.putBytes d m a bs) (a + i) = bs[i] := by
  unfold Store.putBytes
  rw [Store.get_append_left, Store.get_append_right, Store.get_cells d bs a i hi]
  · intro e he
    have := (List.mem_filter.1 he).2
    simp only [decide_eq_true_eq] at this
    omega
  · intro e he
    have := (List.mem_filter.1 he).2
    simp only [decide_eq_true_eq] at this
    omega

/-- Every byte outside those put reads as before. -/
theorem Store.get_putBytes_outside (d : Nat → Byte) (m : List Host.Cell) (a : Nat) (bs : List Byte) {x : Nat}
    (hx : x < a ∨ a + bs.length ≤ x) : Store.get d (Store.putBytes d m a bs) x = Store.get d m x := by
  have hcells : ∀ e ∈ Store.cells d a bs, e.1 ≠ x := fun e he => by
    have := Store.cells_mem d bs a he
    omega
  unfold Store.putBytes
  rcases hx with hx | hx
  · rw [Store.get_append_left, Store.get_append_left _ hcells]
    · exact Store.get_filter d (p := fun b => decide (b < a)) (decide_eq_true hx) m
    · intro e he
      have := (List.mem_filter.1 he).2
      simp only [decide_eq_true_eq] at this
      omega
  · rw [Store.get_append_right]
    · exact Store.get_filter d (p := fun b => decide (a + bs.length ≤ b)) (decide_eq_true hx) m
    · intro e he
      rcases List.mem_append.1 he with he | he
      · have := (List.mem_filter.1 he).2
        simp only [decide_eq_true_eq] at this
        omega
      · exact hcells e he

/-! ## Words of on-chip SRAM -/

theorem w32_leBytes (v : Word) : w32 (leNat (leBytes 4 v.toNat)) = v := by
  apply BitVec.eq_of_toNat_eq
  have := v.isLt
  simp [leNat, leBytes, List.range_succ, b8, w32]
  omega

/-- A word is read back from its bytes. -/
theorem State.sw_of_putBytes {a : Nat} {v : Word} {m : List Host.Cell}
    (h : s.sram = Store.putBytes sramDef m a (leBytes 4 v.toNat)) : s.sw a = v := by
  have hbytes : (List.range 4).map (fun i => Store.get sramDef s.sram (a + i)) = leBytes 4 v.toNat := by
    apply List.ext_getElem
    · simp [leBytes]
    · intro i hi hlen
      rw [List.getElem_map, List.getElem_range, h, Store.get_putBytes_inside _ _ _ _ hlen]
  rw [State.sw, hbytes, w32_leBytes]

/-- A word apart from the bytes written reads as before. -/
theorem State.sw_of_outside {a b n : Nat} (h : SramOutside b n s t) (hab : a + 4 ≤ b ∨ b + n ≤ a) : t.sw a = s.sw a := by
  have hbytes : (List.range 4).map (fun i => Store.get sramDef t.sram (a + i)) =
      (List.range 4).map fun i => Store.get sramDef s.sram (a + i) := by
    refine List.map_congr_left fun i hi => h _ ?_
    have := List.mem_range.1 hi
    omega
  rw [State.sw, State.sw, hbytes]

theorem SramOutside.of_putBytes {a : Nat} {v : Word} (h : t.sram = Store.putBytes sramDef s.sram a (leBytes 4 v.toNat)) :
    SramOutside a 4 s t := fun b hb => by
  rw [h]
  exact Store.get_putBytes_outside _ _ _ _ (by simpa [leBytes] using hb)

/-- An armed injection corrupts a word's check and its register bit alone (R447). -/
theorem State.corruptIfArmed_frame (s : State) (c w : Nat) :
    ∃ bad regs, s.corruptIfArmed c w = { s with sramBad := bad, regs := regs } := by
  unfold State.corruptIfArmed
  split
  · exact ⟨_, _, rfl⟩
  · exact ⟨_, _, rfl⟩

/-- An engine's write changes the bytes, and what stands of their errors and of an armed injection (R37, R447). -/
theorem State.putArray_frame (s : State) (a : Nat) (bs : List Byte) :
    ∃ bad regs, s.putArray a bs =
      { s with sram := Store.putBytes sramDef s.sram a bs, sramBad := bad, regs := regs } := by
  unfold State.putArray
  extract_lets s1
  split
  · exact ⟨_, _, rfl⟩
  · rename_i c _
    extract_lets w0 w1 s2 _
    obtain ⟨bad, hs2⟩ : ∃ bad, s2 = { s with sram := Store.putBytes sramDef s.sram a bs, sramBad := bad } := by
      dsimp only [s2]
      split
      · exact ⟨_, rfl⟩
      · exact ⟨_, rfl⟩
    split
    · obtain ⟨bad', regs, h⟩ := s2.corruptIfArmed_frame c (s2.fldR Reg.INT_SRAM_TGT 0 21)
      exact ⟨bad', regs, by rw [h, hs2]⟩
    · exact ⟨bad, _, hs2⟩

/-- The host's write of a word with no stored error and no armed injection (R38). -/
theorem State.sramHostWrite_plain {a c : Nat} (harr : arrayOf a = some c) (hflaw : s.flawAt a = none)
    (harm : s.armedSram c (wordIdx c a) = none) (v : Word) : s.sramHostWrite a v = s.setSw a v := by
  have harm' : (s.setSw a v).armedSram c (wordIdx c a) = none := harm
  unfold State.sramHostWrite
  rw [harr]
  dsimp only
  rw [hflaw]
  dsimp only
  rw [State.corruptIfArmed, harm']

/-! ## Writes to tracked state (R296, R297) -/

/-- A tracked write that is made. -/
theorem State.writeTracked_made {ini : Initiator} {a : Nat} {v : Word} (f : State → State) (h : Tracked s ini a) :
    s.writeTracked ini a v f = .next (f s) := by
  obtain ⟨hreach, hmode, hroom⟩ := h
  have hfull : s.logFull a = false := by
    cases hd : s.isDuty with
    | false => simp [State.logFull, hd]
    | true => simp [State.logFull, Nat.not_lt.2 (hroom hd)]
  rw [State.writeTracked, State.access_reaches _ hreach, State.gateTracked, if_neg (c := s.pmode = 9 ∧ _) (fun hp => hmode hp.1),
    hfull]
  simp

/-- The log of a paired duty unit alone takes a write. -/
theorem State.logWrite_frame (s : State) (a : Nat) (v : Word) : ∃ w, s.logWrite a v = { s with twin := w } := by
  unfold State.logWrite
  split
  · exact ⟨_, rfl⟩
  · exact ⟨_, rfl⟩

end Sys2Proof.Machine
end

section
/-!
# Mixer tables, meters and port bridges (R25, R163, R168, R169, R181)
-/
namespace Sys2Proof.Machine

variable {s t : State}

/-! ## Repeated steps -/

section
variable {α : Type} {f : State → α → State}

theorem State.each_cons (s : State) (a : α) (l : List α) : s.each (a :: l) f = (f s a).each l f := rfl

/-- What each step brings about for its own element, and no step undoes, holds of every element at the end. -/
theorem State.each_establishes {P : α → State → Prop} (hself : ∀ s a, P a (f s a))
    (hkeep : ∀ s a b, P b s → P b (f s a)) (l : List α) (s : State) : ∀ b ∈ l, P b (s.each l f) := by
  induction l generalizing s with
  | nil => exact fun b hb => nomatch hb
  | cons a l ih =>
    intro b hb
    rw [State.each_cons]
    rcases List.mem_cons.1 hb with rfl | hb
    · exact State.each_induct (fun s a => hkeep s a b) l (hself s b)
    · exact ih (f s a) b hb

/-- The one step at element `k`, with what the steps at other elements keep before and after it. -/
theorem State.each_once {R : State → State → Prop} {k : α} (hrefl : ∀ s, R s s)
    (htrans : ∀ {s t u}, R s t → R t u → R s u) (hother : ∀ s j, j ≠ k → R s (f s j)) {l : List α} (hnd : l.Nodup)
    (hk : k ∈ l) (s : State) : ∃ u, R s u ∧ R (f u k) (s.each l f) := by
  have hrest : ∀ (m : List α) (u : State), k ∉ m → R u (u.each m f) := by
    intro m
    induction m with
    | nil => exact fun u _ => hrefl u
    | cons b m ih =>
      intro u hm
      rw [List.mem_cons, not_or] at hm
      exact htrans (hother u b (Ne.symm hm.1)) (ih (f u b) hm.2)
  induction l generalizing s with
  | nil => exact nomatch hk
  | cons a l ih =>
    obtain ⟨ha, hnd⟩ := List.nodup_cons.1 hnd
    rw [State.each_cons]
    rcases List.mem_cons.1 hk with rfl | hk
    · exact ⟨s, hrefl s, hrest l _ ha⟩
    · obtain ⟨u, hu, hend⟩ := ih hnd hk (f s a)
      exact ⟨u, htrans (hother s a fun e => ha (e ▸ hk)) hu, hend⟩

end

/-! ## Commit words (R25, R181) -/

/-- The shape of the tables with commit words: whole words, all in one array, the commit word among the masked ones. -/
theorem mixRows_shape : ∀ r ∈ mixRows, 0x06E80000 ≤ r.lo ∧ r.hi ≤ 0x06F00000 ∧ r.lo % 4 = 0 ∧ r.size % 4 = 0 ∧
    r.commit < r.mask.length := by
  decide

theorem mixRow?_some {a : Nat} {r : MixRow} (h : mixRow? a = some r) : r ∈ mixRows ∧ r.lo ≤ a ∧ a < r.hi := by
  have hp := List.find?_some h
  simp only [Bool.and_eq_true, decide_eq_true_eq] at hp
  exact ⟨List.mem_of_find?_eq_some h, hp⟩

theorem arrayOf_mixer {a : Nat} (hlo : 0x06E80000 ≤ a) (hhi : a < 0x06F00000) : arrayOf a = some 12 := by
  have hrow (b n : Nat) (h : a < b ∨ b + n ≤ a) : (decide (b ≤ a) && decide (a < b + n)) = false := by
    simp only [Bool.and_eq_false_iff, decide_eq_false_iff_not]
    omega
  have hmine : (decide (0x06E80000 ≤ a) && decide (a < 0x06E80000 + 0x80000)) = true := by
    simp only [Bool.and_eq_true, decide_eq_true_eq]
    omega
  unfold arrayOf arrayRows
  simp only [List.findIdx?_cons, hmine]
  repeat rw [hrow _ _ (by omega)]
  rfl

theorem State.swz_of_clean {a : Nat} (h : s.flawAt a = none) : s.swz a = s.sw a := by
  rw [State.swz, h]

/-- R25, R181: the write of a commit word stores its bits and puts the entry's words in line. -/
theorem State.mixWrite_commit {a : Nat} {v : Word} {r : MixRow} (hrow : mixRow? a = some r) (ha : a % 4 = 0)
    (hcommit : (a - r.lo) % r.size / 4 = r.commit) (hro : r.ro.contains r.commit = false) (hflaw : s.flawAt a = none)
    (harm : s.armedSram 12 (wordIdx 12 a) = none) :
    ∃ w pend, s.mixWrite a v =
        { s.setSw a (v &&& nth r.mask r.commit 0) with twin := w, mix := { s.mix with pend := pend } } ∧
      (a, v &&& nth r.mask r.commit 0) ∈ pend := by
  obtain ⟨hmem, hlo, hhi⟩ := mixRow?_some hrow
  obtain ⟨hbase, htop, hlo4, hsize4, hlen⟩ := mixRows_shape r hmem
  obtain ⟨w, hw⟩ := s.logWrite_frame a v
  have hput : (s.logWrite a v).sramHostWrite a (v &&& nth r.mask r.commit 0) =
      (s.logWrite a v).setSw a (v &&& nth r.mask r.commit 0) := by
    refine State.sramHostWrite_plain (arrayOf_mixer (by omega) (by omega)) ?_ ?_ _
    · rw [hw]
      exact hflaw
    · rw [hw]
      exact harm
  have hread : ((s.logWrite a v).setSw a (v &&& nth r.mask r.commit 0)).swz a = v &&& nth r.mask r.commit 0 := by
    rw [State.swz_of_clean]
    · exact State.sw_of_putBytes rfl
    · rw [hw]
      exact hflaw
  have hentry : a - 4 * r.commit + 4 * r.commit = a := by
    have := Nat.mod_le (a - r.lo) r.size
    omega
  unfold State.mixWrite
  rw [hrow]
  dsimp only
  rw [hcommit, if_neg (by rw [hro]; exact Bool.false_ne_true), hput, if_pos rfl]
  refine ⟨w, _, by rw [hw]; rfl, List.mem_append_right _ (List.mem_map.2 ⟨r.commit, ?_, ?_⟩)⟩
  · exact List.mem_filter.2 ⟨List.mem_range.2 hlen, congrArg not hro⟩
  · rw [hw] at hread
    rw [hentry, hread]

/-! ## Meters (R163) -/

theorem fld_putFld (w : Word) {lo n : Nat} (v : Nat) (h : lo + n ≤ 32) : fld (putFld w lo n v) lo n = v % 2 ^ n := by
  apply Nat.eq_of_testBit_eq
  intro i
  simp only [fld, putFld, Nat.testBit_mod_two_pow, Nat.testBit_shiftRight, BitVec.testBit_toNat, maskOf, w32,
    BitVec.getLsbD_or, BitVec.getLsbD_and, BitVec.getLsbD_not, BitVec.getLsbD_ofNat, Nat.testBit_shiftLeft,
    Nat.testBit_two_pow_sub_one]
  by_cases hi : i < n
  · have hlt : lo + i < 32 := by omega
    simp [hi, hlt]
  · simp [hi]

/-- Of a meter that is cleared: its CLIP is zero, its hold starts anew, and no other byte changes. -/
theorem State.meterClear_frame (s : State) (m : Nat) :
    ∃ sram bad regs, s.meterClear m =
        ({ s with sram := sram, sramBad := bad, regs := regs } : State).setMeter m { s.meter m with clr := true } ∧
      fld ((s.meterClear m).sw (meterAddr m + 4)) 0 16 = 0 ∧ SramOutside (meterAddr m + 4) 4 s (s.meterClear m) := by
  obtain ⟨bad, regs, h⟩ := s.putArray_frame (meterAddr m + 4)
    (leBytes 4 (putFld (s.swz (meterAddr m + 4)) 0 16 0).toNat)
  have hclear : s.meterClear m = (s.putArray (meterAddr m + 4)
    (leBytes 4 (putFld (s.swz (meterAddr m + 4)) 0 16 0).toNat)).setMeter m { s.meter m with clr := true } := rfl
  rw [hclear, h]
  refine ⟨_, bad, regs, rfl, ?_, SramOutside.of_putBytes rfl⟩
  rw [State.sw_of_putBytes rfl, fld_putFld _ _ (by decide), Nat.zero_mod]

theorem State.meterClear_dram (s : State) (m : Nat) : (s.meterClear m).dram = s.dram := by
  obtain ⟨sram, bad, regs, h, -, -⟩ := s.meterClear_frame m
  rw [h]
  rfl

/-- CLIP of a meter stays zero while another is cleared. -/
theorem State.meterClear_clip (s : State) (m j : Nat) (h : fld (s.sw (meterAddr j + 4)) 0 16 = 0) :
    fld ((s.meterClear m).sw (meterAddr j + 4)) 0 16 = 0 := by
  obtain ⟨-, -, -, -, hself, hout⟩ := s.meterClear_frame m
  by_cases hj : j = m
  · rw [hj]
    exact hself
  · rw [State.sw_of_outside hout, h]
    unfold meterAddr
    omega

theorem State.logWrite_sram (s : State) (a : Nat) (v : Word) : (s.logWrite a v).sram = s.sram := by
  obtain ⟨w, hw⟩ := s.logWrite_frame a v
  rw [hw]

theorem State.logWrite_dram (s : State) (a : Nat) (v : Word) : (s.logWrite a v).dram = s.dram := by
  obtain ⟨w, hw⟩ := s.logWrite_frame a v
  rw [hw]

theorem State.logWrite_mix (s : State) (a : Nat) (v : Word) : (s.logWrite a v).mix = s.mix := by
  obtain ⟨w, hw⟩ := s.logWrite_frame a v
  rw [hw]

theorem State.logWrite_sw (s : State) (a : Nat) (v : Word) (b : Nat) : (s.logWrite a v).sw b = s.sw b := by
  rw [State.sw, State.sw, State.logWrite_sram]

/-- R163: the write of a meter's CLIP word. -/
theorem meterClearWrite_completes (ini : Initiator) (v : Word)
    (hwf : Store.wf (fun _ => ({} : MeterSt)) s.mix.meters = true) (m : BitVec 11)
    (hreach : Tracked s ini (meterAddr m.toNat + 4)) : Completes (.meterClearWrite ini m v) s fun t =>
      fld (t.sw (meterAddr m.toNat + 4)) 0 16 = 0 ∧ t.meter m.toNat = { s.meter m.toNat with clr := true } ∧
        SramOutside (meterAddr m.toNat + 4) 4 s t ∧ t.dram = s.dram := by
  refine ⟨_, State.writeTracked_made _ hreach, ?_⟩
  obtain ⟨sram, bad, regs, h, hclip, hout⟩ := s.meterClear_frame m.toNat
  have hmeter : (s.meterClear m.toNat).meter m.toNat = { s.meter m.toNat with clr := true } := by
    rw [h]
    exact State.setMeter_same _ _ _ hwf
  dsimp only
  rw [State.logWrite_sw, State.logWrite_dram, State.meter, State.logWrite_mix]
  exact ⟨hclip, hmeter, fun b hb => by rw [State.logWrite_sram, hout b hb], s.meterClear_dram m.toNat⟩

/-- All of some meters cleared, one after the other. -/
theorem State.meterClear_each (s : State) (l : List Nat) :
    (∀ m ∈ l, fld ((s.each l State.meterClear).sw (meterAddr m + 4)) 0 16 = 0) ∧ (s.each l State.meterClear).dram = s.dram := by
  refine ⟨?_, State.each_induct (P := fun t => t.dram = s.dram) (fun t m ht => (t.meterClear_dram m).trans ht) l rfl⟩
  refine State.each_establishes (P := fun m t => fld (State.sw t (meterAddr m + 4)) 0 16 = 0) (fun t m => ?_)
    (fun t m j => t.meterClear_clip m j) l s
  obtain ⟨-, -, -, -, hself, -⟩ := t.meterClear_frame m
  exact hself

theorem State.mtrCtl_clears (s : State) {v : Word} (hv : bitOf v 0 = true) :
    (∀ m, m < 2048 → fld ((s.mtrCtl v).sw (meterAddr m + 4)) 0 16 = 0) ∧ (s.mtrCtl v).dram = s.dram := by
  obtain ⟨hclip, hdram⟩ := s.meterClear_each (List.range 2048)
  have hctl : s.mtrCtl v = (s.each (List.range 2048) State.meterClear).logWrite Reg.MIX_MTR_CTL v := by
    rw [State.mtrCtl, if_pos hv]
  rw [hctl, State.logWrite_dram]
  exact ⟨fun m hm => by rw [State.logWrite_sw, hclip m (List.mem_range.2 hm)], hdram⟩

/-- R163: CLR of MIX_MTR_CTL clears every meter. -/
theorem mixMtrClr_clears (ini : Initiator) {v : Word} (hreach : Tracked s ini Reg.MIX_MTR_CTL) (hv : bitOf v 0 = true) :
    Completes (.mixMtrClr ini v) s fun t => (∀ m, m < 2048 → fld (t.sw (meterAddr m + 4)) 0 16 = 0) ∧ t.dram = s.dram :=
  ⟨_, State.writeTracked_made _ hreach, s.mtrCtl_clears hv⟩

/-- R163: a write of MIX_MTR_CTL without CLR clears no meter. -/
theorem mixMtrClr_idle (ini : Initiator) {v : Word} (hreach : Tracked s ini Reg.MIX_MTR_CTL) (hv : bitOf v 0 = false) :
    Completes (.mixMtrClr ini v) s fun t => t.regs = s.regs ∧ SameMemories s t := by
  refine ⟨_, State.writeTracked_made _ hreach, ?_⟩
  rw [State.mtrCtl, if_neg (by rw [hv]; exact Bool.false_ne_true)]
  obtain ⟨w, hw⟩ := s.logWrite_frame Reg.MIX_MTR_CTL v
  rw [hw]
  exact ⟨rfl, rfl, rfl, rfl, rfl⟩

/-! ## Bridges (R168, R169) -/

theorem brgStat_ne_brgRatio (c d : Nat) : Reg.MIX_BRG_STAT c ≠ Reg.MIX_BRG_RATIO d := by
  unfold Reg.MIX_BRG_STAT Reg.MIX_BRG_RATIO
  omega

theorem brgStat_inj {c d : Nat} (h : Reg.MIX_BRG_STAT c = Reg.MIX_BRG_STAT d) : c = d := by
  unfold Reg.MIX_BRG_STAT at h
  omega

theorem State.each_setPair_frame (s : State) (l : List Nat) (x : State → Nat → PairSt) :
    (s.each l fun s i => s.setPair i (x s i)).regs = s.regs ∧ SameMemories s (s.each l fun s i => s.setPair i (x s i)) := by
  refine State.each_induct (P := fun t => t.regs = s.regs ∧ SameMemories s t) (fun t i ht => ?_) l ⟨rfl, SameMemories.refl s⟩
  exact ht

/-- What a state shows of a bridge that has locked with a ratio, by its registers. -/
theorem State.brgLocked_of_regs (h : s.regsWf = true) (c : Nat) (v : Word)
    (hregs : t.regs = ((s.setBit (Reg.MIX_BRG_STAT c) 29 true).setReg (Reg.MIX_BRG_RATIO c) v).regs) :
    t.bitR (Reg.MIX_BRG_STAT c) 29 = true ∧ t.reg (Reg.MIX_BRG_RATIO c) = v ∧
      RegsBut [Reg.MIX_BRG_STAT c, Reg.MIX_BRG_RATIO c] s t := by
  have hset : (s.setBit (Reg.MIX_BRG_STAT c) 29 true).regsWf = true := State.regsWf_setReg h _ _
  have hreg : ∀ a, t.reg a = ((s.setBit (Reg.MIX_BRG_STAT c) 29 true).setReg (Reg.MIX_BRG_RATIO c) v).reg a := fun a =>
    congrArg (Store.get regReset · a) hregs
  refine ⟨?_, ?_, fun a ha => ?_⟩
  · rw [State.bitR_congr (hreg _), State.bitR_congr (State.reg_setReg_ne _ _ (brgStat_ne_brgRatio c c))]
    exact State.bitR_setBit h _ 29 true (by decide)
  · rw [hreg, State.reg_setReg_self hset]
  · simp only [List.mem_cons, List.not_mem_nil, or_false, not_or] at ha
    rw [hreg, State.reg_setReg_ne _ _ ha.2]
    exact State.reg_setReg_ne _ _ ha.1

theorem State.unsteady_any {p : Nat → Bool} (h : ∀ i, i < 52 → s.unsteady i = false) :
    ((List.range 52).filter p).any s.unsteady = false := by
  rw [List.any_eq_false]
  intro i hi
  simp [h i (List.mem_range.1 (List.mem_filter.1 hi).1)]

/-- R169: a configured bridge that no Trail slot has taken or takes locks with its ratio, while its pair is steady. -/
theorem bridgeLock_completes (h : s.Inv) (v : Word) (ch : BitVec 7) (hreach : s.reach 0x700000 = true)
    (hcfg : s.bitR (Reg.MIX_BRG_STAT ch.toNat) 31 = true) (hlock : s.bitR (Reg.MIX_BRG_STAT ch.toNat) 29 = false)
    (hpre : s.bitR (Reg.MIX_BRG_STAT ch.toNat) 28 = false) (htake : (s.bridge ch.toNat).take = false)
    (hsteady : ∀ i, i < 52 → s.unsteady i = false) : Completes (.bridgeLock ch v) s fun t =>
      t.bitR (Reg.MIX_BRG_STAT ch.toNat) 29 = true ∧ t.reg (Reg.MIX_BRG_RATIO ch.toNat) = v ∧
        RegsBut [Reg.MIX_BRG_STAT ch.toNat, Reg.MIX_BRG_RATIO ch.toNat] s t ∧ SameMemories s t := by
  refine ⟨_, State.event_reaches _ hreach, ?_⟩
  dsimp only
  rw [if_pos (by simp [hcfg, hlock, hpre, htake, State.unsteady_any hsteady])]
  obtain ⟨hregs, hmem⟩ := State.each_setPair_frame
    (((s.setBit (Reg.MIX_BRG_STAT ch.toNat) 29 true).setReg (Reg.MIX_BRG_RATIO ch.toNat) v).setBridge ch.toNat
      { s.bridge ch.toNat with lock := true, ramp := 0 })
    ((List.range 52).filter fun i => (s.pairBridges i).contains ch.toNat)
    fun s i => { s.pairSt i with lockP := (s.reg (pairPerReg i)).toNat }
  obtain ⟨hbit, hratio, hother⟩ := State.brgLocked_of_regs h.1 ch.toNat v hregs
  exact ⟨hbit, hratio, hother, hmem⟩

/-! ## Trail slots (R168) -/

/-- From `s` to `t` of the bridges only channel `c` may have changed, and of the registers its status and the event of a
taken bridge. -/
structure OnlyBridge (c : Nat) (s t : State) : Prop where
  keep : Keep s t
  regs : RegsButRec [Reg.MIX_BRG_STAT c, Reg.MIX_EVT] s t
  bridge : ∀ d, d ≠ c → t.bridge d = s.bridge d
  mem : SameMemories s t

/-- What a write of GNT_TSLOT_EN does to the bridge channel of slot `k`. -/
def State.slotStep (old v : Word) (s : State) (k : Nat) : State :=
  if bitOf v k && !bitOf old k then s.bridgeTake (116 + k)
  else if bitOf old k && !bitOf v k then
    ((s.setBit (Reg.MIX_BRG_STAT (116 + k)) 28 false).setBit (Reg.MIX_BRG_STAT (116 + k)) 29 false).setBridge (116 + k)
      { s.bridge (116 + k) with lock := false, down := false, ramp := 0, take := false }
  else s

theorem State.tslotWrite_eq (s : State) (v : Word) : s.tslotWrite v =
    (s.setReg Reg.GNT_TSLOT_EN (v &&& 0xFFF)).each (List.range 12) (State.slotStep (s.reg Reg.GNT_TSLOT_EN) v) := rfl

theorem OnlyBridge.refl (c : Nat) (s : State) : OnlyBridge c s s :=
  ⟨Keep.refl s, fun _ _ _ => rfl, fun _ _ => rfl, SameMemories.refl s⟩

theorem OnlyBridge.setBit {c i : Nat} {b : Bool} (h : OnlyBridge c s t) : OnlyBridge c s (t.setBit (Reg.MIX_BRG_STAT c) i b) := by
  refine ⟨h.keep.setBit, fun a ha hrec => ?_, h.bridge, h.mem⟩
  rw [State.setBit, State.reg_setFld_ne _ _ _ _ fun e => ha (by simp [e]), h.regs a ha hrec]

theorem OnlyBridge.setBridge {c : Nat} {x : BridgeSt} (h : OnlyBridge c s t) : OnlyBridge c s (t.setBridge c x) :=
  ⟨h.keep.setBridge, h.regs, fun d hd => (t.setBridge_other c d x hd).trans (h.bridge d hd), h.mem⟩

theorem OnlyBridge.mixEvt {c bit kind ix blk : Nat} (h : OnlyBridge c s t) : OnlyBridge c s (t.mixEvt bit kind ix blk) := by
  have hevt : OnlyRegsRec [Reg.MIX_EVT] t (t.mixEvt bit kind ix blk) := (OnlyRegsRec.refl _ t).evtFirst (Or.inl (by simp))
  refine ⟨h.keep.mixEvt, fun a ha hrec => ?_, fun d hd => ?_, h.mem.trans hevt.sameMemories⟩
  · rw [hevt.2 a (fun hm => ha (List.mem_cons_of_mem _ hm)) hrec, h.regs a ha hrec]
  · rw [← h.bridge d hd, hevt.1]
    rfl

theorem OnlyBridge.bridgeTaken {c : Nat} (h : OnlyBridge c s t) : OnlyBridge c s (t.bridgeTaken c) :=
  h.setBit.setBit.setBridge.mixEvt

theorem OnlyBridge.slotStep (old v : Word) (s : State) (k : Nat) : OnlyBridge (116 + k) s (State.slotStep old v s k) := by
  have h := OnlyBridge.refl (116 + k) s
  unfold State.slotStep State.bridgeTake
  extract_lets r
  split
  · split
    · exact h
    · split
      · exact h.setBridge
      · exact h.bridgeTaken
  · split
    · exact h.setBit.setBit.setBridge
    · exact h

theorem recReg_brgStat {c : Nat} (hc : c < 128) : recReg (Reg.MIX_BRG_STAT c) = false := by
  simp only [recReg, List.contains_eq_mem, List.mem_cons, List.not_mem_nil, Reg.MIX_BRG_STAT, Reg.REC_STATUS, Reg.REC_EVT,
    Reg.REC_SEQ, Reg.REC_LOST, or_false, decide_eq_false_iff_not]
  omega

theorem brgStat_not_mem {a : Nat} (ha : a < 0x700000) (c : Nat) : a ∉ [Reg.MIX_BRG_STAT c, Reg.MIX_EVT] := by
  simp only [List.mem_cons, List.not_mem_nil, or_false, Reg.MIX_BRG_STAT, Reg.MIX_EVT]
  omega

/-- From `s` to `t` bridge `c` stays as it was, and with it whether the train runs. -/
structure BridgeKept (c : Nat) (s t : State) : Prop where
  keep : Keep s t
  stat : t.reg (Reg.MIX_BRG_STAT c) = s.reg (Reg.MIX_BRG_STAT c)
  bridge : t.bridge c = s.bridge c
  running : t.running = s.running

theorem BridgeKept.refl (c : Nat) (s : State) : BridgeKept c s s := ⟨Keep.refl s, rfl, rfl, rfl⟩

theorem BridgeKept.trans {c : Nat} {u : State} (h : BridgeKept c s t) (k : BridgeKept c t u) : BridgeKept c s u :=
  ⟨h.keep.trans k.keep, k.stat.trans h.stat, k.bridge.trans h.bridge, k.running.trans h.running⟩

theorem OnlyBridge.kept {c d : Nat} (h : OnlyBridge d s t) (hcd : c ≠ d) (hc : c < 128) : BridgeKept c s t := by
  refine ⟨h.keep, h.regs _ ?_ (recReg_brgStat hc), h.bridge c hcd,
    State.bitR_congr (h.regs Reg.RND_BLK_STATUS (brgStat_not_mem (by decide) d) (by decide)) 0⟩
  simp only [List.mem_cons, List.not_mem_nil, or_false, Reg.MIX_BRG_STAT, Reg.MIX_EVT]
  omega

/-- What the step of slot `k` finds of its bridge is what the write found, and what it leaves of it is what the write leaves. -/
theorem State.tslotWrite_slot (s : State) (v : Word) {k : Nat} (hk : k < 12) :
    ∃ u, BridgeKept (116 + k) s u ∧
      BridgeKept (116 + k) (State.slotStep (s.reg Reg.GNT_TSLOT_EN) v u k) (s.tslotWrite v) := by
  have hset : BridgeKept (116 + k) s (s.setReg Reg.GNT_TSLOT_EN (v &&& 0xFFF)) := by
    refine ⟨(Keep.refl s).setReg _ _, State.reg_setReg_ne _ _ ?_, rfl, State.bitR_congr (State.reg_setReg_ne _ _ ?_) 0⟩
    · unfold Reg.MIX_BRG_STAT Reg.GNT_TSLOT_EN
      omega
    · decide
  rw [State.tslotWrite_eq]
  obtain ⟨u, hu, hend⟩ := State.each_once (R := BridgeKept (116 + k)) (k := k) (BridgeKept.refl _) BridgeKept.trans
    (fun t j hj => (OnlyBridge.slotStep (s.reg Reg.GNT_TSLOT_EN) v t j).kept (by omega) (by omega)) List.nodup_range
    (List.mem_range.2 hk) (s.setReg Reg.GNT_TSLOT_EN (v &&& 0xFFF))
  exact ⟨u, hset.trans hu, hend⟩

/-- The write takes its bits, and leaves the memories. -/
theorem State.tslotWrite_frame (h : s.regsWf = true) (v : Word) :
    (s.tslotWrite v).reg Reg.GNT_TSLOT_EN = v &&& 0xFFF ∧ SameMemories s (s.tslotWrite v) := by
  rw [State.tslotWrite_eq]
  refine State.each_induct (P := fun t => t.reg Reg.GNT_TSLOT_EN = v &&& 0xFFF ∧ SameMemories s t) (fun t k ht => ?_) _
    ⟨State.reg_setReg_self h _ _, SameMemories.refl s⟩
  have hstep := OnlyBridge.slotStep (s.reg Reg.GNT_TSLOT_EN) v t k
  exact ⟨(hstep.regs _ (brgStat_not_mem (by decide) _) (by decide)).trans ht.1, ht.2.trans hstep.mem⟩

/-- R168: a bridge that puts out samples ramps down before its slot takes it. -/
theorem State.bridgeTake_ramps {c : Nat} (hcfg : s.bitR (Reg.MIX_BRG_STAT c) 31 = true)
    (hout : (s.bridge c).lock = true ∧ (s.running = true ∨ s.bitR (Reg.MIX_BRG_STAT c) 30 = true)) :
    (s.bridgeTake c).bridge c = { s.bridge c with lock := false, down := true, ramp := 0, take := true } := by
  unfold State.bridgeTake
  extract_lets r
  rw [if_neg (by simp [r, hcfg]), if_pos hout]
  refine Store.get_set_of_ne _ (fun e => ?_) _
  have htake : true = false := congrArg BridgeSt.take e
  exact Bool.noConfusion htake

/-- R168: a bridge that puts out nothing is taken at once. -/
theorem State.bridgeTake_takes (h : s.regsWf = true) {c : Nat} (hc : c < 128) (hcfg : s.bitR (Reg.MIX_BRG_STAT c) 31 = true)
    (hout : ¬((s.bridge c).lock = true ∧ (s.running = true ∨ s.bitR (Reg.MIX_BRG_STAT c) 30 = true))) :
    (s.bridgeTake c).bitR (Reg.MIX_BRG_STAT c) 28 = true ∧ (s.bridgeTake c).bitR (Reg.MIX_BRG_STAT c) 29 = false := by
  have h29 : (s.setBit (Reg.MIX_BRG_STAT c) 29 false).regsWf = true := State.regsWf_setReg h _ _
  have htake : s.bridgeTake c = s.bridgeTaken c := by
    unfold State.bridgeTake
    extract_lets r
    rw [if_neg (by simp [r, hcfg]), if_neg hout]
  have hstat : (s.bridgeTaken c).reg (Reg.MIX_BRG_STAT c) =
      ((s.setBit (Reg.MIX_BRG_STAT c) 29 false).setBit (Reg.MIX_BRG_STAT c) 28 true).reg (Reg.MIX_BRG_STAT c) := by
    have hevt : ∀ t : State, (t.mixEvt 4 4 c s.blkNum).reg (Reg.MIX_BRG_STAT c) = t.reg (Reg.MIX_BRG_STAT c) := fun t => by
      have hm : Reg.MIX_BRG_STAT c ∉ [Reg.MIX_EVT] := by
        simp only [List.mem_cons, List.not_mem_nil, or_false, Reg.MIX_BRG_STAT, Reg.MIX_EVT]
        omega
      exact ((OnlyRegsRec.refl [Reg.MIX_EVT] t).evtFirst (Or.inl (List.mem_cons_self ..))).2 _ hm (recReg_brgStat hc)
    exact hevt _
  rw [htake, State.bitR_congr hstat, State.bitR_congr hstat]
  exact ⟨State.bitR_setBit h29 _ 28 true (by decide),
    (State.bitR_setBit h29 _ 28 true (by decide)).trans (State.bitR_setBit h _ 29 false (by decide))⟩

/-- R168: a slot that is no longer routed gives its channel back. -/
theorem State.slotStep_release (h : s.regsWf = true) {old v : Word} {k : Nat} (hv : bitOf v k = false)
    (hold : bitOf old k = true) : (State.slotStep old v s k).bitR (Reg.MIX_BRG_STAT (116 + k)) 28 = false := by
  rw [State.slotStep, if_neg (by rw [hv]; exact Bool.false_ne_true), if_pos (by rw [hv, hold]; rfl)]
  have h28 : (s.setBit (Reg.MIX_BRG_STAT (116 + k)) 28 false).regsWf = true := State.regsWf_setReg h _ _
  exact (State.bitR_setBit h28 _ 29 false (by decide)).trans (State.bitR_setBit h _ 28 false (by decide))

/-- R168: the Gauntlet routes Trail slots to bridge channels, and gives channels back. -/
theorem gntTslotEnWrite_completes (h : s.Inv) (hgood : s.pwr.good = true) (v : Word) :
    Completes (.gntTslotEnWrite .gauntlet v) s fun t =>
      t.reg Reg.GNT_TSLOT_EN = v &&& 0xFFF ∧
      (∀ k, k < 12 → bitOf v k = true → s.bitR Reg.GNT_TSLOT_EN k = false → s.bitR (Reg.MIX_BRG_STAT (116 + k)) 31 = true →
         if (s.bridge (116 + k)).lock = true ∧ (s.running = true ∨ s.bitR (Reg.MIX_BRG_STAT (116 + k)) 30 = true) then
           t.bridge (116 + k) = { s.bridge (116 + k) with lock := false, down := true, ramp := 0, take := true }
         else t.bitR (Reg.MIX_BRG_STAT (116 + k)) 28 = true ∧ t.bitR (Reg.MIX_BRG_STAT (116 + k)) 29 = false) ∧
      (∀ k, k < 12 → bitOf v k = false → s.bitR Reg.GNT_TSLOT_EN k = true →
         t.bitR (Reg.MIX_BRG_STAT (116 + k)) 28 = false) ∧ SameMemories s t := by
  have hexec : exec (.gntTslotEnWrite .gauntlet v) s = .next (s.tslotWrite v) := by
    have hadm : s.admits .gauntlet = true := by simp [State.admits, hgood]
    have hgw : s.gwWrite .gauntlet Reg.GNT_TSLOT_EN (fun s => s.tslotWrite v) = s.tslotWrite v := by
      rw [State.gwWrite, hadm]
      rfl
    exact congrArg Host.Outcome.next hgw
  obtain ⟨hen, hmem⟩ := State.tslotWrite_frame h.1 v
  refine ⟨_, hexec, hen, fun k hk hv hold hcfg => ?_, fun k hk hv hold => ?_, hmem⟩
  all_goals obtain ⟨u, hu, hend⟩ := s.tslotWrite_slot v hk
  all_goals have hwf : u.regsWf = true := (hu.keep.inv h).1
  · have hcfgu : u.bitR (Reg.MIX_BRG_STAT (116 + k)) 31 = true := by rw [State.bitR_congr hu.stat, hcfg]
    have hstep : State.slotStep (s.reg Reg.GNT_TSLOT_EN) v u k = u.bridgeTake (116 + k) := by
      rw [State.slotStep, if_pos]
      rw [State.bitR] at hold
      rw [hv, hold]
      rfl
    rw [hstep] at hend
    rw [← hu.bridge, ← hu.running, ← State.bitR_congr hu.stat]
    split
    case isTrue hout => rw [hend.bridge, State.bridgeTake_ramps hcfgu hout]
    case isFalse hout =>
      rw [State.bitR_congr hend.stat, State.bitR_congr hend.stat]
      exact State.bridgeTake_takes hwf (by omega) hcfgu hout
  · rw [State.bitR_congr hend.stat]
    exact State.slotStep_release hwf hv hold

/-- R25, R181: the write of a commit word. -/
theorem commitWordWrite_completes (ini : Initiator) {a : Nat} {v : Word} {r : MixRow} (hreach : Tracked s ini a)
    (ha : a % 4 = 0) (hrow : mixRow? a = some r) (hcommit : (a - r.lo) % r.size / 4 = r.commit)
    (hro : r.ro.contains r.commit = false) (hflaw : s.flawAt a = none) (harm : s.armedSram 12 (wordIdx 12 a) = none) :
    Completes (.commitWordWrite ini a v) s fun t =>
      t.sw a = v &&& nth r.mask r.commit 0 ∧ (a, v &&& nth r.mask r.commit 0) ∈ t.mix.pend ∧ SramOutside a 4 s t ∧
        t.regs = s.regs ∧ t.dram = s.dram ∧ t.boot = s.boot ∧ t.gflash = s.gflash := by
  refine ⟨_, State.writeTracked_made _ hreach, ?_⟩
  dsimp only
  obtain ⟨w, pend, hw, hpend⟩ := State.mixWrite_commit (v := v) hrow ha hcommit hro hflaw harm
  rw [if_pos ha, hw]
  exact ⟨State.sw_of_putBytes rfl, hpend, SramOutside.of_putBytes rfl, rfl, rfl, rfl, rfl⟩

/-- Settles O31: a commit word is a host's write of an unflawed word; a meter's words lie apart from the others'; each slot
acts on its own bridge channel alone. -/
theorem mixerAndBridges : Obligations.MixerAndBridges := by
  unfold Obligations.MixerAndBridges
  refine ⟨?_, ?_, ?_⟩
  · intro ini a v r s _ hreach ha hrow hcommit hro hflaw harm
    exact commitWordWrite_completes ini hreach ha hrow hcommit hro hflaw harm
  · intro ini v s _ hwf
    exact ⟨fun m hreach => meterClearWrite_completes ini v hwf m hreach, fun hreach hv => mixMtrClr_clears ini hreach hv,
      fun hreach hv => mixMtrClr_idle ini hreach hv⟩
  · intro v s hinv
    exact ⟨fun ch hreach hcfg hlock hpre htake hsteady =>
      bridgeLock_completes hinv v ch hreach hcfg hlock hpre htake hsteady,
      fun hgood => gntTslotEnWrite_completes hinv hgood v⟩

end Sys2Proof.Machine
end

section
/-!
# Mode requests (R49, R51, R53, R59, R268)

A write of PWR_MODE_REQ: what it leaves before it is judged (`State.requestTaken`), and the three answers to it.
-/
namespace Sys2Proof.Machine

variable {s t : State}

/-! ## Fields of a word and of a register -/

theorem fld_putFld_apart (w : Word) {lo n lo' n' : Nat} (v : Nat) (h : lo' + n' ≤ lo ∨ lo + n ≤ lo')
    (h' : lo' + n' ≤ 32) : fld (putFld w lo n v) lo' n' = fld w lo' n' := by
  apply Nat.eq_of_testBit_eq
  intro i
  simp only [fld, putFld, Nat.testBit_mod_two_pow, Nat.testBit_shiftRight, BitVec.testBit_toNat, maskOf, w32,
    BitVec.getLsbD_or, BitVec.getLsbD_and, BitVec.getLsbD_not, BitVec.getLsbD_ofNat, Nat.testBit_shiftLeft,
    Nat.testBit_two_pow_sub_one]
  by_cases hi : i < n'
  · have hlt : lo' + i < 32 := by omega
    rcases h with h | h
    · have hlo : ¬ lo ≤ lo' + i := by omega
      simp [hi, hlt, hlo]
    · have hn : ¬ lo' + i - lo < n := by omega
      simp [hi, hlt, hn]
  · simp [hi]

/-- A field that is put is read back modulo its size. -/
theorem State.fldR_setFld_self (h : s.regsWf = true) (a v : Nat) {lo n : Nat} (hn : lo + n ≤ 32) :
    (s.setFld a lo n v).fldR a lo n = v % 2 ^ n := by
  rw [State.fldR, State.reg_setFld_self h, fld_putFld _ _ hn]

/-- A field apart from the one that is put reads as before. -/
theorem State.fldR_setFld_apart (h : s.regsWf = true) (a v : Nat) {lo n lo' n' : Nat}
    (hap : lo' + n' ≤ lo ∨ lo + n ≤ lo') (hn : lo' + n' ≤ 32) : (s.setFld a lo n v).fldR a lo' n' = s.fldR a lo' n' := by
  rw [State.fldR, State.reg_setFld_self h, fld_putFld_apart _ _ hap hn]
  rfl

theorem State.fldR_congr {a : Nat} (h : t.reg a = s.reg a) (lo n : Nat) : t.fldR a lo n = s.fldR a lo n :=
  congrArg (fld · lo n) h

/-! ## The write of PWR_MODE_REQ -/

/-- PWR_MODE_REQ takes the code; a write of THERMOS commits the open record (R460). -/
def State.requestWrite (s : State) (code : Nat) : State :=
  (s.setReg Reg.PWR_MODE_REQ (w32 code)).when (decide (code = 0)) State.recCommitOpen

/-- A request has been written and not yet judged: no other waits, and PENDING is clear. -/
def State.requestTaken (s : State) (ini : Initiator) (code : Nat) : State :=
  { (s.requestWrite code).setPending false with
    mode := { s.mode with req := none, held := false, auto := s.mode.auto && decide (ini = Initiator.service) } }

theorem State.requestWrite_onlyRegsRec (s : State) (code : Nat) :
    OnlyRegsRec [Reg.PWR_MODE_REQ] s (s.requestWrite code) := by
  have hset : OnlyRegsRec [Reg.PWR_MODE_REQ] s (s.setReg Reg.PWR_MODE_REQ (w32 code)) :=
    (OnlyRegsRec.refl _ s).setReg (Or.inl (List.mem_cons_self ..))
  exact hset.recCommitOpen.branch hset

theorem State.requestWrite_reg (h : s.regsWf = true) (code : Nat) :
    (s.requestWrite code).reg Reg.PWR_MODE_REQ = w32 code := by
  have hrec : OnlyRegsRec [] (s.setReg Reg.PWR_MODE_REQ (w32 code)) (s.requestWrite code) :=
    (OnlyRegsRec.refl _ _).recCommitOpen.branch (OnlyRegsRec.refl _ _)
  rw [hrec.2 _ List.not_mem_nil (by decide), State.reg_setReg_self h]

theorem State.requestTaken_inv (h : s.Inv) (ini : Initiator) (code : Nat) : (s.requestTaken ini code).Inv :=
  (Keep.frame (((Keep.refl s).setReg _ _).when fun _ k => k.recCommitOpen).setPending).inv h

/-- The mode word changes in PENDING alone. -/
theorem State.requestTaken_status (h : s.Inv) (ini : Initiator) (code : Nat) :
    (s.requestTaken ini code).reg Reg.PWR_MODE_STATUS = putBit (s.reg Reg.PWR_MODE_STATUS) 14 false := by
  have hwf : (s.requestWrite code).regsWf = true := (((Keep.refl s).setReg _ _).when fun _ k => k.recCommitOpen).inv h |>.1
  have hkept := (s.requestWrite_onlyRegsRec code).2 Reg.PWR_MODE_STATUS (by decide) (by decide)
  exact (State.reg_setFld_self hwf _ 14 1 _).trans (by rw [hkept]; rfl)

theorem State.requestTaken_req (h : s.regsWf = true) (ini : Initiator) (code : Nat) :
    (s.requestTaken ini code).reg Reg.PWR_MODE_REQ = w32 code :=
  (State.reg_setFld_ne _ 14 1 _ (by decide)).trans (State.requestWrite_reg h code)

theorem State.requestTaken_frame (s : State) (ini : Initiator) (code : Nat) :
    RegsButRec [Reg.PWR_MODE_REQ, Reg.PWR_MODE_STATUS] s (s.requestTaken ini code) ∧
      SameMemories s (s.requestTaken ini code) := by
  have hwrite := s.requestWrite_onlyRegsRec code
  refine ⟨fun a ha hrec => ?_, hwrite.sameMemories⟩
  simp only [List.mem_cons, List.not_mem_nil, or_false, not_or] at ha
  exact (State.reg_setFld_ne _ 14 1 _ ha.2).trans (hwrite.2 a (by simpa using ha.1) hrec)

theorem State.requestTaken_fld (h : s.Inv) (ini : Initiator) (code : Nat) {lo n : Nat} (hap : lo + n ≤ 14 ∨ 15 ≤ lo)
    (hn : lo + n ≤ 32) :
    (s.requestTaken ini code).fldR Reg.PWR_MODE_STATUS lo n = s.fldR Reg.PWR_MODE_STATUS lo n := by
  rw [State.fldR, State.requestTaken_status h, putBit, fld_putFld_apart _ _ hap hn]
  rfl

theorem State.requestTaken_pmode (h : s.Inv) (ini : Initiator) (code : Nat) :
    (s.requestTaken ini code).pmode = s.pmode := State.requestTaken_fld h ini code (by decide) (by decide)

theorem State.requestTaken_phase (h : s.Inv) (ini : Initiator) (code : Nat) :
    (s.requestTaken ini code).phase = s.phase := State.requestTaken_fld h ini code (by decide) (by decide)

/-- R49, R268: the write of a request does not change how it is refused. -/
theorem State.requestTaken_reqErr (h : s.Inv) (ini : Initiator) (code : Nat) :
    (s.requestTaken ini code).reqErr code = s.reqErr code := by
  have hgnt : (s.requestTaken ini code).bitR Reg.GNT_STATUS 4 = s.bitR Reg.GNT_STATUS 4 :=
    State.bitR_congr ((s.requestTaken_frame ini code).1 _ (by decide) (by decide)) 4
  have halarm : (s.requestTaken ini code).alarm = s.alarm := by
    rw [State.alarm, State.bitR, State.requestTaken_status h, putBit, bitOf_putFld_one _ _ _ _ (by decide)]
    rfl
  rw [State.reqErr, State.reqErr, hgnt, halarm]

/-- R51, R53, R59: a request is judged from the state in which it has been written. -/
theorem State.request_eq (ini : Initiator) (code : Nat) (hsleep : s.mode.sleep = 0) :
    s.request ini code =
      if (s.requestTaken ini code).phase = 0 then
        if code = 1 ∨ 12 ≤ code ∨ !reqKnown (s.requestTaken ini code).pmode code then
          (s.requestTaken ini code).refuseReq ((s.requestTaken ini code).reqErr code)
        else { s.requestTaken ini code with mode := { (s.requestTaken ini code).mode with req := some code } }
      else
        { (s.requestTaken ini code).setPending true with
          mode := { (s.requestTaken ini code).mode with req := some code } } := by
  have habort : s.sleepAbort = s := if_neg (by simp [hsleep])
  have hmode : (s.requestWrite code).mode = s.mode := by rw [(s.requestWrite_onlyRegsRec code).1]
  have htaken : s.requestTaken ini code = { (s.requestWrite code).setPending false with
      mode := { (s.requestWrite code).mode with
        req := none, held := false, auto := (s.requestWrite code).mode.auto && decide (ini = Initiator.service) } } := by
    rw [hmode]
    rfl
  rw [State.request, habort, htaken]
  rfl

/-! ## The three answers -/

/-- The codes that the table of R51 asks for; WAKE and the reserved codes are none of them (R59). -/
abbrev requestable (code : Nat) : Prop := code ≠ 1 ∧ code < 12

/-- R51: a request that its mode knows waits for the boundary. -/
theorem State.request_held (h : s.Inv) (ini : Initiator) {code : Nat} (hsleep : s.mode.sleep = 0) (hphase : s.phase = 0)
    (hcode : requestable code) (hknown : reqKnown s.pmode code = true) : RequestHeld code s (s.request ini code) := by
  obtain ⟨hregs, hmem⟩ := s.requestTaken_frame ini code
  rw [State.request_eq ini code hsleep, State.requestTaken_phase h, State.requestTaken_pmode h, if_pos hphase,
    if_neg (by simp [hknown, hcode.1, hcode.2])]
  exact ⟨rfl, rfl, State.requestTaken_pmode h ini code, State.requestTaken_req h.1 ini code,
    State.requestTaken_status h ini code, hregs, hmem⟩

/-- R53: a request made while a transition is in progress is pending. -/
theorem State.request_pending (h : s.Inv) (ini : Initiator) {code : Nat} (hsleep : s.mode.sleep = 0) (hphase : s.phase ≠ 0) :
    RequestPending code s (s.request ini code) := by
  obtain ⟨hregs, hmem⟩ := s.requestTaken_frame ini code
  have hwf : (s.requestTaken ini code).regsWf = true := (State.requestTaken_inv h ini code).1
  rw [State.request_eq ini code hsleep, State.requestTaken_phase h, if_neg hphase]
  refine ⟨rfl, State.bitR_setBit hwf _ 14 true (by decide), ?_, ?_, fun a ha hrec => ?_, hmem⟩
  · exact (State.fldR_setFld_apart hwf _ _ (by decide) (by decide)).trans (State.requestTaken_pmode h ini code)
  · exact (State.reg_setFld_ne _ 14 1 _ (by decide)).trans (State.requestTaken_req h.1 ini code)
  · refine (State.reg_setFld_ne _ 14 1 _ ?_).trans (hregs a ha hrec)
    rintro rfl
    exact ha (by decide)

/-- A refusal shows REQ_ERR and its event, and records them (R58, R59). -/
theorem State.refuseReq_shows (h : s.regsWf = true) {err : Nat} (herr : err < 16) :
    (s.refuseReq err).bitR Reg.PWR_MODE_EVT 2 = true ∧ (s.refuseReq err).pmode = s.pmode ∧
      (s.refuseReq err).fldR Reg.PWR_MODE_STATUS 16 4 = err ∧ (s.refuseReq err).mode = s.mode ∧
      OnlyRegsRec [Reg.PWR_MODE_STATUS, Reg.PWR_MODE_EVT] s (s.refuseReq err) := by
  have hset : (s.setFld Reg.PWR_MODE_STATUS 16 4 err).regsWf = true := State.regsWf_setReg h _ _
  have hrec : OnlyRegsRec [] ((s.setFld Reg.PWR_MODE_STATUS 16 4 err).evt Reg.PWR_MODE_EVT 2) (s.refuseReq err) :=
    (OnlyRegsRec.refl _ _).note
  have hstatus : (s.refuseReq err).reg Reg.PWR_MODE_STATUS = (s.setFld Reg.PWR_MODE_STATUS 16 4 err).reg Reg.PWR_MODE_STATUS :=
    (hrec.2 _ List.not_mem_nil (by decide)).trans (State.reg_evt_ne _ _ (by decide))
  have honly : OnlyRegsRec [Reg.PWR_MODE_STATUS, Reg.PWR_MODE_EVT] s (s.refuseReq err) :=
    (((OnlyRegsRec.refl _ s).setReg (by decide)).evt (by decide)).note
  refine ⟨?_, ?_, ?_, by rw [honly.1], honly⟩
  · rw [State.bitR_congr (hrec.2 _ List.not_mem_nil (by decide))]
    exact State.bitR_setBit hset _ 2 true (by decide)
  · exact (State.fldR_congr hstatus _ _).trans (State.fldR_setFld_apart h _ _ (by decide) (by decide))
  · rw [State.fldR_congr hstatus, State.fldR_setFld_self h _ _ (by decide)]
    exact Nat.mod_eq_of_lt herr

/-- R49, R268: GNT_VETO where the Gauntlet bars the mode, ALARM where the alarm does, and else ILLEGAL. -/
theorem State.reqErr_eq (s : State) (code : Nat) :
    s.reqErr code = if 4 ≤ code ∧ code ≤ 9 ∧ s.bitR Reg.GNT_STATUS 4 = true then 5
      else if s.alarm = true ∧ code ∈ [0, 1, 3, 8, 10] then 2 else 1 := by
  simp only [State.reqErr, Bool.and_eq_true, List.contains_eq_mem, decide_eq_true_eq]

theorem State.reqErr_lt (s : State) (code : Nat) : s.reqErr code < 16 := by
  rw [State.reqErr_eq]
  split
  · decide
  · split <;> decide

/-- R51, R59: a request that its mode does not know is refused at once, and so are WAKE and the reserved codes. -/
theorem State.request_refused (h : s.Inv) (ini : Initiator) {code : Nat} (hsleep : s.mode.sleep = 0) (hphase : s.phase = 0)
    (hbad : ¬ requestable code ∨ reqKnown s.pmode code = false) : RequestRefused code s (s.request ini code) := by
  obtain ⟨hregs, hmem⟩ := s.requestTaken_frame ini code
  obtain ⟨hevt, hpmode, herr, hmode, honly⟩ :=
    State.refuseReq_shows (State.requestTaken_inv h ini code).1 (s.reqErr_lt code)
  have hcond : code = 1 ∨ 12 ≤ code ∨ (!reqKnown s.pmode code) = true := by
    rcases hbad with hcode | hknown
    · omega
    · simp [hknown]
  rw [State.request_eq ini code hsleep, State.requestTaken_phase h, State.requestTaken_pmode h,
    State.requestTaken_reqErr h, if_pos hphase, if_pos hcond]
  refine ⟨by rw [hmode]; rfl, hevt, hpmode.trans (State.requestTaken_pmode h ini code), herr.trans (s.reqErr_eq code),
    fun a ha hrec => ?_, hmem.trans honly.sameMemories⟩
  simp only [List.mem_cons, List.not_mem_nil, or_false, not_or] at ha
  obtain ⟨hreq, hstatus, hev⟩ := ha
  exact (honly.2 a (by simp [hstatus, hev]) hrec).trans (hregs a (by simp [hreq, hstatus]) hrec)

/-! ## The rows -/

/-- R537: PWR_MODE_REQ is reached while the application side runs. -/
theorem reaches_PWR_MODE_REQ {ini : Initiator} (hadm : s.admits ini = true) (hon : s.appOn = true) :
    Reaches s ini Reg.PWR_MODE_REQ := by
  have hgate : gateBit Reg.PWR_MODE_REQ = none := by decide
  exact ⟨hadm, by simp [State.reach, hon, hgate]⟩

/-- The row of each code that R51 asks for. (Not compiled: commands have more constructors than the runtime has tags.) -/
noncomputable def requestRows (ini : Initiator) : List (Nat × Instr) :=
  [(0, .requestThermos ini), (2, .requestTrail ini), (3, .requestLoad ini), (4, .requestBalanced ini), (5, .requestSwift ini),
    (6, .requestWide ini), (7, .requestDeep ini), (8, .requestMeasure ini), (9, .requestStandby ini), (10, .requestMaintain ini),
    (11, .requestSafeHold ini)]

/-- The rows of WAKE and of the reserved codes. -/
noncomputable def refusedRows (ini : Initiator) : List (Nat × Instr) :=
  [(1, .requestWake ini), (12, .requestReserved ini 0), (13, .requestReserved ini 1), (14, .requestReserved ini 2),
    (15, .requestReserved ini 3)]

theorem exec_requestRows (ini : Initiator) (s : State) :
    ∀ e ∈ requestRows ini ++ refusedRows ini, exec e.2 s = s.requestRow ini e.1 := by
  simp only [requestRows, refusedRows, List.cons_append, List.nil_append, List.forall_mem_cons, List.not_mem_nil,
    false_implies, implies_true, and_true]
  exact ⟨rfl, rfl, rfl, rfl, rfl, rfl, rfl, rfl, rfl, rfl, rfl, rfl, rfl, rfl, rfl, rfl⟩

/-- A row that reaches PWR_MODE_REQ gives what the request gives. -/
theorem completes_requestRow {ini : Initiator} {i : Instr} {code : Nat} {P : State → Prop}
    (hreach : Reaches s ini Reg.PWR_MODE_REQ) (hexec : exec i s = s.requestRow ini code) (hP : P (s.request ini code)) :
    Completes i s P := Completes.of (hexec.trans (State.access_reaches _ hreach)) hP

/-- Settles O12: each row writes PWR_MODE_REQ, and PHASE, the mode's table and the code decide which of the three answers
the write gets. -/
theorem modeRequests : Obligations.ModeRequests := by
  unfold Obligations.ModeRequests
  intro ini s hinv hadm hon hsleep
  have hreach := reaches_PWR_MODE_REQ hadm hon
  refine ⟨fun hphase => ?_, fun hphase => ?_⟩
  · have held : ∀ {i : Instr} {code : Nat}, exec i s = s.requestRow ini code → requestable code →
        reqKnown s.pmode code = true → Completes i s (RequestHeld code s) := fun hexec hcode hknown =>
      completes_requestRow hreach hexec (State.request_held hinv ini hsleep hphase hcode hknown)
    have refused : ∀ {i : Instr} {code : Nat}, exec i s = s.requestRow ini code →
        (¬ requestable code ∨ reqKnown s.pmode code = false) → Completes i s (RequestRefused code s) := fun hexec hbad =>
      completes_requestRow hreach hexec (State.request_refused hinv ini hsleep hphase hbad)
    refine ⟨held rfl (by decide), held rfl (by decide), held rfl (by decide), held rfl (by decide), held rfl (by decide),
      held rfl (by decide), held rfl (by decide), held rfl (by decide), held rfl (by decide), held rfl (by decide),
      held rfl (by decide), refused rfl (Or.inl (by decide)), fun k => refused rfl (Or.inl (by omega)), fun e he hknown => ?_⟩
    exact refused (exec_requestRows ini s e (List.mem_append_left (refusedRows ini) he)) (Or.inr hknown)
  · intro e he
    exact completes_requestRow hreach (exec_requestRows ini s e he) (State.request_pending hinv ini hsleep hphase)

end Sys2Proof.Machine
end

section
/-!
# The millisecond boundary (R24, R51, R52, R54)

A request that acts at a 1 ms boundary without a train, and the end of a restart's preparation. What a mode brings with it
(the Gauntlet's fault outputs, the DRAM service, the pair) leaves the mode controller's own registers alone (`ModeKept`).
-/
namespace Sys2Proof.Machine

variable {r s t : State}

/-! ## What the mode brings with it leaves the mode's registers alone -/

/-- The registers in which an entered mode shows its transition, and the injection registers. -/
abbrev modeShown : List Nat := [Reg.PWR_MODE_EVT, Reg.PWR_MODE_CAUSE, Reg.INT_INJ0, Reg.INT_INJ1]

/-- From `r` to `s` the mode, its transition's registers, the injection registers, on-chip SRAM and both flashes stay. -/
structure ModeKept (r s : State) : Prop where
  inv : s.Inv
  pmode : s.pmode = r.pmode
  target : s.fldR Reg.PWR_MODE_STATUS 4 4 = r.fldR Reg.PWR_MODE_STATUS 4 4
  reg : ∀ a ∈ modeShown, s.reg a = r.reg a
  sram : s.sram = r.sram
  boot : s.boot = r.boot
  gflash : s.gflash = r.gflash

theorem ModeKept.refl (h : s.Inv) : ModeKept s s := ⟨h, rfl, rfl, fun _ _ => rfl, rfl, rfl, rfl⟩

theorem ModeKept.trans (h : ModeKept r s) (k : ModeKept s t) : ModeKept r t :=
  ⟨k.inv, k.pmode.trans h.pmode, k.target.trans h.target, fun a ha => (k.reg a ha).trans (h.reg a ha), k.sram.trans h.sram,
    k.boot.trans h.boot, k.gflash.trans h.gflash⟩

theorem ModeKept.setReg {a v} (h : ModeKept r s) (ha : a ∉ Reg.PWR_MODE_STATUS :: modeShown := by decide) :
    ModeKept r (s.setReg a v) := by
  rw [List.mem_cons, not_or] at ha
  obtain ⟨hstatus, hshown⟩ := ha
  have hmode : (s.setReg a v).reg Reg.PWR_MODE_STATUS = s.reg Reg.PWR_MODE_STATUS := s.reg_setReg_ne v (Ne.symm hstatus)
  refine h.trans ⟨((Keep.refl s).setReg _ _).inv h.inv, State.fldR_congr hmode 0 4, State.fldR_congr hmode 4 4,
    fun b hb => s.reg_setReg_ne v ?_, rfl, rfl, rfl⟩
  rintro rfl
  exact hshown hb

theorem ModeKept.setFld {a lo n v} (h : ModeKept r s) (ha : a ∉ Reg.PWR_MODE_STATUS :: modeShown := by decide) :
    ModeKept r (s.setFld a lo n v) := h.setReg ha

theorem ModeKept.setBit {a i b} (h : ModeKept r s) (ha : a ∉ Reg.PWR_MODE_STATUS :: modeShown := by decide) :
    ModeKept r (s.setBit a i b) := h.setReg ha

theorem ModeKept.evt {a i} (h : ModeKept r s) (ha : a ∉ Reg.PWR_MODE_STATUS :: modeShown := by decide) :
    ModeKept r (s.evt a i) := h.setReg ha

/-- A field of PWR_MODE_STATUS beyond the mode and its target. -/
theorem ModeKept.setStatus {lo n v} (h : ModeKept r s) (hlo : 8 ≤ lo := by decide) :
    ModeKept r (s.setFld Reg.PWR_MODE_STATUS lo n v) := by
  have hwf : s.regsWf = true := h.inv.1
  refine h.trans ⟨(Keep.refl s).setFld.inv h.inv, State.fldR_setFld_apart hwf _ _ (by omega) (by decide),
    State.fldR_setFld_apart hwf _ _ (by omega) (by decide), fun b hb => State.reg_setFld_ne s lo n v ?_, rfl, rfl, rfl⟩
  rintro rfl
  exact absurd hb (by decide)

theorem ModeKept.note {src code data} (h : ModeKept r s) : ModeKept r (s.note src code data) := by
  have hrec : OnlyRegsRec [] s (s.note src code data) := (OnlyRegsRec.refl [] s).note
  have hmode := hrec.2 Reg.PWR_MODE_STATUS List.not_mem_nil (by decide)
  obtain ⟨hsram, -, hboot, hgflash⟩ := hrec.sameMemories
  have hshown : ∀ a ∈ modeShown, recReg a = false := by decide
  exact h.trans ⟨(Keep.refl s).note.inv h.inv, State.fldR_congr hmode 0 4, State.fldR_congr hmode 4 4,
    fun a ha => hrec.2 a List.not_mem_nil (hshown a ha), hsram, hboot, hgflash⟩

theorem ModeKept.frame (h : ModeKept r s) {gnt drc twin} : ModeKept r { s with gnt, drc, twin } :=
  h.trans ⟨(Keep.refl s).frame.inv h.inv, rfl, rfl, fun _ _ => rfl, rfl, rfl, rfl⟩

theorem ModeKept.clearDram (h : ModeKept r s) (p : Nat → Bool) : ModeKept r { s with dram := Store.clear p s.dram } :=
  h.trans ⟨((Keep.refl s).clearDram p).inv h.inv, rfl, rfl, fun _ _ => rfl, rfl, rfl, rfl⟩

theorem ModeKept.branch {c : Prop} [Decidable c] (h : ModeKept r s) (k : ModeKept r t) : ModeKept r (if c then s else t) := by
  split
  · exact h
  · exact k

theorem ModeKept.when {c : Bool} {f : State → State} (h : ModeKept r s) (k : ∀ x, ModeKept r x → ModeKept r (f x)) :
    ModeKept r (s.when c f) := (k s h).branch h

theorem ModeKept.alarmSync (h : ModeKept r s) : ModeKept r s.alarmSync :=
  ModeKept.setStatus h.setStatus

theorem ModeKept.fltSync (h : ModeKept r s) : ModeKept r s.fltSync :=
  h.setReg

theorem ModeKept.selfRefresh {b} (h : ModeKept r s) : ModeKept r (s.selfRefresh b) :=
  ModeKept.frame h.setFld.setBit.setReg.setFld

theorem ModeKept.dramLow (h : ModeKept r s) : ModeKept r s.dramLow :=
  h.selfRefresh.setFld.branch h

theorem ModeKept.dramFull (h : ModeKept r s) : ModeKept r s.dramFull := by
  unfold State.dramFull
  extract_lets gone _ s1
  have hs1 : ModeKept r s1 := (h.clearDram gone).frame
  exact hs1.setFld.setBit.setBit.setBit.branch h

/-- The DRAM service of a mode (R503). -/
theorem ModeKept.modeDram {m} (h : ModeKept r s) : ModeKept r (s.modeDram m) :=
  h.dramLow.branch (h.dramFull.branch h)

theorem ModeKept.setSync {v} (h : ModeKept r s) : ModeKept r (s.setSync v) :=
  h.branch h.setFld.evt.note

theorem ModeKept.dualEnd (h : ModeKept r s) : ModeKept r s.dualEnd :=
  h.setBit.note.branch h

/-- The pair follows the mode (R292). -/
theorem ModeKept.twinSync (h : ModeKept r s) : ModeKept r s.twinSync := by
  unfold State.twinSync
  extract_lets _ _ s1 t _ s2 s3 t2
  have hs1 : ModeKept r s1 := h.setBit.setBit
  have ht : ModeKept r t := hs1.setSync.frame
  have hs2 : ModeKept r s2 := hs1.branch ht.frame
  have hs3 : ModeKept r s3 := hs2.when fun _ k => k.dualEnd
  have ht2 : ModeKept r t2 := hs3.setBit
  exact hs3.branch (ht2.frame.branch hs3)

/-! ## A mode without a train is entered -/

/-- PWR_MODE and TARGET show a mode, and FIR_MAX_TAPS its limit (R147). -/
def State.showTarget (s : State) (dest : Nat) : State :=
  ((s.setFld Reg.PWR_MODE_STATUS 0 4 dest).setFld Reg.PWR_MODE_STATUS 4 4 dest).setReg Reg.FIR_MAX_TAPS
    (w32 (s.rowFor dest).taps)

/-- WAKE W2 and LOAD are over. -/
def State.loadsOver (s : State) : State := { s with mode := { s.mode with w2 := none, load := none } }

/-- A mode is shown, with CHANGED. -/
def State.showMode (s : State) (dest : Nat) : State := (s.showTarget dest).loadsOver.evt Reg.PWR_MODE_EVT 0

theorem State.showMode_inv (h : s.Inv) (dest : Nat) : (s.showMode dest).Inv :=
  (Keep.evt (Keep.frame ((Keep.refl s).setFld.setFld.setReg _ _))).inv h

theorem State.when_decide_false {p : Prop} [Decidable p] (hp : ¬ p) (s : State) (f : State → State) :
    s.when (decide p) f = s := by rw [decide_eq_false hp, State.when_false]

/-- R51: the entry of a mode without a train, but SAFE-HOLD. -/
theorem State.setMode_plain {dest : Nat} (hne : s.pmode ≠ dest) (hmeas : s.pmode ≠ 8) (hdest : dest ≠ 11)
    (hplain : renders dest = false) :
    s.setMode dest =
      (((s.showMode dest).when (decide (s.pmode = 10)) State.leaveMaintain).alarmSync.fltSync.modeDram dest).twinSync := by
  have h9 : dest ≠ 9 := by
    rintro rfl
    exact absurd hplain (by decide)
  rw [State.setMode, State.setModeSync, if_neg hne]
  dsimp only
  rw [State.when_decide_false hdest, State.when_decide_false hmeas, State.when_decide_false h9, hplain, Bool.false_and,
    State.when_false]
  rfl

theorem State.showTarget_shows (h : s.regsWf = true) {dest : Nat} (hlt : dest < 16) :
    (s.showTarget dest).pmode = dest ∧ (s.showTarget dest).fldR Reg.PWR_MODE_STATUS 4 4 = dest ∧
      RegsBut [Reg.PWR_MODE_STATUS, Reg.FIR_MAX_TAPS] s (s.showTarget dest) := by
  have hmod : dest % 2 ^ 4 = dest := Nat.mod_eq_of_lt hlt
  have h0 : (s.setFld Reg.PWR_MODE_STATUS 0 4 dest).regsWf = true := State.regsWf_setReg h _ _
  have hstatus : (s.showTarget dest).reg Reg.PWR_MODE_STATUS =
      ((s.setFld Reg.PWR_MODE_STATUS 0 4 dest).setFld Reg.PWR_MODE_STATUS 4 4 dest).reg Reg.PWR_MODE_STATUS :=
    State.reg_setReg_ne _ _ (by decide)
  refine ⟨?_, ?_, fun a ha => ?_⟩
  · rw [State.pmode, State.fldR_congr hstatus, State.fldR_setFld_apart h0 _ _ (by decide) (by decide),
      State.fldR_setFld_self h _ _ (by decide), hmod]
  · rw [State.fldR_congr hstatus, State.fldR_setFld_self h0 _ _ (by decide), hmod]
  · simp only [List.mem_cons, List.not_mem_nil, or_false, not_or] at ha
    rw [State.showTarget, State.reg_setReg_ne _ _ ha.2, State.reg_setFld_ne _ _ _ _ ha.1, State.reg_setFld_ne _ _ _ _ ha.1]

/-- A mode that is shown reads back with CHANGED, and the other registers and the memories stay. -/
theorem State.showMode_shows (h : s.regsWf = true) {dest : Nat} (hlt : dest < 16) :
    (s.showMode dest).pmode = dest ∧ (s.showMode dest).fldR Reg.PWR_MODE_STATUS 4 4 = dest ∧
      (s.showMode dest).bitR Reg.PWR_MODE_EVT 0 = true ∧
      RegsBut [Reg.PWR_MODE_STATUS, Reg.FIR_MAX_TAPS, Reg.PWR_MODE_EVT] s (s.showMode dest) ∧
      SameMemories s (s.showMode dest) := by
  obtain ⟨hpmode, htarget, hregs⟩ := State.showTarget_shows h hlt
  have hwf : (s.showTarget dest).loadsOver.regsWf = true :=
    State.regsWf_setReg (State.regsWf_setReg (State.regsWf_setReg h _ _) _ _) _ _
  have hreg : ∀ a, a ≠ Reg.PWR_MODE_EVT → (s.showMode dest).reg a = (s.showTarget dest).reg a :=
    fun a ha => State.reg_evt_ne _ 0 ha
  have hstatus := hreg Reg.PWR_MODE_STATUS (by decide)
  refine ⟨(State.fldR_congr hstatus 0 4).trans hpmode, (State.fldR_congr hstatus 4 4).trans htarget,
    State.bitR_setBit hwf _ 0 true (by decide), fun a ha => ?_, rfl, rfl, rfl, rfl⟩
  simp only [List.mem_cons, List.not_mem_nil, or_false, not_or] at ha
  rw [hreg a ha.2.2, hregs a (by simp [ha.1, ha.2.1])]

/-- Injection outside the proof-test set ends, and nothing but the test multiplexer goes with it (R48, R51, R450). -/
theorem State.leaveMaintain_shows (h : s.regsWf = true) :
    s.leaveMaintain.reg Reg.INT_INJ0 = s.reg Reg.INT_INJ0 &&& 0x2E000000 ∧ s.leaveMaintain.reg Reg.INT_INJ1 = 0 ∧
      RegsBut [Reg.INT_INJ0, Reg.INT_INJ1, Reg.INT_TM_CTL] s s.leaveMaintain ∧ SameMemories s s.leaveMaintain := by
  have h0 : (s.setReg Reg.INT_INJ0 (s.reg Reg.INT_INJ0 &&& 0x2E000000)).regsWf = true := State.regsWf_setReg h _ _
  have htm : RegsBut [Reg.INT_TM_CTL]
      ((s.setReg Reg.INT_INJ0 (s.reg Reg.INT_INJ0 &&& 0x2E000000)).setReg Reg.INT_INJ1 0) s.leaveMaintain :=
    fun a ha => State.reg_setFld_ne _ 0 1 _ (by simpa using ha)
  refine ⟨?_, ?_, fun a ha => ?_, rfl, rfl, rfl, rfl⟩
  · rw [htm _ (by decide), State.reg_setReg_ne _ _ (by decide), State.reg_setReg_self h]
  · rw [htm _ (by decide), State.reg_setReg_self h0]
  · simp only [List.mem_cons, List.not_mem_nil, or_false, not_or] at ha
    obtain ⟨ha0, ha1, hatm⟩ := ha
    rw [htm a (by simpa using hatm), State.reg_setReg_ne _ _ ha1, State.reg_setReg_ne _ _ ha0]

/-- What the entry of mode `dest` from `s` shows in `t`: the mode and its target, CHANGED, the cause as it stands in `s`,
the end of the injections where MAINTAIN is left, and the memories but DRAM as before. -/
structure ModeEntered (dest : Nat) (s t : State) : Prop where
  pmode : t.pmode = dest
  target : t.fldR Reg.PWR_MODE_STATUS 4 4 = dest
  changed : t.bitR Reg.PWR_MODE_EVT 0 = true
  cause : t.reg Reg.PWR_MODE_CAUSE = s.reg Reg.PWR_MODE_CAUSE
  injection : s.pmode = 10 → t.reg Reg.INT_INJ0 = s.reg Reg.INT_INJ0 &&& 0x2E000000 ∧ t.reg Reg.INT_INJ1 = 0
  sram : t.sram = s.sram
  boot : t.boot = s.boot
  gflash : t.gflash = s.gflash

/-- What keeps the mode keeps its entry. -/
theorem ModeEntered.kept {dest : Nat} (h : ModeEntered dest r s) (k : ModeKept s t) : ModeEntered dest r t where
  pmode := k.pmode.trans h.pmode
  target := k.target.trans h.target
  changed := (State.bitR_congr (k.reg _ (by decide)) 0).trans h.changed
  cause := (k.reg _ (by decide)).trans h.cause
  injection hm := by
    rw [k.reg Reg.INT_INJ0 (by decide), k.reg Reg.INT_INJ1 (by decide)]
    exact h.injection hm
  sram := k.sram.trans h.sram
  boot := k.boot.trans h.boot
  gflash := k.gflash.trans h.gflash

/-- A mode is entered once it is shown and what leaving MAINTAIN ends has ended. -/
theorem State.showMode_entered (h : s.Inv) {dest : Nat} (hlt : dest < 16) :
    ModeEntered dest s ((s.showMode dest).when (decide (s.pmode = 10)) State.leaveMaintain) := by
  obtain ⟨hpmode, htarget, hchanged, hregs, hsram, -, hboot, hgflash⟩ := State.showMode_shows h.1 hlt
  by_cases hm : s.pmode = 10
  · obtain ⟨hinj0, hinj1, kregs, ksram, -, kboot, kgflash⟩ := State.leaveMaintain_shows (State.showMode_inv h dest).1
    have hstatus := kregs Reg.PWR_MODE_STATUS (by decide)
    rw [decide_eq_true hm, State.when_true]
    exact
      { pmode := (State.fldR_congr hstatus 0 4).trans hpmode
        target := (State.fldR_congr hstatus 4 4).trans htarget
        changed := (State.bitR_congr (kregs _ (by decide)) 0).trans hchanged
        cause := (kregs _ (by decide)).trans (hregs _ (by decide))
        injection := fun _ => ⟨hinj0.trans (by rw [hregs _ (by decide)]), hinj1⟩
        sram := ksram.trans hsram
        boot := kboot.trans hboot
        gflash := kgflash.trans hgflash }
  · rw [State.when_decide_false hm]
    exact ⟨hpmode, htarget, hchanged, hregs _ (by decide), fun hm' => absurd hm' hm, hsram, hboot, hgflash⟩

/-- R51: what the entry of a mode without a train shows, but that of SAFE-HOLD. -/
theorem State.setMode_entered (h : s.Inv) {dest : Nat} (hne : s.pmode ≠ dest) (hmeas : s.pmode ≠ 8) (hdest : dest ≠ 11)
    (hplain : renders dest = false) (hlt : dest < 16) : ModeEntered dest s (s.setMode dest) := by
  have hinv : ((s.showMode dest).when (decide (s.pmode = 10)) State.leaveMaintain).Inv :=
    ((Keep.refl (s.showMode dest)).when fun _ k => k.leaveMaintain).inv (State.showMode_inv h dest)
  rw [State.setMode_plain hne hmeas hdest hplain]
  exact (State.showMode_entered h hlt).kept (ModeKept.refl hinv).alarmSync.fltSync.modeDram.twinSync

/-! ## A request acts at the boundary (R51, R52, R58) -/

/-- R58: a transition without a detector is shown in PWR_MODE_CAUSE. -/
theorem State.modeNote_shows (h : s.Inv) (dest : Nat) {cause det : Nat} (hcause : cause ≠ 5) :
    (s.modeNote dest cause det).reg Reg.PWR_MODE_CAUSE = w32 (s.pmode + 16 * dest + 256 * cause) ∧
      OnlyRegsRec [Reg.PWR_MODE_CAUSE] s (s.modeNote dest cause det) := by
  have hword : s.pmode + 16 * dest + 256 * cause + 4096 * (if cause = 5 then det else 0) =
      s.pmode + 16 * dest + 256 * cause := by rw [if_neg hcause, Nat.mul_zero, Nat.add_zero]
  have hnote : OnlyRegsRec [] (s.setReg Reg.PWR_MODE_CAUSE (w32 (s.pmode + 16 * dest + 256 * cause)))
      (s.modeNote dest cause det) := by
    rw [State.modeNote, hword]
    exact (OnlyRegsRec.refl _ _).note
  refine ⟨?_, ((OnlyRegsRec.refl _ s).setReg (by decide)).note⟩
  rw [hnote.2 _ List.not_mem_nil (by decide), State.reg_setReg_self h.1]

/-- R51, R58: a transition without a train to a mode without one, that no fault causes. -/
theorem State.goMode_entered (h : s.Inv) {dest : Nat} (hne : s.pmode ≠ dest) (hmeas : s.pmode ≠ 8) (hdest : dest ≠ 11)
    (hplain : renders dest = false) (hlt : dest < 16) :
    ModeEntered dest (s.modeNote dest 0 0) (s.goMode dest 0 0) := by
  obtain ⟨-, honly⟩ := State.modeNote_shows h dest (cause := 0) (det := 0) (by decide)
  have hpmode : (s.modeNote dest 0 0).pmode = s.pmode :=
    State.fldR_congr (honly.2 Reg.PWR_MODE_STATUS (by decide) (by decide)) 0 4
  have hinv : (s.modeNote dest 0 0).Inv := (Keep.refl s).modeNote.inv h
  have hset := State.setMode_entered hinv (hpmode ▸ hne) (hpmode ▸ hmeas) hdest hplain hlt
  have hgo : s.goMode dest 0 0 = ((s.modeNote dest 0 0).setMode dest).setPhase 0 := by
    rw [State.goMode, decide_eq_false hdest, Bool.false_and, State.when_false]
  rw [hgo]
  exact hset.kept (ModeKept.setStatus (ModeKept.refl ((Keep.refl _).setMode.inv hinv)))

/-- A request that acts is neither waiting nor pending any more. -/
def State.requestActs (s : State) : State := { s.setPending false with mode := { s.mode with req := none } }

/-- The requests from a mode without a train to another (R51): for MAINTAIN in TRAIL, and for TRAIL in MAINTAIN and SAFE-HOLD. -/
abbrev trainless (m code : Nat) : Prop := m = 2 ∧ code = 10 ∨ m = 10 ∧ code = 2 ∨ m = 11 ∧ code = 2

theorem State.requestActs_inv (h : s.Inv) : s.requestActs.Inv := (Keep.refl s).setPending.frame.inv h

theorem State.requestActs_regs (s : State) : RegsBut [Reg.PWR_MODE_STATUS] s s.requestActs :=
  fun _ ha => State.reg_setFld_ne s 14 1 _ (by simpa using ha)

theorem State.requestActs_pmode (h : s.regsWf = true) : s.requestActs.pmode = s.pmode :=
  State.fldR_setFld_apart h _ _ (by decide) (by decide)

theorem State.requestActs_alarm (h : s.regsWf = true) : s.requestActs.alarm = s.alarm :=
  State.bitR_setBit h _ 14 false (by decide)

/-- R51: a request between modes without a train acts by the transition alone. -/
theorem State.evalReq_trainless (h : s.regsWf = true) {code : Nat} (hgnt : s.bitR Reg.GNT_STATUS 4 = false)
    (halarm : s.alarm = false) (hmove : trainless s.pmode code) : s.evalReq code = s.requestActs.goMode code 0 0 := by
  have herr : s.requestActs.reqErr code = 1 := by
    rw [State.reqErr_eq, State.bitR_congr (s.requestActs_regs Reg.GNT_STATUS (by decide)), hgnt,
      State.requestActs_alarm h, halarm]
    simp
  unfold State.evalReq
  extract_lets m _ _ s2 err
  have hacts : s2 = s.requestActs := rfl
  have hm : m = s.pmode := rfl
  have hpass : ¬ err ≠ 1 := fun hne => hne herr
  rw [if_neg hpass, hacts, hm]
  rcases hmove with ⟨hp, rfl⟩ | ⟨hp, rfl⟩ | ⟨hp, rfl⟩
  all_goals
    rw [hp]
    rfl

/-- R52: with no other cause and no swap that acts, a boundary acts on the request that waits. -/
theorem State.boundary_onlyRequest {code : Nat} (hreq : OnlyRequest s code) (hswap : s.swapJudge s.blk.n = SwapAct.wait)
    (hwake : s.pmode ≠ 1) : s.boundary false = s.evalReq code := by
  obtain ⟨hstop, hfault, hgnt, halarm, htwin, hw2, hload, hheld, hcode, hphase⟩ := hreq
  have hsame : ({ s with mode := { s.mode with fault := none } } : State) = s := by rw [← hfault]
  have hact : (if s.pmode = 1 ∨ s.pmode = 3 then SwapAct.wait else s.swapJudge s.blk.n) = SwapAct.wait := by
    rw [hswap, ite_self]
  rw [State.boundary, hsame, hstop, hfault, hgnt, if_neg (by simp), if_neg (by simp)]
  dsimp only
  rw [State.lesserCause, halarm, htwin, hw2, hload, ite_self, ite_self, if_neg (by simp), if_neg (by simp)]
  dsimp only
  rw [State.swapOrReq, hact]
  dsimp only
  rw [hcode, hheld]
  dsimp only
  rw [if_neg (by simp [hphase, hwake])]

/-- The counter has reached the 1 ms boundary at `n`. -/
def State.atBoundary (s : State) (n : Nat) : State :=
  { s.advanceTo n with mode := { (s.advanceTo n).mode with lastMs := some n } }

theorem State.atBoundary_inv (h : s.Inv) (n : Nat) : (s.atBoundary n).Inv := (Keep.refl s).advanceTo.frame.inv h

/-- Of what a boundary looks at only the counter and the boundary's own time have changed. -/
theorem State.atBoundary_frame (s : State) (n : Nat) :
    ∃ regs tim, s.atBoundary n = { s with regs := regs, tim := tim, mode := { s.mode with lastMs := some n } } := by
  obtain ⟨heq, -⟩ := s.advanceTo_frame n
  rw [State.atBoundary]
  generalize s.advanceTo n = a at heq
  exact ⟨a.regs, a.tim, by rw [heq]⟩

theorem State.reg_mode (s : State) (x : ModeSt) (a : Nat) : ({ s with mode := x } : State).reg a = s.reg a := rfl

theorem State.atBoundary_regs (s : State) (n : Nat) : RegsBut [Reg.TIM_ERA, Reg.TIM_EVT] s (s.atBoundary n) :=
  fun a ha => (State.reg_mode _ _ a).trans ((s.advanceTo_frame n).2 a ha)

/-- R52: a 1 ms boundary of the application side without a train. -/
theorem exec_msBoundary (hon : (s.atBoundary s.msNext).appOn = true) (hrun : (s.atBoundary s.msNext).running = false) :
    exec .msBoundary s = .next ((s.atBoundary s.msNext).boundary false) := by
  have hheld : (s.atBoundary s.msNext).held = false := by simpa [State.appOn] using hon
  have hact : ¬ ((s.atBoundary s.msNext).held || (s.atBoundary s.msNext).running) = true := by simp [hheld, hrun]
  exact congrArg Host.Outcome.next (if_neg hact)

/-- The judgement of a swap does not read what the mode controller keeps beside its registers. -/
theorem State.swapJudge_mode (s : State) (x : ModeSt) (n : Nat) : ({ s with mode := x } : State).swapJudge n = s.swapJudge n :=
  rfl

/-- What a request for mode `code` that acts in `s` shows in `t`: the mode, CHANGED, the transition, the end of the injections
where MAINTAIN is left, and the memories but DRAM as before. -/
abbrev RequestActed (code : Nat) (s t : State) : Prop :=
  t.pmode = code ∧ t.fldR Reg.PWR_MODE_STATUS 4 4 = code ∧ t.bitR Reg.PWR_MODE_EVT 0 = true ∧
    t.reg Reg.PWR_MODE_CAUSE = w32 (s.pmode + 16 * code) ∧
    (s.pmode = 10 → t.reg Reg.INT_INJ0 = s.reg Reg.INT_INJ0 &&& 0x2E000000 ∧ t.reg Reg.INT_INJ1 = 0) ∧
    t.boot = s.boot ∧ t.gflash = s.gflash ∧ t.sram = s.sram

/-- R51, R58: a request between modes without a train acts. -/
theorem State.evalReq_acts (h : s.Inv) {code : Nat} (hgnt : s.bitR Reg.GNT_STATUS 4 = false) (halarm : s.alarm = false)
    (hmove : trainless s.pmode code) : RequestActed code s (s.evalReq code) := by
  have hpmode := State.requestActs_pmode h.1
  have hinv := State.requestActs_inv h
  obtain ⟨hcause, honly⟩ := State.modeNote_shows hinv code (cause := 0) (det := 0) (by decide)
  have hnote : (s.requestActs.modeNote code 0 0).pmode = s.pmode :=
    (State.fldR_congr (honly.2 Reg.PWR_MODE_STATUS (by decide) (by decide)) 0 4).trans hpmode
  have hinj : (s.requestActs.modeNote code 0 0).reg Reg.INT_INJ0 = s.reg Reg.INT_INJ0 :=
    (honly.2 _ (by decide) (by decide)).trans (s.requestActs_regs _ (by decide))
  obtain ⟨hsram, -, hboot, hgflash⟩ := honly.sameMemories
  have hplain : renders code = false := by
    rcases hmove with ⟨-, rfl⟩ | ⟨-, rfl⟩ | ⟨-, rfl⟩ <;> decide
  have hgo := State.goMode_entered hinv (dest := code) (by omega) (by omega) (by omega) hplain (by omega)
  rw [State.evalReq_trainless h.1 hgnt halarm hmove]
  refine ⟨hgo.pmode, hgo.target, hgo.changed, ?_, fun hm => ?_, hgo.boot.trans hboot, hgo.gflash.trans hgflash,
    hgo.sram.trans hsram⟩
  · rw [hgo.cause, hcause, hpmode, Nat.mul_zero, Nat.add_zero]
  · rw [← hinj]
    exact hgo.injection (hnote.trans hm)

theorem State.atBoundary_mode (s : State) (n : Nat) : (s.atBoundary n).mode = { s.mode with lastMs := some n } := by
  obtain ⟨regs, tim, heq⟩ := s.atBoundary_frame n
  rw [heq]

theorem State.atBoundary_onlyRequest {code : Nat} (h : OnlyRequest s code) (n : Nat) : OnlyRequest (s.atBoundary n) code := by
  obtain ⟨hstop, hfault, hgnt, halarm, htwin, hw2, hload, hheld, hcode, hphase⟩ := h
  have hregs := s.atBoundary_regs n
  rw [OnlyRequest, s.atBoundary_mode n]
  exact ⟨hstop, hfault, (State.bitR_congr (hregs _ (by decide)) 4).trans hgnt, halarm, htwin, hw2, hload, hheld, hcode,
    (State.fldR_congr (hregs Reg.PWR_MODE_STATUS (by decide)) 8 3).trans hphase⟩

theorem State.atBoundary_appOn (s : State) (n : Nat) : (s.atBoundary n).appOn = s.appOn := by
  have hpwr : (s.atBoundary n).pwr = s.pwr := by
    obtain ⟨regs, tim, heq⟩ := s.atBoundary_frame n
    rw [heq]
  rw [State.appOn, State.appOn, State.held, State.held, hpwr,
    State.bitR_congr (s.atBoundary_regs n Reg.PWR_STATUS (by decide))]

/-- R51, R52: at a 1 ms boundary with no earlier cause and no swap, a request between modes without a train acts. -/
theorem msBoundary_completes (h : s.Inv) {code : Nat} (hon : s.appOn = true) (hrun : s.running = false)
    (hreq : OnlyRequest s code) (halarm : s.alarm = false)
    (hswap : (s.advanceTo s.msNext).swapJudge s.blk.n = SwapAct.wait) (hmove : trainless s.pmode code) :
    Completes .msBoundary s (RequestActed code s) := by
  obtain ⟨n, hn⟩ : ∃ n, n = s.msNext := ⟨_, rfl⟩
  obtain ⟨regs, tim, hframe⟩ := s.atBoundary_frame n
  have hregs := s.atBoundary_regs n
  have hstatus := hregs Reg.PWR_MODE_STATUS (by decide)
  have hpmode : (s.atBoundary n).pmode = s.pmode := State.fldR_congr hstatus 0 4
  have hreq' := State.atBoundary_onlyRequest hreq n
  have hblk : (s.atBoundary n).blk = s.blk := by rw [hframe]
  have hjudge : (s.atBoundary n).swapJudge (s.atBoundary n).blk.n = SwapAct.wait := by
    rw [← hn] at hswap
    rw [hblk]
    exact (State.swapJudge_mode _ _ _).trans hswap
  have hexec := exec_msBoundary (s := s) (by rw [State.atBoundary_appOn, hon])
    ((State.bitR_congr (s.atBoundary_regs _ Reg.RND_BLK_STATUS (by decide)) 0).trans hrun)
  rw [← hn, State.boundary_onlyRequest hreq' hjudge (by omega)] at hexec
  obtain ⟨-, -, hgnt, -⟩ := hreq'
  obtain ⟨hp, htarget, hchanged, hcause, hinj, hboot, hgflash, hsram⟩ := State.evalReq_acts (State.atBoundary_inv h n)
    hgnt ((State.bitR_congr hstatus 12).trans halarm) (by rw [hpmode]; exact hmove)
  rw [hpmode] at hcause hinj
  rw [hregs Reg.INT_INJ0 (by decide)] at hinj
  have hmem : SameMemories s (s.atBoundary n) := by
    rw [hframe]
    exact ⟨rfl, rfl, rfl, rfl⟩
  obtain ⟨msram, -, mboot, mgflash⟩ := hmem
  exact Completes.of hexec ⟨hp, htarget, hchanged, hcause, hinj, hboot.trans mboot, hgflash.trans mgflash, hsram.trans msram⟩

/-! ## The end of a restart's preparation (R24, R54) -/

/-- The sequencer can be armed (R23, R480, R505). -/
abbrev Armable (s : State) : Prop :=
  renders s.pmode = true ∧ s.phase = 4 ∧ s.blk.prep = false ∧ s.blk.armed = false ∧ s.blk.next = none ∧
    s.running = false ∧ s.dramReady = true ∧ s.bitR Reg.CLK_STATUS 10 = false

/-- R24: a realigned train resumes at the next Tm. -/
theorem State.tryArm_realign (h : Armable s) (hre : s.blk.realign = true) :
    s.tryArm = { s with blk := { s.blk with realign := false, next := some s.nextTm } } := by
  obtain ⟨hmode, hphase, hprep, harmed, hnext, hrun, hdram, hclk⟩ := h
  rw [State.tryArm, if_pos (by simp [hmode, hphase, hprep, harmed, hnext, hrun, hdram, hclk]), if_pos hre]

/-- R54: a new train is armed with its mode's Fr and B. -/
theorem State.tryArm_new (h : Armable s) (hre : s.blk.realign = false) (hauto : s.mode.auto = false) :
    s.tryArm = { s with
      blk := { s.blk with armed := true, fr := (s.rowFor s.pmode).fr, b := (s.rowFor s.pmode).b }
      mode := { s.mode with objects := (s.rowFor s.pmode).objects } } := by
  obtain ⟨hmode, hphase, hprep, harmed, hnext, hrun, hdram, hclk⟩ := h
  rw [State.tryArm, if_pos (by simp [hmode, hphase, hprep, harmed, hnext, hrun, hdram, hclk]),
    if_neg (by simp [hre])]
  exact if_pos (by simp [hauto])

/-- The preparation of a restart is over. -/
def State.prepared (s : State) : State := { s with blk := { s.blk with prep := false } }

theorem exec_restartPrepDone (hon : s.appOn = true) (hprep : s.blk.prep = true) :
    exec .restartPrepDone s = .next s.prepared.tryArm := congrArg Host.Outcome.next (if_pos ⟨hon, hprep⟩)

/-- Settles O13: at a boundary a request that alone waits acts by `State.evalReq`, and what its mode brings with it keeps
what it shows; the end of a preparation is the arming of the train or its return to the next Tm. -/
theorem modeBoundary : Obligations.ModeBoundary := by
  unfold Obligations.ModeBoundary
  refine ⟨?_, ?_⟩
  · intro s code hinv hon hrun hreq halarm hswap hmove
    exact msBoundary_completes hinv hon hrun hreq halarm hswap hmove
  · intro s _ hon hprep hmode hphase harmed hnext hrun hdram hclk
    have harm : Armable s.prepared := ⟨hmode, hphase, rfl, harmed, hnext, hrun, hdram, hclk⟩
    have hexec := exec_restartPrepDone hon hprep
    refine ⟨fun hre hauto => ?_, fun hre => ?_⟩
    · rw [State.tryArm_new harm hre hauto] at hexec
      exact Completes.of hexec ⟨rfl, rfl, rfl, rfl, rfl, rfl, rfl⟩
    · rw [State.tryArm_realign harm hre] at hexec
      exact Completes.of hexec rfl

end Sys2Proof.Machine
end

section
/-!
# Registers of the geometry engine and of the render lanes (R42, R61, R64, R89, R123)
-/
namespace Sys2Proof.Machine

variable {s t : State}

/-- A tracked register that takes a value: it reads the value, and nothing but the write log moves with it (R296). -/
theorem State.setReg_logWrite (h : s.regsWf = true) (a : Nat) (v w : Word) :
    ((s.setReg a v).logWrite a w).reg a = v ∧ RegsBut [a] s ((s.setReg a v).logWrite a w) ∧
      SameMemories s ((s.setReg a v).logWrite a w) := by
  obtain ⟨twin, htwin⟩ := (s.setReg a v).logWrite_frame a w
  rw [htwin]
  exact ⟨State.reg_setReg_self h a v, fun b hb => s.reg_setReg_ne v (by simpa using hb), rfl, rfl, rfl, rfl⟩

/-- R61: GEO_C takes a speed of sound from 200.0 to 500.0 m/s. -/
theorem State.geoCWrite_taken {v : Word} (hlo : 200 * 2 ^ 22 ≤ v.toNat) (hhi : v.toNat ≤ 500 * 2 ^ 22) :
    s.geoCWrite v = (s.setReg Reg.GEO_C v).logWrite Reg.GEO_C v := if_pos ⟨hlo, hhi⟩

/-- R61: any other value raises C_RANGE and is not taken. -/
theorem State.geoCWrite_refused {v : Word} (h : v.toNat < 200 * 2 ^ 22 ∨ 500 * 2 ^ 22 < v.toNat) :
    s.geoCWrite v = s.geoEvt 3 4 0 0 s.blkNum := if_neg (by omega)

/-- R91: an event of the geometry engine sets its bit and is recorded, and nothing else changes. -/
theorem State.geoEvt_sets (h : s.regsWf = true) {bit : Nat} (hbit : bit < 32) (kind obj slot blk : Nat) :
    (s.geoEvt bit kind obj slot blk).bitR Reg.GEO_EVT bit = true ∧
      OnlyRegsRec [Reg.GEO_EVT] s (s.geoEvt bit kind obj slot blk) := by
  have hrec : OnlyRegsRec [] (s.evt Reg.GEO_EVT bit) (s.geoEvt bit kind obj slot blk) := (OnlyRegsRec.refl [] _).note
  refine ⟨?_, ((OnlyRegsRec.refl _ s).evt (Or.inl (List.mem_singleton_self _))).note⟩
  rw [State.bitR_congr (hrec.2 Reg.GEO_EVT List.not_mem_nil (by decide))]
  exact (State.bitR_setBit h _ bit true hbit).trans (if_pos rfl)

/-- R42, R89: a reset of the margins. -/
theorem State.marginRst_resets (h : s.regsWf = true) {v : Word} (hv : bitOf v 0 = true) :
    (s.marginRst v).reg Reg.RND_MARGIN2 = 0x7FFFFFFF ∧ (s.marginRst v).reg Reg.RND_MARGIN3 = 0x7FFFFFFF ∧
      (s.marginRst v).reg Reg.GEO_MARGIN = 0x7FFFFFFF ∧
      RegsBut [Reg.RND_MARGIN2, Reg.RND_MARGIN3, Reg.GEO_MARGIN] s (s.marginRst v) ∧ SameMemories s (s.marginRst v) := by
  have h2 := State.regsWf_setReg h Reg.RND_MARGIN2 0x7FFFFFFF
  have h3 := State.regsWf_setReg h2 Reg.RND_MARGIN3 0x7FFFFFFF
  unfold State.marginRst
  rw [if_pos hv]
  obtain ⟨twin, htwin⟩ := State.logWrite_frame
    (((s.setReg Reg.RND_MARGIN2 0x7FFFFFFF).setReg Reg.RND_MARGIN3 0x7FFFFFFF).setReg Reg.GEO_MARGIN 0x7FFFFFFF)
    Reg.RND_MARGIN_RST v
  rw [htwin]
  refine ⟨?_, ?_, State.reg_setReg_self h3 _ _, fun a ha => ?_, rfl, rfl, rfl, rfl⟩
  · exact (State.reg_setReg_ne _ _ (by decide)).trans
      ((State.reg_setReg_ne _ _ (by decide)).trans (State.reg_setReg_self h _ _))
  · exact (State.reg_setReg_ne _ _ (by decide)).trans (State.reg_setReg_self h2 _ _)
  · simp only [List.mem_cons, List.not_mem_nil, or_false, not_or] at ha
    obtain ⟨ha2, ha3, hageo⟩ := ha
    exact (State.reg_setReg_ne _ _ hageo).trans ((State.reg_setReg_ne _ _ ha3).trans (State.reg_setReg_ne _ _ ha2))

/-- Settles O20: each row is a tracked write that is made, or a read that reaches its block; what it then does is one of the
lemmas above. -/
theorem geometryRegisters : Obligations.GeometryRegisters := by
  unfold Obligations.GeometryRegisters
  refine ⟨fun ini v s hinv => ⟨fun hmade hlo hhi => ?_, fun hmade hout => ?_, fun hmade => ?_, fun hreach => ?_⟩,
    fun ini v s hinv hreach hmode hroom hv => ?_⟩
  · refine Completes.of (State.writeTracked_made _ hmade) ?_
    rw [State.geoCWrite_taken hlo hhi]
    exact State.setReg_logWrite hinv.1 _ _ _
  · refine Completes.of (State.writeTracked_made _ hmade) ?_
    rw [State.geoCWrite_refused hout]
    exact State.geoEvt_sets hinv.1 (by decide) _ _ _ _
  · exact Completes.of (State.writeTracked_made _ hmade) (State.setReg_logWrite hinv.1 _ _ _)
  · exact Completes.of (State.readRow_reaches _ hreach) ⟨rfl, State.reg_setReg_self hinv.1 _ _,
      fun b hb => State.reg_setReg_ne s _ (by simpa using hb), rfl, rfl, rfl, rfl⟩
  · exact Completes.of (State.writeTracked_made _ ⟨hreach, hmode, hroom⟩) (State.marginRst_resets hinv.1 hv)

end Sys2Proof.Machine
end

section
/-!
# The end of a block's geometry and of a tile (R89, R90, R99, R101, R106)

The geometry of a block and a tile are built from reads of memories, which move the record of what they find alone, and from
writes of entries; `EngineKept` says of each part what it leaves.
-/
namespace Sys2Proof.Machine

variable {r s t : State}

/-! ## Margins (R43) -/

theorem State.marginMin_le (h : s.regsWf = true) (a : Nat) (m : Word) : ((s.marginMin a m).reg a).toInt ≤ m.toInt := by
  unfold State.marginMin
  split
  · exact Int.le_of_eq (congrArg BitVec.toInt (State.reg_setReg_self h a m))
  · exact Int.not_lt.1 ‹_›

/-- A margin changes registers alone. -/
theorem State.marginMin_frame (s : State) (a : Nat) (m : Word) : ∃ regs, s.marginMin a m = { s with regs := regs } := by
  unfold State.marginMin
  split
  · exact ⟨_, rfl⟩
  · exact ⟨_, rfl⟩

/-! ## What the engines keep: rules -/

/-- From `r` to `s` the geometries that were stopped, what the render lanes hold (of their cells where `C` asks for it), the bytes
of on-chip SRAM at the addresses of `P`, DRAM and both flashes stay. -/
structure EngineKept (P : Nat → Prop) (C : Prop) (r s : State) : Prop where
  stopped : s.geo.stopped = r.geo.stopped
  rnd : s.rnd = { r.rnd with cells := s.rnd.cells }
  cells : C → s.rnd.cells = r.rnd.cells
  sram : ∀ a, P a → Store.get sramDef s.sram a = Store.get sramDef r.sram a
  dram : s.dram = r.dram
  boot : s.boot = r.boot
  gflash : s.gflash = r.gflash

variable {P : Nat → Prop} {C : Prop}

theorem EngineKept.refl (s : State) : EngineKept P C s s := ⟨rfl, rfl, fun _ => rfl, fun _ _ => rfl, rfl, rfl, rfl⟩

theorem EngineKept.trans (h : EngineKept P C r s) (k : EngineKept P C s t) : EngineKept P C r t :=
  ⟨k.stopped.trans h.stopped, k.rnd.trans (by rw [h.rnd]), fun hc => (k.cells hc).trans (h.cells hc),
    fun a ha => (k.sram a ha).trans (h.sram a ha), k.dram.trans h.dram, k.boot.trans h.boot, k.gflash.trans h.gflash⟩

theorem EngineKept.rnd_eq (h : EngineKept P True r s) : s.rnd = r.rnd := by
  rw [h.rnd, h.cells trivial]

theorem EngineKept.plan (h : EngineKept P C r s) : s.rnd.plan = r.rnd.plan := by
  rw [h.rnd]

theorem EngineKept.done (h : EngineKept P C r s) : s.rnd.done = r.rnd.done := by
  rw [h.rnd]

theorem EngineKept.frame (h : EngineKept P C r s) {regs out freeCtr log mode sramBad sch drc twin} :
    EngineKept P C r { s with regs, out, freeCtr, log, mode, sramBad, sch, drc, twin } :=
  h.trans ⟨rfl, rfl, fun _ => rfl, fun _ _ => rfl, rfl, rfl, rfl⟩

theorem EngineKept.branch {c : Prop} [Decidable c] (h : EngineKept P C r s) (k : EngineKept P C r t) :
    EngineKept P C r (if c then s else t) := by
  split
  · exact h
  · exact k

theorem EngineKept.branchFst {β : Type} {p q : State × β} {c : Prop} [Decidable c] (h : EngineKept P C r p.1)
    (k : EngineKept P C r q.1) : EngineKept P C r (if c then p else q).1 := by
  split
  · exact h
  · exact k

theorem EngineKept.when {c : Bool} {f : State → State} (h : EngineKept P C r s)
    (k : ∀ x, EngineKept P C r x → EngineKept P C r (f x)) : EngineKept P C r (s.when c f) := (k s h).branch h

theorem EngineKept.fold {α : Type} {l : List α} {f : State → α → State} (h : EngineKept P C r s)
    (k : ∀ s, ∀ a ∈ l, EngineKept P C r s → EngineKept P C r (f s a)) : EngineKept P C r (l.foldl f s) :=
  List.foldlRecOn (motive := EngineKept P C r) l f h fun s hs a ha => k s a ha hs

theorem EngineKept.each {α : Type} {l : List α} {f : State → α → State} (h : EngineKept P C r s)
    (k : ∀ s a, EngineKept P C r s → EngineKept P C r (f s a)) : EngineKept P C r (s.each l f) :=
  h.fold fun s a _ => k s a

theorem EngineKept.foldFst {α β : Type} {f : State × β → α → State × β} {l : List α} {p : State × β}
    (h : EngineKept P C r p.1) (k : ∀ p a, EngineKept P C r p.1 → EngineKept P C r (f p a).1) :
    EngineKept P C r (l.foldl f p).1 :=
  List.foldlRecOn (motive := fun p : State × β => EngineKept P C r p.1) l f h fun p hp a _ => k p a hp

/-- A write of on-chip SRAM keeps the bytes apart from it. -/
theorem EngineKept.putArray {a bs} (h : EngineKept P C r s) (hP : ∀ b, P b → b < a ∨ a + bs.length ≤ b) :
    EngineKept P C r (s.putArray a bs) := by
  obtain ⟨bad, regs, heq⟩ := s.putArray_frame a bs
  rw [heq]
  exact h.trans ⟨rfl, rfl, fun _ => rfl, fun b hb => Store.get_putBytes_outside _ _ _ _ (hP b hb), rfl, rfl, rfl⟩

/-! ## Reads of the memories (R37, R496) -/

theorem EngineKept.evt {a i} (h : EngineKept P C r s) : EngineKept P C r (s.evt a i) :=
  h.frame

theorem EngineKept.count {a k} (h : EngineKept P C r s) : EngineKept P C r (s.count a k) :=
  h.frame

theorem EngineKept.note {src code data} (h : EngineKept P C r s) : EngineKept P C r (s.note src code data) := by
  rw [((OnlyRegsRec.refl [] s).note (src := src) (code := code) (data := data)).1]
  exact h.frame

theorem EngineKept.evtFirst {a i src code data} (h : EngineKept P C r s) : EngineKept P C r (s.evtFirst a i src code data) :=
  h.branch h.evt.note

theorem EngineKept.detBit {d} (h : EngineKept P C r s) : EngineKept P C r (s.detBit d) :=
  h.evt.branch h.evt

theorem EngineKept.raiseSram {b kind} (h : EngineKept P C r s) : EngineKept P C r (s.raiseSram b kind) := by
  unfold State.raiseSram
  extract_lets _ s1 _ s2
  have hs2 : EngineKept P C r s2 := h.frame
  exact hs2.detBit.count.evtFirst.branch hs2.detBit.count.evt.note

theorem EngineKept.scrub1 {b} (h : EngineKept P C r s) : EngineKept P C r (s.scrub1 b) :=
  h.raiseSram.branch (EngineKept.raiseSram h.frame)

/-- A read of words of on-chip SRAM (R439). -/
theorem EngineKept.scrub {a n} (h : EngineKept P C r s) : EngineKept P C r (s.scrub a n) :=
  h.branch (h.each fun _ _ k => k.scrub1)

theorem EngineKept.arraySweep {c} (h : EngineKept P C r s) : EngineKept P C r (s.arraySweep c) :=
  h.branch h.scrub.frame

theorem EngineKept.freeze {cause} (h : EngineKept P C r s) : EngineKept P C r (s.freeze cause) := by
  unfold State.freeze
  split
  rename_i s1 _ _ e
  have hs1 : EngineKept P C r s1 := by
    split at e <;> cases e
    · exact h
    · exact h.frame
  exact EngineKept.note hs1.frame

theorem EngineKept.fatal {det} (h : EngineKept P C r s) : EngineKept P C r (s.fatal det) := by
  unfold State.fatal
  refine h.branch (h.freeze.branch ?_)
  split
  · exact h
  · exact h.frame

theorem EngineKept.raiseDram {unit kind rt} (h : EngineKept P C r s) : EngineKept P C r (s.raiseDram unit kind rt) := by
  unfold State.raiseDram
  extract_lets _ _ s1 s2
  have hs1 : EngineKept P C r s1 := h.frame
  have hs2 : EngineKept P C r s2 := EngineKept.note hs1.detBit.frame
  exact hs1.detBit.count.evtFirst.branch (hs2.when fun _ k => k.fatal)

/-- A read of DRAM (R496). -/
theorem EngineKept.dramRead {a n rt} (h : EngineKept P C r s) : EngineKept P C r (s.dramRead a n rt).1 := by
  unfold State.dramRead
  extract_lets s1 _ _ s2 s3
  have hs1 : EngineKept P C r s1 := h.arraySweep
  have hs2 : EngineKept P C r s2 := hs1.frame.branch hs1
  have hs3 : EngineKept P C r s3 := hs2.each fun _ _ k => k.raiseDram.branch (EngineKept.raiseDram k.frame)
  exact EngineKept.branchFst hs1.frame <| EngineKept.branchFst hs1 <| EngineKept.branchFst hs1.evt <|
    EngineKept.branchFst hs2 hs3

/-! ## The geometry of a block (R89, R90) -/

theorem EngineKept.geoEvt {bit kind obj slot blk} (h : EngineKept P C r s) :
    EngineKept P C r (s.geoEvt bit kind obj slot blk) :=
  h.evt.note

/-- No byte of on-chip SRAM is asked for: geometry writes state entries and trajectories. -/
abbrev noByte : Nat → Prop := fun _ => False

theorem EngineKept.clearSeg {o slot} (h : EngineKept noByte C r s) : EngineKept noByte C r (s.clearSeg o slot) :=
  h.frame.branch (h.putArray nofun)

theorem EngineKept.setPrev {prev} (h : EngineKept P C r s) :
    EngineKept P C r { s with geo := { s.geo with prev := prev } } :=
  h.trans ⟨rfl, rfl, fun _ => rfl, fun _ _ => rfl, rfl, rfl, rfl⟩

/-- The geometry of one object (R69 to R71, R79, R91). -/
theorem EngineKept.geoObject {g acc o} (h : EngineKept noByte C r s) : EngineKept noByte C r (s.geoObject g acc o).1 := by
  unfold State.geoObject
  extract_lets _ _ _ _ _ _ _ _ _ _ s1 s2 s3 _ _ _ _ s4
  have hs1 : EngineKept noByte C r s1 := h.each fun _ _ k => k.clearSeg.count
  have hs2 : EngineKept noByte C r s2 := hs1.each fun _ _ k => k.clearSeg.count.geoEvt
  have hs3 : EngineKept noByte C r s3 := hs2.when fun _ k => k.count.geoEvt
  have hs4 : EngineKept noByte C r s4 := hs3.when fun _ k => k.count.geoEvt
  split
  · exact h
  · split
    rename_i t2 _ e
    have ht2 : EngineKept noByte C r t2 := by
      split at e <;> cases e
      · exact hs4
      · exact hs4.frame
    split
    rename_i t4 _ e
    have ht4 : EngineKept noByte C r t4 := by
      split at e <;> cases e
      · exact ht2
      · exact ht2.frame
    exact ht4.setPrev.putArray nofun

/-- The geometry of every object of the mode, from the words of the tables as they read. -/
def State.geoObjects (s : State) (g : GeoSnap) : State × List CellTgt :=
  (List.range (s.scrub 0x06F80000 0x40000).mode.objects).foldl (fun a o => a.1.geoObject g a.2 o)
    (s.scrub 0x06F80000 0x40000, [])

/-- What the lanes take over of a block. -/
def GeoSnap.targets (g : GeoSnap) (tg : List CellTgt) (stopped : List (Nat × Nat)) : TgtBlk :=
  let reg (a : Nat) : Nat := (Store.get (fun _ => 0) g.regs a).toNat
  ⟨g.blk, reg Reg.RND_HOP_THR % 2 ^ 18, reg Reg.RND_STEP_MIN % 2 ^ 24, tg,
    (stopped.filter fun e => decide (e.1 = g.blk)).map fun e => e.2⟩

/-- The targets `tg` of a block go to the lanes, and its snapshot is done with. -/
def State.handTargets (s : State) (g : GeoSnap) (rest : List GeoSnap) (tg : List CellTgt) : State :=
  let objs := (List.range s.mode.objects).filter fun o => tg.any fun t => decide (t.key / 384 = o)
  let s := (s.setReg Reg.GEO_ACTIVE_CELLS (w32 tg.length)).setReg Reg.GEO_STATUS (w32 objs.length)
  { s with
    geo := { s.geo with snaps := rest, stopped := s.geo.stopped.filter fun e => decide (g.blk < e.1) }
    rnd := { s.rnd with tgts := s.rnd.tgts ++ [g.targets tg s.geo.stopped] } }

/-- The state from which the next block is planned, once the geometry of snapshot `g` has ended. -/
def State.geometryEnd (s : State) (g : GeoSnap) (rest : List GeoSnap) : State :=
  (s.geoObjects g).1.handTargets g rest (s.geoObjects g).2

theorem execGeometryDone_next {g : GeoSnap} {rest : List GeoSnap} (hreach : s.reach 0x400000 = true)
    (hsnaps : s.geo.snaps = g :: rest) (margin : Word) :
    execGeometryDone margin s = .next ((s.geometryEnd g rest).tryPlan.marginMin Reg.GEO_MARGIN margin) := by
  unfold execGeometryDone
  rw [State.event_reaches _ hreach, hsnaps]
  rfl

theorem State.geoObjects_keeps (s : State) (g : GeoSnap) : Keep s (s.geoObjects g).1 :=
  (Keep.refl s).scrub.foldFst fun _ _ k => k.geoObject

theorem State.geoObjects_kept (s : State) (g : GeoSnap) : EngineKept noByte True s (s.geoObjects g).1 :=
  (EngineKept.refl s).scrub.foldFst fun _ _ k => k.geoObject

theorem State.handTargets_keeps (s : State) (g : GeoSnap) (rest : List GeoSnap) (tg : List CellTgt) :
    Keep s (s.handTargets g rest tg) := (((Keep.refl s).setReg _ _).setReg _ _).frame

/-- R90: GEO_ACTIVE_CELLS shows how many cells are active. -/
theorem State.handTargets_cells (h : s.regsWf = true) (g : GeoSnap) (rest : List GeoSnap) (tg : List CellTgt) :
    (s.handTargets g rest tg).reg Reg.GEO_ACTIVE_CELLS = w32 tg.length :=
  (State.reg_setReg_ne _ _ (by decide)).trans (State.reg_setReg_self h _ _)

/-! ## A tile (R99, R106) -/

theorem EngineKept.setCellX {key x} (h : EngineKept P False r s) : EngineKept P False r (s.setCellX key x) :=
  h.trans ⟨rfl, rfl, False.elim, fun _ _ => rfl, rfl, rfl, rfl⟩

/-- A write of a cell's state entry (R98). -/
theorem EngineKept.setCell {key d g far hop denied clamp} (h : EngineKept P C r s)
    (hP : ∀ a, P a → a < cellAddr key ∨ cellAddr key + 8 ≤ a) :
    EngineKept P C r (s.setCell key d g far hop denied clamp) := by
  refine h.putArray fun a ha => ?_
  have hlen : ∀ w v, (leBytes 5 w ++ leBytes 3 v).length = 8 := fun w v => by simp [leBytes]
  rw [hlen]
  exact hP a ha

theorem EngineKept.release {send : State → State} {cls code blk what} (h : EngineKept P C r s)
    (k : ∀ x, EngineKept P C r x → EngineKept P C r (send x)) : EngineKept P C r (s.release cls code blk what send) :=
  h.branch (h.frame.branch (k _ h))

theorem EngineKept.twinJob {code blk frame} (h : EngineKept P C r s) : EngineKept P C r (s.twinJob code blk frame) :=
  h.release fun _ k => k.frame

theorem EngineKept.sendAudio {n} (h : EngineKept P C r s) : EngineKept P C r (s.sendAudio n) :=
  h.twinJob.branch h

theorem EngineKept.farSample {o t} (h : EngineKept P C r s) : EngineKept P C r (s.farSample o t).1 :=
  h.branchFst h.dramRead

/-- The far fetch of one tap (R118). -/
theorem EngineKept.farTap {o n far stop d0 d1 held} (h : EngineKept P C r s) :
    EngineKept P C r (s.farTap o n far stop d0 d1 held).1 := by
  unfold State.farTap
  refine h.branchFst (h.foldFst fun p t k => ?_)
  extract_lets q
  have hq : EngineKept P C r q.1 := k.farSample
  split
  · exact k
  · exact k.branchFst hq

theorem EngineKept.farFetch {f} (h : EngineKept P False r s) : EngineKept P False r (s.farFetch f) := by
  unfold State.farFetch
  split
  · exact h
  · extract_lets
    refine h.each fun t c k => ?_
    extract_lets _ _ a b d
    have ha : EngineKept P False r a.1 := k.farTap
    have hb : EngineKept P False r b.1 := by
      unfold b
      split
      · exact EngineKept.branchFst ha ha.farTap
      · exact ha
    have hd : EngineKept P False r d.1 := hb.farTap.branchFst hb
    exact hd.setCellX

theorem EngineKept.nearScrub {n mine} (h : EngineKept P C r s) : EngineKept P C r (s.nearScrub n mine) :=
  h.branch (h.each fun _ _ k => k.scrub1)

/-- R99: a feed without cells is silent. -/
theorem tileSum_nil (b : Nat) : tileSum b [] = (List.replicate b 0, none, false) := by
  have hshift : rndShift 0 13 = 0 := by decide
  have hsat : satN 32 0 = 0 := by decide
  unfold tileSum
  induction b with
  | zero => rfl
  | succ b ih =>
    rw [List.range_succ, List.foldl_append, ih]
    simp [hshift, hsat, List.replicate_succ']

/-- What is put for a block is read back, whatever the form of the store. -/
theorem busAt_busPut (m : List (Nat × BusVal)) (n i : Nat) (l : List Int) : busAt (busPut m n i l) l.length n i = l := by
  unfold busAt busPut
  by_cases hv : (⟨n, l⟩ : BusVal) = {}
  · obtain ⟨-, rfl⟩ := BusVal.mk.inj hv
    simp [blockOf]
  · rw [Store.get_set_of_ne _ hv]
    simp [blockOf]

/-- The cells of the plan that lie in feed `f`. -/
def PlanBlk.mine (pl : PlanBlk) (f : Nat) : List CellPlan := pl.cells.filter fun c => decide (c.key % 384 = f)

/-- The addresses apart from the state entries of feed `f`'s cells. -/
def PlanBlk.apart (pl : PlanBlk) (f a : Nat) : Prop :=
  ∀ c ∈ pl.cells, c.key % 384 = f → a < cellAddr c.key ∨ cellAddr c.key + 8 ≤ a

theorem PlanBlk.mem_mine {pl : PlanBlk} {f : Nat} {c : CellPlan} : c ∈ pl.mine f ↔ c ∈ pl.cells ∧ c.key % 384 = f := by
  simp [PlanBlk.mine]

/-- What feed `f`'s tile reads has been fetched and checked. -/
def State.tileReads (s : State) (pl : PlanBlk) (f : Nat) : State :=
  (pl.mine f).foldl (fun s c => s.scrub (cellAddr c.key) 8)
    (((s.sendAudio pl.blk).farFetch f).nearScrub pl.blk (pl.mine f))

/-- What each cell of feed `f` contributes to the block. -/
def State.tileOuts (s : State) (pl : PlanBlk) (f : Nat) : List (Nat × CellOut) :=
  (pl.mine f).map fun c => (c.key, (s.tileReads pl f).cellBlock pl.blk c)

/-- The state entries of feed `f`'s cells are written. -/
def State.tileCells (s : State) (pl : PlanBlk) (f : Nat) : State :=
  (s.tileOuts pl f).foldl (fun s c =>
    let den := (((pl.mine f).find? fun m => decide (m.key = c.1)).map (·.denied)).getD false
    ((s.setCellX c.1 c.2.x).count Reg.RND_HOPS c.2.hops).setCell c.1 c.2.d c.2.g c.2.x.held c.2.x.hop.isSome den c.2.x.clamp)
    (s.tileReads pl f)

/-- The sums of feed `f` that saturated are counted. -/
def State.tileCounts (s : State) (pl : PlanBlk) (f : Nat) : State :=
  let sum := tileSum s.blk.b (s.tileOuts pl f)
  ((s.tileCells pl f).when sum.2.1.isSome fun s => s.count Reg.RND_ACC_SAT 1).when sum.2.2 fun s => s.count Reg.RND_OUT_SAT 1

/-- Feed `f` has its samples of the block and is done. -/
def State.tilePut (s : State) (pl : PlanBlk) (f : Nat) : State :=
  let sum := tileSum s.blk.b (s.tileOuts pl f)
  let s := s.tileCounts pl f
  { s with rnd := { s.rnd with
    acc := busPut s.rnd.acc pl.blk f sum.1, done := f :: s.rnd.done, accSat := s.rnd.accSat ++ sum.2.1.toList
    outSat := if sum.2.2 then f :: s.rnd.outSat else s.rnd.outSat } }.feedIn pl.blk f sum.1

/-- The tile of a feed that is not done, in the order of its parts. -/
theorem State.tileDone_eq {pl : PlanBlk} {f : Nat} (hplan : s.rnd.plan = some pl) (hf : f < 384) (hnew : f ∉ s.rnd.done) :
    s.tileDone f false =
      if (s.tilePut pl f).rnd.done.length = 384 then (s.tilePut pl f).tilesEnd pl.blk else s.tilePut pl f := by
  have hguard : ¬ (384 ≤ f ∨ s.rnd.done.contains f = true) := by simp [hnew, hf]
  unfold State.tileDone
  rw [hplan]
  exact if_neg hguard

theorem State.tileReads_kept {pl : PlanBlk} {f : Nat} (s : State) : EngineKept P False s (s.tileReads pl f) :=
  (EngineKept.refl s).sendAudio.farFetch.nearScrub.fold fun _ _ _ k => k.scrub

/-- R99: of the state entries a tile writes those of its feed's cells alone. -/
theorem State.tileCells_kept {pl : PlanBlk} {f : Nat} (s : State) :
    EngineKept (pl.apart f) False s (s.tileCells pl f) := by
  refine s.tileReads_kept.fold fun t c hc k => k.setCellX.count.setCell fun a ha => ?_
  obtain ⟨m, hm, rfl⟩ := List.mem_map.1 hc
  obtain ⟨hcell, hfeed⟩ := PlanBlk.mem_mine.1 hm
  exact ha m hcell hfeed

theorem State.tileCounts_kept {pl : PlanBlk} {f : Nat} (s : State) :
    EngineKept (pl.apart f) False s (s.tileCounts pl f) :=
  (s.tileCells_kept.when fun _ k => k.count).when fun _ k => k.count

/-- R99: a tile marks its feed done, for the block of the plan. -/
theorem State.tilePut_done {pl : PlanBlk} {f : Nat} (s : State) : (s.tilePut pl f).rnd.done = f :: s.rnd.done :=
  congrArg (f :: ·) s.tileCounts_kept.done

theorem State.tilePut_plan {pl : PlanBlk} {f : Nat} (s : State) : (s.tilePut pl f).rnd.plan = s.rnd.plan :=
  s.tileCounts_kept.plan

theorem State.tileOuts_nil {pl : PlanBlk} {f : Nat} (h : ∀ c ∈ pl.cells, c.key % 384 ≠ f) (s : State) :
    s.tileOuts pl f = [] := by
  have hmine : pl.mine f = [] := List.filter_eq_nil_iff.2 fun c hc => by simpa using h c hc
  rw [State.tileOuts, hmine, List.map_nil]

/-- R99: the samples of a feed without cells are zeros. -/
theorem State.tilePut_silent {pl : PlanBlk} {f : Nat} (h : ∀ c ∈ pl.cells, c.key % 384 ≠ f) (s : State) :
    busAt (s.tilePut pl f).rnd.acc s.blk.b pl.blk f = List.replicate s.blk.b 0 := by
  have hacc : (s.tilePut pl f).rnd.acc = busPut (s.tileCounts pl f).rnd.acc pl.blk f (List.replicate s.blk.b 0) := by
    rw [State.tilePut, State.tileOuts_nil h, tileSum_nil]
    rfl
  have hback := busAt_busPut (s.tileCounts pl f).rnd.acc pl.blk f (List.replicate s.blk.b 0)
  rwa [List.length_replicate, ← hacc] at hback

/-- R99: a tile that is not the block's last leaves the block's plan to the feeds that are not done. -/
theorem State.tileDone_notLast {pl : PlanBlk} {f : Nat} (hplan : s.rnd.plan = some pl) (hf : f < 384)
    (hnew : f ∉ s.rnd.done) (hleft : s.rnd.done.length < 383) : s.tileDone f false = s.tilePut pl f := by
  rw [State.tileDone_eq hplan hf hnew, if_neg]
  rw [State.tilePut_done, List.length_cons]
  omega

/-- RENDER_TILE_DONE of a tile that is not the block's last: its item's engine is done, and the margin is noted. -/
theorem execRenderTileDone_next {f : BitVec 9} {pl : PlanBlk} (hreach : s.reach 0x401000 = true)
    (hplan : s.rnd.plan = some pl) (hf : f.toNat < 384) (hnew : f.toNat ∉ s.rnd.done) (hleft : s.rnd.done.length < 383)
    (margin : Word) :
    ∃ sch, execRenderTileDone f margin s =
      .next ({ s.tilePut pl f.toNat with sch := sch }.marginMin Reg.RND_MARGIN2 margin) := by
  unfold execRenderTileDone
  rw [State.event_reaches _ hreach, hplan]
  dsimp only
  rw [State.tileDone_notLast hplan hf hnew hleft]
  exact ⟨_, rfl⟩

/-! ## The glide of delay and gain (R101) -/

theorem glide_eq_shift (a b : Int) (k m : Nat) :
    glide a b k (2 ^ m) = a + ((((k + 1 : Nat) : Int) * (b - a)) >>> m) := by
  rw [Int.shiftRight_eq_div_pow, glide]

theorem glide_last (a b : Int) (m : Nat) : glide a b (2 ^ m - 1) (2 ^ m) = b := by
  have hpos : 0 < 2 ^ m := Nat.two_pow_pos m
  rw [glide, Nat.sub_add_cancel hpos, Int.mul_ediv_cancel_left _ (by omega)]
  omega

/-- Of a way `d` of at least zero, the share of `j` parts in `n` lies between zero and `d`. -/
theorem ediv_share_le {d j n : Int} (hd : 0 ≤ d) (hj : 0 ≤ j) (hjn : j ≤ n) (hn : 0 < n) :
    0 ≤ j * d / n ∧ j * d / n ≤ d := by
  have hmul : j * d ≤ d * n := by
    rw [Int.mul_comm d n]
    exact Int.mul_le_mul_of_nonneg_right hjn hd
  exact ⟨Int.ediv_nonneg (Int.mul_nonneg hj hd) (Int.le_of_lt hn), Int.ediv_le_of_le_mul hn hmul⟩

/-- Of a way down, the share lies between the way and zero. -/
theorem le_ediv_share {d j n : Int} (hd : d ≤ 0) (hj : 0 ≤ j) (hjn : j ≤ n) (hn : 0 < n) :
    d ≤ j * d / n ∧ j * d / n ≤ 0 := by
  have hmul : d * n ≤ j * d := by
    rw [Int.mul_comm d n]
    exact Int.mul_le_mul_of_nonpos_right hjn hd
  have hneg : j * d ≤ 0 * n := by
    rw [Int.zero_mul]
    exact Int.mul_nonpos_of_nonneg_of_nonpos hj hd
  exact ⟨Int.le_ediv_of_mul_le hn hmul, Int.ediv_le_of_le_mul hn hneg⟩

/-- A glide stays between the values of the two blocks. -/
theorem glide_between (a b : Int) {k n : Nat} (h : k < n) : min a b ≤ glide a b k n ∧ glide a b k n ≤ max a b := by
  have hn : (0 : Int) < n := by omega
  have hj : (0 : Int) ≤ (k + 1 : Nat) := by omega
  have hjn : ((k + 1 : Nat) : Int) ≤ n := by omega
  unfold glide
  rcases Int.le_total a b with hab | hab
  · obtain ⟨hlo, hhi⟩ := ediv_share_le (d := b - a) (by omega) hj hjn hn
    omega
  · obtain ⟨hlo, hhi⟩ := le_ediv_share (d := b - a) (by omega) hj hjn hn
    omega

/-- Settles O21: the end of a geometry plans from `State.geometryEnd`, a tile that is not the last is `State.tilePut`,
and each leaves what the functions it is made of keep. -/
theorem geometryAndTiles : Obligations.GeometryAndTiles := by
  unfold Obligations.GeometryAndTiles
  refine ⟨fun margin s g rest hinv hreach hsnaps => ?_, fun f margin s pl hinv hreach hplan hf hnew hleft => ?_,
    fun a b m k hk => ⟨glide_eq_shift a b k m, glide_last a b m, glide_between a b hk⟩⟩
  · have hkept := s.geoObjects_kept g
    have hobj := (s.geoObjects_keeps g).inv hinv
    have hend := (State.handTargets_keeps _ g rest (s.geoObjects g).2).inv hobj
    refine Completes.of (execGeometryDone_next hreach hsnaps margin)
      ⟨State.marginMin_le ((Keep.refl _).tryPlan.inv hend).1 _ _, s.geometryEnd g rest,
        g.targets (s.geoObjects g).2 s.geo.stopped, rfl, rfl, ?_, ?_, rfl, rfl,
        State.handTargets_cells hobj.1 g rest _, hkept.dram, hkept.boot, hkept.gflash⟩
    · rw [← hkept.stopped]
      rfl
    · rw [← hkept.stopped, ← hkept.rnd_eq]
      rfl
  · obtain ⟨sch, hexec⟩ := execRenderTileDone_next hreach hplan hf hnew hleft margin
    have hput : (s.tilePut pl f.toNat).Inv := by
      rw [← State.tileDone_notLast hplan hf hnew hleft]
      exact (Keep.refl s).tileDone.inv hinv
    have hle := State.marginMin_le (s := { s.tilePut pl f.toNat with sch := sch }) hput.1 Reg.RND_MARGIN2 margin
    obtain ⟨regs, hmargin⟩ := State.marginMin_frame { s.tilePut pl f.toNat with sch := sch } Reg.RND_MARGIN2 margin
    have hkept := s.tileCounts_kept (pl := pl) (f := f.toNat)
    rw [hmargin] at hle hexec
    exact Completes.of hexec ⟨s.tilePut_done, s.tilePut_plan.trans hplan, hle, fun hnone => s.tilePut_silent hnone,
      hkept.sram, hkept.dram, hkept.boot, hkept.gflash⟩

end Sys2Proof.Machine
end

section
/-!
# Fade requests, filter descriptors and the group delay (R25, R127, R129, R137, R141)
-/
namespace Sys2Proof.Machine

variable {r s t : State} {l : List Nat}

/-! ## What writes of registers alone change -/

theorem OnlyRegs.refl (l : List Nat) (s : State) : OnlyRegs l s s := ⟨rfl, fun _ _ => rfl⟩

theorem OnlyRegs.setReg {a v} (h : OnlyRegs l r s) (ha : a ∈ l) : OnlyRegs l r (s.setReg a v) := by
  obtain ⟨heq, hreg⟩ := h
  refine ⟨by rw [heq]; rfl, fun b hb => ?_⟩
  have hne : b ≠ a := fun e => hb (e.symm ▸ ha)
  rw [s.reg_setReg_ne v hne, hreg b hb]

theorem OnlyRegs.branch {c : Prop} [Decidable c] (h : OnlyRegs l r s) (k : OnlyRegs l r t) :
    OnlyRegs l r (if c then s else t) := by
  split
  · exact h
  · exact k

theorem OnlyRegs.sameMemories (h : OnlyRegs l s t) : SameMemories s t := by
  obtain ⟨heq, -⟩ := h
  rw [heq]
  exact ⟨rfl, rfl, rfl, rfl⟩

/-! ## The registers of a feed -/

theorem firFst_inj {f g : Nat} (h : Reg.FIR_FST f = Reg.FIR_FST g) : f = g := by
  unfold Reg.FIR_FST at h
  omega

theorem firFst_ne_firGd {f g : Nat} (hf : f < 384) : Reg.FIR_FST f ≠ Reg.FIR_GD g := by
  unfold Reg.FIR_FST Reg.FIR_GD
  omega

theorem firFst_ne_firStatus (f : Nat) : Reg.FIR_FST f ≠ Reg.FIR_STATUS := by
  unfold Reg.FIR_FST Reg.FIR_STATUS
  omega

theorem firGd_ne_firStatus (f : Nat) : Reg.FIR_GD f ≠ Reg.FIR_STATUS := by
  unfold Reg.FIR_GD Reg.FIR_STATUS
  omega

theorem State.firSel_congr {f : Nat} (h : t.reg (Reg.FIR_FST f) = s.reg (Reg.FIR_FST f)) : t.firSel f = s.firSel f :=
  State.fldR_congr h 0 1

theorem State.fadeMay_iff {f : Nat} : s.fadeMay f = true ↔
    s.firFading f = false ∧ s.bitR (Reg.FIR_FST f) 2 = false ∧ s.bitR Reg.FIR_STATUS 24 = false := by
  simp [State.fadeMay, and_assoc]

theorem State.fadeMay_eq_false {f : Nat} :
    s.fadeMay f = false ↔ (s.firFading f || s.bitR (Reg.FIR_FST f) 2 || s.bitR Reg.FIR_STATUS 24) = true := by
  rw [State.fadeMay, Bool.not_eq_false']

/-! ## The switch of the selected bank (R137, R141) -/

theorem State.gdClear_onlyRegs (s : State) (f : Nat) : OnlyRegs [Reg.FIR_GD f] s (s.gdClear f) :=
  have hset (v : Word) : OnlyRegs [Reg.FIR_GD f] s (s.setReg (Reg.FIR_GD f) v) :=
    (OnlyRegs.refl _ s).setReg (List.mem_singleton_self _)
  (hset _).branch (hset _)

theorem State.firSwitch_onlyRegs (s : State) (f : Nat) : OnlyRegs [Reg.FIR_FST f, Reg.FIR_GD f] s (s.firSwitch f) :=
  have hset (v w : Word) : OnlyRegs [Reg.FIR_FST f, Reg.FIR_GD f] s ((s.setReg (Reg.FIR_FST f) v).setReg (Reg.FIR_GD f) w) :=
    ((OnlyRegs.refl _ s).setReg (List.mem_cons_self ..)).setReg (by simp)
  (hset _ _).branch (hset _ _)

theorem State.firSwitch_reg (h : s.regsWf = true) {f : Nat} (hf : f < 384) :
    (s.firSwitch f).reg (Reg.FIR_FST f) = putFld (s.reg (Reg.FIR_FST f)) 0 1 (1 - s.firSel f) := by
  unfold State.firSwitch
  rw [(State.gdClear_onlyRegs _ f).2 _ (by simpa using firFst_ne_firGd hf), State.reg_setFld_self h]

/-- The other bank is selected. -/
theorem State.firSwitch_sel (h : s.regsWf = true) {f : Nat} (hf : f < 384) : (s.firSwitch f).firSel f = 1 - s.firSel f := by
  rw [State.firSel, State.fldR, State.firSwitch_reg h hf, fld_putFld _ _ (by decide)]
  omega

/-- No bit of the feed but SEL changes. -/
theorem State.firSwitch_bit (h : s.regsWf = true) {f i : Nat} (hf : f < 384) (hi : 1 ≤ i) (hi' : i < 32) :
    (s.firSwitch f).bitR (Reg.FIR_FST f) i = s.bitR (Reg.FIR_FST f) i := by
  have hb : 1 - s.firSel f = (decide (s.firSel f = 0)).toNat := by
    by_cases h0 : s.firSel f = 0
    · simp [h0]
    · simp [h0]
      omega
  rw [State.bitR, State.firSwitch_reg h hf, hb, bitOf_putFld_one _ _ _ _ hi', if_neg (by omega)]
  rfl

/-! ## One feed of a fade request (R137) -/

theorem State.fadeReq_refused {f : Nat} (h : s.fadeMay f = false) : s.fadeReq f = s.fadeRefuse f := by
  simp [State.fadeReq, h]

theorem State.fadeReq_idle {f : Nat} (h : s.fadeMay f = true) (hrun : s.running = false) : s.fadeReq f = s.firSwitch f := by
  simp [State.fadeReq, h, hrun]

/-- The state with a request of feed `f` waiting for block `n` (R137). -/
def State.fadeWaits (s : State) (f n : Nat) : State := { s with fir := { s.fir with waits := s.fir.waits ++ [(f, n)] } }

theorem State.fadeReq_waits {f : Nat} (h : s.fadeMay f = true) (hrun : s.running = true) :
    s.fadeReq f = ((s.fadeWaits f (s.blk.n + 1)).setBit (Reg.FIR_FST f) 2 true).firStatus := by
  simp [State.fadeReq, h, hrun, State.fadeWaits]

/-! ### Refused -/

theorem State.firEvt_sets (h : s.regsWf = true) {bit : Nat} (hbit : bit < 32) (kind feed blk : Nat) :
    (s.firEvt bit kind feed blk).bitR Reg.FIR_EVT bit = true := by
  unfold State.firEvt State.evtFirst
  split
  · assumption
  · rw [State.bitR_congr ((OnlyRegsRec.refl [] _).note.2 Reg.FIR_EVT List.not_mem_nil (by decide))]
    exact (State.bitR_setBit h _ bit true hbit).trans (if_pos rfl)

/-- A counter of the FIR array counts one and the event that names it sets. -/
theorem State.count_firEvt (h : s.regsWf = true) {a bit : Nat} (ha : a ∉ [Reg.FIR_EVT]) (hrec : recReg a = false)
    (hbit : bit < 32) (kind feed blk : Nat) :
    ((s.count a 1).firEvt bit kind feed blk).reg a = w32 (satU 32 ((s.reg a).toNat + 1)) ∧
      ((s.count a 1).firEvt bit kind feed blk).bitR Reg.FIR_EVT bit = true ∧
      OnlyRegsRec [a, Reg.FIR_EVT] s ((s.count a 1).firEvt bit kind feed blk) := by
  have hevt : OnlyRegsRec [Reg.FIR_EVT] (s.count a 1) ((s.count a 1).firEvt bit kind feed blk) :=
    (OnlyRegsRec.refl _ _).evtFirst (Or.inl (List.mem_singleton_self _))
  exact ⟨(hevt.2 a ha hrec).trans (State.reg_count_self h a 1), State.firEvt_sets (State.regsWf_setReg h _ _) hbit _ _ _,
    ((OnlyRegsRec.refl _ s).count (Or.inl (List.mem_cons_self ..))).evtFirst (Or.inl (by simp))⟩

/-- R137: a refused request is counted and its event sets. -/
theorem State.fadeRefuse_counts (h : s.regsWf = true) (f : Nat) :
    (s.fadeRefuse f).reg Reg.FIR_FADE_REFUSED = w32 (satU 32 ((s.reg Reg.FIR_FADE_REFUSED).toNat + 1)) ∧
      (s.fadeRefuse f).bitR Reg.FIR_EVT 2 = true ∧ OnlyRegsRec [Reg.FIR_FADE_REFUSED, Reg.FIR_EVT] s (s.fadeRefuse f) :=
  State.count_firEvt h (by decide) (by decide) (by decide) _ _ _

theorem toNat_w32 {n : Nat} (h : n < 2 ^ 32) : (w32 n).toNat = n := by
  rw [w32, BitVec.toNat_ofNat, Nat.mod_eq_of_lt h]

theorem satU_eq_min (v : Nat) : satU 32 v = min v (2 ^ 32 - 1) := by
  unfold satU
  split <;> omega

/-- Two counts one after the other saturate as their sum does (R12). -/
theorem satU_satU_add (v a b : Nat) : satU 32 ((w32 (satU 32 (v + a))).toNat + b) = satU 32 (v + (a + b)) := by
  rw [toNat_w32 (by rw [satU_eq_min]; omega), satU_eq_min, satU_eq_min, satU_eq_min]
  omega

theorem w32_satU_toNat (w : Word) : w32 (satU 32 w.toNat) = w := by
  rw [satU, if_pos w.isLt, w32, BitVec.ofNat_toNat, BitVec.setWidth_eq]

/-- Requests that are refused one after another add to the count (R137, R142). -/
theorem State.fadeReq_each_refused (h : s.Inv) (hpend : s.bitR Reg.FIR_STATUS 24 = true) (l : List Nat) :
    (s.each l State.fadeReq).reg Reg.FIR_FADE_REFUSED = w32 (satU 32 ((s.reg Reg.FIR_FADE_REFUSED).toNat + l.length)) ∧
      (s.each l State.fadeReq).fir = s.fir ∧ SameMemories s (s.each l State.fadeReq) := by
  induction l generalizing s with
  | nil =>
    exact ⟨(w32_satU_toNat _).symm, rfl, SameMemories.refl s⟩
  | cons f l ih =>
    obtain ⟨hcount, -, hkeep⟩ := State.fadeRefuse_counts h.1 f
    have hpend' : (s.fadeRefuse f).bitR Reg.FIR_STATUS 24 = true :=
      (State.bitR_congr (hkeep.2 Reg.FIR_STATUS (by decide) (by decide)) 24).trans hpend
    obtain ⟨hreg, hfir, hmem⟩ := ih ((Keep.refl s).fadeRefuse.inv h) hpend'
    rw [State.each_cons, State.fadeReq_refused (State.fadeMay_eq_false.2 (by rw [hpend, Bool.or_true]))]
    refine ⟨?_, hfir.trans (by rw [hkeep.1]), hkeep.sameMemories.trans hmem⟩
    rw [hreg, hcount, satU_satU_add, List.length_cons, Nat.add_comm 1]

/-! ### Accepted while no train runs -/

/-- From `s` to `t` the feeds of `l` have taken the other bank: no other bit of theirs, no register of another feed or block, and
neither the FIR array's fades nor a memory changed. -/
structure FadesSwitched (l : List Nat) (s t : State) : Prop where
  fir : t.fir = s.fir
  memories : SameMemories s t
  reg : ∀ a, (∀ f ∈ l, a ≠ Reg.FIR_FST f ∧ a ≠ Reg.FIR_GD f) → t.reg a = s.reg a
  sel : ∀ f ∈ l, t.firSel f = 1 - s.firSel f
  bit : ∀ f ∈ l, ∀ i, 1 ≤ i → i < 32 → t.bitR (Reg.FIR_FST f) i = s.bitR (Reg.FIR_FST f) i

theorem FadesSwitched.logWrite {a v} (h : FadesSwitched l s t) : FadesSwitched l s (t.logWrite a v) := by
  obtain ⟨twin, htwin⟩ := t.logWrite_frame a v
  rw [htwin]
  exact ⟨h.fir, h.memories, h.reg, h.sel, h.bit⟩

theorem State.fadeReq_each_idle (h : s.Inv) (hrun : s.running = false) {l : List Nat} (hnd : l.Nodup)
    (hmay : ∀ f ∈ l, f < 384 ∧ s.fadeMay f = true) : FadesSwitched l s (s.each l State.fadeReq) := by
  induction l generalizing s with
  | nil => exact ⟨rfl, SameMemories.refl s, fun _ _ => rfl, nofun, nofun⟩
  | cons f l ih =>
    obtain ⟨hnew, hnd⟩ := List.nodup_cons.1 hnd
    obtain ⟨hf, hmayf⟩ := hmay f (List.mem_cons_self ..)
    obtain ⟨hframe, hregs⟩ := s.firSwitch_onlyRegs f
    have hfst : ∀ g ∈ l, g < 384 ∧ (s.firSwitch f).reg (Reg.FIR_FST g) = s.reg (Reg.FIR_FST g) := by
      intro g hg
      have hlt := (hmay g (List.mem_cons_of_mem _ hg)).1
      have hne : Reg.FIR_FST g ≠ Reg.FIR_FST f := fun e => hnew (firFst_inj e ▸ hg)
      exact ⟨hlt, hregs _ (by simpa using ⟨hne, firFst_ne_firGd hlt⟩)⟩
    have hstatus : (s.firSwitch f).reg Reg.FIR_STATUS = s.reg Reg.FIR_STATUS :=
      hregs _ (by simpa using ⟨(firFst_ne_firStatus f).symm, (firGd_ne_firStatus f).symm⟩)
    have hrun' : (s.firSwitch f).running = false := by
      rw [← hrun]
      refine State.bitR_congr (hregs Reg.RND_BLK_STATUS ?_) 0
      simp only [List.mem_cons, List.not_mem_nil, or_false, Reg.RND_BLK_STATUS, Reg.FIR_FST, Reg.FIR_GD]
      omega
    have hmay' : ∀ g ∈ l, g < 384 ∧ (s.firSwitch f).fadeMay g = true := by
      intro g hg
      obtain ⟨hlt, hmayg⟩ := hmay g (List.mem_cons_of_mem _ hg)
      have hsame := (hfst g hg).2
      refine ⟨hlt, ?_⟩
      rw [← hmayg, State.fadeMay, State.fadeMay, State.firFading, State.firFading, State.bitR_congr hsame,
        State.bitR_congr hsame, State.bitR_congr hstatus]
    obtain ⟨kfir, kmem, kreg, ksel, kbit⟩ := ih ((Keep.refl s).firSwitch.inv h) hrun' hnd hmay'
    have hself : (s.firSwitch f |>.each l State.fadeReq).reg (Reg.FIR_FST f) = (s.firSwitch f).reg (Reg.FIR_FST f) :=
      kreg _ fun g hg => ⟨fun e => hnew (firFst_inj e ▸ hg), firFst_ne_firGd hf⟩
    rw [State.each_cons, State.fadeReq_idle hmayf hrun]
    refine ⟨kfir.trans (by rw [hframe]), (s.firSwitch_onlyRegs f).sameMemories.trans kmem, fun a ha => ?_, fun g hg => ?_,
      fun g hg i hi hi' => ?_⟩
    · rw [kreg a fun g hg => ha g (List.mem_cons_of_mem _ hg), hregs a (by simpa using ha f (List.mem_cons_self ..))]
    · rcases List.mem_cons.1 hg with rfl | hg
      · rw [State.firSel_congr hself, State.firSwitch_sel h.1 hf]
      · rw [ksel g hg, State.firSel_congr (hfst g hg).2]
    · rcases List.mem_cons.1 hg with rfl | hg
      · rw [State.bitR_congr hself, State.firSwitch_bit h.1 hf hi hi']
      · rw [kbit g hg i hi hi', State.bitR_congr (hfst g hg).2]

/-! ### Accepted while a train runs -/

/-- R137: the request waits for its block, and FADES_WAIT follows. -/
theorem State.fadeReq_waits_shows (h : s.regsWf = true) {f : Nat} (hmay : s.fadeMay f = true) (hrun : s.running = true) :
    (s.fadeReq f).firSel f = s.firSel f ∧ (s.fadeReq f).bitR (Reg.FIR_FST f) 2 = true ∧
      (s.fadeReq f).fir = { s.fir with waits := s.fir.waits ++ [(f, s.blk.n + 1)] } ∧
      RegsBut [Reg.FIR_FST f, Reg.FIR_STATUS] s (s.fadeReq f) ∧ SameMemories s (s.fadeReq f) := by
  have hkeep : OnlyRegs [Reg.FIR_FST f, Reg.FIR_STATUS] (s.fadeWaits f (s.blk.n + 1)) (s.fadeReq f) := by
    rw [State.fadeReq_waits hmay hrun]
    exact (((OnlyRegs.refl _ _).setReg (by simp)).setReg (by simp)).setReg (by simp)
  refine and_assoc.1 ⟨?_, by rw [hkeep.1]; rfl, hkeep.2, hkeep.sameMemories⟩
  obtain ⟨w, hw⟩ : ∃ w, w = s.fadeWaits f (s.blk.n + 1) := ⟨_, rfl⟩
  have hreg : ((w.setBit (Reg.FIR_FST f) 2 true).firStatus).reg (Reg.FIR_FST f) =
      (w.setBit (Reg.FIR_FST f) 2 true).reg (Reg.FIR_FST f) :=
    (State.reg_setFld_ne _ _ _ _ (firFst_ne_firStatus f)).trans (State.reg_setFld_ne _ _ _ _ (firFst_ne_firStatus f))
  have hwf : w.regsWf = true := by rw [hw]; exact h
  have hsel : w.firSel f = s.firSel f := by rw [hw]; rfl
  rw [State.fadeReq_waits hmay hrun, ← hw]
  constructor
  · rw [State.firSel_congr hreg, ← hsel]
    exact State.fldR_setFld_apart hwf _ _ (by decide) (by decide)
  · rw [State.bitR_congr hreg, State.bitR_setBit hwf _ _ _ (by decide), if_pos rfl]

/-! ## The write of FIR_FADE_REQ (R137, R296) -/

/-- The feeds that a write of FIR_FADE_REQ names. -/
def fadeFeeds (v : Word) : List Nat :=
  if bitOf v 16 then List.range 384 else [fld v 0 9].filter fun f => decide (f < 384)

theorem fadeFeeds_one (f : BitVec 9) : fadeFeeds (w32 f.toNat) = [f.toNat].filter fun f => decide (f < 384) := by
  have hlt : f.toNat < 2 ^ 9 := f.isLt
  rw [fadeFeeds, bitOf, fld, toNat_w32 (by omega), Nat.testBit_lt_two_pow (by omega), Nat.shiftRight_zero, Nat.mod_eq_of_lt hlt]
  rfl

theorem fadeFeeds_of_lt {f : BitVec 9} (h : f.toNat < 384) : fadeFeeds (w32 f.toNat) = [f.toNat] := by
  simp [fadeFeeds_one, h]

theorem fadeFeeds_of_le {f : BitVec 9} (h : 384 ≤ f.toNat) : fadeFeeds (w32 f.toNat) = [] := by
  simp [fadeFeeds_one, Nat.not_lt.2 h]

theorem fadeFeeds_all : fadeFeeds 0x10000 = List.range 384 := if_pos (by decide)

/-- A write whose requests are all accepted enters the log as it stands. -/
theorem State.fadeReqWrite_accepted {v : Word} (hne : fadeFeeds v ≠ []) (h : ∀ f ∈ fadeFeeds v, s.fadeMay f = true) :
    s.fadeReqWrite v = (s.each (fadeFeeds v) State.fadeReq).logWrite Reg.FIR_FADE_REQ v := by
  have hok : (fadeFeeds v).filter s.fadeMay = fadeFeeds v := List.filter_eq_self.2 h
  exact if_pos ⟨hok, by rw [← hok] at hne; exact hne⟩

/-- R137: the feeds that a write names take their other bank at once while no train runs. -/
theorem State.fadeReqWrite_idle (h : s.Inv) (hrun : s.running = false) {v : Word} (hne : fadeFeeds v ≠ [])
    (hnd : (fadeFeeds v).Nodup) (hmay : ∀ f ∈ fadeFeeds v, f < 384 ∧ s.fadeMay f = true) :
    FadesSwitched (fadeFeeds v) s (s.fadeReqWrite v) := by
  rw [State.fadeReqWrite_accepted hne fun f hf => (hmay f hf).2]
  exact (State.fadeReq_each_idle h hrun hnd hmay).logWrite

/-- A write whose requests are all refused, or that names no feed, enters no log. -/
theorem State.fadeReqWrite_refused {v : Word} (h : ∀ f ∈ fadeFeeds v, s.fadeMay f = false) :
    s.fadeReqWrite v = s.each (fadeFeeds v) State.fadeReq := by
  have hok : (fadeFeeds v).filter s.fadeMay = [] := List.filter_eq_nil_iff.2 fun f hf => by simp [h f hf]
  exact (if_neg fun hc => hc.2 hok).trans (congrArg (State.each _ · _) hok)

/-! ## Filter descriptors (R127, R129) -/

theorem RegRow.lt_of_holds {row : RegRow} {a : Nat} (hs : 0 < row.s1) (h : row.holds a = true) :
    a < row.base + row.s1 * row.c1 := by
  simp only [RegRow.holds, Bool.and_eq_true, decide_eq_true_eq, Nat.div_lt_iff_lt_mul hs] at h
  obtain ⟨⟨⟨hlo, hlt⟩, -⟩, -⟩ := h
  rw [Nat.mul_comm row.c1] at hlt
  omega

/-- R147: a write of FIR_A reaches its low 27 bits; the rows before it lie below it. -/
theorem regMask_FIR_A {f : Nat} (hf : f < 384) : regMask (Reg.FIR_A f) = 0x7FFFFFF := by
  have hpage : Reg.FIR_A f / 0x100000 = 5 := by unfold Reg.FIR_A; omega
  have hbelow : ∀ row ∈ regRows5.take 12, 0 < row.s1 ∧ row.base + row.s1 * row.c1 ≤ 0x501000 := by decide
  have hrow : regRow? (Reg.FIR_A f) = some ⟨0x501000, 0x10, 384, 0x4, 1, .rw, 0x0, 0x7FFFFFF⟩ := by
    rw [regRow?, hpage]
    refine List.find?_eq_some_iff_append.2 ⟨?_, regRows5.take 12, regRows5.drop 13, rfl, fun row hrow => ?_⟩
    · simp [RegRow.holds, Reg.FIR_A, hf]
    · obtain ⟨hs, hhi⟩ := hbelow row hrow
      rw [Bool.not_eq_true', ← Bool.not_eq_true]
      intro hholds
      have hlt := RegRow.lt_of_holds hs hholds
      unfold Reg.FIR_A at hlt
      omega
  rw [regMask, hrow]

/-- The fields of a bank's word lie in the bits that a write reaches (R127). -/
theorem fld_and_descMask (v : Word) {lo n : Nat} (h : lo + n ≤ 27) : fld (v &&& 0x7FFFFFF) lo n = fld v lo n := by
  apply Nat.eq_of_testBit_eq
  intro i
  have hmask : (0x7FFFFFF : Word).toNat = 2 ^ 27 - 1 := rfl
  simp only [fld, Nat.testBit_mod_two_pow, Nat.testBit_shiftRight, BitVec.toNat_and, Nat.testBit_and, hmask,
    Nat.testBit_two_pow_sub_one]
  by_cases hi : i < n
  · have hlt : lo + i < 27 := by omega
    simp [hi, hlt]
  · simp [hi]

/-- The registers as they would read with `v` in register `a`. -/
def State.regWith (s : State) (a : Nat) (v : Word) (x : Nat) : Word := if x = a then v else s.reg x

/-- The limits of a bank (R127). -/
abbrev Bank.Legal (b : Bank) (maxTaps : Nat) : Prop :=
  b.len ≤ maxTaps ∧ -8 ≤ b.exp ∧ b.exp ≤ 8 ∧ b.start + b.len ≤ 2621440

/-- Bank A with a word in FIR_A. -/
theorem State.bankOf_regWith_A (s : State) (f : Nat) (v : Word) :
    bankOf (s.regWith (Reg.FIR_A f) (v &&& 0x7FFFFFF)) f 0 = ⟨fld v 0 22, s.fldR (Reg.FIR_LEN f) 0 13, sfld v 22 5⟩ := by
  have hlen : Reg.FIR_LEN f ≠ Reg.FIR_A f := by unfold Reg.FIR_LEN Reg.FIR_A; omega
  simp only [bankOf, State.regWith, if_pos, if_neg hlen, sfld, fld_and_descMask v (by decide : 0 + 22 ≤ 27),
    fld_and_descMask v (by decide : 22 + 5 ≤ 27)]
  rfl

/-- Bank B does not read FIR_A. -/
theorem State.bankOf_regWith_B (s : State) (f : Nat) (v : Word) :
    bankOf (s.regWith (Reg.FIR_A f) v) f 1 = bankOf s.reg f 1 := by
  have hlen : Reg.FIR_LEN f ≠ Reg.FIR_A f := by unfold Reg.FIR_LEN Reg.FIR_A; omega
  have hb : Reg.FIR_B f ≠ Reg.FIR_A f := by unfold Reg.FIR_B Reg.FIR_A; omega
  simp [bankOf, State.regWith, hlen, hb]

/-- R129: a write of FIR_A is dropped where it changes a live bank or breaks a limit, and made otherwise. -/
theorem State.firDescWrite_A {f : Nat} (hf : f < 384) (v : Word) :
    s.firDescWrite (Reg.FIR_A f) v =
      if (∃ x ∈ s.firLive f, bankOf (s.regWith (Reg.FIR_A f) (v &&& 0x7FFFFFF)) f x ≠ bankOf s.reg f x) ∨
          ¬ (bankOf (s.regWith (Reg.FIR_A f) (v &&& 0x7FFFFFF)) f 0).Legal (s.fldR Reg.FIR_MAX_TAPS 0 13) then
        (s.count Reg.FIR_WR_DROP 1).firEvt 3 3 f s.blkNum
      else (s.setReg (Reg.FIR_A f) (v &&& 0x7FFFFFF)).logWrite (Reg.FIR_A f) (v &&& 0x7FFFFFF) := by
  have hfeed : (Reg.FIR_A f - 0x501000) / 16 = f := by unfold Reg.FIR_A; omega
  have hbank : Reg.FIR_A f % 16 = 0 := by unfold Reg.FIR_A; omega
  unfold State.firDescWrite
  rw [hfeed, regMask_FIR_A hf, if_pos hbank]
  refine ite_congr (propext ?_) (fun _ => rfl) fun _ => rfl
  rw [Bool.or_eq_true, List.any_eq_true]
  refine or_congr ?_ ?_
  · simp only [decide_eq_true_eq]
    rfl
  · simp only [List.all_cons, List.all_nil, Bool.and_true, Bool.not_eq_true', ← Bool.not_eq_true, Bool.and_eq_true,
      decide_eq_true_eq, and_assoc]
    rfl

theorem State.firLive_steady {f : Nat} (h : s.firFading f = false) : s.firLive f = [s.firSel f] := by
  simp [State.firLive, h]

/-- R129: while bank B is live, FIR_A takes a word that keeps the limits. -/
theorem State.firDescWrite_taken {f : Nat} (hf : f < 384) {v : Word} (hfade : s.firFading f = false) (hsel : s.firSel f = 1)
    (hlegal : Bank.Legal ⟨fld v 0 22, s.fldR (Reg.FIR_LEN f) 0 13, sfld v 22 5⟩ (s.fldR Reg.FIR_MAX_TAPS 0 13)) :
    s.firDescWrite (Reg.FIR_A f) v = (s.setReg (Reg.FIR_A f) (v &&& 0x7FFFFFF)).logWrite (Reg.FIR_A f) (v &&& 0x7FFFFFF) := by
  rw [State.firDescWrite_A hf, if_neg]
  rw [s.bankOf_regWith_A, State.firLive_steady hfade, hsel]
  rintro (⟨x, hx, hchanged⟩ | hlimit)
  · rw [List.mem_singleton.1 hx] at hchanged
    exact hchanged (s.bankOf_regWith_B f _)
  · exact hlimit hlegal

/-- R129: a word that changes the live bank A, or breaks a limit, is dropped. -/
theorem State.firDescWrite_dropped {f : Nat} (hf : f < 384) {v : Word} (hfade : s.firFading f = false)
    (hbad : s.firSel f = 0 ∧ (fld v 0 22 ≠ s.fldR (Reg.FIR_A f) 0 22 ∨ sfld v 22 5 ≠ sfld (s.reg (Reg.FIR_A f)) 22 5) ∨
      8 < sfld v 22 5 ∨ sfld v 22 5 < -8) :
    s.firDescWrite (Reg.FIR_A f) v = (s.count Reg.FIR_WR_DROP 1).firEvt 3 3 f s.blkNum := by
  rw [State.firDescWrite_A hf, if_pos]
  rw [s.bankOf_regWith_A, State.firLive_steady hfade]
  rcases hbad with ⟨hsel, hchanged⟩ | hexp
  · refine Or.inl ⟨0, by rw [hsel]; exact List.mem_singleton_self _, fun hsame => ?_⟩
    rw [s.bankOf_regWith_A] at hsame
    exact hchanged.elim (fun h => h (congrArg Bank.start hsame)) fun h => h (congrArg Bank.exp hsame)
  · refine Or.inr fun hlegal => ?_
    obtain ⟨-, hlo, hhi, -⟩ := hlegal
    dsimp only at hlo hhi
    omega

/-- A write of FIR_A is a write of a filter descriptor. -/
theorem execFirDescriptorWrite_A {ini : Initiator} {f : Nat} (hf : f < 384) (v : Word) (h : Tracked s ini (Reg.FIR_A f)) :
    execFirDescriptorWrite ini (Reg.FIR_A f) v s = .next (s.firDescWrite (Reg.FIR_A f) v) := by
  refine (State.writeTracked_made _ h).trans (congrArg _ (if_pos ?_))
  unfold Reg.FIR_A
  omega

/-! ## The group delay (R141) -/

theorem State.gdWord_empty {b : Bank} (h : b.len = 0) : s.gdWord b = 0x80000000 := if_pos h

/-- The coefficients of a bank, as the group delay reads them (R141). -/
def State.taps (s : State) (b : Bank) : List Int :=
  (List.range b.len).map fun j => sample24 (s.sramBytes (coefAddr (b.start + j)) 3)

/-- The energy of coefficients (R141). -/
def tapEnergy (c : List Int) : Nat := (c.map fun v => (v * v).toNat).foldl (· + ·) 0

/-- The position of the greatest coefficient and its magnitude, the first of equals (R141). -/
def tapPeak (c : List Int) : Nat × Nat :=
  c.zipIdx.foldl (fun (p : Nat × Nat) v => if p.2 < v.1.natAbs then (v.2, v.1.natAbs) else p) (0, 0)

/-- The word of a bank of non-zero length: ZERO, or PEAK and a GD of 16 bits. -/
theorem State.gdWord_taps (s : State) {b : Bank} (h : 0 < b.len) : ∃ gd < 2 ^ 16, s.gdWord b =
    if tapEnergy (s.taps b) = 0 then 0xC0000000 else w32 (2 ^ 31 + (tapPeak (s.taps b)).1 * 2 ^ 16 + gd) :=
  ⟨_, Nat.mod_lt _ (by decide), if_neg (Nat.ne_of_gt h)⟩

theorem tapEnergy_zeros {c : List Int} (h : ∀ v ∈ c, v = 0) : tapEnergy c = 0 := by
  refine List.foldlRecOn (motive := (· = 0)) _ _ rfl fun e he x hx => ?_
  obtain ⟨v, hv, rfl⟩ := List.mem_map.1 hx
  rw [he, h v hv]
  rfl

/-- The greatest coefficient lies in the bank. -/
theorem tapPeak_lt {c : List Int} (h : 0 < c.length) : (tapPeak c).1 < c.length := by
  refine List.foldlRecOn (motive := fun p : Nat × Nat => p.1 < c.length) _ _ h fun p hp v hv => ?_
  split
  · exact List.snd_lt_of_mem_zipIdx hv
  · exact hp

theorem bitOf_31_w32_add {n : Nat} (h : n < 2 ^ 31) : bitOf (w32 (2 ^ 31 + n)) 31 = true := by
  rw [bitOf, toNat_w32 (by omega), Nat.testBit_two_pow_add_eq, Nat.testBit_lt_two_pow h]
  rfl

theorem State.gdWord_zero {b : Bank} (hlen : 0 < b.len)
    (h : ∀ j, j < b.len → sample24 (s.sramBytes (coefAddr (b.start + j)) 3) = 0) : s.gdWord b = 0xC0000000 := by
  obtain ⟨gd, -, hword⟩ := s.gdWord_taps hlen
  rw [hword, if_pos (tapEnergy_zeros fun v hv => ?_)]
  obtain ⟨j, hj, rfl⟩ := List.mem_map.1 hv
  exact h j (List.mem_range.1 hj)

/-- R141: VALID is bit 31 of the word, above PEAK and GD, as a bank has fewer than 2^13 coefficients. -/
theorem State.gdWord_valid (s : State) {b : Bank} (h : b.len < 2 ^ 13) : bitOf (s.gdWord b) 31 = true := by
  rcases Nat.eq_zero_or_pos b.len with hlen | hlen
  · rw [State.gdWord_empty hlen]
    decide
  · obtain ⟨gd, hgd, hword⟩ := s.gdWord_taps hlen
    rw [hword]
    split
    · decide
    · have hlength : (s.taps b).length = b.len := by rw [State.taps, List.length_map, List.length_range]
      have hpeak : (tapPeak (s.taps b)).1 < (s.taps b).length := tapPeak_lt (by omega)
      rw [Nat.add_assoc]
      exact bitOf_31_w32_add (by omega)

theorem bankOf_len_lt (rd : Nat → Word) (f x : Nat) : (bankOf rd f x).len < 2 ^ 13 := Nat.mod_lt _ (by decide)

theorem execFirGdDone_next {f : BitVec 9} (hreach : s.reach 0x500000 = true) (hf : f.toNat < 384)
    (hvalid : s.bitR (Reg.FIR_GD f.toNat) 31 = false) : execFirGdDone f s =
      .next (s.setReg (Reg.FIR_GD f.toNat) (s.gdWord (bankOf s.reg f.toNat (s.firSel f.toNat)))) :=
  (State.event_reaches _ hreach).trans (congrArg _ (if_pos ⟨hf, hvalid⟩))

end Sys2Proof.Machine
end

section
/-!
# The end of a FIR stage (R130, R135)

A task reads its coefficients and its history, which moves the record of what the reads find alone (`ScrubKept`); the end of
the stage then leaves the feeds' next blocks, the unit-cycles and the memories but on-chip SRAM (`StageKept`).
-/
namespace Sys2Proof.Machine

variable {r s t : State}

/-! ## What a read of on-chip SRAM leaves (R37, R439) -/

/-- The registers that an error found in on-chip SRAM moves. -/
def sramErrRegs : List Nat :=
  [Reg.INT_SRAM_LAST, Reg.INT_DET0, Reg.INT_SRAM_CE_COUNT, Reg.INT_SRAM_UE_COUNT, Reg.INT_EVT]

/-- From `r` to `s` only the stored errors of on-chip SRAM, the registers that tell of them and the recorder changed. -/
structure ScrubKept (r s : State) : Prop where
  frame : s = { r with regs := s.regs, freeCtr := s.freeCtr, log := s.log, sramBad := s.sramBad }
  reg : RegsButRec sramErrRegs r s

theorem ScrubKept.refl (s : State) : ScrubKept s s := ⟨rfl, fun _ _ _ => rfl⟩

theorem ScrubKept.trans (h : ScrubKept r s) (k : ScrubKept s t) : ScrubKept r t :=
  ⟨k.frame.trans (by rw [h.frame]), fun a ha hrec => (k.reg a ha hrec).trans (h.reg a ha hrec)⟩

theorem ScrubKept.of_onlyRegsRec (h : OnlyRegsRec sramErrRegs s t) : ScrubKept s t := by
  obtain ⟨heq, hreg⟩ := h
  exact ⟨by rw [heq], hreg⟩

theorem State.raiseSram_onlyRegsRec (s : State) (b : BadWord) {kind : Nat} :
    OnlyRegsRec sramErrRegs s.draw (s.raiseSram b kind) := by
  unfold State.raiseSram
  extract_lets _ s1 _ s2
  have hs2 : OnlyRegsRec sramErrRegs s1 s2 := (OnlyRegsRec.refl _ _).setReg (Or.inl (by decide))
  have hce : OnlyRegsRec sramErrRegs s1 (s2.detBit 1) := hs2.evt (Or.inl (by decide))
  have hue : OnlyRegsRec sramErrRegs s1 (s2.detBit 2) := hs2.evt (Or.inl (by decide))
  exact ((hce.count (Or.inl (by decide))).evtFirst (Or.inl (by decide))).branch
    ((hue.count (Or.inl (by decide))).evt (Or.inl (by decide))).note

theorem ScrubKept.raiseSram {b kind} (h : ScrubKept r s) : ScrubKept r (s.raiseSram b kind) := by
  have hdraw : ScrubKept r s.draw := h.trans ⟨rfl, fun _ _ _ => rfl⟩
  exact hdraw.trans (ScrubKept.of_onlyRegsRec (s.raiseSram_onlyRegsRec b))

theorem ScrubKept.scrub1 {b} (h : ScrubKept r s) : ScrubKept r (s.scrub1 b) := by
  unfold State.scrub1
  split
  · exact h.raiseSram
  · exact ScrubKept.raiseSram (h.trans ⟨rfl, fun _ _ _ => rfl⟩)

theorem ScrubKept.scrub {a n} (h : ScrubKept r s) : ScrubKept r (s.scrub a n) := by
  unfold State.scrub
  split
  · exact h
  · exact State.each_induct (fun _ _ k => k.scrub1) _ h

/-! ## What a block's filter reads of the state (R128, R144) -/

/-- No register of the FIR array (R147) tells of an error of on-chip SRAM. -/
theorem ScrubKept.firReg (h : ScrubKept r s) {a : Nat} (ha : 0x500000 ≤ a ∧ a < 0x600000) : s.reg a = r.reg a := by
  refine h.reg a ?_ ?_
  · simp only [sramErrRegs, List.mem_cons, List.not_mem_nil, or_false, Reg.INT_SRAM_LAST, Reg.INT_DET0, Reg.INT_SRAM_CE_COUNT,
      Reg.INT_SRAM_UE_COUNT, Reg.INT_EVT]
    omega
  · simp only [recReg, List.contains_eq_mem, List.mem_cons, List.not_mem_nil, Reg.REC_STATUS, Reg.REC_EVT, Reg.REC_SEQ,
      Reg.REC_LOST, or_false, decide_eq_false_iff_not]
    omega

theorem ScrubKept.fir (h : ScrubKept r s) : s.fir = r.fir := by
  rw [h.frame]

theorem ScrubKept.blk (h : ScrubKept r s) : s.blk = r.blk := by
  rw [h.frame]

/-- The words of a feed's descriptor and selection that a block uses stay. -/
theorem ScrubKept.firView_reg (h : ScrubKept r s) (n : Nat) {a : Nat} (ha : 0x500000 ≤ a ∧ a < 0x600000) :
    (s.firView n).1 a = (r.firView n).1 a := by
  rw [State.firView, State.firView, h.fir]
  cases r.fir.oldRegs.find? fun e => decide (n < e.1) with
  | none => exact h.firReg ha
  | some e => rfl

theorem ScrubKept.firView_fades (h : ScrubKept r s) (n : Nat) : (s.firView n).2 = (r.firView n).2 := by
  rw [State.firView, State.firView, h.fir]
  cases r.fir.oldRegs.find? fun e => decide (n < e.1) <;> rfl

theorem ScrubKept.firBanks (h : ScrubKept r s) {f : Nat} (hf : f < 384) (n : Nat) : s.firBanks f n = r.firBanks f n := by
  have hfst : 0x500000 ≤ Reg.FIR_FST f ∧ Reg.FIR_FST f < 0x600000 := by unfold Reg.FIR_FST; omega
  unfold State.firBanks
  dsimp only
  rw [h.firView_reg n hfst, h.firView_fades n]

theorem ScrubKept.bankOf (h : ScrubKept r s) {f : Nat} (hf : f < 384) (n x : Nat) :
    bankOf (s.firView n).1 f x = bankOf (r.firView n).1 f x := by
  have hlen : 0x500000 ≤ Reg.FIR_LEN f ∧ Reg.FIR_LEN f < 0x600000 := by unfold Reg.FIR_LEN; omega
  have hword : 0x500000 ≤ (if x = 0 then Reg.FIR_A f else Reg.FIR_B f) ∧
      (if x = 0 then Reg.FIR_A f else Reg.FIR_B f) < 0x600000 := by
    unfold Reg.FIR_A Reg.FIR_B
    split <;> omega
  rw [Machine.bankOf, Machine.bankOf, h.firView_reg n hlen, h.firView_reg n hword]

theorem ScrubKept.firTasks (h : ScrubKept r s) {f : Nat} (hf : f < 384) (n : Nat) : s.firTasks f n = r.firTasks f n := by
  simp only [State.firTasks, h.firBanks hf, h.bankOf hf]

/-! ## What the end of a stage leaves -/

/-- From `r` to `s` the block that each feed computes next, the unit-cycles, DRAM and both flashes stay. -/
structure StageKept (r s : State) : Prop where
  next : s.fir.next = r.fir.next
  cycles : s.fir.cycles = r.fir.cycles
  dram : s.dram = r.dram
  boot : s.boot = r.boot
  gflash : s.gflash = r.gflash

theorem StageKept.refl (s : State) : StageKept s s := ⟨rfl, rfl, rfl, rfl, rfl⟩

theorem StageKept.trans (h : StageKept r s) (k : StageKept s t) : StageKept r t :=
  ⟨k.next.trans h.next, k.cycles.trans h.cycles, k.dram.trans h.dram, k.boot.trans h.boot, k.gflash.trans h.gflash⟩

theorem StageKept.frame (h : StageKept r s) {regs sram freeCtr log sramBad mix sch} :
    StageKept r { s with regs, sram, freeCtr, log, sramBad, mix, sch } :=
  h.trans ⟨rfl, rfl, rfl, rfl, rfl⟩

theorem StageKept.fades (h : StageKept r s) {fades} : StageKept r { s with fir := { s.fir with fades } } :=
  h.trans ⟨rfl, rfl, rfl, rfl, rfl⟩

theorem StageKept.branch {c : Prop} [Decidable c] (h : StageKept r s) (k : StageKept r t) : StageKept r (if c then s else t) := by
  split
  · exact h
  · exact k

theorem StageKept.when {c : Bool} {f : State → State} (h : StageKept r s) (k : ∀ x, StageKept r x → StageKept r (f x)) :
    StageKept r (s.when c f) := (k s h).branch h

theorem StageKept.each {α : Type} {l : List α} {f : State → α → State} (h : StageKept r s)
    (k : ∀ s a, StageKept r s → StageKept r (f s a)) : StageKept r (s.each l f) := State.each_induct k l h

theorem StageKept.setReg {a v} (h : StageKept r s) : StageKept r (s.setReg a v) := h.frame

theorem StageKept.evt {a i} (h : StageKept r s) : StageKept r (s.evt a i) := h.frame

theorem StageKept.count {a k} (h : StageKept r s) : StageKept r (s.count a k) := h.frame

theorem StageKept.note {src code data} (h : StageKept r s) : StageKept r (s.note src code data) := by
  rw [((OnlyRegsRec.refl [] s).note (src := src) (code := code) (data := data)).1]
  exact h.frame

theorem StageKept.evtFirst {a i src code data} (h : StageKept r s) : StageKept r (s.evtFirst a i src code data) :=
  h.branch h.evt.note

theorem StageKept.raiseDet {d src data} (h : StageKept r s) : StageKept r (s.raiseDet d src data) :=
  (h.evt.branch h.evt).note

theorem StageKept.putArray {a bs} (h : StageKept r s) : StageKept r (s.putArray a bs) := by
  obtain ⟨bad, regs, heq⟩ := s.putArray_frame a bs
  rw [heq]
  exact h.frame

theorem StageKept.brimFeed {f n x} (h : StageKept r s) : StageKept r (s.brimFeed f n x) := by
  unfold State.brimFeed
  extract_lets
  split
  extract_lets _ _ s1 s2
  have hs1 : StageKept r s1 := h.frame
  have hs2 : StageKept r s2 := hs1.putArray
  exact hs2.when fun _ k => k.count.evtFirst

theorem StageKept.fadeEndAt {f n} (h : StageKept r s) : StageKept r (s.fadeEndAt f n) := by
  unfold State.fadeEndAt
  split
  · exact h
  · extract_lets _ s1 s2
    have hs1 : StageKept r s1 := h.fades
    have hs2 : StageKept r s2 := hs1.setReg.setReg.setReg
    exact hs1.branch (hs2.branch hs2.count.evt)

theorem ScrubKept.stageKept (h : ScrubKept s t) : StageKept s t := by
  rw [h.frame]
  exact ⟨rfl, rfl, rfl, rfl, rfl⟩

/-- The stage of feed `f` for block `n` is over: its results and its stopped banks go, and the block after is next. -/
def State.stageOver (s : State) (f n : Nat) : State :=
  { s with fir := { s.fir with
      next := Store.set (fun _ => 0) s.fir.next f (n + 1)
      part := s.fir.part.filter fun (p : Nat × List FirOut) => decide (p.1 ≠ f)
      stopped := s.fir.stopped.filter fun (p : Nat × Nat) => decide (p.1 ≠ f) } }

/-- R130, R138: flags, history and the fade before the stage is over, Brim after it. -/
theorem State.firFinish_kept (s : State) (f n : Nat) (parts : List FirOut) :
    ∃ u, StageKept s u ∧ StageKept (u.stageOver f n) (s.firFinish f n parts) := by
  unfold State.firFinish
  extract_lets
  split
  extract_lets _ _ s1
  have hs1 : StageKept s s1 := by
    refine (StageKept.refl s).when fun x k => ?_
    extract_lets _ _ _ s2
    have hs2 : StageKept s s2 := k.evt.count.evt
    exact hs2.when fun _ k => k.raiseDet
  split
  extract_lets s2 s3 s4 _ _ s5
  have hs2 : StageKept s s2 := hs1.when fun _ k => k.count.evtFirst
  have hs3 : StageKept s s3 := hs2.each fun _ _ k => k.putArray
  have hs4 : StageKept s s4 := hs3.fadeEndAt
  have hs5 : StageKept (s4.stageOver f n) s5 := ⟨rfl, rfl, rfl, rfl, rfl⟩
  exact ⟨s4, hs4, hs5.brimFeed⟩

/-! ## The last task of a feed's block (R135) -/

theorem State.firBank_bank (s : State) (f n x : Nat) : (s.firBank f n x).bank = x := by
  unfold State.firBank
  dsimp only
  split
  · rfl
  · split <;> rfl

/-- The state after the reads of a task of feed `f` for a bank. -/
def State.taskReads (s : State) (f : Nat) (b : Bank) : State :=
  (s.scrub (coefAddr b.start) (3 * b.len)).scrub (histAddr f 0) (3 * 4096)

theorem State.taskReads_kept (s : State) (f : Nat) (b : Bank) : ScrubKept s (s.taskReads f b) := (ScrubKept.refl s).scrub.scrub

/-- The state with a task's result, and its unit-cycles counted (R130). -/
def State.taskCost (s : State) (f : Nat) (b : Bank) (parts : List FirOut) : State :=
  { s with fir := { s.fir with
      part := (s.fir.part.filter fun (p : Nat × List FirOut) => decide (p.1 ≠ f)) ++ [(f, parts)]
      cycles := s.fir.cycles + b.len * s.blk.b / 4 } }

/-- R135: the only task of a feed's block ends its stage. -/
theorem State.firTask_only {f x : Nat} (hf : f < 384) (htask : s.firTasks f (s.firNext f) = [x])
    (hnew : ∀ p ∈ s.fir.part, p.1 ≠ f) : ∃ out b, b = bankOf (s.firView (s.firNext f)).1 f x ∧
      s.firTask f x = ((s.taskReads f b).taskCost f b [out]).firFinish f (s.firNext f) [out] := by
  have hkept := s.taskReads_kept f (bankOf (s.firView (s.firNext f)).1 f x)
  have hpart : (s.taskReads f (bankOf (s.firView (s.firNext f)).1 f x)).fir.part.find? (fun p => decide (p.1 = f)) = none := by
    rw [hkept.fir, List.find?_eq_none]
    simpa using hnew
  refine ⟨(s.taskReads f (bankOf (s.firView (s.firNext f)).1 f x)).firBank f (s.firNext f) x, _, rfl, ?_⟩
  unfold State.firTask
  extract_lets n b s1 parts parts1 _ s2
  have hparts : parts = [] := by
    dsimp only [parts, s1]
    exact congrArg (fun o => (Option.map (·.2) o).getD []) hpart
  have hparts1 : parts1 = [s1.firBank f n x] := by
    dsimp only [parts1]
    rw [hparts, List.nil_append]
  have htasks : s2.firTasks f n = [x] := by
    rw [← htask]
    exact hkept.firTasks hf _
  rw [if_neg (by simp [n, htask, hf]), hparts, if_neg (by simp), htasks, hparts1, if_pos (by simp [State.firBank_bank])]
  dsimp only [s2]
  rw [hparts1]
  rfl

/-- R130, R135: the only task of a feed's block: the block after it is next, and the task's unit-cycles are counted. -/
theorem State.firTask_ends {f x : Nat} (hf : f < 384) (hwf : Store.wf (fun _ => 0) s.fir.next = true)
    (htask : s.firTasks f (s.firNext f) = [x]) (hnew : ∀ p ∈ s.fir.part, p.1 ≠ f) :
    (s.firTask f x).firNext f = s.firNext f + 1 ∧
      (s.firTask f x).fir.cycles = s.fir.cycles + (bankOf (s.firView (s.firNext f)).1 f x).len * s.blk.b / 4 ∧
      (s.firTask f x).dram = s.dram ∧ (s.firTask f x).boot = s.boot ∧ (s.firTask f x).gflash = s.gflash := by
  obtain ⟨out, b, hb, heq⟩ := State.firTask_only hf htask hnew
  have hreads := (s.taskReads_kept f b).stageKept
  obtain ⟨u, hbefore, hafter⟩ := State.firFinish_kept ((s.taskReads f b).taskCost f b [out]) f (s.firNext f) [out]
  have hnext : u.fir.next = s.fir.next := hbefore.next.trans hreads.next
  have hcycles : u.fir.cycles = (s.taskReads f b).fir.cycles + b.len * (s.taskReads f b).blk.b / 4 := hbefore.cycles
  rw [heq, ← hb]
  refine ⟨?_, ?_, hafter.dram.trans (hbefore.dram.trans hreads.dram), hafter.boot.trans (hbefore.boot.trans hreads.boot),
    hafter.gflash.trans (hbefore.gflash.trans hreads.gflash)⟩
  · rw [State.firNext, hafter.next, State.stageOver]
    dsimp only
    rw [hnext, Store.get_set_same _ _ _ _ hwf]
  · rw [← hreads.cycles, ← (s.taskReads_kept f b).blk, ← hcycles]
    exact hafter.cycles

/-- R130, R135: the last task of a feed's block, with its margin. -/
theorem firTaskDone_completes (h : s.Inv) {f : BitVec 9} {bank : Bool} (margin : Word) (hreach : s.reach 0x500000 = true)
    (hf : f.toNat < 384) (hwf : Store.wf (fun _ => 0) s.fir.next = true)
    (htask : s.firTasks f.toNat (s.firNext f.toNat) = [bank.toNat]) (hnew : ∀ p ∈ s.fir.part, p.1 ≠ f.toNat) :
    Completes (.firTaskDone f bank margin) s fun t =>
      t.firNext f.toNat = s.firNext f.toNat + 1 ∧
      t.fir.cycles = s.fir.cycles + (bankOf (s.firView (s.firNext f.toNat)).1 f.toNat bank.toNat).len * s.blk.b / 4 ∧
      (t.reg Reg.RND_MARGIN3).toInt ≤ margin.toInt ∧ t.dram = s.dram ∧ t.boot = s.boot ∧ t.gflash = s.gflash := by
  obtain ⟨hnext, hcycles, hdram, hboot, hgflash⟩ := State.firTask_ends hf hwf htask hnew
  obtain ⟨u, hu⟩ : ∃ u, u = (s.firTask f.toNat bank.toNat).engineDone (fun t => decide (slotClass t.slot = 3) &&
    decide (t.arg = f.toNat) && decide (t.blk = s.firNext f.toNat) && decide (t.sub = bank.toNat)) 0 := ⟨_, rfl⟩
  have hinv : u.Inv := by
    rw [hu]
    exact (Keep.refl s).firTask.engineDone.inv h
  have hle := State.marginMin_le hinv.1 Reg.RND_MARGIN3 margin
  obtain ⟨regs, hmargin⟩ := u.marginMin_frame Reg.RND_MARGIN3 margin
  have hexec : execFirTaskDone f bank margin s = .next (u.marginMin Reg.RND_MARGIN3 margin) := by
    rw [hu]
    exact State.event_reaches _ hreach
  rw [hmargin] at hle hexec
  subst hu
  exact Completes.of hexec ⟨hnext, hcycles, hle, hdram, hboot, hgflash⟩

/-! ## The rows -/

/-- R137: a request of one feed while no train runs. -/
theorem firFadeReq_switches (h : s.Inv) {ini : Initiator} {f : BitVec 9} (hmade : Tracked s ini Reg.FIR_FADE_REQ)
    (hf : f.toNat < 384) (hmay : s.fadeMay f.toNat = true) (hrun : s.running = false) :
    Completes (.firFadeReq ini f) s fun t =>
      t.firSel f.toNat = 1 - s.firSel f.toNat ∧ t.firFading f.toNat = false ∧ t.bitR (Reg.FIR_FST f.toNat) 2 = false ∧
      t.fir = s.fir ∧ RegsBut [Reg.FIR_FST f.toNat, Reg.FIR_GD f.toNat] s t ∧ SameMemories s t := by
  have hfeeds := fadeFeeds_of_lt hf
  have hself : f.toNat ∈ fadeFeeds (w32 f.toNat) := by simp [hfeeds]
  obtain ⟨hfade, hwait, -⟩ := State.fadeMay_iff.1 hmay
  obtain ⟨hfir, hmem, hreg, hsel, hbit⟩ := State.fadeReqWrite_idle h hrun (v := w32 f.toNat) (List.ne_nil_of_mem hself)
    (by simp [hfeeds]) (by simp [hfeeds, hf, hmay])
  exact Completes.of (State.writeTracked_made _ hmade) ⟨hsel _ hself, (hbit _ hself 1 (by decide) (by decide)).trans hfade,
    (hbit _ hself 2 (by decide) (by decide)).trans hwait, hfir, fun a ha => hreg a (by simpa [hfeeds] using ha), hmem⟩

/-- R137: a request of every feed while no train runs. -/
theorem firFadeReqAll_switches (h : s.Inv) {ini : Initiator} (hmade : Tracked s ini Reg.FIR_FADE_REQ)
    (hmay : ∀ g, g < 384 → s.fadeMay g = true) (hrun : s.running = false) : Completes (.firFadeReqAll ini) s fun t =>
      (∀ g, g < 384 → t.firSel g = 1 - s.firSel g ∧ t.firFading g = false) ∧ t.fir = s.fir ∧ SameMemories s t := by
  have hmem : ∀ g, g ∈ fadeFeeds 0x10000 ↔ g < 384 := fun g => by rw [fadeFeeds_all, List.mem_range]
  obtain ⟨hfir, hmemories, -, hsel, hbit⟩ := State.fadeReqWrite_idle h hrun (v := 0x10000)
    (List.ne_nil_of_mem ((hmem 0).2 (by decide))) (by rw [fadeFeeds_all]; exact List.nodup_range)
    fun g hg => ⟨(hmem g).1 hg, hmay g ((hmem g).1 hg)⟩
  refine Completes.of (State.writeTracked_made _ hmade) ⟨fun g hg => ⟨hsel g ((hmem g).2 hg), ?_⟩, hfir, hmemories⟩
  exact (hbit g ((hmem g).2 hg) 1 (by decide) (by decide)).trans (State.fadeMay_iff.1 (hmay g hg)).1

/-- R137: a request of one feed while a train runs. -/
theorem firFadeReq_waits (h : s.Inv) {ini : Initiator} {f : BitVec 9} (hmade : Tracked s ini Reg.FIR_FADE_REQ)
    (hf : f.toNat < 384) (hmay : s.fadeMay f.toNat = true) (hrun : s.running = true) :
    Completes (.firFadeReq ini f) s fun t =>
      t.firSel f.toNat = s.firSel f.toNat ∧ t.bitR (Reg.FIR_FST f.toNat) 2 = true ∧
      t.fir = { s.fir with waits := s.fir.waits ++ [(f.toNat, s.blk.n + 1)] } ∧
      RegsBut [Reg.FIR_FST f.toNat, Reg.FIR_STATUS] s t ∧ SameMemories s t := by
  have hfeeds := fadeFeeds_of_lt hf
  refine Completes.of (State.writeTracked_made _ hmade) ?_
  rw [State.fadeReqWrite_accepted (by simp [hfeeds]) (by simpa [hfeeds] using hmay), hfeeds]
  obtain ⟨twin, htwin⟩ := (s.fadeReq f.toNat).logWrite_frame Reg.FIR_FADE_REQ (w32 f.toNat)
  rw [State.each_cons, State.each, List.foldl_nil, htwin]
  exact State.fadeReq_waits_shows h.1 hmay hrun

/-- Settles O28: a write of FIR_FADE_REQ is its feeds' requests, each accepted or refused; a write of FIR_A is
made or dropped; the group delay is `State.gdWord`; the last task of a block is `State.firTask_ends`. -/
theorem roomCorrection : Obligations.RoomCorrection := by
  unfold Obligations.RoomCorrection
  refine ⟨fun ini f s hinv hmade => ⟨fun hf hfade hwait hpend => ?_, fun hf hbad => ?_, fun hf => ?_, fun hpend => ?_,
    fun hpend hrun hmay => ?_⟩, fun ini f v s hinv hf hmade hfade => ⟨fun hsel htaps hlo hhi hpool => ?_, fun hbad => ?_⟩,
    fun f s hinv hreach hf hvalid => ?_, fun f bank margin s hinv hreach hf hwf htask hnew =>
      firTaskDone_completes hinv margin hreach hf hwf htask hnew⟩
  · have hmay : s.fadeMay f.toNat = true := State.fadeMay_iff.2 ⟨hfade, hwait, hpend⟩
    exact ⟨firFadeReq_switches hinv hmade hf hmay, firFadeReq_waits hinv hmade hf hmay⟩
  · have hmay : s.fadeMay f.toNat = false := State.fadeMay_eq_false.2 hbad
    obtain ⟨hcount, hevt, hkeep⟩ := State.fadeRefuse_counts hinv.1 f.toNat
    refine Completes.of (State.writeTracked_made _ hmade) ?_
    rw [State.fadeReqWrite_refused (by simpa [fadeFeeds_of_lt hf] using hmay), fadeFeeds_of_lt hf, State.each_cons,
      State.fadeReq_refused hmay]
    exact ⟨hcount, hevt, hkeep.2, hkeep.sameMemories⟩
  · refine Completes.of (State.writeTracked_made _ hmade) ?_
    rw [State.fadeReqWrite_refused (by simp [fadeFeeds_of_le hf]), fadeFeeds_of_le hf]
    exact ⟨rfl, rfl, SameMemories.refl s⟩
  · refine Completes.of (State.writeTracked_made _ hmade) ?_
    rw [State.fadeReqWrite_refused fun g _ => State.fadeMay_eq_false.2 (by rw [hpend, Bool.or_true]), fadeFeeds_all]
    have hcount := State.fadeReq_each_refused hinv hpend (List.range 384)
    rwa [List.length_range] at hcount
  · exact firFadeReqAll_switches hinv hmade (fun g hg => State.fadeMay_iff.2 ⟨(hmay g hg).1, (hmay g hg).2, hpend⟩) hrun
  · refine Completes.of (execFirDescriptorWrite_A hf v hmade) ?_
    rw [State.firDescWrite_taken hf hfade hsel ⟨htaps, hlo, hhi, hpool⟩, regMask_FIR_A hf]
    exact State.setReg_logWrite hinv.1 _ _ _
  · refine Completes.of (execFirDescriptorWrite_A hf v hmade) ?_
    rw [State.firDescWrite_dropped hf hfade hbad]
    exact State.count_firEvt hinv.1 (by decide) (by decide) (by decide) _ _ _
  · have hreg := State.reg_setReg_self hinv.1 (Reg.FIR_GD f.toNat) (s.gdWord (bankOf s.reg f.toNat (s.firSel f.toNat)))
    refine Completes.of (execFirGdDone_next hreach hf hvalid) ⟨?_, fun hlen => ?_, fun hlen hzero => ?_,
      (OnlyRegs.refl _ s).setReg (List.mem_singleton_self _)⟩
    · rw [State.bitR, hreg]
      exact s.gdWord_valid (bankOf_len_lt _ _ _)
    · rw [hreg, State.gdWord_empty hlen]
    · rw [hreg, State.gdWord_zero hlen hzero]

end Sys2Proof.Machine
end

section
/-!
# Commits and switches of the Trail (R173, R178, R262, R263)
-/
namespace Sys2Proof.Machine

variable {s : State}

/-! ## Who may commit (R262, R263) -/

theorem State.admits_gauntlet (hgood : s.pwr.good = true) : s.admits .gauntlet = true := by simp [State.admits, hgood]

/-- R262: the sequencer's write acts. -/
theorem State.gwWrite_gauntlet (hgood : s.pwr.good = true) (a : Nat) (f : State → State) : s.gwWrite .gauntlet a f = f s := by
  simp [State.gwWrite, State.admits_gauntlet hgood]

/-- R263: another initiator's write is denied. -/
theorem State.gwWrite_other {ini : Initiator} (hini : ini ≠ .gauntlet) (hadm : s.admits ini = true) (a : Nat) (f : State → State) :
    s.gwWrite ini a f = s.deny ini a := by simp [State.gwWrite, hadm, hini]

/-- R263: a denial counts and latches its address; its record moves the recorder alone. -/
theorem State.deny_denied (h : s.regsWf = true) (ini : Initiator) (a : Nat) : Denied a s (s.deny ini a) := by
  have hnote : ∀ u : State, OnlyRegsRec [] u (u.note 1 0x42 (leBytes 4 a ++ [b8 (iniCode ini)])) := fun u =>
    (OnlyRegsRec.refl [] u).note
  have hcount : (s.count Reg.GNT_DENY_COUNT 1).regsWf = true := State.regsWf_setReg h _ _
  refine ⟨?_, ?_, (((OnlyRegsRec.refl _ s).count (Or.inl (by simp))).setReg (Or.inl (by simp))).note⟩
  · calc (s.deny ini a).reg Reg.GNT_DENY_COUNT
        = ((s.count Reg.GNT_DENY_COUNT 1).setReg Reg.GNT_DENY_ADDR (w32 a)).reg Reg.GNT_DENY_COUNT :=
          (hnote _).2 _ List.not_mem_nil (by decide)
      _ = (s.count Reg.GNT_DENY_COUNT 1).reg Reg.GNT_DENY_COUNT := State.reg_setReg_ne _ _ (by decide)
      _ = w32 (satU 32 ((s.reg Reg.GNT_DENY_COUNT).toNat + 1)) := State.reg_count_self h _ 1
  · exact ((hnote _).2 _ List.not_mem_nil (by decide)).trans (State.reg_setReg_self hcount _ _)

theorem denied_of_gwWrite (h : s.regsWf = true) {ini : Initiator} (hini : ini ≠ .gauntlet) (hadm : s.admits ini = true)
    {c : Instr} {a : Nat} {f : State → State} (hexec : exec c s = .next (s.gwWrite ini a f)) : Completes c s (Denied a s) := by
  rw [State.gwWrite_other hini hadm] at hexec
  exact Completes.of hexec (State.deny_denied h ini a)

/-! ## Commits stage their words (R173) -/

/-- R173: the four words of a zone bus wait; the setting in force stays. -/
theorem State.zbCommit_stages (h : s.regsWf = true) (z : Nat) (v : Word) :
    (s.zbCommit z v).reg (Reg.GNT_ZB_ACT z) = v &&& 0xFF ∧ (s.zbCommit z v).trail.zb = s.trail.zb ∧
      (z, ⟨v &&& 0xFF, s.reg (Reg.GNT_ZB_SRCLO z), s.reg (Reg.GNT_ZB_SRCHI z), s.reg (Reg.GNT_ZB_LEVEL z)⟩) ∈
        (s.zbCommit z v).trail.zbPend ∧
      RegsBut [Reg.GNT_ZB_ACT z] s (s.zbCommit z v) ∧ SameMemories s (s.zbCommit z v) := by
  have hbut := ((OnlyRegs.refl _ s).setReg (v := v &&& 0xFF) (List.mem_singleton_self (Reg.GNT_ZB_ACT z))).2
  have hlo := hbut (Reg.GNT_ZB_SRCLO z) (by simp [Reg.GNT_ZB_SRCLO, Reg.GNT_ZB_ACT])
  have hhi := hbut (Reg.GNT_ZB_SRCHI z) (by simp [Reg.GNT_ZB_SRCHI, Reg.GNT_ZB_ACT])
  have hlevel := hbut (Reg.GNT_ZB_LEVEL z) (by simp [Reg.GNT_ZB_LEVEL, Reg.GNT_ZB_ACT])
  refine ⟨State.reg_setReg_self h _ _, rfl, ?_, hbut, SameMemories.refl s⟩
  rw [← hlo, ← hhi, ← hlevel]
  exact List.mem_append_right _ (List.mem_singleton_self _)

/-- R173, R178: the membership of a feed waits; membership and override in force stay. -/
theorem State.tfCommit_stages (h : s.regsWf = true) (f : Nat) (v : Word) :
    (s.tfCommit f v).reg (Reg.GNT_TF_CTL f) = v &&& 0xFFFFFF3F ∧ (s.tfCommit f v).trail.tf = s.trail.tf ∧
      (s.tfCommit f v).trail.ovr = s.trail.ovr ∧
      (f, ⟨s.reg (Reg.GNT_TF_ZONES f), fld v 0 4⟩) ∈ (s.tfCommit f v).trail.tfPend ∧
      RegsBut [Reg.GNT_TF_CTL f] s (s.tfCommit f v) ∧ SameMemories s (s.tfCommit f v) := by
  have hbut := ((OnlyRegs.refl _ s).setReg (v := v &&& 0xFFFFFF3F) (List.mem_singleton_self (Reg.GNT_TF_CTL f))).2
  have hzones := hbut (Reg.GNT_TF_ZONES f) (by simp [Reg.GNT_TF_ZONES, Reg.GNT_TF_CTL])
  refine ⟨State.reg_setReg_self h _ _, rfl, rfl, ?_, hbut, SameMemories.refl s⟩
  rw [← hzones]
  exact List.mem_append_right _ (List.mem_singleton_self _)

/-! ## The zero crossing (R173) -/

theorem State.crossed_iff {y0 y1 : Int} {from_ : Option Nat} : s.crossed y0 y1 from_ = true ↔
    y0 = 0 ∨ y0 * y1 < 0 ∨ s.fldR Reg.GNT_ZXTO 0 8 ≤ s.sai.gk - from_.getD s.sai.gk := by
  simp [State.crossed, or_assoc]

/-- The condition of R173 for the staged membership of feed `k`. -/
def State.tfDue (s : State) (k : Nat) : Bool :=
  s.crossed (trailOut ((s.tf k).sel s.zb) (s.gsrcAt 0)) (trailOut ((s.tf k).sel fun z => s.zbAt z s.gPrev) (s.gsrcAt 1))
    (pendOf s.trail.tfFrom k)

/-- The condition of R173 for the staged words of bus `k`. -/
def State.zbDue (s : State) (k : Nat) : Bool :=
  s.crossed (trailOut (s.zb k).out (s.gsrcAt 0)) (trailOut (s.zb k).out (s.gsrcAt 1)) (pendOf s.trail.zbFrom k)

theorem pendOf_of_find {α : Type} {l : List (Nat × α)} {k : Nat} {p : Nat × α}
    (h : l.find? (fun p => decide (p.1 = k)) = some p) : pendOf l k = some p.2 := by rw [pendOf, h, Option.map_some]

theorem pendOf_eq_none {α : Type} {l : List (Nat × α)} {k : Nat} (h : ∀ p ∈ l, p.1 ≠ k) : pendOf l k = none := by
  rw [pendOf, List.find?_eq_none.2 fun p hp => by simpa using h p hp, Option.map_none]

theorem ne_of_mem_filter_ne {α : Type} {l : List (Nat × α)} {k : Nat} {x : Nat × α}
    (h : x ∈ l.filter fun x => decide (x.1 ≠ k)) : x.1 ≠ k := of_decide_eq_true (List.mem_filter.1 h).2

/-! ## Switches (R173) -/

/-- R173: a staged membership that is due comes into force. -/
theorem State.tfSwitch_switches {k : Nat} {z : FeedZones} (hp : pendOf s.trail.tfPend k = some z) (hdue : s.tfDue k = true)
    (hwf : Store.wf (fun _ => ({} : FeedZones)) s.trail.tf = true) :
    (s.tfSwitch k).tf k = z ∧ (∀ x ∈ (s.tfSwitch k).trail.tfPend, x.1 ≠ k) ∧
      (∀ j, j ≠ k → (s.tfSwitch k).tf j = s.tf j) ∧ s.tfSwitch k = { s with trail := (s.tfSwitch k).trail } ∧
      (s.tfSwitch k).trail.zb = s.trail.zb ∧ (s.tfSwitch k).trail.ovr = s.trail.ovr := by
  have hswitch : ∃ hist, s.tfSwitch k = { s with trail := { s.trail with
      tf := Store.set (fun _ => ({} : FeedZones)) s.trail.tf k z, tfPend := s.trail.tfPend.filter fun x => decide (x.1 ≠ k)
      tfFrom := s.trail.tfFrom.filter fun x => decide (x.1 ≠ k), hist } } := by
    rw [State.tfSwitch, hp]
    exact ⟨_, if_pos hdue⟩
  obtain ⟨hist, hswitch⟩ := hswitch
  rw [hswitch]
  exact ⟨Store.get_set_same _ _ _ _ hwf, fun x hx => ne_of_mem_filter_ne hx, fun j hj => Store.get_set_other _ _ _ _ hj _,
    rfl, rfl, rfl⟩

/-- R173: the staged words of a bus that are due come into force. -/
theorem State.zbSwitch_switches {k : Nat} {w : BusWords} (hp : pendOf s.trail.zbPend k = some w) (hdue : s.zbDue k = true)
    (hwf : Store.wf (fun _ => ({} : BusWords)) s.trail.zb = true) :
    (s.zbSwitch k).zb k = w ∧ (∀ x ∈ (s.zbSwitch k).trail.zbPend, x.1 ≠ k) ∧
      (∀ j, j ≠ k → (s.zbSwitch k).zb j = s.zb j) ∧ s.zbSwitch k = { s with trail := (s.zbSwitch k).trail } ∧
      (s.zbSwitch k).trail.tf = s.trail.tf ∧ (s.zbSwitch k).trail.ovr = s.trail.ovr := by
  have hswitch : ∃ hist, s.zbSwitch k = { s with trail := { s.trail with
      zb := Store.set (fun _ => ({} : BusWords)) s.trail.zb k w, zbPend := s.trail.zbPend.filter fun x => decide (x.1 ≠ k)
      zbFrom := s.trail.zbFrom.filter fun x => decide (x.1 ≠ k), hist } } := by
    rw [State.zbSwitch, hp]
    exact ⟨_, if_pos hdue⟩
  obtain ⟨hist, hswitch⟩ := hswitch
  rw [hswitch]
  exact ⟨Store.get_set_same _ _ _ _ hwf, fun x hx => ne_of_mem_filter_ne hx, fun j hj => Store.get_set_other _ _ _ _ hj _,
    rfl, rfl, rfl⟩

/-- R173: a membership that is not due, or not staged, does not switch. -/
theorem State.tfSwitch_stays {k : Nat} (h : s.tfDue k = false ∨ pendOf s.trail.tfPend k = none) : s.tfSwitch k = s := by
  unfold State.tfSwitch
  split
  · rfl
  next z hp =>
    rw [hp, or_iff_left (Option.some_ne_none z), State.tfDue] at h
    simp [h]

/-- R173: the words of a bus that are not due, or not staged, do not switch. -/
theorem State.zbSwitch_stays {k : Nat} (h : s.zbDue k = false ∨ pendOf s.trail.zbPend k = none) : s.zbSwitch k = s := by
  unfold State.zbSwitch
  split
  · rfl
  next w hp =>
    rw [hp, or_iff_left (Option.some_ne_none w), State.zbDue] at h
    simp [h]

/-! ## The duck gains move on where no train runs (R177) -/

/-- The state with other settings of the override stage. -/
def State.withOvr (s : State) (o : List (Nat × OvrSt)) : State := { s with trail := { s.trail with ovr := o } }

theorem State.ducksIdle_withOvr (s : State) (t : Nat) : ∃ o, s.ducksIdle t = s.withOvr o :=
  State.each_induct (P := fun u => ∃ o, u = s.withOvr o) (by rintro _ f ⟨o, rfl⟩; exact ⟨_, rfl⟩) _ ⟨s.trail.ovr, rfl⟩

/-- After a switch the override stage alone moves, and stands while a train runs. -/
theorem execTrailSwitch_next (isFeed : Bool) (i : BitVec 9) (s : State) :
    ∃ o, exec (.trailSwitch isFeed i) s =
        .next ((if isFeed then s.tfSwitch i.toNat else s.zbSwitch i.toNat).withOvr o) ∧
      (s.running = true → o = (if isFeed then s.tfSwitch i.toNat else s.zbSwitch i.toNat).trail.ovr) := by
  generalize hu : (if isFeed then s.tfSwitch i.toNat else s.zbSwitch i.toNat) = u
  have hexec : exec (.trailSwitch isFeed i) s = .next (u.when (!s.running) fun t => t.ducksIdle t.gNow) := hu ▸ rfl
  cases hrun : s.running with
  | true => exact ⟨_, by rw [hexec, hrun]; rfl, fun _ => rfl⟩
  | false =>
    obtain ⟨o, ho⟩ := u.ducksIdle_withOvr u.gNow
    exact ⟨o, by rw [hexec, hrun, ← ho]; rfl, nofun⟩

/-- A switch that does not happen changes no more than the duck gains. -/
theorem execTrailSwitch_stays {isFeed : Bool} {i : BitVec 9}
    (h : (if isFeed then s.tfSwitch i.toNat else s.zbSwitch i.toNat) = s) :
    Completes (.trailSwitch isFeed i) s fun t =>
      t = { s with trail := { s.trail with ovr := t.trail.ovr } } ∧ (s.running = true → t = s) := by
  obtain ⟨o, hexec, ho⟩ := execTrailSwitch_next isFeed i s
  rw [h] at hexec ho
  exact Completes.of hexec ⟨rfl, fun hrun => by rw [ho hrun]; rfl⟩

/-- R173: the switch of a feed. -/
theorem trailSwitch_feed_switches {i : BitVec 9} {p : Nat × FeedZones} (hdue : s.tfDue i.toNat = true)
    (hwf : Store.wf (fun _ => ({} : FeedZones)) s.trail.tf = true)
    (hp : s.trail.tfPend.find? (fun p => decide (p.1 = i.toNat)) = some p) :
    Completes (.trailSwitch true i) s fun t =>
      t.tf i.toNat = p.2 ∧ (∀ x ∈ t.trail.tfPend, x.1 ≠ i.toNat) ∧ (∀ j, j ≠ i.toNat → t.tf j = s.tf j) ∧
        t = { s with trail := t.trail } ∧ t.trail.zb = s.trail.zb ∧ (s.running = true → t.trail.ovr = s.trail.ovr) := by
  obtain ⟨o, hexec, ho⟩ := execTrailSwitch_next true i s
  obtain ⟨hself, hpend, hother, hframe, hzb, hovr⟩ := State.tfSwitch_switches (pendOf_of_find hp) hdue hwf
  exact Completes.of hexec ⟨hself, hpend, hother,
    congrArg (fun u : State => { u with trail := { (s.tfSwitch i.toNat).trail with ovr := o } }) hframe, hzb,
    fun hrun => (ho hrun).trans hovr⟩

/-- R173: the switch of a zone bus. -/
theorem trailSwitch_bus_switches {i : BitVec 9} {p : Nat × BusWords} (hdue : s.zbDue i.toNat = true)
    (hwf : Store.wf (fun _ => ({} : BusWords)) s.trail.zb = true)
    (hp : s.trail.zbPend.find? (fun p => decide (p.1 = i.toNat)) = some p) :
    Completes (.trailSwitch false i) s fun t =>
      t.zb i.toNat = p.2 ∧ (∀ x ∈ t.trail.zbPend, x.1 ≠ i.toNat) ∧ (∀ j, j ≠ i.toNat → t.zb j = s.zb j) ∧
        t = { s with trail := t.trail } ∧ t.trail.tf = s.trail.tf ∧ (s.running = true → t.trail.ovr = s.trail.ovr) := by
  obtain ⟨o, hexec, ho⟩ := execTrailSwitch_next false i s
  obtain ⟨hself, hpend, hother, hframe, htf, hovr⟩ := State.zbSwitch_switches (pendOf_of_find hp) hdue hwf
  exact Completes.of hexec ⟨hself, hpend, hother,
    congrArg (fun u : State => { u with trail := { (s.zbSwitch i.toNat).trail with ovr := o } }) hframe, htf,
    fun hrun => (ho hrun).trans hovr⟩

/-! ## A committed OVR change (R178) -/

theorem execOvrApply_staged {f : BitVec 9} {p : Nat × Nat × Int × Nat}
    (hp : s.trail.ovrPend.find? (fun p => decide (p.1 = f.toNat)) = some p) :
    exec (.ovrApply f) s = .next { s with trail := { s.trail with
      ovr := (s.setOvr f.toNat ((s.ovrSt f.toNat).apply p.2.1 p.2.2.1)).trail.ovr, ovrPend := s.trail.ovrPend.erase p } } := by
  have hexec : exec (.ovrApply f) s = execOvrApply f s := rfl
  rw [hexec, execOvrApply, hp]
  rfl

theorem execOvrApply_none {f : BitVec 9} (hp : s.trail.ovrPend.find? (fun p => decide (p.1 = f.toNat)) = none) :
    exec (.ovrApply f) s = .next s := by
  have hexec : exec (.ovrApply f) s = execOvrApply f s := rfl
  rw [hexec, execOvrApply, hp]

/-- Settles O32: a commit writes its control word and stages the rest; a switch acts where `State.tfDue` or `State.zbDue`
holds of a staged entry, and the override stage alone moves besides. -/
theorem trailChanges : Obligations.TrailChanges := by
  unfold Obligations.TrailChanges
  refine ⟨fun v s hinv hgood => ⟨fun z => ?_, fun f hf => ?_, fun ini z f hini hadm => ?_⟩, fun s hinv => ?_⟩
  · exact Completes.of (congrArg Host.Outcome.next (State.gwWrite_gauntlet hgood _ _)) (State.zbCommit_stages hinv.1 z.toNat v)
  · exact Completes.of (congrArg Host.Outcome.next ((State.gwWrite_gauntlet hgood _ _).trans (if_pos hf)))
      (State.tfCommit_stages hinv.1 f.toNat v)
  · have hdenied : ∀ {c : Instr} {a : Nat} {g : State → State}, exec c s = .next (s.gwWrite ini a g) → Completes c s (Denied a s) :=
      denied_of_gwWrite hinv.1 hini hadm
    simp only [List.forall_mem_cons]
    exact ⟨hdenied rfl, hdenied rfl, hdenied rfl, nofun⟩
  · intro due feed bus
    have hfeed (i : Nat) : s.tfDue i = true ↔ feed i := State.crossed_iff
    have hbus (i : Nat) : s.zbDue i = true ↔ bus i := State.crossed_iff
    refine ⟨fun i p hdue hwf hp => trailSwitch_feed_switches ((hfeed _).2 hdue) hwf hp,
      fun i p hdue hwf hp => trailSwitch_bus_switches ((hbus _).2 hdue) hwf hp,
      fun i => ⟨fun h => ?_, fun h => ?_⟩, fun f p hwf hp => ?_, fun f hp => Completes.of (execOvrApply_none hp) rfl⟩
    · rw [← hfeed, Bool.not_eq_true] at h
      exact execTrailSwitch_stays (State.tfSwitch_stays (h.imp_right pendOf_eq_none))
    · rw [← hbus, Bool.not_eq_true] at h
      exact execTrailSwitch_stays (State.zbSwitch_stays (h.imp_right pendOf_eq_none))
    · exact Completes.of (execOvrApply_staged hp) ⟨s.setOvr_same _ _ hwf, rfl, fun j hj => s.setOvr_other _ j _ hj, rfl⟩

end Sys2Proof.Machine
end
